-- ==== Sys2Proof/Word.lean ====
section
/-! DEFINITION. The word types of the device: bytes, 32-bit register words (R63) and 64-bit register pairs (R64),
and the fixed-size index types of its units. -/

namespace Sys2Proof

/-- A byte of any memory of the device. -/
abbrev Byte := BitVec 8
/-- A register word: every register is 32 bits wide (R63). -/
abbrev Word := BitVec 32
/-- A 64-bit quantity: DTIME, AON_TIME and every `_LO`/`_HI` pair (R64). -/
abbrev DWord := BitVec 64
/-- A byte address of the 48-bit device address space (R9, R10); addresses are kept as numbers. -/
abbrev Addr := Nat

end Sys2Proof
end

