-- ==== Sys2Proof/Syntax.lean ====
section
/-! DEFINITION. The commands of the device: every row of the operation table is one constructor. A command is a write or
a read that an interface makes, an event on a pin or a link, the end of an internal operation, or a timer that expires.
Operands are what the outside world chooses; everything else comes from the state. -/

namespace Sys2Proof

/-- The interfaces of R64 through which registers are reached. -/
inductive Iface where
  | pcie | eth0 | eth1 | mgmt | jtag
  /-- Lantern n, by physical number. -/
  | lantern (n : Fin 18)
  /-- Keeper K0 or K1. -/
  | keeper (k : Fin 2)
deriving DecidableEq, Repr

/-- A hardware update of a register that falls in the cycle of a software access (R68). -/
inductive Coincident where
  /-- No update in that cycle. -/
  | none
  /-- Hardware writes this value into the RWH fields. -/
  | value (v : DWord)
  /-- Hardware sets these W1C bits, or an RC field takes this set. -/
  | sets (m : DWord)
  /-- Hardware clears these W1S bits. -/
  | clears (m : DWord)
  /-- Hardware counts this many. -/
  | counts (n : DWord)
  /-- A parity check finds an uncorrectable error: 0 to 4 in the structures of D0 that R492 lists, in their order, 5 to 10 in the
  internal state of D1 to D6 (R491). -/
  | parity (u : Fin 11)
deriving DecidableEq, Repr

/-- The shadowed groups of R69 to R71. -/
inductive ShadowGroup where
  /-- One context page of CTX. -/
  | ctx (c : Fin 16)
  /-- One video port. -/
  | vport (p : Fin 8)
  /-- The statistics set-up of one context. -/
  | meas (c : Fin 16)
deriving DecidableEq, Repr

/-- What the accepted samples of a quadrature pair show (R82). -/
inductive QuadChange where
  | aLeadsB | bLeadsA
  /-- A and B both changed in one accepted sample. -/
  | both
deriving DecidableEq, Repr

/-- How DRAM training ends (R407, R408): the packages answer, or a channel fails for a cause. -/
inductive TrainResult where
  | ok
  | failed (ch : Fin 24) (cause : Fin 7)
deriving DecidableEq, Repr

/-- What a boot meets outside the device: how training ends, and the flash slots whose read fails, as a mask (R59, R407). -/
structure BootEnv where
  train : TrainResult
  flashBad : Fin 4 := 0
deriving DecidableEq, Repr

/-- A refresh rate that a package demands in MR4 (R410). -/
inductive RefreshRate where
  | x1 | x2 | x4
deriving DecidableEq, Repr

/-- A buffer in the device address space. -/
structure Buffer where
  addr : Nat
  len : Nat
deriving DecidableEq, Repr


/-- What the protection of a memory finds at an access (R288 to R290, R416, R417). -/
inductive MemErr where
  | none | corrected | uncorrectable
deriving DecidableEq, Repr

/-- A video port, and whether a line of it is being received (R104, R105). -/
structure PortCut where
  port : Fin 8
  mid : Bool := false
deriving DecidableEq, Repr

/-- A core that accepts an interrupt, and what the protection of instruction memory finds on the read of the vector word
(R316). -/
structure VectorRead where
  core : Fin 18
  ierr : MemErr := .none
deriving DecidableEq, Repr

/-- An outside access at a core's memory: whether it displaces a core access after 16 cycles, and what the protection of the
memory finds (R316, R319). -/
structure SlotAccess where
  displaced : Bool
  err : MemErr := .none
deriving DecidableEq, Repr

/-- The end of a transfer's writes: what the protection of the source finds, and the write bursts that had gone out when the
generation advanced, where it did (R381). -/
structure LastWrite where
  err : MemErr
  early : BitVec 32 := 0
deriving DecidableEq, Repr

/-- The data of a DRAM write, and what the reads for modification find in its first and last word, where it covers them in
part (R417). -/
structure DramData where
  bytes : List Byte
  head : MemErr := .none
  tail : MemErr := .none
deriving DecidableEq, Repr

/-- A buffered write that reaches the DRAM: whether the DRAM corrected a link error of it, and the cycles in which a request
waited (R413, R416). -/
structure BufferDone where
  corrected : Bool
  waited : BitVec 32
deriving DecidableEq, Repr

/-- One cycle of a video port's pins with LVAL active: the data lines and the levels of DVAL and FVAL (R101). -/
structure PixSample where
  data : BitVec 40
  dval : Bool
  fval : Bool
deriving DecidableEq, Repr


/-- An event message of a delay mechanism, as it arrives (R443): the requester's port identity, the sequence, timestamps and
the correction in ns. -/
inductive DelayMsg where
  | delayReq (port : BitVec 80) (seq : BitVec 16) (corr : BitVec 64)
  | delayResp (seq : BitVec 16) (t4 corr : BitVec 64)
  | pdelayReq (port : BitVec 80) (seq : BitVec 16) (corr : BitVec 64)
  | pdelayResp (seq : BitVec 16) (t2 t3 corr : BitVec 64)
deriving DecidableEq, Repr

/-- A CTP message as it arrives on an interface (R448, R449): the sender's address, UDP port and MAC, and the fields of the
header that the command does not fix. -/
structure CtpIn where
  ifc : Fin 9
  addr : BitVec 128
  port : BitVec 16
  mac : BitVec 48
  flags : BitVec 16 := 0
  /-- The MEMBER byte: member index and GROUPED. -/
  member : BitVec 8 := 0
  epoch : BitVec 8 := 0
  slot : BitVec 8 := 0
  gen : BitVec 8 := 0
  seq : BitVec 32 := 0
  jobId : BitVec 32 := 0
  serial : BitVec 64 := 0
  channel : BitVec 16 := 0
  payload : List Byte := []
  block : List Byte := []
deriving DecidableEq, Repr


/-- A configuration request of the host (R422, R424, R431, R436), by what it reaches; the spec gives the fields but not their
places in the configuration space. -/
inductive CfgReq where
  /-- Device and vendor ID, subsystem ID and subsystem vendor ID, class code, serial number capability. -/
  | readIds | readSubsystem | readClass | readSerial
  | readBar (bar2 : Bool) | writeBar (bar2 : Bool) (v : BitVec 64)
  /-- Memory space enable and bus master enable. -/
  | readCommand | writeCommand (memEn busMaster : Bool)
  /-- Maximum payload size 128 × 2^mps and maximum read request size 128 × 2^mrrs. -/
  | readControl | writeControl (mps : Fin 3) (mrrs : Fin 6)
  /-- MSI-X enable and function mask. -/
  | readMsix | writeMsix (enable fmask : Bool)
  /-- The power state: D3hot or D0. -/
  | readPower | writePower (d3hot : Bool)
  /-- Any other word. -/
  | readOther | writeOther
deriving DecidableEq, Repr

/-- The commands of the device: one constructor for every row of the operation table. -/
inductive Instr where
  /-- POWER_ON_RESET (R49): A rising PORST_N, or VDD_AON falling below 0.65 V, samples BOOTSRC, starts AON and runs
      the boot sequence from the chosen source. -/
  | powerOnReset (src : Fin 4) (env : BootEnv)
  /-- READY_SET (R52): The Lantern boot code sets DEV_STATE.READY, which starts beacons and the group state. -/
  | readySet (ifc : Iface)
  /-- PCIE_BOOT_GO (R51): A write of GO verifies the image staged in weight memory and loads it, or raises E38 and
      waits for a further GO. -/
  | pcieBootGo (ifc : Iface) (env : BootEnv)
  /-- QUIESCE_REQUEST (R53): Setting QUIESCE_CTRL.REQ moves the device from RUNNING to PENDING. -/
  | quiesceRequest (ifc : Iface)
  /-- QUIESCE_RELEASE (R58): Clearing REQ withdraws a pending request or releases quiesce; while APPLYING it takes
      effect when the apply completes. -/
  | quiesceRelease (ifc : Iface)
  /-- QUIESCED_REACHED (R53): The device enters QUIESCED at the first instant at which no window and no job is open. -/
  | quiescedReached
  /-- QUIESCE_TIMEOUT (R54): Two seconds after REQ without QUIESCED, the device closes every window and abandons
      every job not in SENT. -/
  | quiesceTimeout (cu : Fin 4)
  /-- QUIESCED_FORCED_REACHED (R54): When the last job has committed after a forced quiesce, the state becomes
      QUIESCED_FORCED and E37 is raised. -/
  | quiescedForcedReached
  /-- APPLY (R55): A write of APPLY verifies the staged image and applies the changed sections, or refuses the image
      with a reason. -/
  | apply (ifc : Iface)
  /-- APPLY_COMPLETE (R56): The run-time application of the changed sections ends; APPLY_DONE is set and IMG_SEQ and
      IMG_DIGEST are updated. -/
  | applyComplete
  /-- REGISTER_WRITE (R68): A write to a register that has no row of its own, resolved by access type against any
      coincident hardware update. -/
  | registerWrite (ifc : Iface) (off : BitVec 28) (v : Word) (co : Coincident)
  /-- READ_CLEAR (R68): A read of an RC register returns its value and clears it, then takes any coincident update. -/
  | readClear (ifc : Iface) (off : BitVec 28) (co : Coincident)
  /-- PAIR_LO_READ (R64): A read of a 64-bit register's LO half returns bits [31:0] and copies [63:32] into the
      interface's latch. -/
  | pairLoRead (ifc : Iface) (off : BitVec 28)
  /-- PAIR_LO_WRITE (R64): A write of a 64-bit register's LO half stores the value in the interface's latch and
      makes no journal entry. -/
  | pairLoWrite (ifc : Iface) (off : BitVec 28) (v : Word)
  /-- PAIR_HI_WRITE (R64): A write of a 64-bit register's HI half writes the latch and the value to both halves in
      one cycle, with two journal entries. -/
  | pairHiWrite (ifc : Iface) (off : BitVec 28) (v : Word)
  /-- SHADOW_COMMIT (R71): SHADOW_CTRL.COMMIT arms the shadow set for the group's next boundary, or applies it
      within 1 µs if the owner is stopped. -/
  | shadowCommit (ifc : Iface) (g : ShadowGroup)
  /-- SHADOW_CANCEL (R71): SHADOW_CTRL.CANCEL withdraws a pending COMMIT unless the boundary falls in the same
      cycle. -/
  | shadowCancel (ifc : Iface) (g : ShadowGroup) (boundary : Bool)
  /-- DEBUG_PEEK (R73): A JTAG write of DBG_PEEK_ADDR starts a side-effect-free read of a register. -/
  | debugPeek (ifc : Iface) (off : BitVec 28)
  /-- PEEK_COMPLETE (R73): The peek places the value in DBG_PEEK_DATA within 2 µs, or sets ERR. -/
  | peekComplete
  /-- ENCODER_STATE_CHANGE (R82): An accepted quadrature change moves POS and advances windows, segments and trigger
      accumulators, or counts a quadrature error with E18. -/
  | encoderStateChange (n : Fin 4) (ch : QuadChange)
  /-- ENC_POS_WRITE (R89): A write to ENCn_POS loads the position and shifts each generator's highest-position mark,
      so no trigger issues. -/
  | encPosWrite (ifc : Iface) (n : Fin 4) (v : Word) (co : Coincident)
  /-- CURTAIN_EDGE_ACCEPTED (R83): A filtered curtain level change takes effect FILTER + 25 to 26 AON cycles after
      it reached the ball, and is handled by the curtain's ROLE. -/
  | curtainEdgeAccepted (n : Fin 8) (level : Bool)
  /-- CURTAIN_CFG_WRITE (R83): Setting EN or changing BLOCKED_HIGH takes the pin's filtered level without an edge,
      opening no window and writing no record. -/
  | curtainCfgWrite (ifc : Iface) (n : Fin 8) (v : Word)
  /-- GAP_TIMEOUT_EXPIRY (R84): GAP_TIMEOUT elapsing after the clearing edge, with the curtain still clear, closes
      the window. -/
  | gapTimeoutExpiry (w : Fin 4)
  /-- LINE_TRIGGER (R89): The phase accumulator reaches DIV, possibly placed by INTERP, and a trigger pulse issues,
      subject to MINPER. -/
  | lineTrigger (t : Fin 8)
  /-- TRIGGER_HOLD_RELEASE (R91): MINPER passes after the previous trigger and the held trigger issues; a further
      trigger falling due meanwhile is dropped and raises E19. -/
  | triggerHoldRelease (t : Fin 8)
  /-- WAKE_REQUEST (R92): A wake request from any source aborts a NAP entry or starts the staggered ungating of D3,
      D4, D2 and D1, taking the DEEP exit first if needed. -/
  | wakeRequest
  /-- FAST_DOMAINS_RUN (R16): D1 to D4 reach RUN after the retention check; held first triggers issue and their
      frames are marked front-truncated with E17. -/
  | fastDomainsRun (failed : BitVec 4)
  /-- WAKE_HOLD (R20): Setting WAKE_CTRL.HOLD requests wake and bars NAP; clearing it restarts the idle hold. -/
  | wakeHold (ifc : Iface) (hold : Bool)
  /-- WAKE_NOW (R92): WAKE_CTRL.WAKE_NOW requests a wake and clears when RUN is reached. -/
  | wakeNow (ifc : Iface)
  /-- IDLE_HOLD_EXPIRY (R20): The idle hold elapses with every NAP condition true, and NAP entry begins. -/
  | idleHoldExpiry
  /-- NAP_ENTRY_COMPLETE (R511): The clocks of D1, D2, D4 and D3 have stopped in turn and the fast domains are in
      NAP. -/
  | napEntryComplete
  /-- DEEP_HOLD_EXPIRY (R512): DEEP_HOLD seconds pass with no window, segment or job open, and DEEP entry begins. -/
  | deepHoldExpiry
  /-- DEEP_REQUEST (R512): A write of DEEP_REQ starts DEEP entry, or waits until no window, segment or job is open. -/
  | deepRequest (ifc : Iface)
  /-- DEEP_ENTRY_COMPLETE (R512): NAP, DRAM self-refresh, the PLL stop and opening of the switches of D1 to D4 are
      done, and the device is in DEEP. -/
  | deepEntryComplete
  /-- DEEP_EXIT (R513): DEEP_EXIT, or a wake request in DEEP, relocks the PLLs, closes the switches, retrains DRAM
      and restores D1 to D4. -/
  | deepExit (ifc : Iface)
  /-- DEEP_EXIT_COMPLETE (R513): The restore of D1 to D4 after DEEP ends and the fast domains reach RUN. -/
  | deepExitComplete
  /-- DEEP_DRAM_IDLE_TIMER (R513): In DEEP, 10 ms without a DRAM request returns DRAM to self-refresh and stops the
      DDR PLL again. -/
  | deepDramIdleTimer
  /-- SLOT_REUSE_DELAY_EXPIRY (R21): Twenty milliseconds after a commit frees a job slot, the slot becomes available
      again. -/
  | slotReuseDelayExpiry (slot : Fin 16)
  /-- JOB_COMMIT (R24): Once every producer of the generation has completed, the commit check reads poison, builds
      the decision and sends it. -/
  | jobCommit (slot : Fin 16) (results views : List Buffer) (read incomplete : Bool) (app : List Byte) (cu : Fin 4) (estimate : Nat)
  /-- FAULT_REACHES_JOB (R26): A job-fatal event, poison at commit or a fence of a domain with the job's work in
      flight reaches the job. -/
  | faultReachesJob (slot : Fin 16) (cu : Fin 4) (estimate : Nat)
  /-- ABANDON_POINT_EXPIRY (R28): A job still uncommitted 398 ms after its trailing edge is abandoned. -/
  | abandonPointExpiry (slot : Fin 16) (cu : Fin 4)
  /-- FLASH_READ (R95): OP READ with GO reads LEN bytes from FLASH_ADDR into the 4 KiB buffer. -/
  | flashRead (ifc : Iface) (len : BitVec 13)
  /-- FLASH_PROGRAM (R95): OP PROGRAM with GO programs LEN bytes of the buffer at FLASH_ADDR, and is refused within
      the Persistent Record range. -/
  | flashProgram (ifc : Iface) (len : BitVec 13)
  /-- FLASH_ERASE_4K (R95): OP ERASE_4K with GO erases the 4 KiB block that holds FLASH_ADDR. -/
  | flashErase4k (ifc : Iface)
  /-- FLASH_ERASE_64K (R95): OP ERASE_64K with GO erases the 64 KiB block that holds FLASH_ADDR. -/
  | flashErase64k (ifc : Iface)
  /-- FLASH_OP_COMPLETE (R95): A flash operation ends, GO clears and ERR reports a failure. -/
  | flashOpComplete (ok : Bool) (left : List (BitVec 26 × Byte))
  /-- PREC_WRITE_NOW (R99): A write of WRITE_NOW starts an immediate Persistent Record write, or queues it behind
      one in progress. -/
  | precWriteNow (ifc : Iface)
  /-- PREC_ROUTINE_TIMER (R99): INTERVAL seconds after the start of the previous routine write, a routine write
      falls due and starts, or waits for a running one. -/
  | precRoutineTimer
  /-- PREC_WRITE_COMPLETE (R98): The read-back CRC check passes and the bank comes into use, or fails with E41. -/
  | precWriteComplete (bad : List (BitVec 16 × Byte))
  /-- FRAME_START (R104): A rising FVAL, a frame pulse or CAMERA_START starts a port frame, ends DROP, applies the
      committed shadow set and stamps DTIME. -/
  | frameStart (p : PortCut)
  /-- LINE_END (R108): A line ends; it is padded or truncated to WIDTH, counted if malformed, and released to the
      pipe and raw buffer. -/
  | lineEnd (p : Fin 8) (samples : List PixSample)
  /-- FIFO_OVERFLOW (R111): A pixel meeting a full FIFO ends the line and frame, enters DROP and raises E48. -/
  | fifoOverflow (p : Fin 8) (samples : List PixSample)
  /-- FRAME_END (R106): FVAL falls or HEIGHT lines are received; short frames are marked and a frame record is
      written. -/
  | frameEnd (p : Fin 8)
  /-- LATE_WINDOW_EXPIRY (R105): LATE_WINDOW after CAMERA_STOP, the segment closes and lines are compared with
      triggers, counting extras or a deficit with E52. -/
  | lateWindowExpiry (p : PortCut)
  /-- PCLK_LOSS (R113): No PCLK edge for 8 µs during a frame closes it with PCLK_LOST, enters DROP and raises E51. -/
  | pclkLoss (p : Fin 8)
  /-- SYNC_AUX_EDGE (R118): An active SYNC_AUX edge latches DTIME and counts it, or with FRAME_PULSE starts a frame. -/
  | syncAuxEdge (p : Fin 8) (rising : Bool)
  /-- VP_ADMIT_WRITE (R115): A VP_ADMIT write is checked against the admission limits and takes effect, or is
      refused with E50. -/
  | vpAdmitWrite (ifc : Iface) (p : Fin 8) (v : Word)
  /-- RATE_CHECK_INTERVAL (R116): At the end of each 1 ms interval, the port counts RATE_OVER if it accepted more
      than RATE × 9/8. -/
  | rateCheckInterval (p : Fin 8)
  /-- PIPE_LINE_START (R124): A pipe starts the ready line of the longest-waiting live context, or a memory-to-
      memory line, and processes it through its stages. -/
  | pipeLineStart (p : Fin 2) (drained : Nat)
  /-- RETURNED_LINE (R142): A returned line from the Sector engine is accepted in order at RET_TAP, or breaks R142
      and loses the splice. -/
  | returnedLine (c : Fin 16) (intact : Bool) (drained : Nat)
  /-- SPLICE_ACCEPT_TIMEOUT (R143): One millisecond with no line of the context accepted by the Sector engine loses
      the splice with E53. -/
  | spliceAcceptTimeout (c : Fin 16)
  /-- M2M_GO (R125): A write of CTX_M2M_GO starts a memory-to-memory frame: its frame number increments and its
      shadow set takes force. -/
  | m2mGo (ifc : Iface) (c : Fin 16)
  /-- PIPE_FRAME_END (R155): The frame's last line leaves the pipe; outputs close and a 64-byte context frame record
      is written. -/
  | pipeFrameEnd (c : Fin 16) (drained : Nat)
  /-- PROFILE_RECORD_WRITE (R162): Within 4 µs of a served frame's last line passing T0, the extractor writes a
      profile record, taking and releasing semaphores if enabled. -/
  | profileRecordWrite (c : Fin 16) (drained : Nat)
  /-- STAT_RECORD_WRITE (R165): Within 20 µs of the frame's last line passing the point, the statistics record is
      written into its ring. -/
  | statRecordWrite (c : Fin 16) (drained : Nat)
  /-- CAL_SEED (R168): SEED arms a seed; the next good frame sets Z from POS, sets ZERO_VALID and clears SEED. -/
  | calSeed (ifc : Iface) (c : Fin 16)
  /-- CAL_FORGET (R173): FORGET makes every Z unknown and clears ZERO_VALID. -/
  | calForget (ifc : Iface) (c : Fin 16)
  /-- SECTOR_LIVE_UNIT (R188): A cluster starts the oldest ready live unit and runs every layer of one stripe for
      one chain-input line to its end. -/
  | sectorLiveUnit (c : Fin 4) (err : MemErr) (parity : Option (Fin 32 × BitVec 15)) (stallIn stallOut : BitVec 32)
  /-- SECTOR_MEMORY_UNIT (R188): With no live unit ready, a cluster runs one input row of one stripe of the head
      memory job. -/
  | sectorMemoryUnit (c : Fin 4) (err : MemErr) (parity : Option (Fin 32 × BitVec 15)) (stallIn stallOut : BitVec 32)
  /-- MJ_PUSH (R198): A write of SC_MJ_PUSH_HI queues a memory job descriptor, or refuses it with E66. -/
  | mjPush (ifc : Iface) (c : Fin 4) (hi : Word)
  /-- MJ_START (R198): The head job takes its count from WAIT_SEM, or waits for it, and begins running. -/
  | mjStart (c : Fin 4)
  /-- MJ_COMPLETE (R198): After the last row's writes are visible, the job releases SIGNAL_SEM. -/
  | mjComplete (c : Fin 4)
  /-- SECTOR_COMMIT (R201): COMMIT checks the inactive bank within 20 µs and begins a swap, or refuses it with E65. -/
  | sectorCommit (ifc : Iface) (c : Fin 4) (wsel : Bool) (force target : MemErr)
  /-- SWAP_PENDING_TIMEOUT (R202): A swap still pending 100 ms after it began raises E67. -/
  | swapPendingTimeout (c : Fin 4)
  /-- SECTOR_BANK_WRITE (R200): A write through the bank window lands in the selected bank, or is refused with E64
      if that bank is active or swapping. -/
  | sectorBankWrite (ifc : Iface) (c : Fin 4) (word : Fin 49152) (v : Word)
  /-- LENS_PUSH (R223): A write of LENS_PUSH_HI copies the descriptor into the queue and checks reasons 1 to 7,
      refusing with E72. -/
  | lensPush (ifc : Iface) (hi : Word)
  /-- LENS_ADMIT (R237): With room among residents, the highest-priority allowed operation is admitted, loads its
      quantisation state and is checked for reason 8. -/
  | lensAdmit
  /-- LENS_STEP_COUNTS_TAKEN (R238): When every needed semaphore holds a count, the Lens takes them atomically and
      the operation becomes READY. -/
  | lensStepCountsTaken
  /-- LENS_TILE_BOUNDARY (R239): At a tile boundary, the Lens continues, switches to a higher-priority READY
      operation, or idles. -/
  | lensTileBoundary (errs : List (BitVec 48 × MemErr)) (feed out wload : BitVec 32) (idle : List (BitVec 32))
  /-- LENS_RETIRE (R270): After its last tile's writes are visible, the operation writes statistics, raises E76 or
      E77, signals and frees its entry. -/
  | lensRetire (slot : Fin 8)
  /-- LENS_HALT (R245): Setting LENS_CTRL.HALT stops the Lens at the next tile boundary. -/
  | lensHalt (ifc : Iface)
  /-- LENS_RESUME (R245): Clearing HALT resumes tile selection under R239. -/
  | lensResume (ifc : Iface)
  /-- SPAD_READ (R280): A port read is accepted by a sub-bank in priority order and returns data, correcting,
      poisoning or flagging errors. -/
  | spadRead (port : Fin 14) (addr : BitVec 48) (len : BitVec 12) (err : MemErr)
  /-- SPAD_WRITE (R283): A port write is accepted by a sub-bank, becomes visible next cycle and sets or clears
      poison marks. -/
  | spadWrite (port : Fin 14) (addr : BitVec 48) (data : List Byte) (poison : Bool) (err : MemErr)
  /-- FC_PUSH (R294): A write of SP_FC_PUSH_HI copies a fill or copy descriptor into the queue, or refuses it with
      E86. -/
  | fcPush (ifc : Iface) (hi : Word)
  /-- FC_START (R294): The head command takes its WAIT_SEM count, or waits, and begins running. -/
  | fcStart (rows : Nat)
  /-- FC_DONE (R294): When the command's last write is accepted, it releases SIGNAL_SEM. -/
  | fcDone
  /-- SEM_COUNT_WRITE (R299): A write of a semaphore's COUNT word loads the count. -/
  | semCountWrite (n : Fin 1024) (v : Word)
  /-- SEM_RELEASE (R299): A write of RELEASE adds to the count, saturating with E84, and may notify a Lantern. -/
  | semRelease (n : Fin 1024) (v : Word)
  /-- SEM_TAKE (R299): A read of TAKE returns the count and subtracts 1 if above 0, in one indivisible action. -/
  | semTake (n : Fin 1024)
  /-- SEM_CFG_WRITE (R299): A write of the CFG word loads NOTIFY and NOTIFY_EN. -/
  | semCfgWrite (n : Fin 1024) (v : Word)
  /-- CRW_GRANT (R305): A write of CRW_GRANT adds credits to the window and sends a CREDIT message. -/
  | crwGrant (ifc : Iface) (w : Fin 64) (v : Word)
  /-- BUNDLE_ISSUE (R310): A Lantern issues one bundle whole, or raises source 0 for an illegal bundle. -/
  | bundleIssue (n : Fin 18) (ierr err0 err1 : MemErr)
  /-- LONG_OP_COMPLETE (R314): A long operation writes its result and clears the pending tag, or fails with source
      6. -/
  | longOpComplete (n : Fin 18) (mem : Bool) (err : MemErr)
  /-- INTERRUPT_ACCEPT (R324): At an interruptible boundary, the winning source drains the pipeline, builds a frame,
      changes PSW and enters its handler. -/
  | interruptAccept (v : VectorRead)
  /-- LANTERN_HALT (R334): Setting LC_CTRL.HALT stops issue at the next interruptible boundary and clears the
      reservation. -/
  | lanternHalt (ifc : Iface) (n : Fin 18)
  /-- LANTERN_RESUME (R334): Clearing HALT resumes issue at LC_PC. -/
  | lanternResume (ifc : Iface) (n : Fin 18)
  /-- LANTERN_CORE_RESET (R335): LC_CTRL.RESET stops one core without drain, clears its registers and restarts it at
      ENTRY within 2 µs, with E92. -/
  | lanternCoreReset (ifc : Iface) (n : Fin 18) (halt : Bool)
  /-- LC_RAISE (R320): A write of LC_RAISE asserts the named interrupt sources of the core. -/
  | lcRaise (ifc : Iface) (n : Fin 18) (hi : Bool) (v : Word)
  /-- EXTERNAL_LOCAL_ACCESS (R319): An external access to local data memory takes a free M slot, or after 16 cycles
      displaces a core access. -/
  | externalLocalAccess (n : Fin 18) (off : BitVec 24) (write : Option (List Byte)) (len : BitVec 8) (x : SlotAccess)
  /-- CHAIN_START (R381): A write of CH_HEAD_HI on an IDLE channel starts the chain at that descriptor. -/
  | chainStart (ifc : Iface) (c : Fin 32) (hi : Word)
  /-- DESC_FETCH (R381): The channel reads a 64-byte descriptor, clears DB_PEND and checks it, halting on refusal. -/
  | descFetch (c : Fin 32)
  /-- DMA_WAIT_TAKE (R381): A descriptor with WAIT_EN takes its count from WAIT_SEM, or waits, before its first
      read. -/
  | dmaWaitTake (c : Fin 32)
  /-- DMA_LAST_WRITE_ACCEPTED (R387): The descriptor's last write is accepted and completion begins with read-back,
      status write, signal and interrupt. -/
  | dmaLastWriteAccepted (c : Fin 32) (w : LastWrite)
  /-- DMA_READBACK_RETURN (R387): The read-back returns, proving the posted writes have arrived. -/
  | dmaReadbackReturn (c : Fin 32)
  /-- DMA_STATUS_WB_ACCEPTED (R387): The STATUS write-back is accepted and the descriptor completes with signal and
      interrupt. -/
  | dmaStatusWbAccepted (c : Fin 32)
  /-- CH_DOORBELL (R383): A doorbell sets DB_PEND, and in AT_END causes a re-read of the tail's LINK. -/
  | chDoorbell (ifc : Iface) (c : Fin 32)
  /-- LINK_REREAD (R383): The re-read of the tail's LINK returns; LAST 0 fetches the next descriptor and LAST 1
      returns to AT_END. -/
  | linkReread (c : Fin 32)
  /-- DMA_BUS_ERROR (R385): An error response halts the channel, latches the error and raises E100. -/
  | dmaBusError (c : Fin 32) (write : Bool) (k : BitVec 24)
  /-- DMA_RESUME (R386): RESUME in HALTED re-fetches the current descriptor and runs it again. -/
  | dmaResume (ifc : Iface) (c : Fin 32)
  /-- DMA_SKIP (R386): SKIP in HALTED ends the descriptor and follows its LINK. -/
  | dmaSkip (ifc : Iface) (c : Fin 32)
  /-- DMA_ABORT (R386): ABORT stops the chain, drops outstanding reads and enters ABORTING. -/
  | dmaAbort (ifc : Iface) (c : Fin 32)
  /-- ABORT_DRAIN_COMPLETE (R379): Every issued write of an aborting channel is accepted, and the channel enters
      IDLE. -/
  | abortDrainComplete (c : Fin 32)
  /-- TOKEN_REFILL (R393): Every 10 ns, each class bucket gains EFF bytes up to its burst. -/
  | tokenRefill
  /-- AVAIL_REPORT (R395): Every 1 µs, the controller reports AVAIL and the regulator recomputes the effective
      rates, starting a cut episode with E103. -/
  | availReport
  /-- CUT_EPISODE_END (R395): A cut episode ends after 1 ms in which every EFF equals its RATE. -/
  | cutEpisodeEnd
  /-- DRAM_READ_REQUEST (R413): A read request takes a read tag, or waits for one, and is scheduled by class. -/
  | dramReadRequest (cls : Fin 4) (addr : BitVec 48) (len : Fin 257)
  /-- DRAM_WRITE_REQUEST (R414): A write request takes a write buffer, or waits, and is accepted when buffered. -/
  | dramWriteRequest (cls : Fin 4) (addr : BitVec 48) (data : DramData)
  /-- DRAM_READ_RETURN (R416): Read data returns, corrected, retried once on a link error, or poisoned with E106. -/
  | dramReadReturn (k : Fin 2048) (link : List (Fin 4 × MemErr)) (ecc : List (Fin 32 × MemErr)) (waited : BitVec 32)
  /-- ECC_BACKGROUND_INIT (R418): The background initialiser fills the next block in idle memory cycles and sets
      INIT_DONE at the end. -/
  | eccBackgroundInit
  /-- PATROL_READ (R419): The patrol reads and corrects the next unit in idle cycles and counts passes. -/
  | patrolRead (err : List (Fin 8 × MemErr))
  /-- MR4_POLL (R410): Every 16 ms, MR4 of each package is read and the refresh rate is set, raising E108 on
      derating. -/
  | mr4Poll (r0 r1 r2 r3 r4 r5 : RefreshRate) (linkFails : BitVec 8)
  /-- TRACKING_READ (R411): Every 4 ms, one channel's DQS oscillator is read, and its timing is adjusted or a full
      retrain starts. -/
  | trackingRead (drifted : Bool)
  /-- FULL_RETRAIN_END (R411): A full retrain ends and the channels take requests again. -/
  | fullRetrainEnd
  /-- CHANNEL_POWER_DOWN (R412): A channel with no request for 1 µs enters power-down. -/
  | channelPowerDown (ch : Fin 24)
  /-- PCIE_LINK_RESET (R435): PERST_N, hot reset or link down resets the link and configuration space and raises
      E112. -/
  | pcieLinkReset
  /-- PCIE_LINK_UP (R422): Link training completes at a speed and width. -/
  | pcieLinkUp (speed : Fin 5) (width : Fin 4)
  /-- PCIE_CONFIG_REQUEST (R50): A configuration request is answered, including MSI-X masking and D3hot changes. -/
  | pcieConfigRequest (req : CfgReq)
  /-- PCIE_INBOUND_READ (R426): An inbound read through BAR0 or BAR2 completes with data, EP or Unsupported Request. -/
  | pcieInboundRead (bar2 : Bool) (off : BitVec 34) (len : Fin 4097)
  /-- PCIE_INBOUND_WRITE (R425): An inbound write through BAR0 or BAR2 is performed, marked poisoned, or discarded
      with UR counted. -/
  | pcieInboundWrite (bar2 : Bool) (off : BitVec 34) (data : List Byte) (ep : Bool)
  /-- PCIE_COMPLETION (R429): A completion for an outbound read returns data, poisoned data or an error. -/
  | pcieCompletion (tag : Fin 1024) (ok : Bool) (data : List Byte) (ep : Bool)
  /-- PCIE_COMPLETION_TIMEOUT (R429): After 16 ms without a completion, the outbound read fails and E113 is raised. -/
  | pcieCompletionTimeout (tag : Fin 1024)
  /-- BAR2_BASE_WRITE (R427): A write of PCIE_BAR2_BASE remaps BAR2 for every later TLP. -/
  | bar2BaseWrite (ifc : Iface) (v : Word)
  /-- HOST_DOORBELL (R430): A write of PCIE_HDB sets pending bits and asserts source 17 of the named Lantern. -/
  | hostDoorbell (ifc : Iface) (v : Word)
  /-- MSIX_RAISE (R431): A write of PCIE_MSIX_RAISE asserts MSI-X vectors 1 to 31. -/
  | msixRaise (ifc : Iface) (v : Word)
  /-- ETH_LINK_DOWN (R479): An interface's link falls and E120 is raised. -/
  | ethLinkDown (k : Fin 9)
  /-- ETH_LINK_UP (R439): An interface's link comes up at its negotiated speed and FEC. -/
  | ethLinkUp (k : Fin 9) (fec : Fin 3)
  /-- FRAME_RECEIVE (R441): A received frame is filtered and routed to CTP, PTP or the receive ring. -/
  | frameReceive (k : Fin 9) (fcsOk : Bool) (frame : List Byte) (err : Fin 17)
  /-- PTP_SYNC (R443): A received Sync updates PTP_OFFSET and the path delay, and the lock state. -/
  | ptpSync (t1 corr : BitVec 64) (err : Fin 17)
  /-- PTP_DELAY_EXCHANGE (R443): A delay-mechanism event message is timestamped and answered in hardware. -/
  | ptpDelayExchange (d : DelayMsg) (err : Fin 17)
  /-- SYNC_SEND_TIMER (R443): With MASTER set, the Sync interval expires and a Sync is sent. -/
  | syncSendTimer (err : Fin 17)
  /-- SYNC_TIMEOUT (R444): No Sync for 4 intervals clears LOCKED and raises E124. -/
  | syncTimeout
  /-- PTP_STEP (R480): A write of PTP_STEP_HI adds the signed step to DTIME. -/
  | ptpStep (ifc : Iface) (hi : Word)
  /-- PAIR_LATCH (R445): Every 1 ms, AON_TIME and DTIME are latched together and PTP_PAIR_SEQ advances. -/
  | pairLatch
  /-- BEACON (R463): A received beacon from a member updates its offset and link delay and resets its loss timer. -/
  | beacon (m : CtpIn)
  /-- ACK (R452): A received ACK ends retransmission of its reliable message. -/
  | ack (m : CtpIn)
  /-- REG_READ (R458): A received REG_READ carries out register reads once and is answered with REG_RESP. -/
  | regRead (m : CtpIn)
  /-- REG_WRITE (R458): A received REG_WRITE carries out journalled register writes once and is answered with
      REG_RESP. -/
  | regWrite (m : CtpIn)
  /-- REMOTE_WRITE (R459): A received remote write is checked against its credit window and written, then
      acknowledged, or refused with REFUSE. -/
  | remoteWrite (m : CtpIn)
  /-- CREDIT (R460): A received CREDIT resends writes that were waiting on the window. -/
  | credit (m : CtpIn)
  /-- REFUSE (R460): A received REFUSE holds writes on NO_CREDIT, or completes the descriptor with REFUSED. -/
  | refuse (m : CtpIn) (withCredit : Bool)
  /-- WRITE_LOST (R461): A received WRITE_LOST marks the range poisoned and releases the window's semaphore. -/
  | writeLost (m : CtpIn)
  /-- MSG (R457): A received MSG goes to the receive ring, or is discarded for a stale generation, and may request
      wake. -/
  | msg (m : CtpIn)
  /-- JOIN (R472): The primary compares a member's JOIN with its own, gives a new epoch or refuses, and answers
      JOIN_RESP. -/
  | join (m : CtpIn)
  /-- JOIN_RESP (R472): A received JOIN_RESP moves the member to JOINED, or to REFUSED with E125. -/
  | joinResp (m : CtpIn)
  /-- WAKE_AT (R474): A received WAKE_AT loads GRP_WAKE_T and schedules a group wake. -/
  | wakeAt (m : CtpIn)
  /-- LEAVE (R483): A received LEAVE clears the member's bit and ends its epoch. -/
  | leave (m : CtpIn)
  /-- SEND_DECISION (R465): A send descriptor of TYPE DECISION sends a checked decision to each decision
      destination. -/
  | sendDecision
  /-- SEND_REMOTE_WRITE (R459): A send descriptor of TYPE REMOTE_WRITE sends a write to a peer's credit window. -/
  | sendRemoteWrite
  /-- SEND_MSG (R455): A send descriptor of TYPE MSG sends software data, reliably if requested. -/
  | sendMsg
  /-- SEND_WAKE_AT (R474): A send descriptor of TYPE WAKE_AT schedules a group wake on the addressees and the
      sender. -/
  | sendWakeAt
  /-- DESCRIPTOR_COMPLETE_CTP (R456): When every addressed message is answered or has failed, the send descriptor
      completes and asserts source 14. -/
  | descriptorCompleteCtp (k : Fin 4096)
  /-- RETRANSMIT_TIMER (R452): At 50, 100 and 150 µs without an answer, a reliable message is resent with RETX. -/
  | retransmitTimer (k : Fin 64) (seq : Word)
  /-- DELIVERY_FAILURE (R452): A reliable message unanswered at 200 µs has failed, raises E121 and may send
      WRITE_LOST. -/
  | deliveryFailure (k : Fin 64) (seq : Word)
  /-- GAP_SKIP (R453): Held messages that wait 250 µs for a missing sequence move RX_NEXT past the gap and are
      carried out. -/
  | gapSkip (k : Fin 64)
  /-- CREDIT_WAIT_EXPIRY (R460): Waiting remote writes with no CREDIT within CREDIT_WAIT complete with REFUSED. -/
  | creditWaitExpiry (k : Fin 4096)
  /-- BEACON_TIMER (R462): Every 250 µs, D5 sends a beacon to its destinations and group members. -/
  | beaconTimer
  /-- PEER_LOSS (R476): No beacon from a peer for 1 ms declares the member or primary lost, with E126 or E127. -/
  | peerLoss (m : Fin 8)
  /-- JOIN_RETRY (R472): Every 10 ms until answered, or every 1 s after a retried refusal, a joining member resends
      JOIN. -/
  | joinRetry
  /-- GROUP_WAKE_TIMER (R474): At T − 60 µs, the device requests wake for the scheduled group wake. -/
  | groupWakeTimer
  /-- GROUP_WAKE_TEST (R475): At T, the device tests its clock offset and skips its slot with E128 if it exceeds 20
      µs. -/
  | groupWakeTest
  /-- GROUP_SLOT_OPEN (R474): At T + 20 µs + m × 4 µs, the member's group transmission slot opens. -/
  | groupSlotOpen
  /-- GROUP_REJOIN (R483): GRP_CTRL.REJOIN sends JOIN now from REFUSED or ALONE. -/
  | groupRejoin (ifc : Iface)
  /-- GROUP_LEAVE (R483): GRP_CTRL.LEAVE sends LEAVE and enters REFUSED. -/
  | groupLeave (ifc : Iface)
  /-- DOMAIN_FENCE (R494): FLT_DOMd.FENCE fences domain d: new requests get error responses and E9 is raised. -/
  | domainFence (ifc : Iface) (d : Fin 6)
  /-- DRAIN_COMPLETE (R494): Requests already accepted by the fenced domain complete, and the domain is isolated and
      reset. -/
  | drainComplete (d : Fin 6)
  /-- DRAIN_TIMEOUT (R494): Two milliseconds after the fence, outstanding requests are answered with errors and E10
      is raised. -/
  | drainTimeout (d : Fin 6)
  /-- DOMAIN_RESTORE_COMPLETE (R493): The domain's restore and reload end, STATE becomes RUN and E11 is raised, or a
      failed reload leaves it out of service. -/
  | domainRestoreComplete (d : Fin 6)
  /-- DOMAIN_RESTORE (R501): FLT_DOMd.RESTORE returns an out-of-service domain to service if its reset count and
      repair state allow. -/
  | domainRestore (ifc : Iface) (d : Fin 6)
  /-- DEVICE_RESET (R497): FLT_DOM0.FENCE, a device-fatal event or an out-of-service clear resets D0 and reruns boot
      from step 2. -/
  | deviceReset (ifc : Iface) (env : BootEnv)
  /-- DEVICE_FATAL_RESET (R497): Within 1 ms of a device-fatal event after READY, the Keeper resets D0. -/
  | deviceFatalReset (env : BootEnv)
  /-- HEARTBEAT_TICK (R498): Every 1 ms while D0 runs, FLT_HEARTBEAT increments. -/
  | heartbeatTick
  /-- OOS_CLEAR (R503): Writing the device serial to FLT_OOS_CLEAR clears a latch found at power-on, raises E44 and
      resets D0, or is refused. -/
  | oosClear (ifc : Iface) (hi : Word) (env : BootEnv)
  /-- REPAIR_ADD (R505): FLT_REPAIR_CTRL.ADD checks a field repair entry and appends it with an immediate Persistent
      Record write. -/
  | repairAdd (ifc : Iface)
  /-- THERMAL_SAMPLE (R516): A new junction reading changes the throttle level, raising E136, or E137 at the grade
      limit. -/
  | thermalSample (tj : BitVec 12) (env : BootEnv)
  /-- SUPPLY_FAULT (R520): A supply out of its fault range for 10 µs sets its FAULT bit and raises E138. -/
  | supplyFault (n : Fin 16)
  /-- PLL_LOCK_LOSS (R522): A PLL losing lock outside DEEP raises the domain-fatal events of its domains, or E7. -/
  | pllLockLoss (p : Fin 6)
  /-- DRAM_WRITE_BUFFER_FREE (R413): The controller finishes writing a buffered write to the DRAM, frees its write
      buffer and hands it to a waiting request in class order. -/
  | dramWriteBufferFree (k : Fin 512) (w : BufferDone)
  /-- LENS_ADMISSION_LOADED (R237): The quantisation descriptor and tables of an admitting operation have loaded (at
      most 1,024 cycles), reason 8 is applied, and the resident slot leaves state admitting for WAITING or is
      refused. -/
  | lensAdmissionLoaded (slot : Fin 8)
  /-- DEFERRED_FULL_RETRAIN (R411): A full retrain that drift demanded within 100 ms of the previous one starts once
      the 100 ms have passed. -/
  | deferredFullRetrain
deriving DecidableEq, Repr

end Sys2Proof
end

