-- ==== Sys2Proof/Decode.lean ====
section
/-! DEFINITION. The command that a word of the operation table spells. The table gives none of its rows any bits, so there is
no word to decode (log entry 3). -/

namespace Sys2Proof

/-- The command spelled by the `nbits` bits of `w`: none, since no row of the table has an encoding. -/
def decodeTableWord (_nbits _w : Nat) : Option Instr := none

end Sys2Proof
end

