-- ==== Sys2Proof/Config.lean ====
section
/-! DEFINITION. What an implementation fixes and the spec leaves open: free values, constants without a body, so that
nothing in Lean can evaluate them and no proof can rest on a value of them. Each is applied to the counter `free` of the
state (assumption log entry 1), which the step that uses one advances. -/

namespace Sys2Proof.Config

/-- A free 64-bit value: a result, or part of one, that the spec does not state (log entry 1). -/
opaque freeWord : Nat → BitVec 64
/-- A free choice between two outcomes that the spec allows (log entry 1). -/
opaque freeBool : Nat → Bool
/-- A free number: which of several results inside a bound that the spec sets (log entry 1). -/
opaque freeNat : Nat → Nat

end Sys2Proof.Config
end

