-- ==== Sys2Proof/Machine/Bits.lean ====
section
/-! DEFINITION. Bit fields of register words, little-endian byte lists (R9), signed readings and saturation. -/

namespace Sys2Proof.Machine

/-- Field `[hi:lo]` of a number. -/
def nfld (w hi lo : Nat) : Nat := (w / 2 ^ lo) % 2 ^ (hi + 1 - lo)
/-- Field `[hi:lo]` of a register word, as a number. -/
def fld (w : Word) (hi lo : Nat) : Nat := nfld w.toNat hi lo
/-- Bit `i` of a register word. -/
def bit (w : Word) (i : Nat) : Bool := w.toNat.testBit i
/-- The word of a number, modulo 2^32. -/
def w32 (n : Nat) : Word := BitVec.ofNat 32 n
/-- The mask of field `[hi:lo]`. -/
def mask (hi lo : Nat) : Word := w32 ((2 ^ (hi + 1 - lo) - 1) * 2 ^ lo)
/-- `w` with field `[hi:lo]` holding `v` (its low bits). -/
def setFld (w : Word) (hi lo v : Nat) : Word :=
  (w &&& ~~~ (mask hi lo)) ||| w32 ((v % 2 ^ (hi + 1 - lo)) * 2 ^ lo)
/-- `w` with bit `i` set to `b`. -/
def setBit (w : Word) (i : Nat) (b : Bool) : Word := setFld w i i (if b then 1 else 0)
/-- 1 for true and 0 for false. -/
def b2n (b : Bool) : Nat := if b then 1 else 0

/-- The `n` little-endian bytes of a number (R9). -/
def leBytes : Nat → Nat → List Byte
  | 0, _ => []
  | n + 1, v => BitVec.ofNat 8 v :: leBytes n (v / 256)
/-- The number that a little-endian byte list spells (R9). -/
def ofLe : List Byte → Nat
  | [] => 0
  | b :: t => b.toNat + 256 * ofLe t

/-- The low `n` bits of `v` read as a two's-complement number. -/
def sext (n v : Nat) : Int :=
  let m := v % 2 ^ n
  if n = 0 then 0 else if m < 2 ^ (n - 1) then (m : Int) else (m : Int) - (2 ^ n : Nat)
/-- The two's-complement `n`-bit reading of an integer, as a number below 2^n. -/
def wrapN (n : Nat) (x : Int) : Nat := (x % ((2 ^ n : Nat) : Int)).toNat
/-- `x` clamped to `[lo, hi]`. -/
def clampI (lo hi x : Int) : Int := if x < lo then lo else if hi < x then hi else x
/-- `x` clamped to `[lo, hi]`, on natural numbers. -/
def clampN (lo hi x : Nat) : Nat := if x < lo then lo else if hi < x then hi else x
/-- Floor division by a power of two of an integer (an arithmetic shift right). -/
def asr (x : Int) (n : Nat) : Int := x / ((2 ^ n : Nat) : Int)
/-- A number saturated to `n` bits. -/
def satN (n v : Nat) : Nat := if v < 2 ^ n then v else 2 ^ n - 1
/-- Serial-number order modulo 2^32: `a` is at or after `b` (R82, R45). -/
def serialGe (a b : Nat) : Bool := decide ((a + 2 ^ 32 - b % 2 ^ 32) % 2 ^ 32 < 2 ^ 31)
/-- The numbers `0, 1, …, n − 1`. -/
def upto (n : Nat) : List Nat := List.range n
/-- Is bit `i` of a number set? -/
def nbit (w i : Nat) : Bool := w.testBit i
/-- The number of set bits among the low `n` bits of `w`. -/
def popcnt (n w : Nat) : Nat := ((upto n).filter (fun i => w.testBit i)).length

/-- `n` zero bytes. -/
def zeros (n : Nat) : List Byte := List.replicate n 0
/-- A byte list cut or padded with zeros to `n` bytes. -/
def padTo (n : Nat) (l : List Byte) : List Byte := (l ++ zeros n).take n

/-- A slice of a byte list. -/
def slice (off n : Nat) (l : List Byte) : List Byte := (l.drop off).take n
/-- A little-endian field of a byte list. -/
def leAt (off n : Nat) (l : List Byte) : Nat := ofLe (slice off n l)

end Sys2Proof.Machine
end

