-- ==== Sys2Proof/Machine/RegMap.lean ====
section
/-! DEFINITION. The register map: one row for every register (or array of registers) that a register table of the spec
introduces, with its offset in the register region (R60), the strides of its instances, its reset value (R67) and the
masks of its fields by access type (R14, R68). A field whose reset is `fuse` has the value of a device without repair entries,
and one whose reset is `pins` or `image` reads 0 here until it is loaded (R67). The rule that introduces each register is named
in its comment. -/

namespace Sys2Proof.Machine

/-- One register or one array of registers of the same layout. -/
structure RegRow where
  /-- Register-region offset of the first instance. -/
  base : Nat
  /-- Counts and strides of the instances, outermost first. -/
  dims : List (Nat × Nat)
  /-- Value on leaving reset. -/
  rst : Nat
  /-- Mask of the RW fields. -/
  rw : Nat := 0
  /-- Mask of the RWH fields. -/
  rwh : Nat := 0
  /-- Mask of the W1C fields. -/
  w1c : Nat := 0
  /-- Mask of the W1S fields. -/
  w1s : Nat := 0
  /-- Mask of the CNT fields. -/
  cnt : Nat := 0
  /-- Mask of the RC fields. -/
  rc : Nat := 0
  /-- Shadowed group member (R69). -/
  shadowed : Bool := false
  /-- `Not journalled` (R74). -/
  quiet : Bool := false
  /-- 0: single register; 1: LO half; 2: HI half of a pair under R64. -/
  half : Nat := 0
deriving DecidableEq, Repr

/-- Registers of block DEV (R72). -/
def rowsDev : List RegRow :=
  [ { base := 0x0, dims := [], rst := 0xb09640 }, -- DEV_ID (R72)
    { base := 0x8, dims := [], rst := 0x0, half := 1 }, -- DEV_SERIAL_LO (R72)
    { base := 0xc, dims := [], rst := 0x0, half := 2 }, -- DEV_SERIAL_HI (R72)
    { base := 0x10, dims := [], rst := 0x0, w1s := 0x1 }, -- DEV_STATE (R72)
    { base := 0x20, dims := [], rst := 0x10001f }, -- DEV_CAP0 (R72)
    { base := 0x24, dims := [], rst := 0x0 }, -- DEV_CAP1 (R72)
    { base := 0x28, dims := [], rst := 0x0 }, -- DEV_CAP2 (R72)
    { base := 0x30, dims := [], rst := 0x0 }, -- DEV_BANK_WM (R72)
    { base := 0x34, dims := [], rst := 0x0 }, -- DEV_BANK_PS (R72)
    { base := 0x38, dims := [], rst := 0x0, half := 1 }, -- DEV_BANK_AM_LO (R72)
    { base := 0x3c, dims := [], rst := 0x0, half := 2 }, -- DEV_BANK_AM_HI (R72)
    { base := 0x40, dims := [], rst := 0x0, cnt := 0xffffffff } ] -- DEV_WR_IGNORED (R72)

/-- Registers of block BOOT (R59). -/
def rowsBoot : List RegRow :=
  [ { base := 0x100000, dims := [], rst := 0x3 }, -- BOOT_STATUS (R59)
    { base := 0x100004, dims := [], rst := 0x0 }, -- IMG_SEQ (R59)
    { base := 0x100008, dims := [(8, 0x4)], rst := 0x0 }, -- IMG_DIGESTk (R59)
    { base := 0x100030, dims := [], rst := 0x0, rw := 0xffffffff, half := 1 }, -- STAGE_ADDR_LO (R59)
    { base := 0x100034, dims := [], rst := 0x0, rw := 0xffff, half := 2 }, -- STAGE_ADDR_HI (R59)
    { base := 0x100038, dims := [], rst := 0x0, rw := 0x1ffffff }, -- STAGE_LEN (R59)
    { base := 0x100040, dims := [], rst := 0x0, rw := 0x1, w1s := 0x2 }, -- QUIESCE_CTRL (R59)
    { base := 0x100044, dims := [], rst := 0x0, w1c := 0x18 }, -- QUIESCE_STATUS (R59)
    { base := 0x100048, dims := [], rst := 0x0, w1s := 0x1 }, -- PCIE_BOOT (R59)
    { base := 0x10004c, dims := [], rst := 0x0, cnt := 0xffffffff } ] -- QUIESCE_MISSED (R59)

/-- Registers of block JOURNAL (R77). -/
def rowsJournal : List RegRow :=
  [ { base := 0x200000, dims := [], rst := 0x0 }, -- JNL_NEXT_SEQ (R77)
    { base := 0x200004, dims := [], rst := 0x0 }, -- JNL_FIRST_SEQ (R77)
    { base := 0x220000, dims := [(32768, 0x4)], rst := 0x0 } ] -- JNL_ENTRY (ring words) (R75)

/-- Registers of block DEBUG (R73). -/
def rowsDebug : List RegRow :=
  [ { base := 0x300000, dims := [], rst := 0x0, rw := 0xfffffff, quiet := true }, -- DBG_PEEK_ADDR (R73)
    { base := 0x300004, dims := [], rst := 0x0 }, -- DBG_PEEK_DATA (R73)
    { base := 0x300008, dims := [], rst := 0x0 } ] -- DBG_PEEK_STATUS (R73)

/-- Registers of block FAULT (R507). -/
def rowsFault : List RegRow :=
  [ { base := 0x400000, dims := [], rst := 0x0 }, -- FLT_EVT_NEXT (R507)
    { base := 0x400004, dims := [], rst := 0x0, cnt := 0xffffffff }, -- FLT_HEARTBEAT (R507)
    { base := 0x40000c, dims := [], rst := 0x0 }, -- FLT_FATAL_NEXT (R507)
    { base := 0x400010, dims := [], rst := 0x0, cnt := 0xffffffff }, -- FLT_HELD_LOST (R507)
    { base := 0x400020, dims := [(7, 0x4)], rst := 0x0, w1c := 0x10, w1s := 0xc }, -- FLT_DOMd (R507)
    { base := 0x400040, dims := [], rst := 0x0, rw := 0xffffffff, half := 1 }, -- FLT_OOS_CLEAR_LO (R507)
    { base := 0x400044, dims := [], rst := 0x0, rw := 0xffffffff, half := 2 }, -- FLT_OOS_CLEAR_HI (R507)
    { base := 0x400048, dims := [], rst := 0x0, w1c := 0x4 }, -- FLT_OOS_STATUS (R507)
    { base := 0x400050, dims := [(4, 0x4)], rst := 0x0, rw := 0xffffffff }, -- FLT_REPAIR_ENTRYk (R507)
    { base := 0x400060, dims := [], rst := 0x0, w1s := 0x1 }, -- FLT_REPAIR_CTRL (R507)
    { base := 0x400100, dims := [(5, 0x4)], rst := 0x0, cnt := 0xffffffff }, -- FLT_CNTk (R507)
    { base := 0x401000, dims := [(256, 0x4)], rst := 0x1, rw := 0x1ff }, -- FLT_EVT_CFGe (R507)
    { base := 0x401400, dims := [(256, 0x4)], rst := 0x0, cnt := 0xffffffff }, -- FLT_EVT_CNTe (R507)
    { base := 0x420000, dims := [(8192, 0x4)], rst := 0x0 }, -- event ring words (R487)
    { base := 0x430000, dims := [(128, 0x4)], rst := 0x0 } ] -- fatal history words (R489)

/-- Registers of block POWER (R528). -/
def rowsPower : List RegRow :=
  [ { base := 0x500000, dims := [], rst := 0x0 }, -- PWR_STATUS (R528)
    { base := 0x500004, dims := [], rst := 0x0, w1s := 0x3 }, -- PWR_CTRL (R528)
    { base := 0x500008, dims := [], rst := 0x0 }, -- PWR_PLAN (R528)
    { base := 0x50000c, dims := [], rst := 0x0 }, -- PWR_THERM (R528)
    { base := 0x500010, dims := [], rst := 0x0, rc := 0xfff }, -- PWR_TJ_MAX (R528)
    { base := 0x500014, dims := [], rst := 0x0, w1c := 0xffff }, -- PWR_SUPPLY (R528)
    { base := 0x500018, dims := [], rst := 0x0 }, -- PWR_PLL (R528)
    { base := 0x500100, dims := [(7, 0x4)], rst := 0x0, cnt := 0xffffffff } ] -- PWR_CNTk (R528)

/-- Registers of block KEEPER (R81). -/
def rowsKeeper : List RegRow :=
  [ { base := 0x800010, dims := [], rst := 0x0, half := 1 }, -- AON_TIME_LO (R81)
    { base := 0x800014, dims := [], rst := 0x0, half := 2 }, -- AON_TIME_HI (R81)
    { base := 0x800020, dims := [], rst := 0x0 }, -- KPR_EVT_NEXT (R88)
    { base := 0x800030, dims := [], rst := 0x0, rw := 0xfff }, -- KPR_EXPOSE (R87)
    { base := 0x800040, dims := [], rst := 0x0, rw := 0x1, w1s := 0x2 }, -- WAKE_CTRL (R93)
    { base := 0x800100, dims := [(4, 0x20)], rst := 0x0, cnt := 0xffffffff }, -- ENCn_POS (R82)
    { base := 0x800104, dims := [(4, 0x20)], rst := 0xc, rw := 0x3f }, -- ENCn_CFG (R82)
    { base := 0x800108, dims := [(4, 0x20)], rst := 0x0, cnt := 0xffffffff }, -- ENCn_ERRCNT (R82)
    { base := 0x800200, dims := [(8, 0x4)], rst := 0x60, rw := 0x7ff }, -- CURTn_CFG (R83)
    { base := 0x800220, dims := [], rst := 0x0 }, -- CURT_STATE (R83)
    { base := 0x800300, dims := [(4, 0x20)], rst := 0xfa0000, rwh := 0xffff003f }, -- WINw_CFG (R87)
    { base := 0x800304, dims := [(4, 0x20)], rst := 0x100, rwh := 0xffffffff }, -- WINw_MIN_GAP (R87)
    { base := 0x800308, dims := [(4, 0x20)], rst := 0x100000, rwh := 0xffffffff }, -- WINw_MAX_LEN (R87)
    { base := 0x80030c, dims := [(4, 0x20)], rst := 0x0 }, -- WINw_STATE (R87)
    { base := 0x800400, dims := [(8, 0x20)], rst := 0x190000, rwh := 0xffff01ff }, -- TRIGt_CFG (R91)
    { base := 0x800404, dims := [(8, 0x20)], rst := 0x10000, rwh := 0xffffffff }, -- TRIGt_DIV (R91)
    { base := 0x800408, dims := [(8, 0x20)], rst := 0x0, rwh := 0xffffffff }, -- TRIGt_START (R91)
    { base := 0x80040c, dims := [(8, 0x20)], rst := 0x0, rwh := 0xffffffff }, -- TRIGt_STOP (R91)
    { base := 0x800410, dims := [(8, 0x20)], rst := 0x1e1, rwh := 0xffffffff }, -- TRIGt_MINPER (R91)
    { base := 0x800414, dims := [(8, 0x20)], rst := 0x0, cnt := 0xffffffff } ] -- TRIGt_DROPPED (R91)
  ++ [ { base := 0x800600, dims := [], rst := 0x0 }, -- GPIO_IN (R94)
    { base := 0x800604, dims := [], rst := 0x0, rw := 0xffffff }, -- GPIO_OUT (R94)
    { base := 0x800608, dims := [], rst := 0x0, rw := 0xffffff }, -- GPIO_OE (R94)
    { base := 0x810000, dims := [(2048, 0x4)], rst := 0x0 } ] -- Keeper event ring words (R88)

/-- Registers of block FLASH (R95). -/
def rowsFlash : List RegRow :=
  [ { base := 0x900000, dims := [], rst := 0x0, rw := 0xffffffff }, -- FLASH_ADDR (R95)
    { base := 0x900004, dims := [], rst := 0x0, rw := 0xffff, w1c := 0x40000, w1s := 0x10000 }, -- FLASH_CMD (R95)
    { base := 0x901000, dims := [(1024, 0x4)], rst := 0x0, rw := 0xffffffff } ] -- FLASH buffer words (R95)

/-- Registers of block PREC (R99). -/
def rowsPrec : List RegRow :=
  [ { base := 0xa00000, dims := [], rst := 0x7080000, rw := 0xffff0000, w1s := 0x1 }, -- PREC_CTRL (R99)
    { base := 0xa00004, dims := [], rst := 0x0 }, -- PREC_STATUS (R99)
    { base := 0xa00008, dims := [], rst := 0x0, cnt := 0xffffffff }, -- PREC_WRITES (R99)
    { base := 0xa00100, dims := [(7, 0x4)], rst := 0x0 } ] -- RWIN_Dd (R100)

/-- Registers of block VPORT (R120). -/
def rowsVport : List RegRow :=
  [ { base := 0x1000000, dims := [(8, 0x100000)], rst := 0x0, rw := 0x7fff, shadowed := true }, -- VP_CFG (R120)
    { base := 0x1000004, dims := [(8, 0x100000)], rst := 0x1002000, rw := 0xffffffff, shadowed := true }, -- VP_SIZE (R120)
    { base := 0x1000008, dims := [(8, 0x100000)], rst := 0x64, rw := 0x3ff, shadowed := true }, -- VP_LINE (R120)
    { base := 0x10000fc, dims := [(8, 0x100000)], rst := 0x0, w1c := 0x4, w1s := 0x3 }, -- VP_SHADOW_CTRL (R120)
    { base := 0x1000100, dims := [(8, 0x100000)], rst := 0x0, rw := 0x7ff0007 }, -- VP_ADMIT (R120)
    { base := 0x1000104, dims := [(8, 0x100000)], rst := 0x0, w1c := 0x8 }, -- VP_STATUS (R120)
    { base := 0x1000108, dims := [(8, 0x100000)], rst := 0x0 }, -- VP_FR_NEXT (R120)
    { base := 0x100010c, dims := [(8, 0x100000)], rst := 0x0, rc := 0x7f }, -- VP_FIFO_HWM (R120)
    { base := 0x1000110, dims := [(8, 0x100000)], rst := 0x0, half := 1 }, -- VP_AUX_TIME_LO (R120)
    { base := 0x1000114, dims := [(8, 0x100000)], rst := 0x0, half := 2 }, -- VP_AUX_TIME_HI (R120)
    { base := 0x1000118, dims := [(8, 0x100000)], rst := 0x0, cnt := 0xffffffff }, -- VP_AUX_COUNT (R120)
    { base := 0x1000120, dims := [(8, 0x100000)], rst := 0x0, rw := 0xffffffff, half := 1 }, -- VP_RAW_BASE_LO (R120)
    { base := 0x1000124, dims := [(8, 0x100000)], rst := 0x0, rw := 0xffff, half := 2 }, -- VP_RAW_BASE_HI (R120)
    { base := 0x1000128, dims := [(8, 0x100000)], rst := 0x10, rw := 0x3f }, -- VP_RAW_CFG (R120)
    { base := 0x1000130, dims := [(8, 0x100000)], rst := 0x0, half := 1 }, -- VP_RAW_BYTES_LO (R120)
    { base := 0x1000134, dims := [(8, 0x100000)], rst := 0x0, half := 2 }, -- VP_RAW_BYTES_HI (R120)
    { base := 0x1000140, dims := [(8, 0x100000), (8, 0x4)], rst := 0x0, cnt := 0xffffffff }, -- VP_CNTk (R120)
    { base := 0x1010000, dims := [(8, 0x100000), (512, 0x4)], rst := 0x0 } ] -- VP frame record words (R119)

/-- Registers of block PIPE (R156). -/
def rowsPipe : List RegRow :=
  [ { base := 0x1800000, dims := [(2, 0x100000)], rst := 0x0 }, -- PIPE_STATUS (R156)
    { base := 0x1800004, dims := [(2, 0x100000)], rst := 0x0 }, -- PIPE_STAGE (R156)
    { base := 0x1800008, dims := [(2, 0x100000)], rst := 0x0, rc := 0xffffffff }, -- PIPE_STAGE_HWM (R156)
    { base := 0x180000c, dims := [(2, 0x100000)], rst := 0x0, cnt := 0xffffffff } ] -- PIPE_BUSY (R156)

/-- Registers of block CTX (R157). -/
def rowsCtx : List RegRow :=
  [ { base := 0x1a00000, dims := [(16, 0x10000)], rst := 0x0, rw := 0xcf, shadowed := true }, -- CTX_CFG (R157)
    { base := 0x1a00004, dims := [(16, 0x10000)], rst := 0x3ff, rw := 0x3ff, shadowed := true }, -- CTX_BYPASS (R157)
    { base := 0x1a00008, dims := [(16, 0x10000)], rst := 0x0, rw := 0xffffffff, shadowed := true }, -- CTX_BLACK01 (R157)
    { base := 0x1a0000c, dims := [(16, 0x10000)], rst := 0x0, rw := 0xffffffff, shadowed := true }, -- CTX_BLACK23 (R157)
    { base := 0x1a00010, dims := [(16, 0x10000)], rst := 0x1000, rw := 0xffff, shadowed := true }, -- CTX_BLNORM (R157)
    { base := 0x1a00014, dims := [(16, 0x10000)], rst := 0x10000000, rw := 0xffff0003, shadowed := true }, -- CTX_DPC (R157)
    { base := 0x1a00018, dims := [(16, 0x10000)], rst := 0x0, rw := 0xffffffff, shadowed := true, half := 1 }, -- CTX_DPC_LIST_LO (R157)
    { base := 0x1a0001c, dims := [(16, 0x10000)], rst := 0x0, rw := 0x7fffffff, shadowed := true, half := 2 }, -- CTX_DPC_LIST_HI (R157)
    { base := 0x1a00020, dims := [(16, 0x10000)], rst := 0x0, rw := 0xff, shadowed := true }, -- CTX_SNR (R157)
    { base := 0x1a00024, dims := [(16, 0x10000), (8, 0x4)], rst := 0x4000400, rw := 0xffffffff, shadowed := true }, -- CTX_SNR_THRk (k=0..7) (R157)
    { base := 0x1a00044, dims := [(16, 0x10000)], rst := 0x400, rw := 0xffff, shadowed := true }, -- CTX_SNR_THR8 (R157)
    { base := 0x1a00048, dims := [(16, 0x10000)], rst := 0x0, rw := 0xff, shadowed := true }, -- CTX_TNR (R157)
    { base := 0x1a0004c, dims := [(16, 0x10000)], rst := 0x8000100, rw := 0xffffffff, shadowed := true }, -- CTX_TNR_MOT (R157)
    { base := 0x1a00050, dims := [(16, 0x10000)], rst := 0x0, rw := 0xffffffff, shadowed := true, half := 1 }, -- CTX_TNR_REF_LO (R157)
    { base := 0x1a00054, dims := [(16, 0x10000)], rst := 0x0, rw := 0xffff, shadowed := true, half := 2 }, -- CTX_TNR_REF_HI (R157)
    { base := 0x1a00058, dims := [(16, 0x10000)], rst := 0x10001000, rw := 0xffffffff, shadowed := true }, -- CTX_WB01 (R157)
    { base := 0x1a0005c, dims := [(16, 0x10000)], rst := 0x10001000, rw := 0xffffffff, shadowed := true }, -- CTX_WB23 (R157)
    { base := 0x1a00060, dims := [(16, 0x10000)], rst := 0x1000, rw := 0xffffffff, shadowed := true }, -- CTX_CCM0 (R157)
    { base := 0x1a00064, dims := [(16, 0x10000)], rst := 0x0, rw := 0xffffffff, shadowed := true }, -- CTX_CCM1 (R157)
    { base := 0x1a00068, dims := [(16, 0x10000)], rst := 0x1000, rw := 0xffffffff, shadowed := true } ] -- CTX_CCM2 (R157)
  ++ [ { base := 0x1a0006c, dims := [(16, 0x10000)], rst := 0x0, rw := 0xffffffff, shadowed := true }, -- CTX_CCM3 (R157)
    { base := 0x1a00070, dims := [(16, 0x10000)], rst := 0x1000, rw := 0xffff, shadowed := true }, -- CTX_CCM4 (R157)
    { base := 0x1a00084, dims := [(16, 0x10000)], rst := 0x1000, rw := 0xffffffff, shadowed := true }, -- CTX_CSC_M0 (R157)
    { base := 0x1a00088, dims := [(16, 0x10000)], rst := 0x0, rw := 0xffffffff, shadowed := true }, -- CTX_CSC_M1 (R157)
    { base := 0x1a0008c, dims := [(16, 0x10000)], rst := 0x1000, rw := 0xffffffff, shadowed := true }, -- CTX_CSC_M2 (R157)
    { base := 0x1a00090, dims := [(16, 0x10000)], rst := 0x0, rw := 0xffffffff, shadowed := true }, -- CTX_CSC_M3 (R157)
    { base := 0x1a00094, dims := [(16, 0x10000)], rst := 0x1000, rw := 0xffff, shadowed := true }, -- CTX_CSC_M4 (R157)
    { base := 0x1a00074, dims := [(16, 0x10000)], rst := 0x0, rw := 0xffffffff, shadowed := true }, -- CTX_CCM_OFF01 (R157)
    { base := 0x1a00078, dims := [(16, 0x10000)], rst := 0x0, rw := 0xffff, shadowed := true }, -- CTX_CCM_OFF2 (R157)
    { base := 0x1a0007c, dims := [(16, 0x10000)], rst := 0x0, rw := 0x1, shadowed := true }, -- CTX_TONE (R157)
    { base := 0x1a00080, dims := [(16, 0x10000)], rst := 0x1, rw := 0x7, shadowed := true }, -- CTX_CSC (R157)
    { base := 0x1a00098, dims := [(16, 0x10000)], rst := 0x0, rw := 0x1ff, shadowed := true }, -- CTX_SPLICE (R157)
    { base := 0x1a000fc, dims := [(16, 0x10000)], rst := 0x200, rw := 0xffff, shadowed := true }, -- CTX_DMS (R157)
    { base := 0x1a000a0, dims := [(16, 0x10000), (4, 0x10)], rst := 0x40, rw := 0x1f7f, shadowed := true }, -- CTX_OUTo_CFG (R157)
    { base := 0x1a000a8, dims := [(16, 0x10000), (4, 0x10)], rst := 0x0, rw := 0xffffffff, shadowed := true, half := 1 }, -- CTX_OUTo_BASE_LO (R157)
    { base := 0x1a000ac, dims := [(16, 0x10000), (4, 0x10)], rst := 0x0, rw := 0xffff, shadowed := true, half := 2 }, -- CTX_OUTo_BASE_HI (R157)
    { base := 0x1a000e0, dims := [(16, 0x10000)], rst := 0x1000780, rw := 0xfff0fff, shadowed := true }, -- CTX_DISP_SCALE (R157)
    { base := 0x1a000e4, dims := [(16, 0x10000)], rst := 0x2000002, rw := 0xffff001f, shadowed := true }, -- CTX_BAND (R157)
    { base := 0x1a000e8, dims := [(16, 0x10000)], rst := 0x0, rw := 0x3ffffff, shadowed := true }, -- CTX_BAND_BASE (R157)
    { base := 0x1a000ec, dims := [(16, 0x10000)], rst := 0x0, rw := 0x3ff03ff, shadowed := true } ] -- CTX_BAND_SEM (R157)
  ++ [ { base := 0x1a000f0, dims := [(16, 0x10000)], rst := 0x0, rw := 0xffffffff, shadowed := true, half := 1 }, -- CTX_M2M_SRC_LO (R157)
    { base := 0x1a000f4, dims := [(16, 0x10000)], rst := 0x0, rw := 0xffff, shadowed := true, half := 2 }, -- CTX_M2M_SRC_HI (R157)
    { base := 0x1a000f8, dims := [(16, 0x10000)], rst := 0x1002000, rw := 0xffffffff, shadowed := true }, -- CTX_M2M_SIZE (R157)
    { base := 0x1a00f00, dims := [(16, 0x10000)], rst := 0x0, w1c := 0x4, w1s := 0x3 }, -- CTX_SHADOW_CTRL (R157)
    { base := 0x1a00f04, dims := [(16, 0x10000)], rst := 0x0 }, -- CTX_STATUS (R157)
    { base := 0x1a00f08, dims := [(16, 0x10000)], rst := 0x0 }, -- CTX_FR_NEXT (R157)
    { base := 0x1a00f0c, dims := [(16, 0x10000)], rst := 0x0, w1s := 0x1 }, -- CTX_M2M_GO (R157)
    { base := 0x1a00f10, dims := [(16, 0x10000), (4, 0x8)], rst := 0x0, rw := 0xffffffff, quiet := true, half := 1 }, -- CTX_OUTo_RELEASE_LO (R157)
    { base := 0x1a00f14, dims := [(16, 0x10000), (4, 0x8)], rst := 0x0, rw := 0xffffffff, quiet := true, half := 2 }, -- CTX_OUTo_RELEASE_HI (R157)
    { base := 0x1a00f30, dims := [(16, 0x10000), (4, 0x8)], rst := 0x0, quiet := true, half := 1 }, -- CTX_OUTo_WRITTEN_LO (R157)
    { base := 0x1a00f34, dims := [(16, 0x10000), (4, 0x8)], rst := 0x0, quiet := true, half := 2 }, -- CTX_OUTo_WRITTEN_HI (R157)
    { base := 0x1a00f50, dims := [(16, 0x10000), (9, 0x4)], rst := 0x0, cnt := 0xffffffff }, -- CTX_CNTk (R157)
    { base := 0x1a01000, dims := [(16, 0x10000), (4, 0x400), (144, 0x4)], rst := 0x10001000, rw := 0xffffffff, shadowed := true }, -- shading table words (p, i<144) (R157)
    { base := 0x1a01240, dims := [(16, 0x10000), (4, 0x400)], rst := 0x1000, rw := 0xffff, shadowed := true }, -- shading table last word (R157)
    { base := 0x1a02000, dims := [(16, 0x10000), (3, 0x1000), (512, 0x4)], rst := 0x0, rw := 0xffffffff, shadowed := true }, -- tone curve words (ch, i<512) (R157)
    { base := 0x1a02800, dims := [(16, 0x10000), (3, 0x1000)], rst := 0xffff, rw := 0xffff, shadowed := true }, -- tone curve last word (R157)
    { base := 0x1a07000, dims := [(16, 0x10000), (1024, 0x4)], rst := 0x0 } ] -- CTX frame record words (R157)

/-- Registers of block MEAS (R172). -/
def rowsMeas : List RegRow :=
  [ { base := 0x1b00000, dims := [(16, 0x10000)], rst := 0x100000, rw := 0xff000f, shadowed := true }, -- STAT_CFG (R172)
    { base := 0x1b00004, dims := [(16, 0x10000)], rst := 0x80100, rw := 0x7ff03ff, shadowed := true }, -- STAT_ZONE (R172)
    { base := 0x1b00008, dims := [(16, 0x10000)], rst := 0x0, rw := 0x3fff3fff, shadowed := true }, -- STAT_ORIGIN (R172)
    { base := 0x1b0000c, dims := [(16, 0x10000)], rst := 0x4, rw := 0xf, shadowed := true }, -- STAT_SLOTS (R172)
    { base := 0x1b00010, dims := [(16, 0x10000)], rst := 0x0, rw := 0xffffffff, shadowed := true, half := 1 }, -- STAT_BASE_LO (R172)
    { base := 0x1b00014, dims := [(16, 0x10000)], rst := 0x0, rw := 0xffff, shadowed := true, half := 2 }, -- STAT_BASE_HI (R172)
    { base := 0x1b00020, dims := [(16, 0x10000)], rst := 0x10801000, rw := 0xffffff0f, shadowed := true }, -- PX_CFG (R172)
    { base := 0x1b00024, dims := [(16, 0x10000)], rst := 0x2001000, rw := 0xffffffff, shadowed := true }, -- PX_THR (R172)
    { base := 0x1b00028, dims := [(16, 0x10000)], rst := 0x1000100, rw := 0xffffffff, shadowed := true }, -- PX_CAL (R172)
    { base := 0x1b0002c, dims := [(16, 0x10000)], rst := 0x4, rw := 0x3ff001f, shadowed := true }, -- PX_RING (R172)
    { base := 0x1b00030, dims := [(16, 0x10000)], rst := 0x0, rw := 0xffffffff, shadowed := true, half := 1 }, -- PX_BASE_LO (R172)
    { base := 0x1b00034, dims := [(16, 0x10000)], rst := 0x0, rw := 0xffff, shadowed := true, half := 2 }, -- PX_BASE_HI (R172)
    { base := 0x1b00038, dims := [(16, 0x10000)], rst := 0x0, rw := 0x3ff, shadowed := true }, -- PX_SEM (R172)
    { base := 0x1b000fc, dims := [(16, 0x10000)], rst := 0x0, w1c := 0x4, w1s := 0x3 }, -- MEAS_SHADOW_CTRL (R172)
    { base := 0x1b00f00, dims := [(16, 0x10000)], rst := 0x0 }, -- MEAS_STATUS (R172)
    { base := 0x1b00f04, dims := [(16, 0x10000)], rst := 0x0 }, -- STAT_NEXT (R172)
    { base := 0x1b00f08, dims := [(16, 0x10000)], rst := 0x0 }, -- PX_NEXT (R172)
    { base := 0x1b00f0c, dims := [(16, 0x10000)], rst := 0x0, w1s := 0x3 }, -- PX_CAL_CTRL (R172)
    { base := 0x1b00f40, dims := [(16, 0x10000), (7, 0x4)], rst := 0x0, cnt := 0xffffffff }, -- MEAS_CNTk (R172)
    { base := 0x1b01000, dims := [(16, 0x10000), (256, 0x4)], rst := 0x0, rw := 0xffffffff } ] -- CAL_REC words (R172)
  ++ [ { base := 0x1b04000, dims := [(16, 0x10000), (2048, 0x4)], rst := 0xfffff, rwh := 0xfffff } ] -- Z(c) (R172)

/-- Registers of block SECTOR (R209). -/
def rowsSector : List RegRow :=
  [ { base := 0x2000000, dims := [], rst := 0xf }, -- SEC_STATUS (R209)
    { base := 0x2010000, dims := [(4, 0x1000)], rst := 0x8 }, -- SC_STATUS (R209)
    { base := 0x2010004, dims := [(4, 0x1000)], rst := 0x0, rw := 0x1, w1c := 0x1c, w1s := 0x2 }, -- SC_PROG_CTRL (R209)
    { base := 0x2010008, dims := [(4, 0x1000)], rst := 0x0 }, -- SC_LB_ACTIVE (R209)
    { base := 0x201000c, dims := [(4, 0x1000)], rst := 0x0 }, -- SC_LB_CHECKED (R209)
    { base := 0x2010010, dims := [(4, 0x1000)], rst := 0x0, rw := 0xffffffff, quiet := true, half := 1 }, -- SC_MJ_PUSH_LO (R209)
    { base := 0x2010014, dims := [(4, 0x1000)], rst := 0x0, rw := 0xffff, quiet := true, half := 2 }, -- SC_MJ_PUSH_HI (R209)
    { base := 0x2010018, dims := [(4, 0x1000)], rst := 0x0, w1c := 0x80 }, -- SC_MJ_STATUS (R209)
    { base := 0x2010020, dims := [(4, 0x1000)], rst := 0x0, half := 1 }, -- SC_MJ_ERR_ADDR_LO (R209)
    { base := 0x2010024, dims := [(4, 0x1000)], rst := 0x0, half := 2 }, -- SC_MJ_ERR_ADDR_HI (R209)
    { base := 0x2010100, dims := [(4, 0x1000), (13, 0x4)], rst := 0x0, cnt := 0xffffffff }, -- SC_CNTk (R209)
    { base := 0x2008000, dims := [(16, 0x40)], rst := 0x0 }, -- SEC_CTX_MAP (R209)
    { base := 0x2008004, dims := [(16, 0x40)], rst := 0x0, rw := 0x3ffffff }, -- SEC_TEE_BASE (R209)
    { base := 0x2008008, dims := [(16, 0x40)], rst := 0x2000000, rw := 0xffffffff }, -- SEC_TEE_ROW (R209)
    { base := 0x200800c, dims := [(16, 0x40)], rst := 0x0, rw := 0x3ffffff }, -- SEC_TEE_PLANE (R209)
    { base := 0x2008010, dims := [(16, 0x40)], rst := 0x2000000, rw := 0xffff07ff }, -- SEC_TEE_SEM (R209)
    { base := 0x2040000, dims := [(4, 0x30000), (49152, 0x4)], rst := 0x0, rw := 0xffffffff, quiet := true } ] -- bank window words (into the selected bank) (R200)

/-- Registers of block LENS (R246). -/
def rowsLens : List RegRow :=
  [ { base := 0x2800000, dims := [], rst := 0x1 }, -- LENS_STATUS (R246)
    { base := 0x2800004, dims := [], rst := 0x0, rw := 0x1 }, -- LENS_CTRL (R246)
    { base := 0x2800010, dims := [], rst := 0x0, rw := 0xffffffff, quiet := true, half := 1 }, -- LENS_PUSH_LO (R246)
    { base := 0x2800014, dims := [], rst := 0x0, rw := 0xffff, quiet := true, half := 2 }, -- LENS_PUSH_HI (R246)
    { base := 0x2800018, dims := [], rst := 0x0, w1c := 0x1 }, -- LENS_REFUSE (R246)
    { base := 0x2800020, dims := [], rst := 0x0, half := 1 }, -- LENS_ERR_ADDR_LO (R246)
    { base := 0x2800024, dims := [], rst := 0x0, half := 2 }, -- LENS_ERR_ADDR_HI (R246)
    { base := 0x2800100, dims := [(8, 0x10)], rst := 0x0 }, -- LENS_RESs_STATE (R246)
    { base := 0x2800104, dims := [(8, 0x10)], rst := 0x0 }, -- LENS_RESs_JOB (R246)
    { base := 0x2800108, dims := [(8, 0x10)], rst := 0x0 }, -- LENS_RESs_DONE (R246)
    { base := 0x280010c, dims := [(8, 0x10)], rst := 0x0 }, -- LENS_RESs_TOTAL (R246)
    { base := 0x2800200, dims := [(18, 0x4)], rst := 0x0, cnt := 0xffffffff } ] -- LENS_CNTk (R246)

/-- Registers of block QOUT (R277). -/
def rowsQout : List RegRow :=
  [ { base := 0x2900000, dims := [], rst := 0x0 }, -- QOUT_STATUS (R277)
    { base := 0x2900004, dims := [], rst := 0x0, w1c := 0x1 }, -- QOUT_REFUSE (R277)
    { base := 0x2900008, dims := [], rst := 0x0, half := 1 }, -- QOUT_ERR_ADDR_LO (R277)
    { base := 0x290000c, dims := [], rst := 0x0, half := 2 }, -- QOUT_ERR_ADDR_HI (R277)
    { base := 0x2900010, dims := [], rst := 0x0, rw := 0xffffffff, quiet := true }, -- QOUT_QTAB_UPDATES (R277)
    { base := 0x2900100, dims := [(12, 0x4)], rst := 0x0, cnt := 0xffffffff }, -- QOUT_CNTk (R277)
    { base := 0x2910000, dims := [(8192, 0x4)], rst := 0x0, rw := 0xffffffff, quiet := true } ] -- QOUT staging words (R277)

/-- Registers of block SPAD (R306). -/
def rowsSpad : List RegRow :=
  [ { base := 0x3000000, dims := [], rst := 0x0 }, -- SP_STATUS (R306)
    { base := 0x3000010, dims := [], rst := 0x0, rw := 0xffffffff, quiet := true, half := 1 }, -- SP_FC_PUSH_LO (R306)
    { base := 0x3000014, dims := [], rst := 0x0, rw := 0xffff, quiet := true, half := 2 }, -- SP_FC_PUSH_HI (R306)
    { base := 0x3000018, dims := [], rst := 0x0, w1c := 0x1 }, -- SP_FC_REFUSE (R306)
    { base := 0x3000020, dims := [], rst := 0x0, half := 1 }, -- SP_FC_ERR_ADDR_LO (R306)
    { base := 0x3000024, dims := [], rst := 0x0, half := 2 }, -- SP_FC_ERR_ADDR_HI (R306)
    { base := 0x3000030, dims := [], rst := 0x0, half := 1 }, -- SP_ERR_ADDR_LO (R306)
    { base := 0x3000034, dims := [], rst := 0x0, half := 2 }, -- SP_ERR_ADDR_HI (R306)
    { base := 0x3000038, dims := [], rst := 0x0 }, -- SP_ERR_INFO (R306)
    { base := 0x3000100, dims := [(12, 0x4)], rst := 0x0, cnt := 0xffffffff }, -- SP_CNTk (R306)
    { base := 0x3001000, dims := [(128, 0x4)], rst := 0x0 }, -- SP_OWNERi (R306)
    { base := 0x3002000, dims := [(64, 0x20)], rst := 0x0, rw := 0x7fffffff }, -- CRW_CFG (R306)
    { base := 0x3002004, dims := [(64, 0x20)], rst := 0x0, rw := 0x3ffffff }, -- CRW_BASE (R306)
    { base := 0x3002008, dims := [(64, 0x20)], rst := 0x0, rw := 0xffff }, -- CRW_SIZE (R306)
    { base := 0x300200c, dims := [(64, 0x20)], rst := 0x0, rwh := 0xffff }, -- CRW_CREDITS (R306)
    { base := 0x3002010, dims := [(64, 0x20)], rst := 0x0, rw := 0xffff, quiet := true }, -- CRW_GRANT (R306)
    { base := 0x3002014, dims := [(64, 0x20)], rst := 0x0, cnt := 0xffffffff }, -- CRW_USED (R306)
    { base := 0x3002018, dims := [(64, 0x20)], rst := 0x0, cnt := 0xffffffff }, -- CRW_REFUSED (R306)
    { base := 0x300201c, dims := [(64, 0x20)], rst := 0x0 } ] -- CRW_STATUS (R306)

/-- Registers of block LCL (R337). -/
def rowsLcl : List RegRow :=
  [ { base := 0x3800000, dims := [], rst := 0x0 }, -- LCL_RUNNING (R337)
    { base := 0x3800004, dims := [], rst := 0x0 }, -- LCL_HALTED (R337)
    { base := 0x3800010, dims := [], rst := 0x0, rw := 0x3f3f3f3f }, -- LCL_ROUTE0 (R338)
    { base := 0x3800014, dims := [], rst := 0x0, rw := 0x3f } ] -- LCL_ROUTE1 (R338)

/-- Registers of block LCORE (R336). -/
def rowsLcore : List RegRow :=
  [ { base := 0x4000000, dims := [(18, 0x100000)], rst := 0x0, rw := 0x1, w1s := 0x2 }, -- LC_CTRL (R336)
    { base := 0x4000004, dims := [(18, 0x100000)], rst := 0x0 }, -- LC_STATUS (R336)
    { base := 0x4000008, dims := [(18, 0x100000)], rst := 0x0 }, -- LC_PC (R336)
    { base := 0x4000010, dims := [(18, 0x100000)], rst := 0x0, w1c := 0xffffffff, half := 1 }, -- LC_PEND_LO (R336)
    { base := 0x4000014, dims := [(18, 0x100000)], rst := 0x0, w1c := 0xffffffff, half := 2 }, -- LC_PEND_HI (R336)
    { base := 0x4000018, dims := [(18, 0x100000)], rst := 0x0, w1s := 0xffffffff, quiet := true, half := 1 }, -- LC_RAISE_LO (R336)
    { base := 0x400001c, dims := [(18, 0x100000)], rst := 0x0, w1s := 0xffffffff, quiet := true, half := 2 }, -- LC_RAISE_HI (R336)
    { base := 0x4000020, dims := [(18, 0x100000), (8, 0x4)], rst := 0x0, rw := 0x77777777 }, -- LC_PRIOk (R336)
    { base := 0x4000040, dims := [(18, 0x100000)], rst := 0x0 }, -- LC_EXC (R336)
    { base := 0x4000048, dims := [(18, 0x100000)], rst := 0x0, half := 1 }, -- LC_EXC_ADDR_LO (R336)
    { base := 0x400004c, dims := [(18, 0x100000)], rst := 0x0, half := 2 }, -- LC_EXC_ADDR_HI (R336)
    { base := 0x4000100, dims := [(18, 0x100000), (8, 0x4)], rst := 0x0, cnt := 0xffffffff } ] -- LC_CNTk (R336)

/-- Registers of block DMA (R397). -/
def rowsDma : List RegRow :=
  [ { base := 0x5800000, dims := [], rst := 0x0 }, -- DMA_ACTIVE (R397)
    { base := 0x5800004, dims := [], rst := 0x0 }, -- DMA_HALTED (R397)
    { base := 0x5801000, dims := [(32, 0x100)], rst := 0x100, rwh := 0x3ff }, -- CH_CFG (R397)
    { base := 0x5801008, dims := [(32, 0x100)], rst := 0x0, rwh := 0xffffffff, quiet := true, half := 1 }, -- CH_HEAD_LO (R397)
    { base := 0x580100c, dims := [(32, 0x100)], rst := 0x0, rwh := 0xffff, quiet := true, half := 2 }, -- CH_HEAD_HI (R397)
    { base := 0x5801010, dims := [(32, 0x100)], rst := 0x0, w1s := 0x1, quiet := true }, -- CH_DOORBELL (R397)
    { base := 0x5801014, dims := [(32, 0x100)], rst := 0x0, w1s := 0x7 }, -- CH_CMD (R397)
    { base := 0x5801018, dims := [(32, 0x100)], rst := 0x0 }, -- CH_STATUS (R397)
    { base := 0x5801020, dims := [(32, 0x100)], rst := 0x0, half := 1 }, -- CH_CUR_LO (R397)
    { base := 0x5801024, dims := [(32, 0x100)], rst := 0x0, half := 2 }, -- CH_CUR_HI (R397)
    { base := 0x5801028, dims := [(32, 0x100)], rst := 0x0, half := 1 }, -- CH_ERR_ADDR_LO (R397)
    { base := 0x580102c, dims := [(32, 0x100)], rst := 0x0, half := 2 }, -- CH_ERR_ADDR_HI (R397)
    { base := 0x5801040, dims := [(32, 0x100), (4, 0x10)], rst := 0x0, rwh := 0xffffffff, half := 1 }, -- CH_BUFk_BASE_LO (R397)
    { base := 0x5801044, dims := [(32, 0x100), (4, 0x10)], rst := 0x0, rwh := 0xffff, half := 2 }, -- CH_BUFk_BASE_HI (R397)
    { base := 0x5801048, dims := [(32, 0x100), (4, 0x10)], rst := 0x0, rwh := 0xffffffff }, -- CH_BUFk_SIZE (R397)
    { base := 0x5801080, dims := [(32, 0x100), (10, 0x4)], rst := 0x0, cnt := 0xffffffff } ] -- CH_CNTk (R397)

/-- Registers of block REGUL (R399). -/
def rowsRegul : List RegRow :=
  [ { base := 0x5900000, dims := [], rst := 0x0 }, -- REGUL_AVAIL (R399)
    { base := 0x5900004, dims := [], rst := 0x0 }, -- REGUL_STATUS (R399)
    { base := 0x5900010, dims := [(4, 0x4)], rst := 0x0 }, -- REGUL_RATEk (R399)
    { base := 0x5900020, dims := [(4, 0x4)], rst := 0x0 }, -- REGUL_TOKk (R399)
    { base := 0x5900030, dims := [(4, 0x4)], rst := 0x0, cnt := 0xffffffff }, -- REGUL_CUTk (R399)
    { base := 0x5900040, dims := [(4, 0x8)], rst := 0x0, cnt := 0xffffffff, half := 1 }, -- REGUL_BYTESk_LO (R399)
    { base := 0x5900044, dims := [(4, 0x8)], rst := 0x0, cnt := 0xffffffff, half := 2 } ] -- REGUL_BYTESk_HI (R399)

/-- Registers of block DDR (R420). -/
def rowsDdr : List RegRow :=
  [ { base := 0x6000000, dims := [], rst := 0x0 }, -- DDR_STATUS (R420)
    { base := 0x6000004, dims := [], rst := 0x0 }, -- DDR_CFG (R420)
    { base := 0x6000008, dims := [], rst := 0x0 }, -- DDR_USABLE (R420)
    { base := 0x600000c, dims := [], rst := 0x0 }, -- DDR_MR4 (R420)
    { base := 0x6000010, dims := [], rst := 0x0 }, -- DDR_INFLIGHT (R420)
    { base := 0x6000014, dims := [], rst := 0x0, rc := 0x3ff0fff }, -- DDR_INFLIGHT_HWM (R420)
    { base := 0x6000018, dims := [], rst := 0x0, half := 1 }, -- DDR_ERR_ADDR_LO (R420)
    { base := 0x600001c, dims := [], rst := 0x0, half := 2 }, -- DDR_ERR_ADDR_HI (R420)
    { base := 0x6000100, dims := [(10, 0x4)], rst := 0x0, cnt := 0xffffffff } ] -- DDR_CNTk (R420)

/-- Registers of block PCIE (R438). -/
def rowsPcie : List RegRow :=
  [ { base := 0x6800000, dims := [], rst := 0x0 }, -- PCIE_LINK (R438)
    { base := 0x6800004, dims := [], rst := 0x4, rw := 0x3ffff }, -- PCIE_BAR2_BASE (R438)
    { base := 0x6800008, dims := [], rst := 0x0, rw := 0xffffffff, half := 1 }, -- PCIE_HW_BASE_LO (R438)
    { base := 0x680000c, dims := [], rst := 0x0, rw := 0xffffffff, half := 2 }, -- PCIE_HW_BASE_HI (R438)
    { base := 0x6800010, dims := [], rst := 0x0, w1s := 0xffffffff, quiet := true }, -- PCIE_HDB (R438)
    { base := 0x6800014, dims := [], rst := 0x0, w1c := 0xffffffff }, -- PCIE_HDB_PEND (R438)
    { base := 0x6800018, dims := [], rst := 0x0, rw := 0x3f }, -- PCIE_HDB_CFG (R438)
    { base := 0x6800020, dims := [], rst := 0x0, w1s := 0xfffffffe, quiet := true }, -- PCIE_MSIX_RAISE (R438)
    { base := 0x6800100, dims := [(7, 0x4)], rst := 0x0, cnt := 0xffffffff }, -- PCIE_CNTk (R438)
    { base := 0x6810000, dims := [(64, 0x10), (3, 0x4)], rst := 0x0, rw := 0xffffffff }, -- MSI-X table: message address and data words (R431)
    { base := 0x681000c, dims := [(64, 0x10)], rst := 0x1, rw := 0x1 }, -- MSI-X table: vector control (R431)
    { base := 0x6810800, dims := [(2, 0x4)], rst := 0x0 } ] -- MSI-X PBA (R431)

/-- Registers of block ETH (R479). -/
def rowsEth : List RegRow :=
  [ { base := 0x7001000, dims := [(2, 0x100000), (4, 0x100)], rst := 0x0 }, -- IF_STATUS (ETHn) (R479)
    { base := 0x7001004, dims := [(2, 0x100000), (4, 0x100)], rst := 0x5dc0001, rw := 0x3fff0007 }, -- IF_CFG (ETHn) (R479)
    { base := 0x7001008, dims := [(2, 0x100000), (4, 0x100)], rst := 0x0, half := 1 }, -- IF_MAC_LO (ETHn) (R479)
    { base := 0x700100c, dims := [(2, 0x100000), (4, 0x100)], rst := 0x0, half := 2 }, -- IF_MAC_HI (ETHn) (R479)
    { base := 0x7001040, dims := [(2, 0x100000), (4, 0x100), (8, 0x4)], rst := 0x0, cnt := 0xffffffff } ] -- IF_CNTk (ETHn) (R479)

/-- Registers of block MGMT (R479). -/
def rowsMgmt : List RegRow :=
  [ { base := 0x7201000, dims := [(1, 0x100)], rst := 0x0 }, -- IF_STATUS (MGMT) (R479)
    { base := 0x7201004, dims := [(1, 0x100)], rst := 0x5dc0001, rw := 0x3fff0007 }, -- IF_CFG (MGMT) (R479)
    { base := 0x7201008, dims := [(1, 0x100)], rst := 0x0, half := 1 }, -- IF_MAC_LO (MGMT) (R479)
    { base := 0x720100c, dims := [(1, 0x100)], rst := 0x0, half := 2 }, -- IF_MAC_HI (MGMT) (R479)
    { base := 0x7201040, dims := [(1, 0x100), (8, 0x4)], rst := 0x0, cnt := 0xffffffff } ] -- IF_CNTk (MGMT) (R479)

/-- Registers of block PTP (R480). -/
def rowsPtp : List RegRow :=
  [ { base := 0x7300000, dims := [], rst := 0x0 }, -- PTP_STATUS (R480)
    { base := 0x7300004, dims := [], rst := 0x1a, rw := 0x1f }, -- PTP_CFG (R480)
    { base := 0x7300008, dims := [], rst := 0x3e80064, rw := 0xffffffff }, -- PTP_THR (R480)
    { base := 0x730000c, dims := [], rst := 0x0, rw := 0xffffffff }, -- PTP_ADJ (R480)
    { base := 0x7300010, dims := [], rst := 0x0 }, -- PTP_OFFSET (R480)
    { base := 0x7300014, dims := [], rst := 0x0 }, -- PTP_MPD (R480)
    { base := 0x7300020, dims := [], rst := 0x0, half := 1 }, -- PTP_TIME_LO (R480)
    { base := 0x7300024, dims := [], rst := 0x0, half := 2 }, -- PTP_TIME_HI (R480)
    { base := 0x7300028, dims := [], rst := 0x0, rw := 0xffffffff, half := 1 }, -- PTP_STEP_LO (R480)
    { base := 0x730002c, dims := [], rst := 0x0, rw := 0xffffffff, half := 2 }, -- PTP_STEP_HI (R480)
    { base := 0x7300030, dims := [], rst := 0x0, half := 1 }, -- PTP_PAIR_AON_LO (R480)
    { base := 0x7300034, dims := [], rst := 0x0, half := 2 }, -- PTP_PAIR_AON_HI (R480)
    { base := 0x7300038, dims := [], rst := 0x0, half := 1 }, -- PTP_PAIR_DTIME_LO (R480)
    { base := 0x730003c, dims := [], rst := 0x0, half := 2 }, -- PTP_PAIR_DTIME_HI (R480)
    { base := 0x7300040, dims := [], rst := 0x0 }, -- PTP_PAIR_SEQ (R480)
    { base := 0x7300100, dims := [(4, 0x4)], rst := 0x0, cnt := 0xffffffff } ] -- PTP_CNTk (R480)

/-- Registers of block CTP (R481). -/
def rowsCtp : List RegRow :=
  [ { base := 0x7400000, dims := [], rst := 0xa0000, rw := 0xffff00ff }, -- CTP_CFG (R481)
    { base := 0x7400008, dims := [], rst := 0x0, rw := 0xffffffff, half := 1 }, -- CTP_TXQ_BASE_LO (R481)
    { base := 0x740000c, dims := [], rst := 0x0, rw := 0xffff, half := 2 }, -- CTP_TXQ_BASE_HI (R481)
    { base := 0x7400010, dims := [], rst := 0x0, rw := 0xffffffff, half := 1 }, -- CTP_RXQ_BASE_LO (R481)
    { base := 0x7400014, dims := [], rst := 0x0, rw := 0xffff, half := 2 }, -- CTP_RXQ_BASE_HI (R481)
    { base := 0x7400018, dims := [], rst := 0x6, rw := 0xf }, -- CTP_TXQ_SIZE (R481)
    { base := 0x740001c, dims := [], rst := 0xe6, rw := 0xff }, -- CTP_RXQ_CFG (R481)
    { base := 0x7400020, dims := [], rst := 0x0, rw := 0xffffffff, quiet := true }, -- CTP_TXQ_PROD (R481)
    { base := 0x7400024, dims := [], rst := 0x0, quiet := true }, -- CTP_TXQ_CONS (R481)
    { base := 0x7400028, dims := [], rst := 0x0, quiet := true }, -- CTP_RXQ_PROD (R481)
    { base := 0x740002c, dims := [], rst := 0x0, rw := 0xffffffff, quiet := true }, -- CTP_RXQ_CONS (R481)
    { base := 0x7400040, dims := [(16, 0x4)], rst := 0x0, cnt := 0xffffffff }, -- CTP_CNTk (R481)
    { base := 0x7400100, dims := [(8, 0x20)], rst := 0x0, rw := 0xffff00f7 }, -- CTP_DEST_CFG (R481)
    { base := 0x7400104, dims := [(8, 0x20), (4, 0x4)], rst := 0x0, rw := 0xffffffff }, -- CTP_DEST_IPj (R481)
    { base := 0x7400114, dims := [(8, 0x20)], rst := 0x0, rw := 0xffffffff }, -- CTP_DEST_MAC_LO (R481)
    { base := 0x7400118, dims := [(8, 0x20)], rst := 0x0, rw := 0xffffffff } ] -- CTP_DEST_MAC_HI (R481)

/-- Registers of block CHECK (R482). -/
def rowsCheck : List RegRow :=
  [ { base := 0x7501000, dims := [(4, 0x100)], rst := 0xe0, rw := 0x1fff }, -- CU_CFG (R482)
    { base := 0x7501004, dims := [(4, 0x100)], rst := 0x1edc6f41, rw := 0xffffffff }, -- CU_POLY (R482)
    { base := 0x7501008, dims := [(4, 0x100)], rst := 0xffffffff, rw := 0xffffffff }, -- CU_INIT (R482)
    { base := 0x750100c, dims := [(4, 0x100)], rst := 0xffffffff, rw := 0xffffffff }, -- CU_XOROUT (R482)
    { base := 0x7501040, dims := [(4, 0x100), (16, 0x8)], rst := 0x0, rw := 0x1ffff, rwh := 0x20000 }, -- CU_ENT_IDe (R482)
    { base := 0x7501044, dims := [(4, 0x100), (16, 0x8)], rst := 0x0, rwh := 0xffffffff }, -- CU_ENT_ALIVEe (R482)
    { base := 0x75010c0, dims := [(4, 0x100), (7, 0x4)], rst := 0x0, cnt := 0xffffffff } ] -- CU_CNTk (R482)

/-- Registers of block GROUP (R483). -/
def rowsGroup : List RegRow :=
  [ { base := 0x7600000, dims := [], rst := 0x0 }, -- GRP_STATUS (R483)
    { base := 0x7600004, dims := [], rst := 0x0, w1s := 0x3 }, -- GRP_CTRL (R483)
    { base := 0x7600008, dims := [], rst := 0x0, half := 1 }, -- GRP_WAKE_T_LO (R483)
    { base := 0x760000c, dims := [], rst := 0x0, half := 2 }, -- GRP_WAKE_T_HI (R483)
    { base := 0x7600040, dims := [(8, 0x4)], rst := 0x0 }, -- GRP_OFFSETm (R483)
    { base := 0x7600100, dims := [(5, 0x4)], rst := 0x0, cnt := 0xffffffff } ] -- GRP_CNTk (R483)

/-- The rows of the block at a block index (R60); blocks of the same layout share their rows. -/
def blockRows (i : Nat) : List RegRow :=
  match i with
  | 0 => rowsDev
  | 1 => rowsBoot
  | 2 => rowsJournal
  | 3 => rowsDebug
  | 4 => rowsFault
  | 5 => rowsPower
  | 8 => rowsKeeper
  | 9 => rowsFlash
  | 10 => rowsPrec
  | 16 => rowsVport
  | 17 => rowsVport
  | 18 => rowsVport
  | 19 => rowsVport
  | 20 => rowsVport
  | 21 => rowsVport
  | 22 => rowsVport
  | 23 => rowsVport
  | 24 => rowsPipe
  | 25 => rowsPipe
  | 26 => rowsCtx
  | 27 => rowsMeas
  | 32 => rowsSector
  | 40 => rowsLens
  | 41 => rowsQout
  | 48 => rowsSpad
  | 56 => rowsLcl
  | 64 => rowsLcore
  | 65 => rowsLcore
  | 66 => rowsLcore
  | 67 => rowsLcore
  | 68 => rowsLcore
  | 69 => rowsLcore
  | 70 => rowsLcore
  | 71 => rowsLcore
  | 72 => rowsLcore
  | 73 => rowsLcore
  | 74 => rowsLcore
  | 75 => rowsLcore
  | 76 => rowsLcore
  | 77 => rowsLcore
  | 78 => rowsLcore
  | 79 => rowsLcore
  | 80 => rowsLcore
  | 81 => rowsLcore
  | 88 => rowsDma
  | 89 => rowsRegul
  | 96 => rowsDdr
  | 104 => rowsPcie
  | 112 => rowsEth
  | 113 => rowsEth
  | 114 => rowsMgmt
  | 115 => rowsPtp
  | 116 => rowsCtp
  | 117 => rowsCheck
  | 118 => rowsGroup
  | _ => []

/-- The instance indices at distance `d` from an array's first instance, if one lies there. -/
def dimIdx : List (Nat × Nat) → Nat → Option (List Nat)
  | [], d => if d = 0 then some [] else none
  | (n, s) :: t, d =>
    if d / s < n then (dimIdx t (d % s)).map (fun l => d / s :: l) else none

/-- Does the row have an instance at this register offset? Answers the instance's indices. -/
def RegRow.at (r : RegRow) (off : Nat) : Option (List Nat) :=
  if r.base ≤ off then dimIdx r.dims (off - r.base) else none

/-- The row, and the instance's indices, at an offset among the rows given. -/
def findRow : List RegRow → Nat → Option (RegRow × List Nat)
  | [], _ => none
  | r :: t, off =>
    match r.at off with
    | some ix => some (r, ix)
    | none => findRow t off

/-- The register at a register-region offset, if one is assigned there (R61). -/
def regAt (off : Nat) : Option (RegRow × List Nat) := findRow (blockRows (off / 0x100000)) off

end Sys2Proof.Machine
end

