-- ==== Sys2Proof/Machine/RegNames.lean ====
section
/-! DEFINITION. The registers' offsets in the register region by the names the spec's register tables give them
(arrays take their instance indices, outermost first). The rows of the register map hold the same offsets. -/

namespace Sys2Proof.Machine

/-- DEV_ID (R72). -/
def rDEV_ID : Nat := 0x0
/-- DEV_SERIAL_LO (R72). -/
def rDEV_SERIAL_LO : Nat := 0x8
/-- DEV_SERIAL_HI (R72). -/
def rDEV_SERIAL_HI : Nat := 0xc
/-- DEV_STATE (R72). -/
def rDEV_STATE : Nat := 0x10
/-- DEV_CAP0 (R72). -/
def rDEV_CAP0 : Nat := 0x20
/-- DEV_CAP1 (R72). -/
def rDEV_CAP1 : Nat := 0x24
/-- DEV_CAP2 (R72). -/
def rDEV_CAP2 : Nat := 0x28
/-- DEV_BANK_WM (R72). -/
def rDEV_BANK_WM : Nat := 0x30
/-- DEV_BANK_PS (R72). -/
def rDEV_BANK_PS : Nat := 0x34
/-- DEV_BANK_AM_LO (R72). -/
def rDEV_BANK_AM_LO : Nat := 0x38
/-- DEV_BANK_AM_HI (R72). -/
def rDEV_BANK_AM_HI : Nat := 0x3c
/-- DEV_WR_IGNORED (R72). -/
def rDEV_WR_IGNORED : Nat := 0x40
/-- BOOT_STATUS (R59). -/
def rBOOT_STATUS : Nat := 0x100000
/-- IMG_SEQ (R59). -/
def rIMG_SEQ : Nat := 0x100004
/-- IMG_DIGESTk (R59). -/
def rIMG_DIGEST (a : Nat) : Nat := 0x100008 + a * 0x4
/-- STAGE_ADDR_LO (R59). -/
def rSTAGE_ADDR_LO : Nat := 0x100030
/-- STAGE_ADDR_HI (R59). -/
def rSTAGE_ADDR_HI : Nat := 0x100034
/-- STAGE_LEN (R59). -/
def rSTAGE_LEN : Nat := 0x100038
/-- QUIESCE_CTRL (R59). -/
def rQUIESCE_CTRL : Nat := 0x100040
/-- QUIESCE_STATUS (R59). -/
def rQUIESCE_STATUS : Nat := 0x100044
/-- PCIE_BOOT (R59). -/
def rPCIE_BOOT : Nat := 0x100048
/-- QUIESCE_MISSED (R59). -/
def rQUIESCE_MISSED : Nat := 0x10004c
/-- JNL_NEXT_SEQ (R77). -/
def rJNL_NEXT_SEQ : Nat := 0x200000
/-- JNL_FIRST_SEQ (R77). -/
def rJNL_FIRST_SEQ : Nat := 0x200004
/-- JNL_ENTRY (ring words) (R75). -/
def rJNL_WORD (a : Nat) : Nat := 0x220000 + a * 0x4
/-- DBG_PEEK_ADDR (R73). -/
def rDBG_PEEK_ADDR : Nat := 0x300000
/-- DBG_PEEK_DATA (R73). -/
def rDBG_PEEK_DATA : Nat := 0x300004
/-- DBG_PEEK_STATUS (R73). -/
def rDBG_PEEK_STATUS : Nat := 0x300008
/-- FLT_EVT_NEXT (R507). -/
def rFLT_EVT_NEXT : Nat := 0x400000
/-- FLT_HEARTBEAT (R507). -/
def rFLT_HEARTBEAT : Nat := 0x400004
/-- FLT_FATAL_NEXT (R507). -/
def rFLT_FATAL_NEXT : Nat := 0x40000c
/-- FLT_HELD_LOST (R507). -/
def rFLT_HELD_LOST : Nat := 0x400010
/-- FLT_DOMd (R507). -/
def rFLT_DOM (a : Nat) : Nat := 0x400020 + a * 0x4
/-- FLT_OOS_CLEAR_LO (R507). -/
def rFLT_OOS_CLEAR_LO : Nat := 0x400040
/-- FLT_OOS_CLEAR_HI (R507). -/
def rFLT_OOS_CLEAR_HI : Nat := 0x400044
/-- FLT_OOS_STATUS (R507). -/
def rFLT_OOS_STATUS : Nat := 0x400048
/-- FLT_REPAIR_ENTRYk (R507). -/
def rFLT_REPAIR_ENTRY (a : Nat) : Nat := 0x400050 + a * 0x4
/-- FLT_REPAIR_CTRL (R507). -/
def rFLT_REPAIR_CTRL : Nat := 0x400060
/-- FLT_CNTk (R507). -/
def rFLT_CNT (a : Nat) : Nat := 0x400100 + a * 0x4
/-- FLT_EVT_CFGe (R507). -/
def rFLT_EVT_CFG (a : Nat) : Nat := 0x401000 + a * 0x4
/-- FLT_EVT_CNTe (R507). -/
def rFLT_EVT_CNT (a : Nat) : Nat := 0x401400 + a * 0x4
/-- event ring words (R487). -/
def rFLT_EVT_WORD (a : Nat) : Nat := 0x420000 + a * 0x4
/-- fatal history words (R489). -/
def rFLT_FATAL_WORD (a : Nat) : Nat := 0x430000 + a * 0x4
/-- PWR_STATUS (R528). -/
def rPWR_STATUS : Nat := 0x500000
/-- PWR_CTRL (R528). -/
def rPWR_CTRL : Nat := 0x500004
/-- PWR_PLAN (R528). -/
def rPWR_PLAN : Nat := 0x500008
/-- PWR_THERM (R528). -/
def rPWR_THERM : Nat := 0x50000c
/-- PWR_TJ_MAX (R528). -/
def rPWR_TJ_MAX : Nat := 0x500010
/-- PWR_SUPPLY (R528). -/
def rPWR_SUPPLY : Nat := 0x500014
/-- PWR_PLL (R528). -/
def rPWR_PLL : Nat := 0x500018
/-- PWR_CNTk (R528). -/
def rPWR_CNT (a : Nat) : Nat := 0x500100 + a * 0x4
/-- AON_TIME_LO (R81). -/
def rAON_TIME_LO : Nat := 0x800010
/-- AON_TIME_HI (R81). -/
def rAON_TIME_HI : Nat := 0x800014
/-- KPR_EVT_NEXT (R88). -/
def rKPR_EVT_NEXT : Nat := 0x800020
/-- KPR_EXPOSE (R87). -/
def rKPR_EXPOSE : Nat := 0x800030
/-- WAKE_CTRL (R93). -/
def rWAKE_CTRL : Nat := 0x800040
/-- ENCn_POS (R82). -/
def rENC_POS (a : Nat) : Nat := 0x800100 + a * 0x20
/-- ENCn_CFG (R82). -/
def rENC_CFG (a : Nat) : Nat := 0x800104 + a * 0x20
/-- ENCn_ERRCNT (R82). -/
def rENC_ERRCNT (a : Nat) : Nat := 0x800108 + a * 0x20
/-- CURTn_CFG (R83). -/
def rCURT_CFG (a : Nat) : Nat := 0x800200 + a * 0x4
/-- CURT_STATE (R83). -/
def rCURT_STATE : Nat := 0x800220
/-- WINw_CFG (R87). -/
def rWIN_CFG (a : Nat) : Nat := 0x800300 + a * 0x20
/-- WINw_MIN_GAP (R87). -/
def rWIN_MIN_GAP (a : Nat) : Nat := 0x800304 + a * 0x20
/-- WINw_MAX_LEN (R87). -/
def rWIN_MAX_LEN (a : Nat) : Nat := 0x800308 + a * 0x20
/-- WINw_STATE (R87). -/
def rWIN_STATE (a : Nat) : Nat := 0x80030c + a * 0x20
/-- TRIGt_CFG (R91). -/
def rTRIG_CFG (a : Nat) : Nat := 0x800400 + a * 0x20
/-- TRIGt_DIV (R91). -/
def rTRIG_DIV (a : Nat) : Nat := 0x800404 + a * 0x20
/-- TRIGt_START (R91). -/
def rTRIG_START (a : Nat) : Nat := 0x800408 + a * 0x20
/-- TRIGt_STOP (R91). -/
def rTRIG_STOP (a : Nat) : Nat := 0x80040c + a * 0x20
/-- TRIGt_MINPER (R91). -/
def rTRIG_MINPER (a : Nat) : Nat := 0x800410 + a * 0x20
/-- TRIGt_DROPPED (R91). -/
def rTRIG_DROPPED (a : Nat) : Nat := 0x800414 + a * 0x20
/-- GPIO_IN (R94). -/
def rGPIO_IN : Nat := 0x800600
/-- GPIO_OUT (R94). -/
def rGPIO_OUT : Nat := 0x800604
/-- GPIO_OE (R94). -/
def rGPIO_OE : Nat := 0x800608
/-- Keeper event ring words (R88). -/
def rKPR_EVT_WORD (a : Nat) : Nat := 0x810000 + a * 0x4
/-- FLASH_ADDR (R95). -/
def rFLASH_ADDR : Nat := 0x900000
/-- FLASH_CMD (R95). -/
def rFLASH_CMD : Nat := 0x900004
/-- FLASH buffer words (R95). -/
def rFLASH_BUF (a : Nat) : Nat := 0x901000 + a * 0x4
/-- PREC_CTRL (R99). -/
def rPREC_CTRL : Nat := 0xa00000
/-- PREC_STATUS (R99). -/
def rPREC_STATUS : Nat := 0xa00004
/-- PREC_WRITES (R99). -/
def rPREC_WRITES : Nat := 0xa00008
/-- RWIN_Dd (R100). -/
def rRWIN_D (a : Nat) : Nat := 0xa00100 + a * 0x4
/-- VP_CFG (R120). -/
def rVP_CFG (a : Nat) : Nat := 0x1000000 + a * 0x100000
/-- VP_SIZE (R120). -/
def rVP_SIZE (a : Nat) : Nat := 0x1000004 + a * 0x100000
/-- VP_LINE (R120). -/
def rVP_LINE (a : Nat) : Nat := 0x1000008 + a * 0x100000
/-- VP_SHADOW_CTRL (R120). -/
def rVP_SHADOW_CTRL (a : Nat) : Nat := 0x10000fc + a * 0x100000
/-- VP_ADMIT (R120). -/
def rVP_ADMIT (a : Nat) : Nat := 0x1000100 + a * 0x100000
/-- VP_STATUS (R120). -/
def rVP_STATUS (a : Nat) : Nat := 0x1000104 + a * 0x100000
/-- VP_FR_NEXT (R120). -/
def rVP_FR_NEXT (a : Nat) : Nat := 0x1000108 + a * 0x100000
/-- VP_FIFO_HWM (R120). -/
def rVP_FIFO_HWM (a : Nat) : Nat := 0x100010c + a * 0x100000
/-- VP_AUX_TIME_LO (R120). -/
def rVP_AUX_TIME_LO (a : Nat) : Nat := 0x1000110 + a * 0x100000
/-- VP_AUX_TIME_HI (R120). -/
def rVP_AUX_TIME_HI (a : Nat) : Nat := 0x1000114 + a * 0x100000
/-- VP_AUX_COUNT (R120). -/
def rVP_AUX_COUNT (a : Nat) : Nat := 0x1000118 + a * 0x100000
/-- VP_RAW_BASE_LO (R120). -/
def rVP_RAW_BASE_LO (a : Nat) : Nat := 0x1000120 + a * 0x100000
/-- VP_RAW_BASE_HI (R120). -/
def rVP_RAW_BASE_HI (a : Nat) : Nat := 0x1000124 + a * 0x100000
/-- VP_RAW_CFG (R120). -/
def rVP_RAW_CFG (a : Nat) : Nat := 0x1000128 + a * 0x100000
/-- VP_RAW_BYTES_LO (R120). -/
def rVP_RAW_BYTES_LO (a : Nat) : Nat := 0x1000130 + a * 0x100000
/-- VP_RAW_BYTES_HI (R120). -/
def rVP_RAW_BYTES_HI (a : Nat) : Nat := 0x1000134 + a * 0x100000
/-- VP_CNTk (R120). -/
def rVP_CNT (a b : Nat) : Nat := 0x1000140 + a * 0x100000 + b * 0x4
/-- VP frame record words (R119). -/
def rVP_REC (a b : Nat) : Nat := 0x1010000 + a * 0x100000 + b * 0x4
/-- PIPE_STATUS (R156). -/
def rPIPE_STATUS (a : Nat) : Nat := 0x1800000 + a * 0x100000
/-- PIPE_STAGE (R156). -/
def rPIPE_STAGE (a : Nat) : Nat := 0x1800004 + a * 0x100000
/-- PIPE_STAGE_HWM (R156). -/
def rPIPE_STAGE_HWM (a : Nat) : Nat := 0x1800008 + a * 0x100000
/-- PIPE_BUSY (R156). -/
def rPIPE_BUSY (a : Nat) : Nat := 0x180000c + a * 0x100000
/-- CTX_CFG (R157). -/
def rCTX_CFG (a : Nat) : Nat := 0x1a00000 + a * 0x10000
/-- CTX_BYPASS (R157). -/
def rCTX_BYPASS (a : Nat) : Nat := 0x1a00004 + a * 0x10000
/-- CTX_BLACK01 (R157). -/
def rCTX_BLACK01 (a : Nat) : Nat := 0x1a00008 + a * 0x10000
/-- CTX_BLACK23 (R157). -/
def rCTX_BLACK23 (a : Nat) : Nat := 0x1a0000c + a * 0x10000
/-- CTX_BLNORM (R157). -/
def rCTX_BLNORM (a : Nat) : Nat := 0x1a00010 + a * 0x10000
/-- CTX_DPC (R157). -/
def rCTX_DPC (a : Nat) : Nat := 0x1a00014 + a * 0x10000
/-- CTX_DPC_LIST_LO (R157). -/
def rCTX_DPC_LIST_LO (a : Nat) : Nat := 0x1a00018 + a * 0x10000
/-- CTX_DPC_LIST_HI (R157). -/
def rCTX_DPC_LIST_HI (a : Nat) : Nat := 0x1a0001c + a * 0x10000
/-- CTX_SNR (R157). -/
def rCTX_SNR (a : Nat) : Nat := 0x1a00020 + a * 0x10000
/-- CTX_SNR_THRk (k=0..7) (R157). -/
def rCTX_SNR_THR (a b : Nat) : Nat := 0x1a00024 + a * 0x10000 + b * 0x4
/-- CTX_SNR_THR8 (R157). -/
def rCTX_SNR_THR8 (a : Nat) : Nat := 0x1a00044 + a * 0x10000
/-- CTX_TNR (R157). -/
def rCTX_TNR (a : Nat) : Nat := 0x1a00048 + a * 0x10000
/-- CTX_TNR_MOT (R157). -/
def rCTX_TNR_MOT (a : Nat) : Nat := 0x1a0004c + a * 0x10000
/-- CTX_TNR_REF_LO (R157). -/
def rCTX_TNR_REF_LO (a : Nat) : Nat := 0x1a00050 + a * 0x10000
/-- CTX_TNR_REF_HI (R157). -/
def rCTX_TNR_REF_HI (a : Nat) : Nat := 0x1a00054 + a * 0x10000
/-- CTX_WB01 (R157). -/
def rCTX_WB01 (a : Nat) : Nat := 0x1a00058 + a * 0x10000
/-- CTX_WB23 (R157). -/
def rCTX_WB23 (a : Nat) : Nat := 0x1a0005c + a * 0x10000
/-- CTX_CCM0 (R157). -/
def rCTX_CCM0 (a : Nat) : Nat := 0x1a00060 + a * 0x10000
/-- CTX_CCM1 (R157). -/
def rCTX_CCM1 (a : Nat) : Nat := 0x1a00064 + a * 0x10000
/-- CTX_CCM2 (R157). -/
def rCTX_CCM2 (a : Nat) : Nat := 0x1a00068 + a * 0x10000
/-- CTX_CCM3 (R157). -/
def rCTX_CCM3 (a : Nat) : Nat := 0x1a0006c + a * 0x10000
/-- CTX_CCM4 (R157). -/
def rCTX_CCM4 (a : Nat) : Nat := 0x1a00070 + a * 0x10000
/-- CTX_CSC_M0 (R157). -/
def rCTX_CSC_M0 (a : Nat) : Nat := 0x1a00084 + a * 0x10000
/-- CTX_CSC_M1 (R157). -/
def rCTX_CSC_M1 (a : Nat) : Nat := 0x1a00088 + a * 0x10000
/-- CTX_CSC_M2 (R157). -/
def rCTX_CSC_M2 (a : Nat) : Nat := 0x1a0008c + a * 0x10000
/-- CTX_CSC_M3 (R157). -/
def rCTX_CSC_M3 (a : Nat) : Nat := 0x1a00090 + a * 0x10000
/-- CTX_CSC_M4 (R157). -/
def rCTX_CSC_M4 (a : Nat) : Nat := 0x1a00094 + a * 0x10000
/-- CTX_CCM_OFF01 (R157). -/
def rCTX_CCM_OFF01 (a : Nat) : Nat := 0x1a00074 + a * 0x10000
/-- CTX_CCM_OFF2 (R157). -/
def rCTX_CCM_OFF2 (a : Nat) : Nat := 0x1a00078 + a * 0x10000
/-- CTX_TONE (R157). -/
def rCTX_TONE (a : Nat) : Nat := 0x1a0007c + a * 0x10000
/-- CTX_CSC (R157). -/
def rCTX_CSC (a : Nat) : Nat := 0x1a00080 + a * 0x10000
/-- CTX_SPLICE (R157). -/
def rCTX_SPLICE (a : Nat) : Nat := 0x1a00098 + a * 0x10000
/-- CTX_DMS (R157). -/
def rCTX_DMS (a : Nat) : Nat := 0x1a000fc + a * 0x10000
/-- CTX_OUTo_CFG (R157). -/
def rCTX_OUT_CFG (a b : Nat) : Nat := 0x1a000a0 + a * 0x10000 + b * 0x10
/-- CTX_OUTo_BASE_LO (R157). -/
def rCTX_OUT_BASE_LO (a b : Nat) : Nat := 0x1a000a8 + a * 0x10000 + b * 0x10
/-- CTX_OUTo_BASE_HI (R157). -/
def rCTX_OUT_BASE_HI (a b : Nat) : Nat := 0x1a000ac + a * 0x10000 + b * 0x10
/-- CTX_DISP_SCALE (R157). -/
def rCTX_DISP_SCALE (a : Nat) : Nat := 0x1a000e0 + a * 0x10000
/-- CTX_BAND (R157). -/
def rCTX_BAND (a : Nat) : Nat := 0x1a000e4 + a * 0x10000
/-- CTX_BAND_BASE (R157). -/
def rCTX_BAND_BASE (a : Nat) : Nat := 0x1a000e8 + a * 0x10000
/-- CTX_BAND_SEM (R157). -/
def rCTX_BAND_SEM (a : Nat) : Nat := 0x1a000ec + a * 0x10000
/-- CTX_M2M_SRC_LO (R157). -/
def rCTX_M2M_SRC_LO (a : Nat) : Nat := 0x1a000f0 + a * 0x10000
/-- CTX_M2M_SRC_HI (R157). -/
def rCTX_M2M_SRC_HI (a : Nat) : Nat := 0x1a000f4 + a * 0x10000
/-- CTX_M2M_SIZE (R157). -/
def rCTX_M2M_SIZE (a : Nat) : Nat := 0x1a000f8 + a * 0x10000
/-- CTX_SHADOW_CTRL (R157). -/
def rCTX_SHADOW_CTRL (a : Nat) : Nat := 0x1a00f00 + a * 0x10000
/-- CTX_STATUS (R157). -/
def rCTX_STATUS (a : Nat) : Nat := 0x1a00f04 + a * 0x10000
/-- CTX_FR_NEXT (R157). -/
def rCTX_FR_NEXT (a : Nat) : Nat := 0x1a00f08 + a * 0x10000
/-- CTX_M2M_GO (R157). -/
def rCTX_M2M_GO (a : Nat) : Nat := 0x1a00f0c + a * 0x10000
/-- CTX_OUTo_RELEASE_LO (R157). -/
def rCTX_OUT_RELEASE_LO (a b : Nat) : Nat := 0x1a00f10 + a * 0x10000 + b * 0x8
/-- CTX_OUTo_RELEASE_HI (R157). -/
def rCTX_OUT_RELEASE_HI (a b : Nat) : Nat := 0x1a00f14 + a * 0x10000 + b * 0x8
/-- CTX_OUTo_WRITTEN_LO (R157). -/
def rCTX_OUT_WRITTEN_LO (a b : Nat) : Nat := 0x1a00f30 + a * 0x10000 + b * 0x8
/-- CTX_OUTo_WRITTEN_HI (R157). -/
def rCTX_OUT_WRITTEN_HI (a b : Nat) : Nat := 0x1a00f34 + a * 0x10000 + b * 0x8
/-- CTX_CNTk (R157). -/
def rCTX_CNT (a b : Nat) : Nat := 0x1a00f50 + a * 0x10000 + b * 0x4
/-- shading table words (p, i<144) (R157). -/
def rCTX_SHADE (a b c : Nat) : Nat := 0x1a01000 + a * 0x10000 + b * 0x400 + c * 0x4
/-- shading table last word (R157). -/
def rCTX_SHADE_LAST (a b : Nat) : Nat := 0x1a01240 + a * 0x10000 + b * 0x400
/-- tone curve words (ch, i<512) (R157). -/
def rCTX_TONE_PT (a b c : Nat) : Nat := 0x1a02000 + a * 0x10000 + b * 0x1000 + c * 0x4
/-- tone curve last word (R157). -/
def rCTX_TONE_LAST (a b : Nat) : Nat := 0x1a02800 + a * 0x10000 + b * 0x1000
/-- CTX frame record words (R157). -/
def rCTX_REC (a b : Nat) : Nat := 0x1a07000 + a * 0x10000 + b * 0x4
/-- STAT_CFG (R172). -/
def rSTAT_CFG (a : Nat) : Nat := 0x1b00000 + a * 0x10000
/-- STAT_ZONE (R172). -/
def rSTAT_ZONE (a : Nat) : Nat := 0x1b00004 + a * 0x10000
/-- STAT_ORIGIN (R172). -/
def rSTAT_ORIGIN (a : Nat) : Nat := 0x1b00008 + a * 0x10000
/-- STAT_SLOTS (R172). -/
def rSTAT_SLOTS (a : Nat) : Nat := 0x1b0000c + a * 0x10000
/-- STAT_BASE_LO (R172). -/
def rSTAT_BASE_LO (a : Nat) : Nat := 0x1b00010 + a * 0x10000
/-- STAT_BASE_HI (R172). -/
def rSTAT_BASE_HI (a : Nat) : Nat := 0x1b00014 + a * 0x10000
/-- PX_CFG (R172). -/
def rPX_CFG (a : Nat) : Nat := 0x1b00020 + a * 0x10000
/-- PX_THR (R172). -/
def rPX_THR (a : Nat) : Nat := 0x1b00024 + a * 0x10000
/-- PX_CAL (R172). -/
def rPX_CAL (a : Nat) : Nat := 0x1b00028 + a * 0x10000
/-- PX_RING (R172). -/
def rPX_RING (a : Nat) : Nat := 0x1b0002c + a * 0x10000
/-- PX_BASE_LO (R172). -/
def rPX_BASE_LO (a : Nat) : Nat := 0x1b00030 + a * 0x10000
/-- PX_BASE_HI (R172). -/
def rPX_BASE_HI (a : Nat) : Nat := 0x1b00034 + a * 0x10000
/-- PX_SEM (R172). -/
def rPX_SEM (a : Nat) : Nat := 0x1b00038 + a * 0x10000
/-- MEAS_SHADOW_CTRL (R172). -/
def rMEAS_SHADOW_CTRL (a : Nat) : Nat := 0x1b000fc + a * 0x10000
/-- MEAS_STATUS (R172). -/
def rMEAS_STATUS (a : Nat) : Nat := 0x1b00f00 + a * 0x10000
/-- STAT_NEXT (R172). -/
def rSTAT_NEXT (a : Nat) : Nat := 0x1b00f04 + a * 0x10000
/-- PX_NEXT (R172). -/
def rPX_NEXT (a : Nat) : Nat := 0x1b00f08 + a * 0x10000
/-- PX_CAL_CTRL (R172). -/
def rPX_CAL_CTRL (a : Nat) : Nat := 0x1b00f0c + a * 0x10000
/-- MEAS_CNTk (R172). -/
def rMEAS_CNT (a b : Nat) : Nat := 0x1b00f40 + a * 0x10000 + b * 0x4
/-- CAL_REC words (R172). -/
def rCAL_REC (a b : Nat) : Nat := 0x1b01000 + a * 0x10000 + b * 0x4
/-- Z(c) (R172). -/
def rMEAS_Z (a b : Nat) : Nat := 0x1b04000 + a * 0x10000 + b * 0x4
/-- SEC_STATUS (R209). -/
def rSEC_STATUS : Nat := 0x2000000
/-- SC_STATUS (R209). -/
def rSC_STATUS (a : Nat) : Nat := 0x2010000 + a * 0x1000
/-- SC_PROG_CTRL (R209). -/
def rSC_PROG_CTRL (a : Nat) : Nat := 0x2010004 + a * 0x1000
/-- SC_LB_ACTIVE (R209). -/
def rSC_LB_ACTIVE (a : Nat) : Nat := 0x2010008 + a * 0x1000
/-- SC_LB_CHECKED (R209). -/
def rSC_LB_CHECKED (a : Nat) : Nat := 0x201000c + a * 0x1000
/-- SC_MJ_PUSH_LO (R209). -/
def rSC_MJ_PUSH_LO (a : Nat) : Nat := 0x2010010 + a * 0x1000
/-- SC_MJ_PUSH_HI (R209). -/
def rSC_MJ_PUSH_HI (a : Nat) : Nat := 0x2010014 + a * 0x1000
/-- SC_MJ_STATUS (R209). -/
def rSC_MJ_STATUS (a : Nat) : Nat := 0x2010018 + a * 0x1000
/-- SC_MJ_ERR_ADDR_LO (R209). -/
def rSC_MJ_ERR_ADDR_LO (a : Nat) : Nat := 0x2010020 + a * 0x1000
/-- SC_MJ_ERR_ADDR_HI (R209). -/
def rSC_MJ_ERR_ADDR_HI (a : Nat) : Nat := 0x2010024 + a * 0x1000
/-- SC_CNTk (R209). -/
def rSC_CNT (a b : Nat) : Nat := 0x2010100 + a * 0x1000 + b * 0x4
/-- SEC_CTX_MAP (R209). -/
def rSEC_CTX_MAP (a : Nat) : Nat := 0x2008000 + a * 0x40
/-- SEC_TEE_BASE (R209). -/
def rSEC_TEE_BASE (a : Nat) : Nat := 0x2008004 + a * 0x40
/-- SEC_TEE_ROW (R209). -/
def rSEC_TEE_ROW (a : Nat) : Nat := 0x2008008 + a * 0x40
/-- SEC_TEE_PLANE (R209). -/
def rSEC_TEE_PLANE (a : Nat) : Nat := 0x200800c + a * 0x40
/-- SEC_TEE_SEM (R209). -/
def rSEC_TEE_SEM (a : Nat) : Nat := 0x2008010 + a * 0x40
/-- bank window words (into the selected bank) (R200). -/
def rSC_BANK (a b : Nat) : Nat := 0x2040000 + a * 0x30000 + b * 0x4
/-- LENS_STATUS (R246). -/
def rLENS_STATUS : Nat := 0x2800000
/-- LENS_CTRL (R246). -/
def rLENS_CTRL : Nat := 0x2800004
/-- LENS_PUSH_LO (R246). -/
def rLENS_PUSH_LO : Nat := 0x2800010
/-- LENS_PUSH_HI (R246). -/
def rLENS_PUSH_HI : Nat := 0x2800014
/-- LENS_REFUSE (R246). -/
def rLENS_REFUSE : Nat := 0x2800018
/-- LENS_ERR_ADDR_LO (R246). -/
def rLENS_ERR_ADDR_LO : Nat := 0x2800020
/-- LENS_ERR_ADDR_HI (R246). -/
def rLENS_ERR_ADDR_HI : Nat := 0x2800024
/-- LENS_RESs_STATE (R246). -/
def rLENS_RES_STATE (a : Nat) : Nat := 0x2800100 + a * 0x10
/-- LENS_RESs_JOB (R246). -/
def rLENS_RES_JOB (a : Nat) : Nat := 0x2800104 + a * 0x10
/-- LENS_RESs_DONE (R246). -/
def rLENS_RES_DONE (a : Nat) : Nat := 0x2800108 + a * 0x10
/-- LENS_RESs_TOTAL (R246). -/
def rLENS_RES_TOTAL (a : Nat) : Nat := 0x280010c + a * 0x10
/-- LENS_CNTk (R246). -/
def rLENS_CNT (a : Nat) : Nat := 0x2800200 + a * 0x4
/-- QOUT_STATUS (R277). -/
def rQOUT_STATUS : Nat := 0x2900000
/-- QOUT_REFUSE (R277). -/
def rQOUT_REFUSE : Nat := 0x2900004
/-- QOUT_ERR_ADDR_LO (R277). -/
def rQOUT_ERR_ADDR_LO : Nat := 0x2900008
/-- QOUT_ERR_ADDR_HI (R277). -/
def rQOUT_ERR_ADDR_HI : Nat := 0x290000c
/-- QOUT_QTAB_UPDATES (R277). -/
def rQOUT_QTAB_UPDATES : Nat := 0x2900010
/-- QOUT_CNTk (R277). -/
def rQOUT_CNT (a : Nat) : Nat := 0x2900100 + a * 0x4
/-- QOUT staging words (R277). -/
def rQOUT_STAGE (a : Nat) : Nat := 0x2910000 + a * 0x4
/-- SP_STATUS (R306). -/
def rSP_STATUS : Nat := 0x3000000
/-- SP_FC_PUSH_LO (R306). -/
def rSP_FC_PUSH_LO : Nat := 0x3000010
/-- SP_FC_PUSH_HI (R306). -/
def rSP_FC_PUSH_HI : Nat := 0x3000014
/-- SP_FC_REFUSE (R306). -/
def rSP_FC_REFUSE : Nat := 0x3000018
/-- SP_FC_ERR_ADDR_LO (R306). -/
def rSP_FC_ERR_ADDR_LO : Nat := 0x3000020
/-- SP_FC_ERR_ADDR_HI (R306). -/
def rSP_FC_ERR_ADDR_HI : Nat := 0x3000024
/-- SP_ERR_ADDR_LO (R306). -/
def rSP_ERR_ADDR_LO : Nat := 0x3000030
/-- SP_ERR_ADDR_HI (R306). -/
def rSP_ERR_ADDR_HI : Nat := 0x3000034
/-- SP_ERR_INFO (R306). -/
def rSP_ERR_INFO : Nat := 0x3000038
/-- SP_CNTk (R306). -/
def rSP_CNT (a : Nat) : Nat := 0x3000100 + a * 0x4
/-- SP_OWNERi (R306). -/
def rSP_OWNER (a : Nat) : Nat := 0x3001000 + a * 0x4
/-- CRW_CFG (R306). -/
def rCRW_CFG (a : Nat) : Nat := 0x3002000 + a * 0x20
/-- CRW_BASE (R306). -/
def rCRW_BASE (a : Nat) : Nat := 0x3002004 + a * 0x20
/-- CRW_SIZE (R306). -/
def rCRW_SIZE (a : Nat) : Nat := 0x3002008 + a * 0x20
/-- CRW_CREDITS (R306). -/
def rCRW_CREDITS (a : Nat) : Nat := 0x300200c + a * 0x20
/-- CRW_GRANT (R306). -/
def rCRW_GRANT (a : Nat) : Nat := 0x3002010 + a * 0x20
/-- CRW_USED (R306). -/
def rCRW_USED (a : Nat) : Nat := 0x3002014 + a * 0x20
/-- CRW_REFUSED (R306). -/
def rCRW_REFUSED (a : Nat) : Nat := 0x3002018 + a * 0x20
/-- CRW_STATUS (R306). -/
def rCRW_STATUS (a : Nat) : Nat := 0x300201c + a * 0x20
/-- LCL_RUNNING (R337). -/
def rLCL_RUNNING : Nat := 0x3800000
/-- LCL_HALTED (R337). -/
def rLCL_HALTED : Nat := 0x3800004
/-- LCL_ROUTE0 (R338). -/
def rLCL_ROUTE0 : Nat := 0x3800010
/-- LCL_ROUTE1 (R338). -/
def rLCL_ROUTE1 : Nat := 0x3800014
/-- LC_CTRL (R336). -/
def rLC_CTRL (a : Nat) : Nat := 0x4000000 + a * 0x100000
/-- LC_STATUS (R336). -/
def rLC_STATUS (a : Nat) : Nat := 0x4000004 + a * 0x100000
/-- LC_PC (R336). -/
def rLC_PC (a : Nat) : Nat := 0x4000008 + a * 0x100000
/-- LC_PEND_LO (R336). -/
def rLC_PEND_LO (a : Nat) : Nat := 0x4000010 + a * 0x100000
/-- LC_PEND_HI (R336). -/
def rLC_PEND_HI (a : Nat) : Nat := 0x4000014 + a * 0x100000
/-- LC_RAISE_LO (R336). -/
def rLC_RAISE_LO (a : Nat) : Nat := 0x4000018 + a * 0x100000
/-- LC_RAISE_HI (R336). -/
def rLC_RAISE_HI (a : Nat) : Nat := 0x400001c + a * 0x100000
/-- LC_PRIOk (R336). -/
def rLC_PRIO (a b : Nat) : Nat := 0x4000020 + a * 0x100000 + b * 0x4
/-- LC_EXC (R336). -/
def rLC_EXC (a : Nat) : Nat := 0x4000040 + a * 0x100000
/-- LC_EXC_ADDR_LO (R336). -/
def rLC_EXC_ADDR_LO (a : Nat) : Nat := 0x4000048 + a * 0x100000
/-- LC_EXC_ADDR_HI (R336). -/
def rLC_EXC_ADDR_HI (a : Nat) : Nat := 0x400004c + a * 0x100000
/-- LC_CNTk (R336). -/
def rLC_CNT (a b : Nat) : Nat := 0x4000100 + a * 0x100000 + b * 0x4
/-- DMA_ACTIVE (R397). -/
def rDMA_ACTIVE : Nat := 0x5800000
/-- DMA_HALTED (R397). -/
def rDMA_HALTED : Nat := 0x5800004
/-- CH_CFG (R397). -/
def rCH_CFG (a : Nat) : Nat := 0x5801000 + a * 0x100
/-- CH_HEAD_LO (R397). -/
def rCH_HEAD_LO (a : Nat) : Nat := 0x5801008 + a * 0x100
/-- CH_HEAD_HI (R397). -/
def rCH_HEAD_HI (a : Nat) : Nat := 0x580100c + a * 0x100
/-- CH_DOORBELL (R397). -/
def rCH_DOORBELL (a : Nat) : Nat := 0x5801010 + a * 0x100
/-- CH_CMD (R397). -/
def rCH_CMD (a : Nat) : Nat := 0x5801014 + a * 0x100
/-- CH_STATUS (R397). -/
def rCH_STATUS (a : Nat) : Nat := 0x5801018 + a * 0x100
/-- CH_CUR_LO (R397). -/
def rCH_CUR_LO (a : Nat) : Nat := 0x5801020 + a * 0x100
/-- CH_CUR_HI (R397). -/
def rCH_CUR_HI (a : Nat) : Nat := 0x5801024 + a * 0x100
/-- CH_ERR_ADDR_LO (R397). -/
def rCH_ERR_ADDR_LO (a : Nat) : Nat := 0x5801028 + a * 0x100
/-- CH_ERR_ADDR_HI (R397). -/
def rCH_ERR_ADDR_HI (a : Nat) : Nat := 0x580102c + a * 0x100
/-- CH_BUFk_BASE_LO (R397). -/
def rCH_BUF_BASE_LO (a b : Nat) : Nat := 0x5801040 + a * 0x100 + b * 0x10
/-- CH_BUFk_BASE_HI (R397). -/
def rCH_BUF_BASE_HI (a b : Nat) : Nat := 0x5801044 + a * 0x100 + b * 0x10
/-- CH_BUFk_SIZE (R397). -/
def rCH_BUF_SIZE (a b : Nat) : Nat := 0x5801048 + a * 0x100 + b * 0x10
/-- CH_CNTk (R397). -/
def rCH_CNT (a b : Nat) : Nat := 0x5801080 + a * 0x100 + b * 0x4
/-- REGUL_AVAIL (R399). -/
def rREGUL_AVAIL : Nat := 0x5900000
/-- REGUL_STATUS (R399). -/
def rREGUL_STATUS : Nat := 0x5900004
/-- REGUL_RATEk (R399). -/
def rREGUL_RATE (a : Nat) : Nat := 0x5900010 + a * 0x4
/-- REGUL_TOKk (R399). -/
def rREGUL_TOK (a : Nat) : Nat := 0x5900020 + a * 0x4
/-- REGUL_CUTk (R399). -/
def rREGUL_CUT (a : Nat) : Nat := 0x5900030 + a * 0x4
/-- REGUL_BYTESk_LO (R399). -/
def rREGUL_BYTES_LO (a : Nat) : Nat := 0x5900040 + a * 0x8
/-- REGUL_BYTESk_HI (R399). -/
def rREGUL_BYTES_HI (a : Nat) : Nat := 0x5900044 + a * 0x8
/-- DDR_STATUS (R420). -/
def rDDR_STATUS : Nat := 0x6000000
/-- DDR_CFG (R420). -/
def rDDR_CFG : Nat := 0x6000004
/-- DDR_USABLE (R420). -/
def rDDR_USABLE : Nat := 0x6000008
/-- DDR_MR4 (R420). -/
def rDDR_MR4 : Nat := 0x600000c
/-- DDR_INFLIGHT (R420). -/
def rDDR_INFLIGHT : Nat := 0x6000010
/-- DDR_INFLIGHT_HWM (R420). -/
def rDDR_INFLIGHT_HWM : Nat := 0x6000014
/-- DDR_ERR_ADDR_LO (R420). -/
def rDDR_ERR_ADDR_LO : Nat := 0x6000018
/-- DDR_ERR_ADDR_HI (R420). -/
def rDDR_ERR_ADDR_HI : Nat := 0x600001c
/-- DDR_CNTk (R420). -/
def rDDR_CNT (a : Nat) : Nat := 0x6000100 + a * 0x4
/-- PCIE_LINK (R438). -/
def rPCIE_LINK : Nat := 0x6800000
/-- PCIE_BAR2_BASE (R438). -/
def rPCIE_BAR2_BASE : Nat := 0x6800004
/-- PCIE_HW_BASE_LO (R438). -/
def rPCIE_HW_BASE_LO : Nat := 0x6800008
/-- PCIE_HW_BASE_HI (R438). -/
def rPCIE_HW_BASE_HI : Nat := 0x680000c
/-- PCIE_HDB (R438). -/
def rPCIE_HDB : Nat := 0x6800010
/-- PCIE_HDB_PEND (R438). -/
def rPCIE_HDB_PEND : Nat := 0x6800014
/-- PCIE_HDB_CFG (R438). -/
def rPCIE_HDB_CFG : Nat := 0x6800018
/-- PCIE_MSIX_RAISE (R438). -/
def rPCIE_MSIX_RAISE : Nat := 0x6800020
/-- PCIE_CNTk (R438). -/
def rPCIE_CNT (a : Nat) : Nat := 0x6800100 + a * 0x4
/-- MSI-X table: message address and data words (R431). -/
def rMSIX_MSG (a b : Nat) : Nat := 0x6810000 + a * 0x10 + b * 0x4
/-- MSI-X table: vector control (R431). -/
def rMSIX_CTRL (a : Nat) : Nat := 0x681000c + a * 0x10
/-- MSI-X PBA (R431). -/
def rMSIX_PBA (a : Nat) : Nat := 0x6810800 + a * 0x4
/-- IF_STATUS (ETHn) (R479). -/
def rETH_IF_STATUS (a b : Nat) : Nat := 0x7001000 + a * 0x100000 + b * 0x100
/-- IF_CFG (ETHn) (R479). -/
def rETH_IF_CFG (a b : Nat) : Nat := 0x7001004 + a * 0x100000 + b * 0x100
/-- IF_MAC_LO (ETHn) (R479). -/
def rETH_IF_MAC_LO (a b : Nat) : Nat := 0x7001008 + a * 0x100000 + b * 0x100
/-- IF_MAC_HI (ETHn) (R479). -/
def rETH_IF_MAC_HI (a b : Nat) : Nat := 0x700100c + a * 0x100000 + b * 0x100
/-- IF_CNTk (ETHn) (R479). -/
def rETH_IF_CNT (a b c : Nat) : Nat := 0x7001040 + a * 0x100000 + b * 0x100 + c * 0x4
/-- IF_STATUS (MGMT) (R479). -/
def rMGMT_IF_STATUS (a : Nat) : Nat := 0x7201000 + a * 0x100
/-- IF_CFG (MGMT) (R479). -/
def rMGMT_IF_CFG (a : Nat) : Nat := 0x7201004 + a * 0x100
/-- IF_MAC_LO (MGMT) (R479). -/
def rMGMT_IF_MAC_LO (a : Nat) : Nat := 0x7201008 + a * 0x100
/-- IF_MAC_HI (MGMT) (R479). -/
def rMGMT_IF_MAC_HI (a : Nat) : Nat := 0x720100c + a * 0x100
/-- IF_CNTk (MGMT) (R479). -/
def rMGMT_IF_CNT (a b : Nat) : Nat := 0x7201040 + a * 0x100 + b * 0x4
/-- PTP_STATUS (R480). -/
def rPTP_STATUS : Nat := 0x7300000
/-- PTP_CFG (R480). -/
def rPTP_CFG : Nat := 0x7300004
/-- PTP_THR (R480). -/
def rPTP_THR : Nat := 0x7300008
/-- PTP_ADJ (R480). -/
def rPTP_ADJ : Nat := 0x730000c
/-- PTP_OFFSET (R480). -/
def rPTP_OFFSET : Nat := 0x7300010
/-- PTP_MPD (R480). -/
def rPTP_MPD : Nat := 0x7300014
/-- PTP_TIME_LO (R480). -/
def rPTP_TIME_LO : Nat := 0x7300020
/-- PTP_TIME_HI (R480). -/
def rPTP_TIME_HI : Nat := 0x7300024
/-- PTP_STEP_LO (R480). -/
def rPTP_STEP_LO : Nat := 0x7300028
/-- PTP_STEP_HI (R480). -/
def rPTP_STEP_HI : Nat := 0x730002c
/-- PTP_PAIR_AON_LO (R480). -/
def rPTP_PAIR_AON_LO : Nat := 0x7300030
/-- PTP_PAIR_AON_HI (R480). -/
def rPTP_PAIR_AON_HI : Nat := 0x7300034
/-- PTP_PAIR_DTIME_LO (R480). -/
def rPTP_PAIR_DTIME_LO : Nat := 0x7300038
/-- PTP_PAIR_DTIME_HI (R480). -/
def rPTP_PAIR_DTIME_HI : Nat := 0x730003c
/-- PTP_PAIR_SEQ (R480). -/
def rPTP_PAIR_SEQ : Nat := 0x7300040
/-- PTP_CNTk (R480). -/
def rPTP_CNT (a : Nat) : Nat := 0x7300100 + a * 0x4
/-- CTP_CFG (R481). -/
def rCTP_CFG : Nat := 0x7400000
/-- CTP_TXQ_BASE_LO (R481). -/
def rCTP_TXQ_BASE_LO : Nat := 0x7400008
/-- CTP_TXQ_BASE_HI (R481). -/
def rCTP_TXQ_BASE_HI : Nat := 0x740000c
/-- CTP_RXQ_BASE_LO (R481). -/
def rCTP_RXQ_BASE_LO : Nat := 0x7400010
/-- CTP_RXQ_BASE_HI (R481). -/
def rCTP_RXQ_BASE_HI : Nat := 0x7400014
/-- CTP_TXQ_SIZE (R481). -/
def rCTP_TXQ_SIZE : Nat := 0x7400018
/-- CTP_RXQ_CFG (R481). -/
def rCTP_RXQ_CFG : Nat := 0x740001c
/-- CTP_TXQ_PROD (R481). -/
def rCTP_TXQ_PROD : Nat := 0x7400020
/-- CTP_TXQ_CONS (R481). -/
def rCTP_TXQ_CONS : Nat := 0x7400024
/-- CTP_RXQ_PROD (R481). -/
def rCTP_RXQ_PROD : Nat := 0x7400028
/-- CTP_RXQ_CONS (R481). -/
def rCTP_RXQ_CONS : Nat := 0x740002c
/-- CTP_CNTk (R481). -/
def rCTP_CNT (a : Nat) : Nat := 0x7400040 + a * 0x4
/-- CTP_DEST_CFG (R481). -/
def rCTP_DEST_CFG (a : Nat) : Nat := 0x7400100 + a * 0x20
/-- CTP_DEST_IPj (R481). -/
def rCTP_DEST_IP (a b : Nat) : Nat := 0x7400104 + a * 0x20 + b * 0x4
/-- CTP_DEST_MAC_LO (R481). -/
def rCTP_DEST_MAC_LO (a : Nat) : Nat := 0x7400114 + a * 0x20
/-- CTP_DEST_MAC_HI (R481). -/
def rCTP_DEST_MAC_HI (a : Nat) : Nat := 0x7400118 + a * 0x20
/-- CU_CFG (R482). -/
def rCU_CFG (a : Nat) : Nat := 0x7501000 + a * 0x100
/-- CU_POLY (R482). -/
def rCU_POLY (a : Nat) : Nat := 0x7501004 + a * 0x100
/-- CU_INIT (R482). -/
def rCU_INIT (a : Nat) : Nat := 0x7501008 + a * 0x100
/-- CU_XOROUT (R482). -/
def rCU_XOROUT (a : Nat) : Nat := 0x750100c + a * 0x100
/-- CU_ENT_IDe (R482). -/
def rCU_ENT_ID (a b : Nat) : Nat := 0x7501040 + a * 0x100 + b * 0x8
/-- CU_ENT_ALIVEe (R482). -/
def rCU_ENT_ALIVE (a b : Nat) : Nat := 0x7501044 + a * 0x100 + b * 0x8
/-- CU_CNTk (R482). -/
def rCU_CNT (a b : Nat) : Nat := 0x75010c0 + a * 0x100 + b * 0x4
/-- GRP_STATUS (R483). -/
def rGRP_STATUS : Nat := 0x7600000
/-- GRP_CTRL (R483). -/
def rGRP_CTRL : Nat := 0x7600004
/-- GRP_WAKE_T_LO (R483). -/
def rGRP_WAKE_T_LO : Nat := 0x7600008
/-- GRP_WAKE_T_HI (R483). -/
def rGRP_WAKE_T_HI : Nat := 0x760000c
/-- GRP_OFFSETm (R483). -/
def rGRP_OFFSET (a : Nat) : Nat := 0x7600040 + a * 0x4
/-- GRP_CNTk (R483). -/
def rGRP_CNT (a : Nat) : Nat := 0x7600100 + a * 0x4

end Sys2Proof.Machine
end

