-- ==== Sys2Proof/Machine/Table.lean ====
section
/-! DEFINITION. Sparse tables in one canonical form: a list of (key, value) pairs with strictly rising keys and no entry
equal to what an unlisted key reads as. Registers, memories and every array of units are held this way. -/

namespace Sys2Proof.Machine

/-- A sparse table: key and value pairs, keys strictly rising in the canonical form. -/
abbrev Tab (α : Type) := List (Nat × α)

/-- What table `t` holds at key `k`; `d` is what an unlisted key reads as. The search ends at the first larger key. -/
def tget {α : Type} (d : α) : Tab α → Nat → α
  | [], _ => d
  | (k0, v) :: t, k => if k = k0 then v else if k < k0 then d else tget d t k

/-- Entries of `t` from the first whose key exceeds `k`. -/
def tdrop {α : Type} (k : Nat) : Tab α → Tab α
  | [] => []
  | (k0, v) :: t => if k < k0 then (k0, v) :: t else tdrop k t

/-- `t` with key `k` holding `v`: the entry goes into its place, and a value equal to the default leaves no entry. -/
def tput {α : Type} [DecidableEq α] (d : α) : Tab α → Nat → α → Tab α
  | [], k, v => if v = d then [] else [(k, v)]
  | (k0, v0) :: t, k, v =>
    if k0 < k then (k0, v0) :: tput d t k v
    else if v = d then tdrop k ((k0, v0) :: t)
    else (k, v) :: tdrop k ((k0, v0) :: t)

/-- The canonical form: every entry's key lies above `lo`'s bound, keys rise strictly, and no entry holds the default. -/
def twfFrom {α : Type} [DecidableEq α] (d : Nat → α) : Nat → Tab α → Bool
  | _, [] => true
  | lo, (k, v) :: t => decide (lo ≤ k) && decide (v ≠ d k) && twfFrom d (k + 1) t

/-- The canonical form of a table whose unlisted key `k` reads as `d k`. -/
def twf {α : Type} [DecidableEq α] (d : Nat → α) (t : Tab α) : Bool := twfFrom d 0 t

/-- The table with every key in `[lo, hi)` back at the default. -/
def tclear {α : Type} (lo hi : Nat) : Tab α → Tab α
  | [] => []
  | (k, v) :: t => if lo ≤ k ∧ k < hi then tclear lo hi t else (k, v) :: tclear lo hi t

end Sys2Proof.Machine
end

