-- ==== Sys2Proof/Machine/State.lean ====
section
/-! DEFINITION. The state of the device, as plain data. Every register the spec gives lies in `regs`, under its
register-region offset (R60); what a unit holds beside its registers lies in the unit's own structure. `State.reset` is the
machine in which every domain has just left reset: the register values of R67, nothing loaded, nothing queued. -/

namespace Sys2Proof.Machine

open Sys2Proof

/-- No command faults: every bad access of the spec is answered on the bus and recorded in the state, so this type has
no constructor (nothing raises a fault, which is safe). -/
inductive Fault where
deriving DecidableEq, Repr

/-- Why a command has no meaning in the model. -/
inductive Refusal where
  /-- The dispatch raises it for a command that is not modelled yet; safe, since the machine stops. -/
  | notModelled (mnemonic : String)
deriving DecidableEq, Repr

/-- A job as results, transfers and messages name it: slot, generation and job ID (R22). -/
structure JobRef where
  slot : Nat := 0
  gen : Nat := 0
  jobId : Nat := 0
deriving DecidableEq, Repr

/-- The answer that the last bus access of a command got. -/
structure Resp where
  /-- Data words of a read, lowest address first. -/
  data : List Word := []
  /-- An error response (R13, R63, R66). -/
  err : Bool := false
  /-- The data comes marked poisoned. -/
  poison : Bool := false
  /-- Of a DRAM read, the 64-byte units that come marked (R416, R417). -/
  badUnits : List Nat := []
deriving DecidableEq, Repr

/-- Time. -/
structure Clock where
  /-- AON_TIME: AON cycles of 80 ns since power-on (R81). -/
  aon : Nat := 0
  /-- DTIME in nanoseconds, modulo 2^64. -/
  dtime : Nat := 0
  /-- The 32-bit fraction of a nanosecond of DTIME (R443). -/
  dfrac : Nat := 0
deriving DecidableEq, Repr

/-- What fuses hold: identity and the units that production test found bad. -/
structure Fuses where
  serial : Nat := 0
  /-- DEV_ID.GRADE: 0 FV9640-C, 1 FV9640-I. -/
  grade : Nat := 0
  /-- Vendor ID, subsystem vendor ID and subsystem ID of the PCIe function (R422). -/
  vendor : Nat := 0
  subVendor : Nat := 0
  subId : Nat := 0
  /-- Repair entries of 16 bytes in the format of R504. -/
  entries : List (List Byte) := []
  /-- Mask of the Keeper cores that have failed; they have no spares (R34, R78). -/
  keeperBad : Nat := 0
  /-- Mask of the video ports whose VDDIO bank the board powers (R518, R528). -/
  banks : Nat := 0xFF
deriving DecidableEq, Repr

/-- Where D0 stands. -/
inductive BootPhase where
  /-- Step 7 of R52 is done: the Lantern boot code or the job software runs. -/
  | running
  /-- No image; waits for PCIE_BOOT.GO (R49, R51). -/
  | waitPcie
  /-- No image and no PCIe boot: halted (R49). -/
  | halted
  /-- D0 is held in reset until the junction cools (R497). -/
  | heldHot
deriving DecidableEq, Repr

/-- Boot, image and quiesce state beside the BOOT registers. -/
structure Boot where
  /-- BOOTSRC as sampled at PORST_N (R49). -/
  src : Nat := 0
  phase : BootPhase := .waitPcie
  /-- Payloads of the sections of the image in force, by section type (R38). -/
  secs : Tab (List Byte) := []
  /-- The types that the image in force holds (a section of LENGTH 0 is present). -/
  present : List Nat := []
  /-- The image in force was applied at run time from where software staged it (R55, R495). -/
  staged : Bool := false
  /-- The image that an APPLY in progress puts in force, as staged (R56), and the state to come back to: QUIESCED_FORCED. -/
  applying : Option (List Byte) := none
  wasForced : Bool := false
  /-- The release of quiesce asked for while APPLYING (R58). -/
  releaseAfter : Bool := false
  /-- A forced quiesce is under way: jobs are being abandoned (R54). -/
  forcing : Bool := false
  /-- The next journal entry is the first after power-on (R75, R77). -/
  jnlFirst : Bool := true
deriving DecidableEq, Repr

/-- States of a job (chapter 1). A committed or abandoned job has freed its slot. -/
inductive JobState where
  | free
  /-- Freed; not yet available again (R21). -/
  | cooling
  | capturing | processing | restarting | sent
  /-- The abandon rule applied; its `no read` is on the way (R23, R28). -/
  | abandoned
deriving DecidableEq, Repr

/-- One job slot (R21, R22). -/
structure Job where
  state : JobState := .free
  /-- The slot's 8-bit generation. -/
  gen : Nat := 0
  jobId : Nat := 0
  /-- Order of freeing since the last reset of D0; 0: not freed since (R21). -/
  freedOrd : Nat := 0
  /-- AON_TIME at which the slot was freed. -/
  freedAt : Nat := 0
  /-- AON_TIME of the trailing edge (R5, R27). -/
  trailing : Nat := 0
  restarted : Bool := false
  merged : Bool := false
  /-- A fault has reached the job and awaits the restart rule (R26, R27). -/
  reached : Bool := false
  /-- The decision sent is `no read` (R28). -/
  noRead : Bool := false
  /-- Encoder positions and times of the window's edges (R23, R25). -/
  posLead : Nat := 0
  aonLead : Nat := 0
  posTrail : Nat := 0
  /-- AON_TIME at which the decision was handed to a check unit (R24). -/
  sentAt : Nat := 0
  /-- A view was excluded from the job (R30). -/
  viewDropped : Bool := false
  /-- Faults that reached the job after its decision was handed over; counted, without effect (R31). -/
  lateFaults : Nat := 0
  /-- The window unit, and whether a camera segment of the window began late (R464, R16). -/
  unit : Nat := 0
  frontTrunc : Bool := false
deriving DecidableEq, Repr

/-- An encoder counter beside its registers. -/
structure Enc where
  /-- AON_TIME of the last state change, and the length of the interval before it in AON cycles (R90). -/
  lastAt : Nat := 0
  interval : Nat := 0
deriving DecidableEq, Repr

/-- A curtain input beside its registers: the filtered level of the pin. -/
structure Curt where
  level : Bool := false
deriving DecidableEq, Repr

/-- A window unit beside its registers (R84 to R87): what it latched at the opening. -/
structure Win where
  jobId : Nat := 0
  /-- The job slot taken, if one was available (R21). -/
  slot : Option Nat := none
  curt : Nat := 0
  enc : Nat := 0
  minGap : Nat := 0
  maxLen : Nat := 0
  gapTimeout : Nat := 0
  pLead : Nat := 0
  pTrail : Nat := 0
  trailAt : Nat := 0
  encErr : Bool := false
  trigDropped : Bool := false
  /-- After an overlong close: where the curtain last became clear, if it is clear (R85). -/
  clearAt : Option Nat := none
deriving DecidableEq, Repr

/-- A window whose segment has not begun yet, for one generator (R89). -/
structure TrigPend where
  win : Nat
  jobId : Nat
  /-- The encoder, and p_lead + START, modulo 2^32. -/
  enc : Nat
  startAt : Nat
  /-- The curtain of the window (R88). -/
  curt : Nat := 0
  /-- p_trail of the close record, once the window has closed. -/
  trail : Option Nat := none
  /-- The start was reached while D1 to D4 were not in RUN (R16). -/
  heldRun : Bool := false
  /-- E19 was raised for this window (R91). -/
  e19 : Bool := false
deriving DecidableEq, Repr

/-- An open camera segment (R89 to R91), with what was latched at CAMERA_START. -/
structure Seg where
  win : Nat
  jobId : Nat
  enc : Nat
  /-- The curtain of the window (R88). -/
  curt : Nat := 0
  /-- A port's frame has started, or its start has passed, for this segment (R105, R112). -/
  seen : Bool := false
  trail : Option Nat
  div : Nat
  stop : Nat
  minper : Nat
  width : Nat
  interp : Bool
  activeLow : Bool
  ctx : Nat
  /-- Phase accumulator; negative after a trigger was placed ahead (R90). -/
  acc : Int := 0
  /-- Highest position reached. -/
  hi : Nat
  /-- The AON_TIME at which each trigger that has not issued yet falls due, oldest first (R89, R90). -/
  dues : List Nat := []
  lastPos : Nat
  lastAt : Nat
  /-- Triggers issued. -/
  issued : Nat := 0
  dropped : Bool := false
  encErr : Bool := false
  /-- The segment began late: FRONT_TRUNC (R16). -/
  trunc : Bool := false
  /-- E19 was raised for this window. -/
  e19 : Bool := false
  /-- The stop position is passed; the segment closes when no due trigger is left. -/
  stopping : Bool := false
deriving DecidableEq, Repr

/-- A trigger generator beside its registers. -/
structure Trig where
  pends : List TrigPend := []
  seg : Option Seg := none
  /-- The last segment closed: window, job ID, triggers issued (R105). -/
  fin : Option (Nat × Nat × Nat) := none
  /-- A trigger waits for MINPER (R91). -/
  held : Bool := false
  /-- AON_TIME plus 1 of the previous trigger; 0: none yet. -/
  last : Nat := 0
  /-- The pin drives its pulse until this AON_TIME, at this active level. -/
  pulseUntil : Nat := 0
  pulseLow : Bool := false
  /-- Pulses issued since power-on. -/
  pulses : Nat := 0
deriving DecidableEq, Repr

/-- A Keeper core (R78 to R80): the memories, what a reload sets, and what its program works with. -/
structure KCore where
  prog : Tab Byte := []
  data : Tab Byte := []
  bits : Tab Bool := []
  entry : Nat := 0
  memstack : Bool := false
  /-- The 8-bit bank register, and the data and return stacks, top first (R78). -/
  bank : BitVec 8 := 0
  dstk : List (BitVec 16) := []
  rstk : List (BitVec 16) := []
  /-- Held in reset: K1 until step 7 of the boot (R78). -/
  held : Bool := false
  /-- Runs a loaded program; otherwise ROM housekeeping only. -/
  loaded : Bool := false
  /-- Fault interrupt pending (R488). -/
  faultIrq : Bool := false
deriving DecidableEq, Repr

/-- The Keeper domain beside its registers. -/
structure Keeper where
  core0 : KCore := {}
  core1 : KCore := { held := true }
  encs : Tab Enc := []
  curts : Tab Curt := []
  wins : Tab Win := []
  trigs : Tab Trig := []
  /-- Job ID that the next window takes; starts at 1 at power-on (R21). -/
  nextJobId : Nat := 1
  /-- Counts frees of job slots since the last reset of D0 (R21). -/
  freeSeq : Nat := 0
  /-- Levels that the board drives on the GPIO balls. -/
  gpioPins : Nat := 0
deriving DecidableEq, Repr

/-- A flash operation in progress (R95): OP, address and length as latched at GO. -/
structure FlashOp where
  op : Nat
  addr : Nat
  len : Nat
  /-- Waits for a Persistent Record write in progress (R48). -/
  waiting : Bool := false
deriving DecidableEq, Repr

/-- The Persistent Record as the Keeper holds it (R96), and its writer (R98, R99). -/
structure Prec where
  /-- SEQUENCE of the record in use. -/
  seq : Nat := 0
  /-- Times of the latest resets of D0 to D6, newest first, at most four each; total counts. -/
  hist : Tab (List Nat) := []
  total : Tab Nat := []
  /-- Out-of-service latch: set, DTIME and serial as recorded. -/
  latched : Bool := false
  latchTime : Nat := 0
  latchSerial : Nat := 0
  /-- Field repair entries, 16 bytes each. -/
  repairs : List (List Byte) := []
  /-- Camera calibration records, 1 KiB each, by context. -/
  cal : Tab (List Byte) := []
  /-- Static quantisation tables region. -/
  qtab : List Byte := []
  /-- Journal tail as read at power-on: sequence of the newest entry held, if any. -/
  jnlNewest : Option Nat := none
  /-- The journal entries region as last read or written. -/
  jnl : List Byte := []
  /-- The write in progress: bank and bytes. -/
  writing : Option (Nat × List Byte) := none
  /-- An immediate write waits; a routine write waits. -/
  pendingNow : Bool := false
  pendingRoutine : Bool := false
  /-- A repair entry being added, and whether the write in progress carries it (R505). -/
  adding : Option (List Byte) := none
  addingInWrite : Bool := false
  /-- AON_TIME at which the last routine write started. -/
  lastRoutine : Nat := 0
deriving DecidableEq, Repr

/-- Power states of the fast domains (R509). -/
inductive PowerState where
  /-- The domains are clocked: RUN, or IDLE while they have no work. -/
  | run
  | nap | deep
deriving DecidableEq, Repr

/-- Steps of an entry or exit in progress (R511 to R513). -/
inductive PowerStep where
  | none
  /-- NAP entry. -/
  | napEntry
  /-- NAP entry as step 1 of DEEP entry. -/
  | deepNap
  /-- DRAM self-refresh and PLL stop: steps 2 and 3 of DEEP entry; step 4 is DEEP_ENTRY_COMPLETE. -/
  | deepStop
  /-- Wake towards RUN from NAP or from an aborted entry (R92). -/
  | waking
  /-- The exit of R513. -/
  | deepExit
deriving DecidableEq, Repr

/-- Power management beside the POWER registers. -/
structure Power where
  state : PowerState := .run
  step : PowerStep := .none
  /-- AON_TIME from which the idle hold and the DEEP hold count (R20, R512). -/
  idleFrom : Nat := 0
  deepFrom : Nat := 0
  /-- Domains whose retention check failed, as a mask of D1 to D4 in bits 0 to 3 (R93). -/
  failed : Nat := 0
  /-- The throttle level of the last reading; PWR_STATUS shows it once D1 and D2 are in RUN (R516, R529). -/
  level : Nat := 0
  /-- In DEEP, DRAM is out of self-refresh for a request (R513). -/
  dramUp : Bool := false
deriving DecidableEq, Repr

/-- An event as raised (R486, R487). -/
structure Event where
  num : Nat
  dom : Nat
  job : Option JobRef := none
  addr : Nat := 0
  cause : Nat := 0
deriving DecidableEq, Repr

/-- Where a fence of a domain stands (R494). -/
inductive FencePhase where
  | none
  /-- Steps 1 to 3: requests drain. -/
  | draining
  /-- Step 4 done; step 5, the restore, runs. -/
  | restoring
deriving DecidableEq, Repr

/-- Faults and recovery beside the FAULT registers. -/
structure FaultSt where
  /-- Events of AON units held while D0 is in reset, oldest first (R489). -/
  held : List Event := []
  /-- Events of the present reset that could not be held, to be added to EVENTS. -/
  heldLost : Nat := 0
  /-- A device-fatal event awaits the Keeper's reset (R497). -/
  fatal : Bool := false
  /-- The fatal event is E137: D0 stays in reset until the junction cools. -/
  hot : Bool := false
  /-- Fence phase by domain. -/
  fence : Tab FencePhase := []
  /-- The spares of the Lens were exhausted at a reset of this power-on: D1 stays out of service (R501). -/
  repairOos : Bool := false
deriving DecidableEq, Repr


/-- Who waits for the completion of an outbound PCIe read (R429). -/
inductive PcieReq where
  | dma (c : Fin 32) | lantern (n : Fin 18)
  /-- Its requester has ended: what still comes for it is dropped (R381, R386). -/
  | gone
deriving DecidableEq, Repr

/-- What the endpoint has sent on the link, newest first. -/
inductive PcieOut where
  /-- An MSI-X message of a vector (R431, R432). -/
  | msix (vec addr data : Nat)
  /-- A posted write to a host bus address. -/
  | write (addr : Nat) (data : List Byte) (ep : Bool)
  /-- A read request. -/
  | read (tag addr len : Nat)
  /-- A completion with data for an inbound read, its EP bit, or an Unsupported Request completion. -/
  | cpl (data : List Byte) (ep : Bool)
  | cplUr
deriving DecidableEq, Repr

/-- A device read of the host window: it is made as requests that stay within MRRS and 4 KiB, one after the other. -/
structure PcieRead where
  req : PcieReq
  tag : Nat
  /-- Offset in the host window and length of the request that is out. -/
  off : Nat
  len : Nat
  /-- Requests still to come; bytes that have come, each with its poison. -/
  rest : List (Nat × Nat) := []
  got : List (Byte × Bool) := []
deriving DecidableEq, Repr

/-- The endpoint beside the PCIE registers: configuration space and requests in flight. -/
structure Pcie where
  /-- BAR0 and BAR2 as the host programmed them. -/
  bar0 : Nat := 0
  bar2 : Nat := 0
  /-- Command register: memory space enable and bus master enable. -/
  memEn : Bool := false
  busMaster : Bool := false
  /-- MSI-X enable and function mask. -/
  msixEn : Bool := false
  fmask : Bool := false
  /-- Maximum payload size and maximum read request size in bytes. -/
  mps : Nat := 128
  mrrs : Nat := 512
  /-- The endpoint is enabled (R49, R50) . -/
  enabled : Bool := true
  /-- Outbound reads awaiting a completion. -/
  reads : List PcieRead := []
  /-- Reads that wait until one of the 256 non-posted requests has completed, oldest first (R422). -/
  wait : List PcieRead := []
  /-- Advisory non-fatal errors logged in AER (R426). -/
  aer : Nat := 0
  /-- Everything sent, newest first. -/
  out : List PcieOut := []
deriving DecidableEq, Repr


/-- One line of samples on its way: planes of samples (one below T3, three from T3 on), its index in the frame, and what the
port and the memories found. -/
structure Line where
  planes : List (List Nat) := []
  idx : Nat := 0
  /-- Padded or cut under R108. -/
  short : Bool := false
  long : Bool := false
  poison : Bool := false
deriving DecidableEq, Repr

/-- The frame-start marker of R129: what a frame carries from its first stage to its last. -/
structure FrameInfo where
  frame : Nat := 0
  dtime : Nat := 0
  /-- The CTX and MEAS pages' values in force for the frame, by register offset. -/
  regs : Tab Word := []
  width : Nat := 0
  /-- Lines that a whole frame has: HEIGHT of an area or memory frame; 0 where only the end tells. -/
  height : Nat := 0
  /-- Bit depth of the samples. -/
  bits : Nat := 8
  area : Bool := false
  /-- JOB_ID of the camera segment that was open at the frame start (R88, R26). -/
  job : Option Nat := none
  frontTrunc : Bool := false
  /-- An extractor serves the context in this frame (R159, R166). -/
  served : Bool := false
  /-- ENCn_POS of the four encoders at the frame start (R161). -/
  enc : List Nat := []
deriving DecidableEq, Repr

/-- What waits for a pipe, per context, in order: markers and lines (R129, R142). -/
inductive PipeItem where
  | start (f : FrameInfo)
  | line (l : Line)
  /-- The end of a frame, with the FLAGS of the port's record (R119). -/
  | stop (flags : Nat)
deriving DecidableEq, Repr

/-- A video port beside its registers. -/
structure Port where
  /-- A frame is open. -/
  opened : Bool := false
  flags : Nat := 0
  frame : Nat := 0
  dtime : Nat := 0
  rawOff : Nat := 0xFFFFFFFF
  /-- Lines delivered, and lines received in the frame. -/
  lines : Nat := 0
  got : Nat := 0
  /-- Consecutive malformed lines (R109). -/
  run : Nat := 0
  /-- The camera segment in LINE mode: generator, window, job ID (R105). -/
  seg : Option (Nat × Nat × Nat) := none
  /-- The segment has closed while a line is being received: the frame closes with that line (R105). -/
  closing : Bool := false
  /-- A CAMERA_START during that line: DTIME of the frame start, and its segment with FRONT_TRUNC (R104, R105). -/
  next : Option (Nat × Nat × Nat × Nat × Bool) := none
  /-- Lines accepted beyond the triggers issued so far (R105; log entry 10). -/
  extra : List Line := []
  /-- The frame is delivered to the routed context. -/
  toPipe : Option Nat := none
  /-- Pixels accepted in the running 1 ms interval (R116). -/
  pixels : Nat := 0
deriving DecidableEq, Repr

/-- The rows that a stage with a vertical window holds (R128). -/
structure VBuf where
  /-- Index of the first row held. -/
  base : Nat := 0
  rows : List Line := []
  /-- The next row that the stage produces. -/
  next : Nat := 0
deriving DecidableEq, Repr

/-- One output of a context during a frame (R144). -/
structure OutSt where
  on : Bool := false
  /-- The rest of the frame is dropped on this output (R145, R151). -/
  dead : Bool := false
  /-- WRITTEN at the frame's first byte. -/
  start : Nat := 0
  lines : Nat := 0
deriving DecidableEq, Repr

/-- The display output's running box (R146). -/
structure DispSt where
  /-- Output row of the box, rows summed in it, and the three sums of every output pixel. -/
  y : Nat := 0
  rows : Nat := 0
  sums : List (Nat × Nat × Nat) := []
deriving DecidableEq, Repr

/-- The band being written (R150). -/
structure BandSt where
  active : Bool := false
  /-- FREE_SEM was 0: the band is dropped. -/
  dropped : Bool := false
  index : Nat := 0
  first : Nat := 0
  lines : Nat := 0
  malformed : Bool := false
  poison : Bool := false
  /-- Bands written in the frame; E55 raised in it. -/
  count : Nat := 0
  e55 : Bool := false
deriving DecidableEq, Repr

/-- A frame in a pipe. -/
structure PipeFrame where
  info : FrameInfo := {}
  /-- Lines that have entered. -/
  linesIn : Nat := 0
  /-- FLAGS of R155, and the FLAGS of the port. -/
  flags : Nat := 0
  portFlags : Nat := 0
  /-- The end marker has been taken. -/
  ended : Bool := false
  /-- The frame is dropped whole: CFG_INVALID, or a splice lost without fallback. -/
  whole : Bool := false
  /-- The splice has been lost in this frame: the remainder is dropped up to its end marker (R143). -/
  lost : Bool := false
  /-- SPLICED_POINT: the statistics point was taken at RET_TAP (R158). -/
  moved : Bool := false
  /-- The splice is active in this frame; lines handed over and returned (R142). -/
  splice : Bool := false
  sent : Nat := 0
  returned : Nat := 0
  dpc : VBuf := {}
  snr : VBuf := {}
  dms : VBuf := {}
  /-- Static defects: columns, and single pixels as (row, column) (R132). -/
  badCols : List Nat := []
  badPix : List (Nat × Nat) := []
  /-- The reference frame is valid (R134). -/
  refOk : Bool := false
  defects : Nat := 0
  out0 : OutSt := {}
  out1 : OutSt := {}
  out2 : OutSt := {}
  out3 : OutSt := {}
  disp : DispSt := {}
  /-- Luma and chroma of an even line that waits for its odd partner (R147). -/
  chroma : List (List Nat) := []
  band : BandSt := {}
  /-- Lines seen by the statistics unit and by the extractor (R158, R159). -/
  statRows : List Line := []
  pxRows : List Line := []
deriving DecidableEq, Repr

/-- A frame whose record the measurement units have still to write. -/
structure MeasFrame where
  info : FrameInfo := {}
  rows : List Line := []
  /-- The extractor's lines of the frame (R159). -/
  px : List Line := []
  truncated : Bool := false
  poisoned : Bool := false
  /-- SPLICED_POINT, and the frame was dropped under R153. -/
  spliced : Bool := false
  invalid : Bool := false
deriving DecidableEq, Repr

/-- A context beside its registers. -/
structure PCtx where
  frame : Option PipeFrame := none
  /-- Order of the last line started (R124). -/
  lastStart : Nat := 0
  spliceLost : Bool := false
  /-- Slot of the next band (R150). -/
  bandSlot : Nat := 0
  /-- WIDTH and HEIGHT for which the reference frame is valid (R134). -/
  ref : Option (Nat × Nat) := none
  /-- The next source line of a memory-to-memory frame, while lines are left (R125). -/
  m2m : Option Nat := none
  /-- Frames whose statistics and profile records are due, oldest first. -/
  statDue : List MeasFrame := []
  pxDue : List MeasFrame := []
  /-- Qualifying frames in a row that were drift frames; E60 raised since the last that was not (R167). -/
  drift : Nat := 0
  e60 : Bool := false
  /-- Frame number and profile summary of the last frame extracted: valid columns, object columns, minimum, maximum, mean
  (R164). -/
  pxSum : Option (Nat × List Nat) := none
  /-- The last profile record was dropped (R162). -/
  pxDropping : Bool := false
  /-- D3 has left reset and no extractor has served the context since: its Z is still to be loaded (R171). -/
  calDue : Bool := false
deriving DecidableEq, Repr


/-- One row of a layer, or of the chain input, over a stripe's extent: values by channel, and its poison (R205). -/
structure SRow where
  ch : List (List Int) := []
  poison : Bool := false
deriving DecidableEq, Repr

/-- One stripe of a chain (R183, R188): the units it has run and its rows by layer and row index. -/
structure Stripe where
  t : Nat := 0
  rows : Tab SRow := []
  /-- RETURN rows that the fabric has not joined yet, and RETURN and ACTMEM rows produced (R194, R195). -/
  outs : List SRow := []
  nRet : Nat := 0
  nAct : Nat := 0
deriving DecidableEq, Repr

/-- A context in the Sector engine during a frame: the tee set latched at its start (R195) and the stripes, by
cluster × 1024 + stripe. -/
structure SecCtx where
  begun : Bool := false
  teeBase : Nat := 0
  teeRow : Nat := 0
  teeRows : Nat := 1
  teePlane : Nat := 0
  teeSem : Option Nat := none
  teePer : Nat := 1
  teeBad : Bool := false
  e70 : Bool := false
  stripes : Tab Stripe := []
  /-- RET_TAP of the frame is TEE: the ACTMEM output is written (R195). -/
  teeOn : Bool := false
  /-- ACTMEM rows that every stripe has written; lines joined; lines that wait to be accepted by the pipe (R142). -/
  teeDone : Nat := 0
  joined : Nat := 0
  back : List Line := []
deriving DecidableEq, Repr

/-- A memory job descriptor (R197). -/
structure SecMj where
  at_ : Nat
  chain : Nat
  slot : Nat
  gen : Nat
  waitEn : Bool
  signalEn : Bool
  jobId : Nat
  width : Nat
  height : Nat
  waitSem : Nat
  signalSem : Nat
  inBase : Nat
  inRow : Nat
  inPlane : Nat
  outBase : Nat
  outRow : Nat
  outPlane : Nat
  top : Nat
  bottom : Nat
deriving DecidableEq, Repr

/-- The memory job that runs on a cluster (R198). -/
structure SecRun where
  mj : SecMj
  /-- The bank that its chain runs from. -/
  bank : Nat
  /-- Stripe in work, and its state; all stripes are done. -/
  i : Nat := 0
  st : Stripe := {}
  done : Bool := false
deriving DecidableEq, Repr

/-- A swap in progress (R202): the stripes that still run from the old bank, as (context, stripe). -/
structure SecSwap where
  restruct : Bool
  left : List (Nat × Nat)
  /-- Memory chains that move at their next job start. -/
  memLeft : List Nat := []
  /-- The memory job that was running still runs from the old bank. -/
  memRun : Bool := false
  began : Nat
  e67 : Bool := false
deriving DecidableEq, Repr

/-- A cluster beside its registers. -/
structure SecCl where
  queue : List SecMj := []
  run : Option SecRun := none
  swap : Option SecSwap := none
  /-- E64 was raised since the last commit (R200). -/
  e64 : Bool := false
deriving DecidableEq, Repr


/-- Where an operation of the Lens stands (R236, R246). -/
inductive LensPhase where
  | queued | admitting | waiting | ready | running | retiring
deriving DecidableEq, Repr

/-- What an output row has shown in the tiles passed so far of its position tile. Its measures count only once the row is complete
and not poisoned (R269). -/
structure LensRow where
  /-- Every output equals OUT_ZP; some column sum was not 0; largest magnitude; poisoned. -/
  zero : Bool := true
  some_ : Bool := false
  top : Nat := 0
  bad : Bool := false
  /-- HIGH_CLAMP, LOW_CLAMP, SIDE_CLAMP, NAN_OUT, PSUM_SAT; rescued; the magnitudes of its columns. -/
  high : Nat := 0
  low : Nat := 0
  side : Nat := 0
  nans : Nat := 0
  psum : Nat := 0
  rescued : Bool := false
  cols : List (Nat × Nat) := []
deriving DecidableEq, Repr

/-- The outputs of a position that wait for their pooling window, and its poison (R234). -/
structure LensPool where
  vals : List Int := []
  bad : Bool := false
deriving DecidableEq, Repr

/-- An operation in the queue of the Lens, resident ones included. -/
structure LensOp where
  /-- Order of the push; address and bytes of the descriptor as copied (R223). -/
  seq : Nat
  addr : Nat
  desc : List Byte
  phase : LensPhase := .queued
  /-- Resident slot. -/
  slot : Option Nat := none
  /-- Quantisation descriptor and piecewise-linear table as loaded at admission (R237). -/
  qd : List Byte := []
  pwl : List Byte := []
  /-- OUT_MAP as loaded at admission, and the column table's entries of the current N-tile; whether poison or an error met them. -/
  map : List Byte := []
  mapBad : Bool := false
  cols : List Byte := []
  colBad : Bool := false
  /-- The next tile: position tile, N-tile, K-tile; tiles completed. -/
  pt : Nat := 0
  nt : Nat := 0
  kt : Nat := 0
  tiles : Nat := 0
  /-- Every result is poisoned (R229, R231); E73 and E74 were raised. -/
  bad : Bool := false
  e73 : Bool := false
  e74 : Bool := false
  /-- Measures of R269: HIGH_CLAMP, LOW_CLAMP, ZERO_ROWS, RESCUED_ROWS, PSUM_SAT, SIDE_CLAMP, POISONED_ROWS, NAN_OUT; rows. -/
  high : Nat := 0
  low : Nat := 0
  zeroRows : Nat := 0
  rescued : Nat := 0
  psumSat : Nat := 0
  sideClamp : Nat := 0
  poisonedRows : Nat := 0
  nans : Nat := 0
  rows : Nat := 0
  /-- Column maxima. -/
  colMax : Tab Nat := []
  /-- Row state by position across the N-tiles, and outputs that wait for pooling, by N-tile × 2^32 + pixel. -/
  rowSt : Tab LensRow := []
  pool : Tab LensPool := []
deriving DecidableEq, Repr

/-- The foreground buffer of the weight register (R216): the tile's address, the bytes loaded, those of them that are not 0 by
their offset, and whether an uncorrectable error met the load (R244). -/
structure LensBuf where
  addr : Nat
  len : Nat
  data : Tab Byte := []
  bad : Bool := false
deriving DecidableEq, Repr

/-- The Lens beside its registers. -/
structure Lens where
  /-- The queue, oldest first. -/
  ops : List LensOp := []
  nextSeq : Nat := 0
  fg : Option LensBuf := none
  /-- The operation of which a tile streams (R246). -/
  tile : Option Nat := none
  /-- The causes of idleness that have applied since the last tile boundary, oldest first: 0 nothing resident, 1 counts, 2 all
  slots taken, 3 overlap of partitions, in the order of their counters (R239). -/
  causes : List (Fin 4) := [0]
deriving DecidableEq, Repr

/-- A hardware semaphore (R299). -/
structure Sem where
  count : Nat := 0
  notify : Nat := 0
  notifyEn : Bool := false
deriving DecidableEq, Repr

/-- A fill or copy command (R293) as the engine holds it. -/
structure FcCmd where
  copy : Bool := false
  /-- 0 weight, 1 activation, 2 partial-sum memory. -/
  mem : Nat := 0
  noGen : Bool := false
  waitEn : Bool := false
  signalEn : Bool := false
  slot : Nat := 0
  gen : Nat := 0
  jobId : Nat := 0
  waitSem : Nat := 0
  signalSem : Nat := 0
  pattern : Nat := 0
  /-- Device addresses of the first source and destination byte. -/
  src : Nat := 0
  dst : Nat := 0
  width : Nat := 0
  height : Nat := 1
  srcStride : Nat := 0
  dstStride : Nat := 0
deriving DecidableEq, Repr

/-- The fill and copy engine (R294): commands queued, oldest first; the one that runs and the rows it has written. -/
structure Fc where
  queue : List FcCmd := []
  running : Option FcCmd := none
  rows : Nat := 0
deriving DecidableEq, Repr


/-- What a result of a Lantern is written to: registers of R344 and R346. A vector register goes by its physical number. -/
inductive LReg where
  | s (i : Nat) | a (i : Nat) | v (i : Nat)
  /-- One bit variable; a word of 64 of them. -/
  | bv (i : Nat) | bvw (k : Nat)
  | lc (k : Nat) | lbase (k : Nat) | ltail (k : Nat)
  /-- A mode register of R328, by its number of R346. -/
  | cr (k : Nat)
  /-- The separate return stack. -/
  | rs
deriving DecidableEq, Repr

/-- A result on its way to its register (R311). -/
structure LWrite where
  dst : LReg
  val : Nat
  /-- Only bits [63:0] of a vector register are written (R344). -/
  low : Bool := false
  /-- Number of the bundle that produced it, and of the first bundle that sees it. -/
  at_ : Nat
  due : Nat
deriving DecidableEq, Repr

/-- A change of a mode register on its way (R328), or a rotation (R330). -/
structure LMode where
  /-- Number of the register in R346; none: a rotation of RRB by 1. -/
  cr : Option Nat
  val : Nat := 0
  at_ : Nat
  due : Nat
deriving DecidableEq, Repr

/-- How the bytes of a load become the value of its register (R354). -/
inductive LKind where
  | sx | zx | vec | bcast | fp
deriving DecidableEq, Repr

/-- What a long operation does (R314, R368 to R370). -/
inductive LLongOp where
  /-- A result of the divide unit, computed at issue. -/
  | unit (v : Nat)
  | load (k : LKind)
  | lr
  | sc (v : Nat)
  | tas
  | swait
deriving DecidableEq, Repr

/-- A long operation in flight. -/
structure LLong where
  op : LLongOp
  dst : LReg
  low : Bool := false
  /-- Device address and size of the access. -/
  addr : Nat := 0
  z : Nat := 0
  /-- Address of its bundle. -/
  pc : Nat
  /-- A read of the host window: what came back, and whether it is good data. -/
  host : Option (List Byte × Bool) := none
  /-- Tag of the PCIe read of a host window access. -/
  tag : Option Nat := none
deriving DecidableEq, Repr

/-- A posted store that has issued and waits for the long accesses before it (R65, R315). -/
structure LPost where
  addr : Nat
  z : Nat
  val : Nat
  /-- Long accesses that are ahead of it. -/
  wait : Nat
  /-- Address of its bundle; none once the core was reset, which no failure concerns any more (R335). -/
  pc : Option Nat
deriving DecidableEq, Repr

/-- What the loop buffer is doing (R331). -/
inductive LBufPhase where
  | none
  /-- First iteration; `ending`: its LOOP was taken and so many delay slots remain. -/
  | capturing | ending (n : Nat)
  | running
  /-- Kept across an interrupt. -/
  | kept
deriving DecidableEq, Repr

/-- A RETI on its way (R326): the frame and the source that chains. -/
structure LRet where
  frame : Nat
  chain : Option Nat
deriving DecidableEq, Repr

/-- A Lantern core (R344) beside its LCORE registers. -/
structure Lan where
  /-- The registers. -/
  sreg : Tab DWord := []
  areg : Tab (BitVec 24) := []
  vreg : Tab (BitVec 512) := []
  bvar : BitVec 1024 := 0
  /-- CBB0 to 7, CBL0 to 7, WB0 to 3. -/
  cbb : Tab Nat := []
  cbl : Tab Nat := []
  wb : Tab Nat := []
  lc : Tab Nat := []
  lbase : Tab Nat := []
  ltail : Tab Nat := []
  rrb : Nat := 0
  psw : Word := 0
  /-- The separate return stack, top first. -/
  rstk : List Nat := []
  /-- FEAT0 to FEAT3 as fixed when the core left reset (R371). -/
  feat : Tab Word := []
  /-- Profile (R307). -/
  vl256 : Bool := false
  rstack : Bool := false
  /-- Reset entry (R372). -/
  entry : Nat := 0
  /-- Address of the next bundle and of the last issued one. -/
  pc : Nat := 0
  last : Nat := 0
  /-- Number of the next bundle in issue order (R310). -/
  n : Nat := 0
  writes : List LWrite := []
  modes : List LMode := []
  /-- Numbers of the bundles whose saturation has not landed yet and where it lands (R358). -/
  sats : List (Nat × Nat) := []
  /-- Number plus 1 of the latest bundle whose saturation has landed. -/
  satAt : Nat := 0
  /-- Long operations in flight, oldest first. -/
  longs : List LLong := []
  /-- Posted stores that have not completed, oldest first (R315). -/
  posts : List LPost := []
  /-- A FENCE has issued and what is earlier has not completed (R315). -/
  fence : Bool := false
  /-- Number plus 1 of the last branch and of the last write of a mode register. -/
  brAt : Nat := 0
  modeAt : Nat := 0
  /-- Target of a taken branch whose delay slots are issuing; a RETI likewise. -/
  target : Option Nat := none
  ret : Option LRet := none
  /-- Vector registers that the last V0 syllable wrote, and its bundle's number plus 1 (R364). -/
  v0w : List Nat := []
  v0At : Nat := 0
  /-- Bundles of pending synchronous exceptions, by source. -/
  exc : Tab Nat := []
  /-- An eligible interrupt was recognised in an earlier cycle (R324). -/
  seen : Bool := false
  /-- Issue has stopped: HALT, an exception within an exception, or instruction memory uncorrectable. -/
  stopped : Bool := false
  dbl : Bool := false
  /-- AON_TIME at which the reset of the core ends (R335). -/
  resetTill : Nat := 0
  /-- Corrected errors of the core's memories (R316); no register shows the count. -/
  corrected : Nat := 0
  /-- The loop buffer: phase, start, and the bundles by address. -/
  lbPhase : LBufPhase := .none
  lbStart : Nat := 0
  lbBody : List (Nat × List Nat) := []
deriving DecidableEq, Repr



/-- What an active channel waits for besides its state of R379. -/
inductive DmaPhase where
  | none
  /-- FETCH: a read of the tail's link word, not of a descriptor (R383). -/
  | reread
  /-- FETCH: a read of the next descriptor in the host window is out, to see whether it joins the burst (R388). -/
  | merge
  /-- COMPLETE: the read-back, or the status write, is out (R387). -/
  | readback | statusWb
deriving DecidableEq, Repr

/-- A DMA channel beside its registers. -/
structure Dma where
  phase : DmaPhase := .none
  /-- The descriptors of the burst that runs: addresses and bytes, in chain order (R388). -/
  burst : List (Nat × List Byte) := []
  /-- Bytes read from the host window, with their poison, once all have come; a read-back that has come. -/
  got : Option (List (Byte × Bool)) := none
  backOk : Bool := false
  /-- A read of the host window is out. -/
  waiting : Bool := false
  /-- The descriptors of the burst, by their place in it, whose data carried poison (R391). -/
  bads : List Nat := []
  /-- The bank of each cluster of a chain that was inactive at the fetch (R389). -/
  banks : List (Nat × Nat) := []
  checkFail : Bool := false
  /-- Bytes moved, modulo 1,024, for KIB_MOVED. -/
  moved : Nat := 0
deriving DecidableEq, Repr

/-- The bandwidth regulator beside its registers. -/
structure Regul where
  /-- BURST of each class, in KiB (R40). -/
  burst : Tab Nat := []
  /-- AON_TIME of the last report in which some EFF was below its RATE (R395). -/
  lastCut : Nat := 0
deriving DecidableEq, Repr




/-- A request at the LPDDR5X controller (R413): class, span, and the data of a write or of a read as it was ordered. -/
structure DdrReq where
  cls : Nat
  addr : Nat
  len : Nat
  data : List Byte := []
  /-- Of a write: what its read for modification finds in the words that it covers in part, first and last (R417). -/
  head : MemErr := .none
  tail : MemErr := .none
  /-- Of a read: the units that held an uncorrectable word when it was ordered, and the 8-byte words that a write ordered after
  it has replaced (R414). -/
  bad : List Nat := []
  fresh : List Nat := []
deriving DecidableEq, Repr

/-- The LPDDR5X controller beside the DDR registers. -/
structure Ddr where
  /-- Reads that hold a tag, oldest first; requests that wait for one; writes that hold a buffer; writes that wait for one
  (R413). -/
  reads : List DdrReq := []
  readWait : List DdrReq := []
  writes : List DdrReq := []
  writeWait : List DdrReq := []
  /-- The channel whose oscillator is read next (R411). -/
  turn : Nat := 0
  /-- AON_TIME plus 1 of the last full retrain; a further one waits for 100 ms to pass (R411). -/
  lastFull : Nat := 0
  deferred : Bool := false
  /-- Since the last report: a tracking read; part of a full retrain (R415). -/
  tracked : Bool := false
  blank : Bool := false
  /-- The next 64-byte unit of the patrol (R419). -/
  patrol : Nat := 0
  /-- Channels in power-down (R412). -/
  down : Tab Bool := []
deriving DecidableEq, Repr



/-- A CTP message (R449): header fields, payload, and the check block of a CHECKED message. FLAGS as a number. -/
structure CtpMsg where
  type : Nat
  flags : Nat := 0
  /-- The MEMBER byte: member index and GROUPED. -/
  member : Nat := 0
  epoch : Nat := 0
  slot : Nat := 0
  gen : Nat := 0
  seq : Nat := 0
  jobId : Nat := 0
  serial : Nat := 0
  channel : Nat := 0
  payload : List Byte := []
  block : List Byte := []
deriving DecidableEq, Repr

/-- A peer: the local interface, its address as a little-endian number of 16 bytes, its UDP port, and its MAC. -/
structure Peer where
  ifc : Nat
  addr : Nat
  port : Nat
  mac : Nat
deriving DecidableEq, Repr

/-- What a reliable message belongs to. -/
structure TxMsg where
  msg : CtpMsg
  /-- Retransmissions so far, and whether its first transmission has gone out, which a group slot can hold back (R474). -/
  retx : Nat := 0
  out : Bool := true
  /-- Number of its send descriptor, and its bit in DEST_ACKED. -/
  desc : Option Nat := none
  dest : Nat := 0
deriving DecidableEq, Repr

/-- A received message that waits for a missing sequence, and whether its answer has gone out (R453). -/
structure HeldMsg where
  msg : CtpMsg
  answered : Bool
  /-- It passed its check (R457, R469). -/
  checkOk : Bool
deriving DecidableEq, Repr

/-- The receive state of an association (R453). -/
structure RxState where
  next : Nat
  serial : Nat
  held : List HeldMsg := []
  /-- Answers to the reliable messages received, newest first, at most 64; sequences skipped, newest first. -/
  answers : List (Nat × CtpMsg) := []
  skipped : List Nat := []
deriving DecidableEq, Repr

/-- An association (R451). -/
structure Assoc where
  peer : Peer
  /-- Next transmit sequence. -/
  tx : Nat
  unacked : List TxMsg := []
  /-- Reliable messages that wait while 64 are unacknowledged, oldest first. -/
  backlog : List TxMsg := []
  /-- The first answer has arrived (R452). -/
  answered : Bool := false
  rx : Option RxState := none
  /-- AON_TIME of the last message sent or received. -/
  last : Nat := 0
deriving DecidableEq, Repr

/-- A send descriptor in work (R456), or a decision of the job software. -/
structure TxDesc where
  /-- Number in the order of taking. -/
  num : Nat
  /-- Ring index, if it came from the ring, and the address of the descriptor. -/
  idx : Option Nat
  at_ : Nat := 0
  type : Nat
  irq : Bool := false
  slot : Nat := 0
  gen : Nat := 0
  /-- Sequence of the first message sent. -/
  seq : Option Nat := none
  /-- Messages neither answered nor failed; destinations addressed and acknowledged, as masks. -/
  left : Nat := 0
  mask : Nat := 0
  acked : Nat := 0
  /-- STATUS bits collected: FAILED, DISCARDED, REFUSED, POISON_SENT, and REASON. -/
  status : Nat := 0
  done : Bool := false
  /-- The job slot whose decision this is (R24). -/
  job : Option Nat := none
  /-- A remote write: peers that wait for credit, each with its bit in DEST_ACKED, its window, and its message without sequence (R460). -/
  waits : List (Peer × Nat) := []
  window : Nat := 0
  msg : Option CtpMsg := none
deriving DecidableEq, Repr

/-- A frame sent on an interface, without the layers that R439 and R448 fix (TTL or hop limit 64, DSCP 0). -/
structure NetOut where
  ifc : Nat
  mac : Nat
  /-- The 802.1Q tag: VID and PCP. -/
  tag : Option (Nat × Nat) := none
  addr : Nat := 0
  sport : Nat := 0
  dport : Nat := 0
  /-- TTL or hop limit, and DSCP, where a rule gives them (R448). -/
  hops : Option (Nat × Nat) := none
  /-- A 1588 message in place of a CTP datagram. -/
  ptp : Bool := false
  data : List Byte
deriving DecidableEq, Repr

/-- What the group logic knows of a member (R463, R473). -/
structure Mate where
  /-- TX of its newest beacon and the DTIME of its arrival; 0: none. -/
  tx : Nat := 0
  rx : Nat := 0
  /-- AON_TIME at which that beacon arrived (R476). -/
  seen : Nat := 0
  /-- Its clock offset θ and link delay, in ns. -/
  theta : Int := 0
  delay : Int := 0
  /-- At the primary: the last epoch given, and the SERIAL it joined under. -/
  epoch : Nat := 0
  serial : Nat := 0
deriving DecidableEq, Repr

/-- The PTP unit beside its registers (R443, R444). -/
structure Ptp where
  /-- Consecutive Syncs below LOCK. -/
  good : Nat := 0
  /-- t1, corrected, and t2 of the last Sync. -/
  t1 : Int := 0
  t2 : Int := 0
  /-- A two-step Sync that waits for its Follow_Up: sequence and t2, with its correction. -/
  follow : Option (Nat × Int × Int) := none
  /-- A two-step Pdelay_Resp that waits for its follow-up: sequence, t2, its time of arrival, and its correction. -/
  presp : Option (Nat × Int × Int × Int) := none
  /-- A delay request that is out: sequence and its transmission time. -/
  req : Option (Nat × Int) := none
  seq : Nat := 0
  /-- The pair latched before the one in the registers, and the number of pairs latched, up to 2. -/
  pairs : Nat := 0
  prevAon : Nat := 0
  prevDtime : Nat := 0
deriving DecidableEq, Repr

/-- The network domain beside its registers. -/
structure Net where
  /-- Associations by table entry, 0 to 63. -/
  assocs : Tab (Option Assoc) := []
  /-- Send descriptors in work, in the order of taking; the next number and the next ring index to take. -/
  descs : List TxDesc := []
  descNum : Nat := 0
  taken : Nat := 0
  /-- Group messages that wait for their slot (R474, R475), oldest first, each with the number of its send descriptor; why they
  wait, and the DTIME at which the slot opens. -/
  waiting : List (Peer × CtpMsg × Option Nat) := []
  hold : Bool := false
  skip : Bool := false
  slotAt : Nat := 0
  /-- Fast domains are already asked to wake for the group wake that is pending. -/
  wakeAsked : Bool := false
  /-- A JOIN has been sent since this JOINING or ALONE began (R472). -/
  joinSent : Bool := false
  mates : Tab Mate := []
  /-- Beacon count, and the job ID of the newest decision sent (R463). -/
  beacons : Nat := 0
  lastDecided : Nat := 0
  ptp : Ptp := {}
  /-- Everything sent, newest first. -/
  sent : List NetOut := []
deriving DecidableEq, Repr


/-- The device. -/
structure State where
  /-- The commands that wait, first in, first out. -/
  pending : List Instr
  /-- Every register, by register-region offset; an unlisted one reads as its reset value (R60, R67). -/
  regs : Tab Word
  /-- The latch of every (interface, 64-bit register) pair (R64), by interface number × 2^28 + LO offset. -/
  latches : Tab Word
  /-- Bytes of the scratchpads, the Lantern windows and DRAM, by device address (R10); unlisted bytes are 0. -/
  mem : Tab Byte
  /-- Poison marks: by address of a 64-byte activation or DRAM unit, of a 2 KiB partial-sum row, of a 64-bit weight
  word that decodes as uncorrectable (R288 to R290). -/
  poison : Tab Bool
  /-- Bytes of the SPI NOR flash; unlisted bytes are 0xFF. -/
  flash : Tab Byte
  clock : Clock
  fuses : Fuses
  boot : Boot
  /-- The job slots J0 to J15 (R21). -/
  jobs : Tab Job
  keeper : Keeper
  /-- The flash operation in progress (R95). -/
  flashOp : Option FlashOp
  prec : Prec
  power : Power
  fault : FaultSt
  pcie : Pcie
  /-- Frame number of each context (R104, chapter 0). -/
  frames : Tab Nat
  /-- The video ports. -/
  ports : Tab Port
  /-- What waits for its pipe, by context. -/
  pipeq : Tab (List PipeItem)
  /-- The contexts of the pipes. -/
  pctx : Tab PCtx
  /-- Lines started by pipe, for the turn order of R124. -/
  pipeTurn : Tab Nat
  /-- Bytes in the staging ring of each pipe (R151). -/
  stage : Tab Nat
  /-- Lines handed to the Sector engine at a splice, by context, each with its place in the order of arrival (R142, R189). -/
  spliceq : Tab (List (Nat × PipeItem))
  /-- Contents of the program banks of the Sector engine, by (cluster × 2 + bank) × 196,608 + offset (R178). -/
  secBank : Tab Byte
  /-- The clusters. -/
  secCl : Tab SecCl
  /-- The contexts in the Sector engine. -/
  secCtx : Tab SecCtx
  /-- Counts the items handed over at splices; with each stands the count at which it arrived (R189). -/
  spliceTurn : Nat
  /-- Words of 4 bytes of the Sector program banks that hold the uncorrectable pattern (R391), by (cluster × 2 + bank) × 49,152 + word. -/
  secPois : Tab Bool
  /-- The Lens. -/
  lens : Lens
  /-- The hardware semaphores (R299). -/
  sems : Tab Sem
  /-- The fill and copy engine. -/
  fc : Fc
  /-- The Lantern cores, by physical number (R344). -/
  lan : Tab Lan
  /-- LR/SC reservations: core and 64-byte granule (R368). -/
  resv : List (Nat × Nat)
  /-- The DMA channels. -/
  dma : Tab Dma
  /-- The bandwidth regulator. -/
  regul : Regul
  /-- The 1 MiB blocks of DRAM whose codes are valid (R418). -/
  ddrValid : Tab Bool
  /-- The LPDDR5X controller. -/
  ddr : Ddr
  /-- The network domain. -/
  net : Net
  /-- The answer of the last bus access. -/
  resp : Resp
  /-- MODEL FIELD: how many free values have been used (log entry 1). -/
  free : Nat
  /-- AON_TIME plus 1 of the last raise of each event whose rate is limited, by limiter. -/
  limits : Tab Nat
deriving DecidableEq, Repr

/-- The device in which every domain has just left reset, with no image loaded: every register at its reset value. -/
def State.reset : State :=
  { pending := [], regs := [], latches := [], mem := [], poison := [], flash := [], clock := {}, fuses := {},
    boot := {}, jobs := [], keeper := {}, flashOp := none, prec := {}, power := {}, fault := {}, pcie := {},
    frames := [],
    ports := [],
    pipeq := [],
    pctx := [],
    pipeTurn := [],
    stage := [],
    spliceq := [],
    secBank := [],
    secCl := [],
    secCtx := [],
    spliceTurn := 0,
    secPois := [],
    lens := {},
    sems := [],
    fc := {},
    -- FEAT0 to FEAT3 without an image: CORE and STEPPING, GROUPS, the sizes, the limits (R371)
    lan := (List.range 18).map (fun n =>
      (n, { feat := [(0, BitVec.ofNat 32 (0xB00000 + n)), (1, 0xFFF), (2, 0x400200), (3, 0x1020840)] })),
    resv := [],
    dma := [],
    regul := {},
    ddrValid := [],
    ddr := {},
    net := {},
    resp := {}, free := 0, limits := [] }

end Sys2Proof.Machine
end

