-- ==== Sys2Proof/Machine/Ops.lean ====
section
/-! DEFINITION. The named operations that every command is written with: reading and writing registers, counters, raising
events (R486 to R490), asserting interrupts (R320, R431), the journal (R74, R75), semaphores (R299 to R301), domain
states (R66), the device address map (R10 to R13), memory bytes and poison marks (R288 to R291). -/

namespace Sys2Proof.Machine

open Sys2Proof

/-! ### Events: classes (R485, R491) -/

/-- Class code of an event number (R491); 0 for numbers that are not listed. -/
def evtClass (e : Nat) : Nat :=
  if [18].contains e then 1
  else if [68, 73, 74, 80, 81, 82, 83, 91, 102, 106, 114].contains e then 2
  else if [66, 69, 72, 86, 88, 90, 100, 101].contains e then 3
  else if [1, 2, 3, 4, 5, 6, 42].contains e then 4
  else if [7, 43, 107, 137, 138].contains e then 5
  else 0

/-! ### Registers -/

/-- The register whose value in force an offset shows (R69): shadowed groups show it at plus 0x8000 in their page. -/
def inForceOf (off : Nat) : Option Nat :=
  let b := off / 0x100000
  if (0x10 ≤ b ∧ b ≤ 0x17) ∨ b = 0x1A ∨ b = 0x1B then
    if 0x8000 ≤ off % 0x10000 ∧ (0x1A ≤ b ∨ off % 0x100000 < 0x10000) then
      match regAt (off - 0x8000) with
      | some (r, _) => if r.shadowed then some (off - 0x8000) else none
      | none => none
    else none
  else none

/-- Point `i` of the tone curve at reset (R157). -/
def toneReset (i : Nat) : Nat := if i * 64 ≤ 65535 then i * 64 else 65535

/-- The reset value of an assigned register (R67); 0 at an unassigned offset (R61). -/
def rowReset (off : Nat) : Nat :=
  match regAt off with
  | none => 0
  | some (r, ix) =>
    if r.base = rFLT_EVT_CFG 0 then
      let c := evtClass (ix.headD 0)
      1 + (if 4 ≤ c then 0x102 else 0) + c * 0x200
    else if r.base = rCTX_TONE_PT 0 0 0 then
      let w := (ix.drop 2).headD 0
      toneReset (2 * w) + toneReset (2 * w + 1) * 0x10000
    else r.rst

/-- What an offset of the register region reads as when nothing has changed it since reset (R67, R69). -/
def resetVal (off : Nat) : Word :=
  match inForceOf off with
  | some o => w32 (rowReset o)
  | none => w32 (rowReset off)

/-- The register at an offset, as stored. -/
def rd (s : State) (off : Nat) : Word := tget (resetVal off) s.regs off
/-- The register at an offset takes a value. -/
def wr (off : Nat) (v : Word) (s : State) : State := { s with regs := tput (resetVal off) s.regs off v }
/-- The register at an offset, as a number. -/
def rdn (s : State) (off : Nat) : Nat := (rd s off).toNat
/-- Field `[hi:lo]` of a register. -/
def rdF (s : State) (off hi lo : Nat) : Nat := fld (rd s off) hi lo
/-- Bit `i` of a register. -/
def rdB (s : State) (off i : Nat) : Bool := bit (rd s off) i
/-- The register takes a number, modulo 2^32. -/
def wrn (off v : Nat) (s : State) : State := wr off (w32 v) s
/-- Field `[hi:lo]` of a register takes a number. -/
def wrF (off hi lo v : Nat) (s : State) : State := wr off (setFld (rd s off) hi lo v) s
/-- Bit `i` of a register takes a value. -/
def wrB (off i : Nat) (b : Bool) (s : State) : State := wr off (setBit (rd s off) i b) s
/-- The 64-bit register whose LO half is at an offset (R64). -/
def rd64 (s : State) (lo : Nat) : Nat := rdn s lo + 2 ^ 32 * rdn s (lo + 4)
/-- Both halves of a 64-bit register. -/
def wr64 (lo v : Nat) (s : State) : State := wrn (lo + 4) (v / 2 ^ 32) (wrn lo v s)
/-- A counter that saturates at 0xFFFF_FFFF counts `n` more. -/
def bump (off n : Nat) (s : State) : State := wrn off (satN 32 (rdn s off + n)) s
/-- A counter that wraps modulo 2^32 counts `n` more. -/
def bumpW (off n : Nat) (s : State) : State := wrn off (rdn s off + n) s
/-- Consecutive words from an offset. -/
def wrWords : Nat → List Nat → State → State
  | _, [], s => s
  | off, v :: t, s => wrWords (off + 4) t (wrn off v s)
/-- `f` only if `b`. -/
def onlyIf (b : Bool) (f : State → State) (s : State) : State := if b then f s else s
/-- `f` for every element, in order. -/
def forAll {α : Type} (l : List α) (f : α → State → State) (s : State) : State := l.foldl (fun s x => f x s) s

/-! ### Answers, free values, limits -/

/-- The access is answered with data. -/
def answer (ws : List Word) (s : State) : State := { s with resp := { data := ws, err := false } }
/-- The access is answered with an error: reads return all ones (R13, R63, R66). -/
def answerErr (n : Nat) (s : State) : State := { s with resp := { data := List.replicate n (w32 0xFFFFFFFF), err := true } }
/-- The next free value, and the state that has used it. -/
def takeFree (s : State) : BitVec 64 × State := (Config.freeWord s.free, { s with free := s.free + 1 })

/-- AON cycles in 1 ms and in 1 s (R81). -/
def aonMs : Nat := 12500
def aonS : Nat := 12500000

/-- `f`, unless limiter `key` let one through less than `period` AON cycles ago. -/
def limited (key period : Nat) (f : State → State) (s : State) : State :=
  let last := tget 0 s.limits key
  if last = 0 ∨ last + period ≤ s.clock.aon + 1 then
    f { s with limits := tput 0 s.limits key (s.clock.aon + 1) }
  else s

/-! ### Domains (R60, R66) -/

/-- Domain of a block index (R60): 0 to 6, or 7 for AON; none for an unassigned index (R61). -/
def blockDom (b : Nat) : Option Nat :=
  if b = 0 ∨ b = 1 ∨ b = 3 ∨ b = 4 then some 0
  else if b = 2 ∨ b = 5 ∨ b = 8 ∨ b = 9 ∨ b = 0xA then some 7
  else if 0x10 ≤ b ∧ b ≤ 0x1B then some 3
  else if b = 0x20 then some 2
  else if b = 0x28 ∨ b = 0x29 then some 1
  else if b = 0x30 then some 0
  else if b = 0x38 ∨ (0x40 ≤ b ∧ b ≤ 0x51) then some 4
  else if b = 0x58 ∨ b = 0x59 ∨ b = 0x60 then some 0
  else if b = 0x68 then some 6
  else if 0x70 ≤ b ∧ b ≤ 0x76 then some 5
  else none

/-- Is D0 in reset (R489, R497)? -/
def d0InReset (s : State) : Bool := decide (s.boot.phase = .heldHot)
/-- FLT_DOMd.STATE: 0 RUN, 1 FENCED, 2 RESET, 3 OUT_OF_SERVICE (R507). -/
def domState (s : State) (d : Nat) : Nat := rdF s (rFLT_DOM d) 1 0
/-- Does the domain answer requests (R66)? Domains in reset, fenced, powered off or out of service do not. -/
def domOk (s : State) (d : Nat) : Bool :=
  if d = 7 then true
  else if d0InReset s then false
  else if d = 0 then true
  else decide (domState s d = 0) && !(decide (1 ≤ d ∧ d ≤ 4) && decide (s.power.state = .deep))
/-- Does the domain do work? In NAP the clocks of the domains in NAP_MASK have stopped: a domain there still answers register
accesses (R66), but none of its engines moves (R19, R509). -/
def domRun (s : State) (d : Nat) : Bool :=
  domOk s d && !(decide (1 ≤ d ∧ d ≤ 4 ∧ s.power.state = .nap) && nbit (rdF s rPWR_PLAN 3 0) (d - 1))
/-- DEV_STATE.READY. -/
def isReady (s : State) : Bool := rdB s rDEV_STATE 0
/-- Is Lantern n active under its profile (R72)? -/
def lanternActive (s : State) (n : Nat) : Bool := decide (n < 18) && rdB s rDEV_CAP1 n
/-- QUIESCE_STATUS.STATE. -/
def quiesceState (s : State) : Nat := rdF s rQUIESCE_STATUS 2 0
/-- The device is QUIESCED, QUIESCED_FORCED or APPLYING (R53, R87). -/
def isQuiesced (s : State) : Bool := decide (2 ≤ quiesceState s)
/-- 1588 is locked (R75). -/
def timeLocked (s : State) : Bool := rdB s rPTP_STATUS 0
/-- DTIME. -/
def dtime (s : State) : Nat := s.clock.dtime

/-! ### Interrupts to Lanterns (R320) and MSI-X vectors (R431) -/

/-- Interrupt source `src` of Lantern `n` is asserted; a core that is not active, or is in reset, takes nothing. -/
def assertSrc (n src : Nat) (s : State) : State :=
  if lanternActive s n && domOk s 4 then
    if src < 32 then wrB (rLC_PEND_LO n) src true s else wrB (rLC_PEND_HI n) (src - 32) true s
  else s

/-- A source that LCL_ROUTE0 or LCL_ROUTE1 routes: the core field is at bit `lo`, the enable bit above it (R338). -/
def assertRouted (off lo src : Nat) (s : State) : State :=
  if rdB s off (lo + 5) then assertSrc (rdF s off (lo + 4) lo) src s else s

/-- Can the endpoint send requests and messages (R429, R435, R436)? -/
def pcieUp (s : State) : Bool := domOk s 6 && rdB s rPCIE_LINK 0 && !rdB s rPCIE_LINK 8

/-- Vector `v` may be sent now: MSI-X enabled, neither masked, the link up. -/
def msixOpen (s : State) (v : Nat) : Bool :=
  pcieUp s && s.pcie.busMaster && s.pcie.msixEn && !s.pcie.fmask && !rdB s (rMSIX_CTRL v) 0

/-- The message of vector `v` is sent: its PBA bit clears and MSIX_SENT counts (R431, R432). -/
def msixSend (v : Nat) (s : State) : State :=
  let m := PcieOut.msix v (rd64 s (rMSIX_MSG v 0)) (rdn s (rMSIX_MSG v 2))
  bumpW (rPCIE_CNT 5) 1
    (wrB (rMSIX_PBA (v / 32)) (v % 32) false { s with pcie := { s.pcie with out := m :: s.pcie.out } })

/-- Vector `v` is asserted: sent, or held in the PBA (R431). -/
def msixAssert (v : Nat) (s : State) : State :=
  if msixOpen s v then msixSend v s else wrB (rMSIX_PBA (v / 32)) (v % 32) true s

/-- Every vector held in the PBA that may be sent now is sent (R431). -/
def msixRelease (s : State) : State :=
  forAll (upto 64) (fun v s => if rdB s (rMSIX_PBA (v / 32)) (v % 32) && msixOpen s v then msixSend v s else s) s

/-! ### Raising events (R486 to R490) -/

/-- The 32-byte record of R487 for an event of sequence `seq`. -/
def evtWords (seq : Nat) (e : Event) (dt : Nat) (unsure : Bool) : List Nat :=
  let j := e.job.getD {}
  [ seq,
    e.num + evtClass e.num * 0x100 + e.dom * 0x10000 + (b2n e.job.isSome + 2 * b2n unsure) * 0x1000000,
    j.jobId,
    j.slot % 16 + (j.gen % 256) * 0x100,
    dt % 2 ^ 32, dt / 2 ^ 32,
    e.addr % 2 ^ 32,
    (e.addr / 2 ^ 32) % 2 ^ 16 + (e.cause % 256) * 0x10000 ]

/-- A fault reaches a job, if it is still the slot's current one; one whose decision is sent only counts it (R26, R31). -/
def reachRef (r : JobRef) (s : State) : State :=
  let j := tget ({} : Job) s.jobs r.slot
  if j.gen = r.gen ∧ (j.state = .capturing ∨ j.state = .processing ∨ j.state = .restarting) then
    { s with jobs := tput {} s.jobs r.slot { j with reached := true } }
  else if j.gen = r.gen ∧ (j.state = .sent ∨ j.state = .abandoned) then
    { s with jobs := tput {} s.jobs r.slot { j with lateFaults := j.lateFaults + 1 } }
  else s

/-- A job-fatal event reaches the job it names (R26). -/
def reachJob (e : Event) (s : State) : State :=
  match e.job with
  | some r => if evtClass e.num = 3 then reachRef r s else s
  | none => s

/-- The event is counted, recorded and delivered (R486 to R489); a job-fatal one reaches its job (R26, R31). -/
def raiseNow (e : Event) (dt : Nat) (unsure : Bool) (s : State) : State :=
  let cfg := rd s (rFLT_EVT_CFG e.num)
  let s := reachJob e s
  let s := bumpW (rFLT_CNT 1) 1 (bump (rFLT_EVT_CNT e.num) 1 s)
  let s := onlyIf (bit cfg 0) (fun s =>
    let q := rdn s rFLT_EVT_NEXT
    wrn rFLT_EVT_NEXT (q + 1) (wrWords (rFLT_EVT_WORD ((q % 1024) * 8)) (evtWords q e dt unsure) s)) s
  let s := onlyIf (decide (4 ≤ evtClass e.num)) (fun s =>
    let q := rdn s rFLT_FATAL_NEXT
    wrn rFLT_FATAL_NEXT (q + 1) (wrWords (rFLT_FATAL_WORD ((q % 16) * 8)) (evtWords q e dt unsure) s)) s
  let s := onlyIf (bit cfg 1) (msixAssert 0) s
  let s := onlyIf (bit cfg 2) (assertSrc (fld cfg 7 3) 12) s
  let s := onlyIf (bit cfg 8) (fun s => { s with keeper := { s.keeper with
    core0 := { s.keeper.core0 with faultIrq := true }, core1 := { s.keeper.core1 with faultIrq := true } } }) s
  if evtClass e.num = 5 ∧ isReady s then
    { s with fault := { s.fault with fatal := true, hot := s.fault.hot || decide (e.num = 137) } }
  else s

/-- Raising an event: while D0 is in reset an AON unit's event is held, up to 16, and others are only counted (R489). -/
def raiseEvt (e : Event) (s : State) : State :=
  if d0InReset s then
    if e.dom = 7 ∧ s.fault.held.length < 16 then { s with fault := { s.fault with held := s.fault.held ++ [e] } }
    else bump rFLT_HELD_LOST 1 { s with fault := { s.fault with heldLost := s.fault.heldLost + 1 } }
  else raiseNow e (dtime s) (!timeLocked s) s

/-- An event without a job. -/
def raiseE (num dom : Nat) (s : State) : State := raiseEvt { num := num, dom := dom } s
/-- An event with an address in INFO. -/
def raiseA (num dom addr : Nat) (s : State) : State := raiseEvt { num := num, dom := dom, addr := addr } s
/-- An event that names a job. -/
def raiseJ (num dom : Nat) (j : Option JobRef) (addr : Nat) (s : State) : State :=
  raiseEvt { num := num, dom := dom, job := j, addr := addr } s
/-- A domain's fatal event with a cause (R491). -/
def raiseFatal (d cause : Nat) (s : State) : State := raiseEvt { num := d, dom := d, cause := cause } s

/-- The number of an interface in the journal, in E8 and in the latches: R75 and R490. -/
def ifaceNum : Iface → Nat
  | .pcie => 1 | .eth0 => 2 | .eth1 => 3 | .mgmt => 4 | .jtag => 5
  | .lantern n => 16 + n.val
  | .keeper k => 40 + k.val
/-- The cause byte of E8 for an interface (R490): both Keepers are 40. -/
def ifaceCause (i : Iface) : Nat := match i with | .keeper _ => 40 | i => ifaceNum i

/-- A decode error: counted, and E8 at most once per 1 ms per interface (R490). -/
def decodeErr (who addr : Nat) (s : State) : State :=
  limited (1000 + who) aonMs (raiseEvt { num := 8, dom := 0, addr := addr, cause := who }) (bump (rFLT_CNT 0) 1 s)

/-! ### The journal (R74, R75) -/

/-- Does the journal record the writes of an interface? -/
def journals : Iface → Bool
  | .pcie => true | .eth0 => true | .eth1 => true | .mgmt => true | .jtag => true
  | .lantern _ => false | .keeper _ => false

/-- FLAGS bits of a journal entry. -/
def jIGNORED : Nat := 1
def jREFUSED : Nat := 2
def jDECODE : Nat := 4
def jUNASSIGNED : Nat := 32

/-- The stamp that an entry made now takes: DTIME, and whether it is unsure (R75). -/
def jnlStamp (s : State) : Nat × Bool := (dtime s, !timeLocked s)

/-- One journal entry of a write by an interface, if the journal records it, with the stamp of the moment at which the write
took effect or was turned away. -/
def journalAt (st : Nat × Bool) (i : Iface) (flags off : Nat) (old new : Word) (s : State) : State :=
  if journals i then
    let q := rdn s rJNL_NEXT_SEQ
    let fl := flags + 8 * b2n st.2 + 16 * b2n s.boot.jnlFirst
    let s := wrWords (rJNL_WORD ((q % 4096) * 8))
      [q, ifaceNum i + fl * 0x100, off, old.toNat, new.toNat, 0, st.1 % 2 ^ 32, st.1 / 2 ^ 32] s
    let s := onlyIf s.boot.jnlFirst (wrn rJNL_FIRST_SEQ q) s
    wrn rJNL_NEXT_SEQ (q + 1) { s with boot := { s.boot with jnlFirst := false } }
  else s

/-- One journal entry, stamped with the present. -/
def journal (i : Iface) (flags off : Nat) (old new : Word) (s : State) : State :=
  journalAt (jnlStamp s) i flags off old new s

/-- A write whose value does not take effect: DEV_WR_IGNORED counts it, the journal shows IGNORED (R68). -/
def ignoredWrite (i : Iface) (off : Nat) (old v : Word) (s : State) : State :=
  journal i jIGNORED off old v (bump rDEV_WR_IGNORED 1 s)

/-! ### Lantern cores -/

/-- Lantern core `n`. -/
def lan (s : State) (n : Nat) : Lan := tget {} s.lan n
/-- Lantern core `n` takes a value. -/
def setLan (n : Nat) (l : Lan) (s : State) : State := { s with lan := tput {} s.lan n l }

/-- Does the reset of a core last (R335)? -/
def lanInReset (s : State) (n : Nat) : Bool := decide (s.clock.aon < (lan s n).resetTill)

/-- A write into a 64-byte granule clears every reservation of it (R368). -/
def unreserve (a len : Nat) (s : State) : State :=
  if len = 0 then s
  else { s with resv := s.resv.filter (fun r => !(decide (r.2 < a + len ∧ a < r.2 + 64))) }

/-! ### Semaphores (R299 to R301) -/

/-- Base of the semaphore region (R10). -/
def semBase : Nat := 0x300000000
/-- Semaphore `n`. -/
def sem (s : State) (n : Nat) : Sem := tget {} s.sems n
/-- Semaphore `n` takes a value. -/
def setSem (n : Nat) (x : Sem) (s : State) : State := { s with sems := tput {} s.sems n x }
/-- The count changes; from 0 to above 0 it asserts source 10 of the named Lantern (R301). -/
def semLoad (n c : Nat) (s : State) : State :=
  let x := sem s n
  onlyIf (x.notifyEn && decide (x.count = 0 ∧ 0 < c)) (assertSrc x.notify 10)
    (setSem n { x with count := c } (unreserve (semBase + n * 64) 64 s))
/-- A release of `k` counts, saturating at 65,535 with E84 (R299). -/
def semRelease (n k : Nat) (s : State) : State :=
  let c := (sem s n).count + k
  if 65535 < c then
    limited 84 aonMs (raiseE 84 0) (bump (rSP_CNT 9) 1 (semLoad n 65535 s))
  else semLoad n c s
/-- One count is taken when the count is above 0. -/
def semTake (n : Nat) (s : State) : State :=
  let x := sem s n
  if 0 < x.count then setSem n { x with count := x.count - 1 } s else s

/-! ### Jobs (R22) -/

/-- Job slot `k`. -/
def job (s : State) (k : Nat) : Job := tget {} s.jobs k
/-- Job slot `k` takes a value. -/
def setJob (k : Nat) (j : Job) (s : State) : State := { s with jobs := tput {} s.jobs k j }
/-- The job of slot `k` is open: neither free nor cooling. -/
def jobOpen (s : State) (k : Nat) : Bool :=
  match (job s k).state with
  | .free => false | .cooling => false | .capturing => true | .processing => true | .restarting => true | .sent => true
  | .abandoned => true
/-- Some job is open. -/
def anyJobOpen (s : State) : Bool := (upto 16).any (jobOpen s)
/-- The generation carried equals the slot's current one (R22). -/
def genOk (s : State) (slot gen : Nat) : Bool := decide ((job s slot).gen = gen)
/-- The slot's generation advances by 1, modulo 256 (R22). -/
def genAdvance (k : Nat) (s : State) : State :=
  let j := job s k
  setJob k { j with gen := (j.gen + 1) % 256 } s

/-! ### The device address map (R10 to R13) -/

/-- Base addresses of the regions of R10. -/
def wmBase : Nat := 0x100000000
def amBase : Nat := 0x140000000
def psBase : Nat := 0x180000000
def lanternBase (n : Nat) : Nat := 0x200000000 + n * 0x1000000
def dramBase : Nat := 0x1000000000
def hostBase : Nat := 0x8000000000

/-- Where a byte address lies. -/
inductive Region where
  | reg | wm | am | ps
  /-- Local data memory, instruction memory of Lantern n. -/
  | ldm (n : Nat) | lim (n : Nat)
  | sems | dram | host
  /-- No region: a decode error. -/
  | bad
deriving DecidableEq, Repr

/-- The region of a byte address (R10, R11), before the checks that depend on the state. -/
def regionOf (a : Nat) : Region :=
  if a ≤ 0x0FFFFFFF then .reg
  else if 0x100000000 ≤ a ∧ a ≤ 0x101FFFFFF then .wm
  else if 0x140000000 ≤ a ∧ a ≤ 0x143FFFFFF then .am
  else if 0x180000000 ≤ a ∧ a ≤ 0x1807FFFFF then .ps
  else if 0x200000000 ≤ a ∧ a < 0x200000000 + 18 * 0x1000000 then
    let n := (a - 0x200000000) / 0x1000000
    let o := (a - 0x200000000) % 0x1000000
    if o ≤ 0x7FFFF then .ldm n else if 0x800000 ≤ o ∧ o ≤ 0x80FFFF then .lim n else .bad
  else if 0x300000000 ≤ a ∧ a ≤ 0x30000FFFF then .sems
  else if 0x1000000000 ≤ a ∧ a ≤ 0x27FFFFFFFF then .dram
  else if 0x8000000000 ≤ a ∧ a ≤ 0xBFFFFFFFFF then .host
  else .bad

/-- Entry of the bank ownership table that describes the scratchpad bank of an address (R279, R284). -/
def bankEntry (a : Nat) : Option Nat :=
  match regionOf a with
  | .wm => some ((a - wmBase) / 0x100000)
  | .am => some (32 + (a - amBase) / 0x100000)
  | .ps => some (96 + ((a - psBase) / 2048) % 32)
  | _ => none

/-- Is the bank of an ownership entry available (R34, R292)? -/
def bankAvail (s : State) (i : Nat) : Bool :=
  if i < 32 then !rdB s rDEV_BANK_WM i
  else if i < 64 then !rdB s rDEV_BANK_AM_LO (i - 32)
  else if i < 96 then !rdB s rDEV_BANK_AM_HI (i - 64)
  else !rdB s rDEV_BANK_PS (i - 96)

/-- Is a byte address decoded (R13)? Unavailable banks, spare Lanterns and DRAM above the usable capacity (R403) are not. -/
def decodes (s : State) (a : Nat) : Bool :=
  match regionOf a with
  | .bad => false
  | .reg => true
  | .wm | .am | .ps => match bankEntry a with | some i => bankAvail s i | none => false
  | .ldm n => lanternActive s n
  | .lim n => lanternActive s n
  | .sems => true
  | .dram => decide (a < dramBase + rdF s rDDR_USABLE 16 0 * 2 ^ 20)
  | .host => true

/-- Is every byte of an access decoded? The access is judged as a whole (R13). Bank edges lie 2 KiB apart at least, so
the first byte, the last and one byte in every 2 KiB decide. -/
def decodesAll (s : State) (a len : Nat) : Bool :=
  (upto (len / 2048 + 1)).all (fun k => decide (len ≤ k * 2048) || decodes s (a + k * 2048)) &&
  (decide (len = 0) || decodes s (a + len - 1)) &&
  decide (regionOf a = regionOf (a + (len - 1)))

/-- The domain that answers an address (R66): Lantern windows lie in D4, the host window in D6, the rest in D0. -/
def regionDom (a : Nat) : Nat :=
  match regionOf a with
  | .ldm _ => 4 | .lim _ => 4 | .host => 6 | _ => 0

/-- Does port `p` of R281 own the bank of an address (R284)? DMA, FABRIC and FILLCOPY (11 to 13) own every available bank,
whatever an image holds, and so also before one is loaded (R285, R51). -/
def ownsBank (s : State) (p a : Nat) : Bool :=
  match bankEntry a with
  | some i => if 11 ≤ p then bankAvail s i else rdB s (rSP_OWNER i) p
  | none => false

/-! ### Memory bytes and poison marks -/

/-- One byte of memory. -/
def memByte (s : State) (a : Nat) : Byte := tget 0 s.mem a
/-- `n` bytes from an address. -/
def memBytes (s : State) : Nat → Nat → List Byte
  | _, 0 => []
  | a, n + 1 => memByte s a :: memBytes s (a + 1) n
/-- A little-endian number of `n` bytes at an address (R9). -/
def memLe (s : State) (a n : Nat) : Nat := ofLe (memBytes s a n)
/-- One byte is stored. -/
def setByte (a : Nat) (b : Byte) (s : State) : State := { s with mem := tput 0 s.mem a b }
/-- Bytes are stored from an address up. -/
def setBytes : Nat → List Byte → State → State
  | _, [], s => s
  | a, b :: t, s => setBytes (a + 1) t (setByte a b s)

/-- The unit that carries the poison mark of an address: its base and its size (R288 to R290); none where no mark can be
held. The marks of weight memory and of DRAM under inline ECC stand for words of 8 bytes that decode as uncorrectable
(R288, R417); a write never sets one in DRAM, which holds no poison mark (R391). -/
def poisonUnit (s : State) (a : Nat) : Option (Nat × Nat) :=
  match regionOf a with
  | .wm => some (a / 8 * 8, 8)
  | .am => some (a / 64 * 64, 64)
  | .ps => some (a / 2048 * 2048, 2048)
  | .dram => if rdB s rDDR_CFG 16 then some (a / 8 * 8, 8) else none
  | _ => none

/-- Is the unit of an address marked poisoned? -/
def poisonedAt (s : State) (a : Nat) : Bool :=
  match poisonUnit s a with
  | some (b, _) => tget false s.poison b
  | none => false
/-- The mark of a unit takes a value. -/
def setPoison (b : Nat) (v : Bool) (s : State) : State := { s with poison := tput false s.poison b v }

/-- The bases of the poison units that an access touches. -/
def unitsOf (s : State) (a len : Nat) : List (Nat × Nat) :=
  match poisonUnit s a with
  | none => []
  | some (b, n) => if len = 0 then [] else (upto ((a + len - 1) / n - a / n + 1)).map (fun k => (b + k * n, n))

/-- Does an access touch a unit that is marked poisoned? -/
def poisonedIn (s : State) (a len : Nat) : Bool := (unitsOf s a len).any (fun u => tget false s.poison u.1)

/-- A write of `len` bytes at `a` sets, keeps or clears the mark of one unit: a write of the whole unit takes the data's
state, a part only adds poison (R288 to R290). -/
def markUnit (a len : Nat) (dirty : Bool) (u : Nat × Nat) (s : State) : State :=
  if a ≤ u.1 ∧ u.1 + u.2 ≤ a + len then setPoison u.1 dirty s
  else if dirty then setPoison u.1 true s else s

/-- Bytes are stored, with the poison state of the data. -/
def storeBytes (a : Nat) (bs : List Byte) (dirty : Bool) (s : State) : State :=
  forAll (unitsOf s a bs.length) (markUnit a bs.length (dirty && decide (regionOf a ≠ .dram)))
    (setBytes a bs (unreserve a bs.length s))

/-- A little-endian number is stored in `n` bytes. -/
def storeLe (a n v : Nat) (s : State) : State := storeBytes a (leBytes n v) false s

/-! ### Windows, segments and work -/

/-- STATE of window unit `w`: 0 IDLE, 1 OPEN, 2 GAP, 3 LOCKOUT. -/
def winState (s : State) (w : Nat) : Nat := rdF s (rWIN_STATE w) 1 0
/-- Trigger generator `t`. -/
def trig (s : State) (t : Nat) : Trig := tget {} s.keeper.trigs t
/-- A window is open (GAP included). -/
def winOpen (s : State) (w : Nat) : Bool := decide (winState s w = 1 ∨ winState s w = 2)
/-- Some window is open. -/
def anyWinOpen (s : State) : Bool := (upto 4).any (winOpen s)
/-- A camera segment is open. -/
def anySegOpen (s : State) : Bool := (upto 8).any (fun t => (trig s t).seg.isSome)
/-- The device is latched out of service and has come up so (R100, R502). -/
def deviceOos (s : State) : Bool := rdB s rDEV_STATE 1
/-- What keeps the fast domains out of NAP and DEEP: an open window, segment or job, or HOLD (R20, R93, R512). -/
def fastBusy (s : State) : Bool := anyWinOpen s || anySegOpen s || anyJobOpen s || rdB s rWAKE_CTRL 0
/-- DDR_STATUS.STATE (R420). -/
def ddrState (s : State) : Nat := rdF s rDDR_STATUS 2 0

/-! ### Time -/

/-- One AON cycle passes: AON_TIME counts (R81) and DTIME advances by 80 ns at the rate of PTP_ADJ (R443, R480). -/
def tick (s : State) : State :=
  let adj := sext 32 (rdn s rPTP_ADJ)
  let inc : Int := (80 * 2 ^ 32 : Nat) + (80 * 2 ^ 32 : Nat) * adj / 65536000000
  let t := ((s.clock.dtime * 2 ^ 32 + s.clock.dfrac : Nat) : Int) + inc
  let u := wrapN 96 t
  { s with clock := { aon := s.clock.aon + 1, dtime := u / 2 ^ 32, dfrac := u % 2 ^ 32 } }

end Sys2Proof.Machine
end

