-- ==== Sys2Proof/Machine/Access.lean ====
section
/-! DEFINITION. Register accesses: which accesses a block answers (R61 to R66), what each access type does on a write and
on a read (R14, R68), pairs and latches (R64), and the journal of a write (R74). The effect of a particular register's write
is given by its chapter; here stand the gate in front of it and the plain effect. -/

namespace Sys2Proof.Machine

open Sys2Proof

/-! ### What a read shows -/

/-- Resets of domain d within the last 600 s (R100). -/
def rwinCount (s : State) (d : Nat) : Nat :=
  ((tget [] s.prec.hist d).filter (fun t => decide (s.clock.aon ≤ t + 600 * aonS))).length

/-- The number of PWR_STATUS.STATE and DEV_STATE.POWER (R72, R509, R528): IDLE while the fast domains run without work;
the reset value while no image is in force. -/
def powerCode (s : State) : Nat :=
  match s.power.state with
  | .run => if s.boot.phase = .running ∧ s.power.step = .none ∧ !fastBusy s then 1 else 0
  | .nap => 2 | .deep => 3
/-- PWR_STATUS.ENTERING. -/
def powerEntering (s : State) : Bool :=
  match s.power.step with | .napEntry | .deepNap | .deepStop => true | .none | .waking | .deepExit => false

/-- Does a predicate hold of each number below n? The set of those, as a mask. -/
def maskOf (n : Nat) (p : Nat → Bool) : Nat := (upto n).foldl (fun m k => if p k then m + 2 ^ k else m) 0

/-- PWR_STATUS.CLK: which of D1 to D4 are clocked (R509): those that the plan leaves out of NAP_MASK stay clocked in NAP, and
a domain whose PLL is not locked has no clock (R522). -/
def clockMask (s : State) : Nat :=
  let on := match s.power.state with
    | .run => 15
    | .nap => 15 - rdF s rPWR_PLAN 3 0
    | .deep => 0
  maskOf 4 (fun i => nbit on i && rdB s rPWR_PLL (if i < 2 then 0 else if i = 2 then 2 else 1))

/-- GPIO_IN: a pin that drives shows its level driven, an input the level of the board (R94). Out of service every pin is an
input (R502). -/
def gpioIn (s : State) : Word :=
  let oe := if deviceOos s then 0 else rd s rGPIO_OE
  (oe &&& rd s rGPIO_OUT) ||| (~~~ oe &&& w32 s.keeper.gpioPins &&& w32 0xFFFFFF)

/-- The profile of core `n` in the image in force (R307); 0 where none is in force. -/
def coreProfile (s : State) (n : Nat) : Nat := leAt (4 * n) 4 (tget [] s.boot.secs 5)
/-- LC_STATUS.STATE (R334 to R336): 0 RUN, 1 HALTED once issue has stopped and no long operation is left, 2 SPARE, 3 IN_RESET;
0 as well before an image gives it a value (R67). -/
def lcState (s : State) (n : Nat) : Nat :=
  if !lanternActive s n then (if (tget [] s.boot.secs 5).isEmpty then 0 else 2)
  else if lanInReset s n then 3
  else if (lan s n).stopped && (lan s n).longs.isEmpty then 1 else 0
/-- LC_STATUS (R336); a spare core shows its profile. -/
def lcStatus (s : State) (n : Nat) : Word :=
  let l := lan s n
  let act := lanternActive s n
  let vl256 := if act then l.vl256 else nbit (coreProfile s n) 1
  let rstack := if act then l.rstack else nbit (coreProfile s n) 2
  w32 (lcState s n + 4 * b2n vl256 + 8 * b2n rstack + 16 * b2n l.dbl + 256 * l.longs.length + 4096 * fld l.psw 3 1)
/-- LC_PC (R336): halted, the next bundle; running, the last one issued. -/
def lcPc (s : State) (n : Nat) : Word := w32 (if lcState s n = 1 then (lan s n).pc else (lan s n).last)

/-- INIT_DONE (R420): the DRAM is set up, and every valid bit of R418 is set or inline ECC is off. -/
def ddrInitDone (s : State) : Bool :=
  decide (rdF s rDDR_STATUS 2 0 ≠ 0) &&
    (!rdB s rDDR_CFG 16 || (upto (rdF s rDDR_USABLE 16 0)).all (fun b => tget false s.ddrValid b))

/-- The network identity section of the image in force (R446); empty where none is loaded. -/
def netSec (s : State) : List Byte := tget [] s.boot.secs 10
/-- Does interface `k` exist (R440)? IF(4n) and the management port always do, the others of a port while it is split. -/
def ifExists (s : State) (k : Nat) : Bool :=
  decide ((netSec s).length = 480) && (decide (k = 8) || (decide (k < 8) && (decide (k % 4 = 0) || nbit (leAt 0 2 (netSec s)) (k / 4))))
/-- The page of interface `k` (R479). -/
def ifPage (k : Nat) : Nat := if k = 8 then rMGMT_IF_STATUS 0 else rETH_IF_STATUS (k / 4) (k % 4)
/-- The interface whose page holds an offset. -/
def ifOfPage (off : Nat) : Option Nat := (upto 9).find? (fun k => decide (ifPage k ≤ off ∧ off < ifPage k + 0x60))
/-- Is this an offset in the page of an interface that does not exist (R479)? -/
def deadIf (s : State) (off : Nat) : Bool := match ifOfPage off with | some k => !ifExists s k | none => false

/-- What an interface page shows that its registers do not store: zeros where the interface does not exist, and the MAC of
the image. -/
def ifView (s : State) (off : Nat) : Option Word :=
  match ifOfPage off with
  | none => none
  | some k =>
    if !ifExists s k then some 0
    else if off = ifPage k + 8 then some (w32 (leAt (0x20 + k * 8) 4 (netSec s)))
    else if off = ifPage k + 12 then some (w32 (leAt (0x24 + k * 8) 2 (netSec s)))
    else none

/-- Depth counts and states that a status register composes from other registers or from the unit. -/
def computed (s : State) (off : Nat) : Option Word :=
  if off = rAON_TIME_LO then some (w32 s.clock.aon)
  else if off = rAON_TIME_HI then some (w32 (s.clock.aon / 2 ^ 32))
  else if off = rPTP_TIME_LO then some (w32 s.clock.dtime)
  else if off = rPTP_TIME_HI then some (w32 (s.clock.dtime / 2 ^ 32))
  else if off = rDEV_STATE then some (setFld (rd s off) 4 2 (powerCode s))
  else if off = rBOOT_STATUS then some (setBit (rd s off) 3 (isReady s))
  else if off = rPWR_STATUS then
    some (setFld (setBit (setFld (rd s off) 2 0 (powerCode s)) 3 (powerEntering s)) 7 4 (clockMask s))
  else if off = rGPIO_IN then some (gpioIn s)
  else if off = rFLASH_CMD then some (setBit (rd s off) 17 (s.prec.writing.isSome || s.flashOp.isSome))
  else if rRWIN_D 0 ≤ off ∧ off < rRWIN_D 7 ∧ off % 4 = 0 then
    let v := setFld (rd s off) 2 0 (rwinCount s ((off - rRWIN_D 0) / 4))
    some (if off = rRWIN_D 0 then setBit v 3 s.prec.latched else v)
  else if off = rDMA_ACTIVE then some (w32 (maskOf 32 (fun c => decide (rdF s (rCH_STATUS c) 2 0 ≠ 0))))
  else if off = rDMA_HALTED then some (w32 (maskOf 32 (fun c => decide (rdF s (rCH_STATUS c) 2 0 = 6))))
  else if off = rDDR_STATUS then some (setBit (rd s off) 3 (ddrInitDone s))
  else if off = rLCL_RUNNING then some (w32 (maskOf 18 (fun n => lanternActive s n && decide (lcState s n = 0))))
  else if off = rLCL_HALTED then some (w32 (maskOf 18 (fun n => decide (lcState s n = 1))))
  else if rLC_CTRL 0 ≤ off ∧ off < rLC_CTRL 18 ∧ off % 0x100000 = 0 then
    some (setBit (rd s off) 1 (lanInReset s ((off - rLC_CTRL 0) / 0x100000)))
  else if rLC_STATUS 0 ≤ off ∧ off < rLC_CTRL 18 ∧ off % 0x100000 = 4 then some (lcStatus s ((off - rLC_CTRL 0) / 0x100000))
  else if rLC_STATUS 0 ≤ off ∧ off < rLC_CTRL 18 ∧ off % 0x100000 = 8 then some (lcPc s ((off - rLC_CTRL 0) / 0x100000))
  else if off = rDEV_ID then some (setFld (rd s off) 25 24 s.fuses.grade)
  else if off = rDEV_SERIAL_LO then some (w32 s.fuses.serial)
  else if off = rDEV_SERIAL_HI then some (w32 (s.fuses.serial / 2 ^ 32))
  else ifView s off

/-- Is a shadow control register at this offset (R70)? -/
def isShadowCtrl (off : Nat) : Bool :=
  let b := off / 0x100000
  (decide (0x10 ≤ b ∧ b ≤ 0x17) && decide (off % 0x100000 = 0xFC)) ||
  (decide (b = 0x1A) && decide (off % 0x10000 = 0xF00)) || (decide (b = 0x1B) && decide (off % 0x10000 = 0xFC))

/-- Is this an entry of the zero-height table of a context that no extractor serves? It reads 0 and discards writes (R172). -/
def deadZ (s : State) (off : Nat) : Bool :=
  let c := (off - rSTAT_CFG 0) / 0x10000
  decide (rMEAS_Z 0 0 ≤ off ∧ off < rSTAT_CFG 16) && decide (0x4000 ≤ off % 0x10000 ∧ off % 0x10000 < 0x6000) &&
    !rdB s (rMEAS_STATUS c) 0

/-- A word of a Sector cluster's bank window: the bank that WSEL selects (R200). -/
def secWindow (s : State) (off : Nat) : Option Word :=
  if rSC_BANK 0 0 ≤ off ∧ off < rSC_BANK 4 0 ∧ off % 4 = 0 then
    let c := (off - rSC_BANK 0 0) / 0x30000
    let o := (off - rSC_BANK 0 0) % 0x30000
    let b := (c * 2 + b2n (rdB s (rSC_PROG_CTRL c) 0)) * 196608
    some (w32 (ofLe ((upto 4).map (fun k => tget 0 s.secBank (b + o + k)))))
  else none

/-- What a read without side effects shows at an offset (R73). -/
def view (s : State) (off : Nat) : Word :=
  match (computed s off).or (secWindow s off) with
  | some v => v
  | none =>
    if isShadowCtrl off then setBit (rd s off) 3 (rdB s off 0)
    else if deadZ s off then 0
    else rd s off

/-! ### The gate in front of a register -/

/-- How a block answers an access (R61, R62, R66, R73). -/
inductive Gate where
  | open | decode | refused
deriving DecidableEq, Repr

/-- The gate for an access by an interface. -/
def gate (i : Iface) (isWrite : Bool) (off : Nat) (s : State) : Gate :=
  let b := off / 0x100000
  match blockDom b with
  | none => .decode
  | some d =>
    if b = 3 ∧ i ≠ .jtag then .decode
    else if !domOk s d then .refused
    -- halted without D6, the DDR block is reached through JTAG alone (R408)
    else if b = 0x60 ∧ s.boot.phase = .halted ∧ s.boot.src = 2 ∧ journals i ∧ i ≠ .jtag then .refused
    else if isWrite ∧ 0x40 ≤ b ∧ b ≤ 0x51 ∧ ¬ lanternActive s (b - 0x40) then .refused
    else .open

/-- All ones: the answer of a failed read. -/
def allOnes : Word := w32 0xFFFFFFFF

/-- Doorbell writes, interrupt acknowledgements and `Not journalled` registers make no entry (R74). Acknowledgements are the
writes of LC_PEND and PCIE_HDB_PEND (log entry 5). -/
def quietAt (off : Nat) : Bool :=
  match regAt off with
  | some (r, _) => r.quiet || decide (r.base = rLC_PEND_LO 0 ∨ r.base = rLC_PEND_HI 0 ∨ r.base = rPCIE_HDB_PEND)
  | none => false

/-- The entry of an accepted write: OLD and NEW, or IGNORED with the written value (R74, R75). `st`: the stamp of the moment at
which the write took effect, before anything that it changed (a D0 that it reset, a DTIME that it stepped). An ignored write of a
64-bit register counts once per half, as its two entries do (log entry 86). -/
def logWrite (st : Nat × Bool) (i : Iface) (off : Nat) (old : Word) (v : Word) (ok : Bool) (s : State) : State :=
  if ok then (if quietAt off then s else journalAt st i 0 off old (view s off) s)
  else onlyIf (!quietAt off) (journalAt st i jIGNORED off old v) (bump rDEV_WR_IGNORED 1 s)

/-- The key of the latch of an interface for the 64-bit register whose LO half is at `lo` (R64). -/
def latchKey (i : Iface) (lo : Nat) : Nat := ifaceNum i * 2 ^ 28 + lo
/-- An interface's latch. -/
def latch (s : State) (i : Iface) (lo : Nat) : Word := tget 0 s.latches (latchKey i lo)
/-- An interface's latch takes a value. -/
def setLatch (i : Iface) (lo : Nat) (v : Word) (s : State) : State :=
  { s with latches := tput 0 s.latches (latchKey i lo) v }

/-- 0: no pair; 1: the LO half of a pair; 2: the HI half (R64). -/
def halfAt (off : Nat) : Nat :=
  match regAt off with
  | some (r, _) => r.half
  | none => match inForceOf off with
    | some o => (match regAt o with | some (r, _) => r.half | none => 0)
    | none => 0

/-- The entries of a write of 32 bits that is turned away (R74): none at a quiet register or for the LO write of a pair, and one
for each half, LO first, for the HI write. -/
def logTurned (i : Iface) (flags off : Nat) (v : Word) (s : State) : State :=
  let entry (o : Nat) (w : Word) (s : State) : State := if quietAt o then s else journal i flags o allOnes w s
  match halfAt off with
  | 1 => s
  | 2 => entry off v (entry (off - 4) (latch s i (off - 4)) s)
  | _ => entry off v s

/-- A write of 32 bits by an interface at an offset (R61 to R66, R74): turned away, discarded at an unassigned offset, put
into the latch for a LO half, or performed by `eff`, which answers whether the value took effect. -/
def gatedWrite (i : Iface) (off : Nat) (v : Word) (eff : State → State × Bool) (s : State) : State :=
  match gate i true off s with
  | .decode => answerErr 0 (logTurned i jDECODE off v (decodeErr (ifaceCause i) off s))
  | .refused => answerErr 0 (logTurned i jREFUSED off v s)
  | .open =>
    let s := answer [] s
    if (regAt off).isNone ∧ (inForceOf off).isNone then journal i jUNASSIGNED off 0 v s
    else if halfAt off = 1 then setLatch i off v s
    else if halfAt off = 2 then
      let lo := off - 4
      let oldLo := view s lo
      let old := view s off
      let r := eff s
      logWrite (jnlStamp s) i off old v r.2 (logWrite (jnlStamp s) i lo oldLo (latch s i lo) r.2 r.1)
    else
      let old := view s off
      let r := eff s
      logWrite (jnlStamp s) i off old v r.2 r.1

/-- Is the owner of an RWH register active for a write of this interface (R68)? Owners: the Keeper program for window and
trigger parameters, stopped by KPR_EXPOSE (R86); the window's write check for CREDITS (R306); the DMA channel (R397); the
check unit's entry (R482); the calibration unit for Z (R168). -/
def ownerActive (i : Iface) (r : RegRow) (ix : List Nat) (s : State) : Bool :=
  let n := ix.headD 0
  let b := r.base / 0x100000
  let isK := match i with | .keeper _ => true | _ => false
  if b = 8 then
    !isK && !(if r.base < rTRIG_CFG 0 then rdB s rKPR_EXPOSE n else rdB s rKPR_EXPOSE (4 + n))
  else if b = 0x30 then rdB s (rCRW_CFG n) 0
  else if b = 0x58 then decide (rdF s (rCH_STATUS n) 2 0 ≠ 0)
  else if b = 0x75 then rdB s (rCU_ENT_ID n ((ix.drop 1).headD 0)) 16
  else if b = 0x1B then rdB s (rPX_CFG n + 0x8000) 1 || rdB s (rPX_CAL_CTRL n) 0
  else false

/-- Does a counter wrap (otherwise it saturates at 0xFFFF_FFFF)? From the Meaning of its register. -/
def cntWraps (r : RegRow) (ix : List Nat) : Bool :=
  let k := ix.getLastD 0
  let b := r.base
  (decide (b = rFLT_CNT 0) && decide (k = 1)) || decide (b = rFLT_HEARTBEAT) || (decide (b = rPWR_CNT 0) && decide (k = 6))
  || decide (b = rENC_POS 0) || decide (b = rVP_AUX_COUNT 0) || decide (b = rPIPE_BUSY 0)
  || (decide (b = rSC_CNT 0 0) && decide (2 ≤ k ∧ k ≤ 4)) || (decide (b = rLENS_CNT 0) && decide (5 ≤ k ∧ k ≤ 14))
  || (decide (b = rQOUT_CNT 0) && decide (k = 0)) || (decide (b = rLC_CNT 0 0) && decide (k ≤ 4))
  || (decide (b = rCH_CNT 0 0) && decide (k ≤ 1 ∨ k = 9)) || (decide (b = rDDR_CNT 0) && decide (k ≤ 1))
  || (decide (b = rPCIE_CNT 0) && decide (5 ≤ k)) || (decide (b = rETH_IF_CNT 0 0 0) && decide (k ≤ 1))
  || (decide (b = rMGMT_IF_CNT 0 0) && decide (k ≤ 1)) || (decide (b = rCTP_CNT 0) && decide (k ≤ 2))
  || (decide (b = rCU_CNT 0 0) && decide (k ≤ 1))

/-- The hardware update of the cycle, by kind, as it meets one 32-bit register (R68): the low half of the operand. -/
def coSets : Coincident → Word | .sets m => w32 m.toNat | .none => 0 | .value _ => 0 | .clears _ => 0 | .counts _ => 0 | .parity _ => 0
def coClears : Coincident → Word | .clears m => w32 m.toNat | .none => 0 | .value _ => 0 | .sets _ => 0 | .counts _ => 0 | .parity _ => 0
def coCounts : Coincident → Nat | .counts n => n.toNat | .none => 0 | .value _ => 0 | .sets _ => 0 | .clears _ => 0 | .parity _ => 0
def coValue : Coincident → Option Word
  | .value v => some (w32 v.toNat) | .none => none | .sets _ => none | .clears _ => none | .counts _ => none
  | .parity _ => none
/-- The hardware update as it meets the HI half of a 64-bit register; counts run through the whole register. -/
def coHigh : Coincident → Coincident
  | .value v => .value (v >>> 32) | .sets m => .sets (m >>> 32) | .clears m => .clears (m >>> 32) | .none => .none
  | .counts _ => .none | .parity _ => .none
/-- The hardware update as it meets the LO half. -/
def coLow : Coincident → Coincident
  | .counts _ => .none | .value v => .value v | .sets m => .sets m | .clears m => .clears m | .none => .none
  | .parity _ => .none

/-- A parity check that fails in the cycle of an access raises E7, whose cause names the structure of D0 (R492), or the fatal
event of a running domain with cause 2 (R491). -/
def internalErr (co : Coincident) (s : State) : State :=
  match co with
  | .parity u =>
    if u.val < 5 then onlyIf (domOk s 0) (raiseEvt { num := 7, dom := 0, cause := u.val + 1 }) s
    else onlyIf (domOk s (u.val - 4)) (raiseFatal (u.val - 4) 2) s
  | .none => s | .value _ => s | .sets _ => s | .clears _ => s | .counts _ => s

/-- The value a register holds after a software write of `v` over `old`, with the hardware update of that cycle, and
whether the write took effect (R68). `act`: the owner of the RWH fields is active. -/
def writeValue (r : RegRow) (wraps act : Bool) (old v : Word) (co : Coincident) : Word × Bool :=
  let rw := w32 r.rw
  let rwh := w32 r.rwh
  let w1c := w32 r.w1c
  let w1s := w32 r.w1s
  let keep := ~~~ (rw ||| w32 r.cnt ||| rwh ||| w1c ||| w1s)
  -- of what software cannot write, hardware updates an RC field here; a reserved field always reads 0 (R14)
  let rc := w32 r.rc
  let hwW := (coValue co).getD old
  let rwhPart := if act then hwW &&& rwh else if (coValue co).isSome then hwW &&& rwh else v &&& rwh
  let cnt :=
    if r.cnt = 0 then 0
    else if wraps then w32 (v.toNat + coCounts co) else w32 (satN 32 (v.toNat + coCounts co))
  let w1cPart := ((old &&& ~~~ v) ||| coSets co) &&& w1c
  let w1sPart := ((old ||| v) &&& ~~~ coClears co) &&& w1s
  let lostRwh := decide (r.rwh ≠ 0) && (act || (coValue co).isSome)
  let lostW1s := decide (v &&& w1s &&& coClears co ≠ 0)
  (((old ||| (coSets co &&& rc)) &&& keep) ||| (v &&& rw) ||| (cnt &&& w32 r.cnt) ||| rwhPart ||| w1cPart ||| w1sPart,
    !(lostRwh || lostW1s))

/-- The group of shadowed registers that an offset belongs to: the offset of its SHADOW_CTRL (R69, R70). -/
def shadowCtrlOf (off : Nat) : Option Nat :=
  match regAt off with
  | some (r, _) =>
    if r.shadowed then
      let b := off / 0x100000
      if 0x10 ≤ b ∧ b ≤ 0x17 then some (b * 0x100000 + 0xFC)
      else if b = 0x1A then some (off / 0x10000 * 0x10000 + 0xF00)
      else if b = 0x1B then some (off / 0x10000 * 0x10000 + 0xFC)
      else none
    else none
  | none => none

/-- The plain effect of a write at an assigned offset: the access types of R68 with the hardware update of the cycle; a
shadow write while a COMMIT is pending is discarded and sets BLOCKED (R71). -/
def plainEffect (i : Iface) (off : Nat) (v : Word) (co : Coincident) (s : State) : State × Bool :=
  match regAt off with
  | none => (s, true)
  | some (r, ix) =>
    match shadowCtrlOf off with
    | some c =>
      if rdB s c 0 then (wrB c 2 true s, false)
      else let w := writeValue r (cntWraps r ix) false (rd s off) v co; (wr off w.1 s, w.2)
    | none =>
      if deadZ s off || deadIf s off then (s, true) else
      let w := writeValue r (cntWraps r ix) (ownerActive i r ix s) (rd s off) v co
      (wr off w.1 s, w.2)

/-- The plain effect of a pair write: the HI half with `v`, the LO half with the latch as it stood before, and the hardware
update of that cycle (R64, R68). A count of a 64-bit counter, REGUL_BYTES, runs through both halves modulo 2^64 (R399). -/
def pairEffect (i : Iface) (off : Nat) (lo v : Word) (co : Coincident) (s : State) : State × Bool :=
  let cnt := match regAt off with | some (r, _) => decide (r.cnt ≠ 0) | none => false
  let n := lo.toNat + 2 ^ 32 * v.toNat + coCounts co
  let a := plainEffect i (off - 4) (if cnt then w32 n else lo) (coLow co) s
  let b := plainEffect i off (if cnt then w32 (n / 2 ^ 32) else v) (coHigh co) a.1
  (b.1, a.2 && b.2)

/-- A register with an effect of its own takes the hardware update of the cycle as R68 lays down: a W1S bit that hardware
clears reads 0 and its write is ignored, a W1C bit that hardware sets stays 1, and an RWH field takes the hardware's value, so
that the write is ignored. -/
def withUpdate (i : Iface) (r : RegRow) (off : Nat) (lo v : Word) (co : Coincident) (eff : Word → State → State × Bool)
    (s : State) : State × Bool :=
  if r.rwh ≠ 0 ∧ (coValue co).isSome then
    if r.half = 2 then pairEffect i off lo v co s else plainEffect i off v co s
  else
    let own := if r.half = 2 then coHigh co else co
    let gone := coClears own &&& w32 r.w1s
    let set := coSets own &&& w32 r.w1c
    let s := if gone = 0 then s else wr off (rd s off &&& ~~~ gone) s
    let e := eff (v &&& ~~~ gone) s
    (if set = 0 then e.1 else wr off (rd e.1 off ||| set) e.1, e.2 && decide (v &&& gone = 0))

/-! ### Reads -/

/-- What an RC register holds after it was read, with the update of that cycle (R68). -/
def rcAfter (r : RegRow) (old : Word) (co : Coincident) : Word :=
  if r.rc = 0 then old else (old &&& ~~~ w32 r.rc) ||| ((w32 (coCounts co) ||| coSets co) &&& w32 r.rc)

/-- A 32-bit read by an interface, with its side effects: an RC register clears, a LO half loads the latch, a HI half shows
the latch (R61 to R68). -/
def busRead (i : Iface) (off : Nat) (co : Coincident) (s : State) : State :=
  match gate i false off s with
  | .decode => answerErr 1 (decodeErr (ifaceCause i) off s)
  | .refused => answerErr 1 s
  | .open =>
    if halfAt off = 2 then answer [latch s i (off - 4)] s
    else if halfAt off = 1 then
      answer [view s off] (setLatch i off (view s (off + 4)) s)
    else
      match regAt off with
      | none => answer [view s off] s
      | some (r, _) =>
        answer [view s off] (if r.rc = 0 then s else wr off (rcAfter r (rd s off) co) s)

end Sys2Proof.Machine
end

