-- ==== Sys2Proof/Machine/Mem.lean ====
section
/-! DEFINITION. Accesses of the engines to memory: the scratchpad ports of R281 with ownership, protection and poison
(R284 to R291), semaphore words (R299), DRAM with its error marks (R417) and the bandwidth regulator's buckets (R393). -/

namespace Sys2Proof.Machine

open Sys2Proof

/-- What a read returned. -/
structure Rd where
  data : List Byte := []
  /-- Some byte comes from a poisoned unit. -/
  poison : Bool := false
  /-- An error response: no data. -/
  err : Bool := false
deriving DecidableEq, Repr

/-- Who accesses memory: the scratchpad port of R281, the requester class of R40 for DRAM, and the interface number that a
decode error names (R490), if the spec gives it one. -/
structure Agent where
  port : Nat
  cls : Nat
  who : Option Nat
deriving DecidableEq, Repr

/-- A decode error of an agent; the cause byte of one to which R490 gives no number is a free value (log entry 1). -/
def agentDecodeErr (g : Agent) (a : Nat) (s : State) : State :=
  match g.who with
  | some w => decodeErr w a s
  | none =>
    let f := takeFree s
    limited 1255 aonMs (raiseEvt { num := 8, dom := 0, addr := a, cause := f.1.toNat % 256 }) (bump (rFLT_CNT 0) 1 f.2)

/-! ### Scratchpad ports -/

/-- 0 weight, 1 activation, 2 partial-sum memory; none elsewhere. -/
def memNo (a : Nat) : Option Nat :=
  match regionOf a with | .wm => some 0 | .am => some 1 | .ps => some 2 | _ => none

/-- SP_ERR_ADDR and SP_ERR_INFO latch an error: kind 0 uncorrectable, 1 parity, 2 ownership (R306). -/
def spLatch (a kind port : Nat) (s : State) : State :=
  wrn rSP_ERR_INFO ((memNo a).getD 0 + kind * 4 + port * 16) (wr64 rSP_ERR_ADDR_LO a s)

/-- An access to a bank that the port does not own (R286). -/
def ownerViolation (p a : Nat) (s : State) : State :=
  limited 83 aonMs (raiseA 83 0 a) (bump (rSP_CNT 5) 1 (spLatch a 2 p s))

/-- Does port `p` own every bank that an access touches (R284, R285)? -/
def ownsAll (s : State) (p a len : Nat) : Bool :=
  (upto (len / 2048 + 1)).all (fun k => decide (len ≤ k * 2048) || ownsBank s p (a + k * 2048)) &&
  (decide (len = 0) || ownsBank s p (a + len - 1))

/-- A weight word found uncorrectable by port `p` (R288): for LENS_W the Lens raises E74 (R244). -/
def wmUncorrectable (p a : Nat) (s : State) : State :=
  onlyIf (decide (p ≠ 0)) (raiseA 82 0 a) (bump (rSP_CNT 1) 1 (spLatch a 0 p s))

/-- A partial-sum row found uncorrectable (R290). -/
def psUncorrectable (p a : Nat) (s : State) : State :=
  raiseA 81 0 a (bump (rSP_CNT 4) 1 (spLatch a 0 p (setPoison (a / 2048 * 2048) true s)))

/-- What the protection of a bank finds on a read of `len` bytes, besides the marks that memory holds (R288 to R290). -/
def memErrEffect (p a : Nat) (e : MemErr) (s : State) : State :=
  match memNo a, e with
  | _, .none => s
  | some 0, .corrected => bump (rSP_CNT 0) 1 s
  | some 0, .uncorrectable => setPoison (a / 8 * 8) true s
  | some 1, _ => limited 80 aonMs (raiseA 80 0 a) (bump (rSP_CNT 2) 1 (spLatch a 1 p (setPoison (a / 64 * 64) true s)))
  | some 2, .corrected => bump (rSP_CNT 3) 1 s
  | some 2, .uncorrectable => psUncorrectable p a s
  | _, _ => s

/-- A read through a scratchpad port: unowned banks return zeros marked poisoned; weight words that decode as
uncorrectable are counted and reported at every read (R286 to R290). -/
def portRead (p a len : Nat) (e : MemErr) (s : State) : Rd × State :=
  if !ownsAll s p a len then ({ data := zeros len, poison := true }, ownerViolation p a s)
  else
    let s := memErrEffect p a e s
    let s := if memNo a = some 0 then
        forAll ((unitsOf s a len).filter (fun u => tget false s.poison u.1)) (fun u s => wmUncorrectable p u.1 s) s
      else s
    ({ data := memBytes s a len, poison := poisonedIn s a len }, s)

/-- The word of 8 bytes in which an address lies is marked uncorrectable, and the access covers only a part of it. -/
def partBad (s : State) (a len at_ : Nat) : Bool :=
  let w := at_ / 8 * 8
  !(decide (a ≤ w ∧ w + 8 ≤ a + len)) && tget false s.poison w

/-- A write through a scratchpad port: visible from the next access; discarded where the port does not own the bank; a write
that covers a part of a word found uncorrectable is not performed, and the writer gets an error response (R283 to R291). A
write here is the whole request of the port (log entry 88). Answers whether the response is clean. -/
def portWrite (p a : Nat) (bs : List Byte) (dirty : Bool) (e : MemErr) (s : State) : Bool × State :=
  let n := bs.length
  if n = 0 then (true, s)
  else if !ownsAll s p a n then (true, ownerViolation p a s)
  else
    let rmw := memNo a ≠ some 1 ∧ (a % 8 ≠ 0 ∨ n % 8 ≠ 0)
    let s := if rmw then memErrEffect p (if a % 8 ≠ 0 then a else a + n - 1) e s else s
    if memNo a = some 0 then
      let hb := partBad s a n a
      let tb := partBad s a n (a + n - 1)
      let s := onlyIf hb (wmUncorrectable p a) s
      let s := onlyIf (tb && decide (a / 8 ≠ (a + n - 1) / 8)) (wmUncorrectable p (a + n - 1)) s
      if hb || tb then (false, s) else (true, storeBytes a bs dirty s)
    else if memNo a = some 2 ∧ rmw ∧ e = .uncorrectable then (false, s)
    else (true, storeBytes a bs dirty s)

/-! ### Semaphore words (R299, R300) -/

/-- A read of one 32-bit word of a semaphore slot; TAKE takes. -/
def semWordRead (a : Nat) (s : State) : Nat × State :=
  let n := (a - semBase) / 64
  let x := sem s n
  match a % 64 with
  | 0 => (x.count, s)
  | 0x10 => (x.count, semTake n s)
  | 0x18 => (x.notify + 32 * b2n x.notifyEn, s)
  | _ => (0, s)

/-- A write of one 32-bit word of a semaphore slot; answers whether the response is clean. -/
def semWordWrite (a v : Nat) (s : State) : Bool × State :=
  let n := (a - semBase) / 64
  let s := unreserve a 4 s
  match a % 64 with
  | 0 => (true, semLoad n (v % 65536) s)
  | 8 => (true, semRelease n (v % 65536) s)
  | 0x10 => (false, s)
  | 0x18 => (true, setSem n { sem s n with notify := v % 32, notifyEn := nbit v 5 } s)
  | _ => (true, s)

/-- Consecutive word reads, in ascending order. -/
def semWords : Nat → Nat → State → List Byte × State
  | _, 0, s => ([], s)
  | a, k + 1, s =>
    let r := semWordRead a s
    let t := semWords (a + 4) k r.2
    (leBytes 4 r.1 ++ t.1, t.2)

/-- Consecutive word writes, in ascending order. -/
def semPuts : Nat → Nat → List Byte → State → Bool × State
  | _, 0, _, s => (true, s)
  | a, k + 1, bs, s =>
    let r := semWordWrite a (ofLe (bs.take 4)) s
    let t := semPuts (a + 4) k (bs.drop 4) r.2
    (r.1 && t.1, t.2)

/-- A read of the semaphore region: whole aligned words, or nothing with an error response (R299). -/
def semRead (a len : Nat) (s : State) : Rd × State :=
  if a % 4 = 0 ∧ len % 4 = 0 then
    let r := semWords a (len / 4) s
    ({ data := r.1 }, r.2)
  else ({ data := List.replicate len 0xFF#8, err := true }, s)

/-- A write of the semaphore region (R299). -/
def semWrite (a : Nat) (bs : List Byte) (s : State) : Bool × State :=
  if a % 4 = 0 ∧ bs.length % 4 = 0 then semPuts a (bs.length / 4) bs s else (false, s)

/-! ### The bandwidth regulator and DRAM -/

/-- The tokens of class `k`, two's complement (R399). -/
def tokens (s : State) (k : Nat) : Int := sext 32 (rdn s (rREGUL_TOK k))

/-- One request of `n` bytes of class `k`: in profile while the bucket holds more than 0, and then it draws `n` (R393). -/
def drawOne (k n : Nat) (s : State) : State :=
  if 0 < tokens s k then wrn (rREGUL_TOK k) (wrapN 32 (tokens s k - n)) s else s

/-- The requests of a transfer: each lies within one 256-byte unit (R413). -/
def drawAll (k a len : Nat) (s : State) : State :=
  let lo := a % 256
  forAll (upto ((lo + len + 255) / 256))
    (fun i s => drawOne k (min (lo + len) ((i + 1) * 256) - max lo (i * 256)) s) s

/-- A full retrain begins: E109, FULL_RETRAINS (R411). -/
def fullRetrain (s : State) : State :=
  raiseE 109 0 (bump (rDDR_CNT 8) 1 (wrF rDDR_STATUS 2 0 5 { s with
    ddr := { s.ddr with lastFull := s.clock.aon + 1, deferred := false, blank := true } }))
/-- A DRAM access during DEEP: the DDR PLL relocks, and DRAM leaves self-refresh with a full retrain (R412, R513). -/
def dramWake (s : State) : State :=
  if ddrState s = 4 ∧ (s.power.step = .none ∨ s.power.step = .deepStop) then
    fullRetrain (wrB rPWR_PLL 3 true { s with power := { s.power with dramUp := true } })
  else s
/-- Where a DRAM address lies (R406): the channel, the 256-byte unit within the channel's data area, and its bank. -/
structure DdrPlace where
  ch : Nat
  unit : Nat
  bank : Nat
deriving DecidableEq, Repr

/-- The place of an address of DRAM (R406). -/
def dramPlace (a : Nat) : DdrPlace :=
  let u := (a - dramBase) / 256
  let w := u / 24
  { ch := u % 24, unit := w, bank := (w % 16) ^^^ (w / 2 ^ 14 % 16) }

/-- Units of data that channel `c` holds, of `n` usable units in all (R406). -/
def dramDataUnits (n c : Nat) : Nat := (n - c + 23) / 24
/-- Units of 256 bytes that each channel uses at most, from its lowest address, with a CAPACITY in GiB (R403). -/
def dramChannelUnits (cap : Nat) : Nat := (cap * 2 ^ 30 + 24 * 256 - 1) / (24 * 256)
/-- Byte offset in channel `c`'s address space of the check bytes of its data unit `w`: directly above its data area, 32 bytes
for each unit (R406). -/
def dramCheckAt (n c w : Nat) : Nat := dramDataUnits n c * 256 + 32 * w

/-- The channels that a request touches leave power-down (R406, R412). -/
def dramTouch (a len : Nat) (s : State) : State :=
  let n := min 24 ((a - dramBase + len - 1) / 256 + 1 - (a - dramBase) / 256)
  let down := (upto n).foldl (fun t k => tput false t (dramPlace (a + 256 * k)).ch false) s.ddr.down
  { s with ddr := { s.ddr with down } }
/-- Requests reach the controller: channels and, in DEEP, the memory wake. -/
def dramReach (a len : Nat) (s : State) : State := dramTouch a len (dramWake s)

/-- DDR_INFLIGHT_HWM keeps the most tags and buffers held since it was last read (R420). -/
def highWater (r w : Nat) (s : State) : State :=
  wrn rDDR_INFLIGHT_HWM (max r (rdF s rDDR_INFLIGHT_HWM 11 0) + 65536 * max w (rdF s rDDR_INFLIGHT_HWM 25 16)) s
/-- The requests of an engine's own transfer hold one tag, or one buffer, at a time, beside those that are held already
(R413; log entry 67). -/
def transferHeld (isWrite : Bool) (s : State) : State :=
  highWater (min 2048 (s.ddr.reads.length + b2n (!isWrite))) (min 512 (s.ddr.writes.length + b2n isWrite)) s

/-- Bytes served to class `k` (R399). -/
def dramCount (k len : Nat) (s : State) : State := wr64 (rREGUL_BYTES_LO k) (rd64 s (rREGUL_BYTES_LO k) + len) s
/-- A transfer is served: its requests draw tokens, and its bytes count. -/
def dramServed (k a len : Nat) (s : State) : State :=
  if len = 0 then s else dramCount k len (drawAll k a len (dramReach a len s))

/-- The 64-byte units of an access that hold a word which decodes as uncorrectable (R417). -/
def dramBadUnits (s : State) (a len : Nat) : List Nat :=
  if !rdB s rDDR_CFG 16 ∨ len = 0 then []
  else ((upto ((a + len - 1) / 64 - a / 64 + 1)).map (fun k => (a / 64 + k) * 64)).filter
    (fun u => (upto 8).any (fun j => tget false s.poison (u + 8 * j)))

/-- An uncorrectable read of a DRAM unit: counted by `k`, latched, E106 (R416, R417). -/
def dramUncorrectable (k a : Nat) (s : State) : State :=
  raiseA 106 0 a (wr64 rDDR_ERR_ADDR_LO a (bump (rDDR_CNT k) 1 s))

/-- A read of DRAM by class `k`. -/
def dramRead (k a len : Nat) (s : State) : Rd × State :=
  let bad := dramBadUnits s a len
  let s := forAll bad (dramUncorrectable 3) (dramServed k a len (transferHeld false s))
  ({ data := memBytes s a len, poison := !bad.isEmpty }, s)

/-- The 1 MiB blocks that an access touches hold valid codes from now on (R418). -/
def dramInit (a len : Nat) (s : State) : State :=
  if !rdB s rDDR_CFG 16 ∨ len = 0 then s
  else
    let b := (a - dramBase) / 0x100000
    let e := (a + len - 1 - dramBase) / 0x100000
    { s with ddrValid := (upto (e + 1 - b)).foldl (fun t k => tput false t (b + k) true) s.ddrValid }

/-- A partial write that is not performed: counted and latched (R417, R420). -/
def partRefused (a : Nat) (s : State) : State := wr64 rDDR_ERR_ADDR_LO a (bump (rDDR_CNT 6) 1 s)

/-- Reads that are ordered before a write and have not returned know which words it replaces (R414). -/
def replaceWords (a n : Nat) (s : State) : State :=
  if s.ddr.reads.isEmpty then s
  else { s with ddr := { s.ddr with reads := s.ddr.reads.map (fun x =>
      { x with fresh := (upto 32).foldl (fun l k =>
          let w := (x.addr / 256 * 32 + k) * 8
          if a < w + 8 ∧ w < a + n then w :: l else l) x.fresh }) } }

/-- A write of DRAM by class `k`, as requests within units of 256 bytes (R413): a request whose part of a word reads as
uncorrectable is not performed (R417). -/
def dramWrite (k a : Nat) (bs : List Byte) (s : State) : Bool × State :=
  let n := bs.length
  if n = 0 then (true, s)
  else
    let s := dramInit a n (dramServed k a n (transferHeld true s))
    let ecc := rdB s rDDR_CFG 16
    let one := decide (a / 256 = (a + n - 1) / 256)
    let hb := ecc && (partBad s a n a || (one && partBad s a n (a + n - 1)))
    let tb := ecc && !one && partBad s a n (a + n - 1)
    let hd := if hb then min n (256 - a % 256) else 0
    let tl := if tb then (a + n - 1) % 256 + 1 else 0
    let s := onlyIf tb (partRefused (a + n - 1)) (onlyIf hb (partRefused a) s)
    let m := n - hd - tl
    (!(hb || tb), storeBytes (a + hd) ((bs.drop hd).take m) false (replaceWords (a + hd) m s))

/-! ### Any memory -/

/-- A read of plain memory or of the semaphores by an agent: an undecoded address is a decode error; registers and the host
window are reached by other ways, and here answer with an error. -/
def devRead (g : Agent) (a len : Nat) (s : State) : Rd × State :=
  if !decodesAll s a len then ({ err := true }, agentDecodeErr g a s)
  else if !domOk s (regionDom a) then ({ err := true }, s)
  else match regionOf a with
    | .wm | .am | .ps => portRead g.port a len .none s
    | .dram => dramRead g.cls a len s
    | .ldm _ | .lim _ => ({ data := memBytes s a len }, s)
    | .sems => semRead a len s
    | .reg | .host | .bad => ({ err := true }, s)

/-- A write of plain memory or of the semaphores by an agent; answers whether the response is clean. -/
def devWrite (g : Agent) (a : Nat) (bs : List Byte) (dirty : Bool) (s : State) : Bool × State :=
  if !decodesAll s a bs.length then (false, agentDecodeErr g a s)
  else if !domOk s (regionDom a) then (false, s)
  else match regionOf a with
    | .wm | .am | .ps => portWrite g.port a bs dirty .none s
    | .dram => dramWrite g.cls a bs s
    | .ldm _ | .lim _ => (true, storeBytes a bs false s)
    | .sems => semWrite a bs s
    | .reg | .host | .bad => (false, s)

/-- A write whose response is not looked at. -/
def devPut (g : Agent) (a : Nat) (bs : List Byte) (dirty : Bool) (s : State) : State := (devWrite g a bs dirty s).2

end Sys2Proof.Machine
end

