-- ==== Sys2Proof/Machine/Ddr.lean ====
section
/-! DEFINITION. The LPDDR5X controller (chapter 15): its configuration (R402 to R404), training (R407 to R409), refresh and
retraining (R410 to R412), requests (R413, R414), AVAIL (R415), errors, initialisation and patrol (R416 to R419); and the
bandwidth regulator (R40, R41, R393 to R395, R399). -/

namespace Sys2Proof.Machine

open Sys2Proof

/-! ### The configuration section (R402 to R404) -/

/-- Raw capacity of a topology in GiB; 0 for one that is not listed (R402). -/
def rawGib (t : Nat) : Nat := match t with | 1 => 36 | 2 => 48 | 3 => 72 | 4 => 72 | 5 => 96 | 6 => 96 | _ => 0

/-- Is the payload of the LPDDR5X section refused (R404)? Which TERM codes the standard marks reserved is taken from the
standard: 7 and above for the two terminations, 0 and 7 and above for the drive (log entry 18, PRESUMED). -/
def ddrBad (p : List Byte) : Bool :=
  let raw := rawGib (leAt 0 1 p)
  let cap := leAt 1 1 p
  let flags := leAt 2 2 p
  let term := leAt 8 4 p
  let hours := leAt 12 2 p
  decide (p.length ≠ 64 ∨ raw = 0 ∨ cap % 4 ≠ 0 ∨ cap < 32 ∨ raw < cap) ||
  decide (6 < nfld term 3 0 ∨ 6 < nfld term 7 4 ∨ nfld term 11 8 = 0 ∨ 6 < nfld term 11 8) ||
  decide (720 < hours ∨ (nbit flags 3 ∧ hours = 0)) ||
  decide (flags / 16 ≠ 0 ∨ leAt 7 1 p ≠ 0 ∨ term / 2 ^ 16 ≠ 0 ∨ (p.drop 14).any (fun b => b ≠ 0))

/-- The section is put in force: what the registers show (R403, R420). -/
def ddrLoad (p : List Byte) (s : State) : State :=
  let cap := leAt 1 1 p
  let flags := leAt 2 2 p
  let mib := if nbit flags 0 then cap * 896 else cap * 1024
  wrn rDDR_USABLE mib (wrn rDDR_CFG (leAt 0 1 p + 256 * cap + 65536 * (flags % 16)) s)
/-- A boot that stops before step 7 leaves the `image` fields of the block at 0 (R67, R408). -/
def ddrUnload (s : State) : State := wrn rDDR_USABLE 0 (wrn rDDR_CFG 0 s)

/-! ### Training (R407 to R409) -/

/-- Every byte and mark of DRAM is gone (R409). -/
def dramLost (s : State) : State :=
  { s with mem := tclear dramBase hostBase s.mem, poison := tclear dramBase hostBase s.poison, ddrValid := [] }

/-- DRAM training ends: READY, or FAILED with E107 (R407, R408); contents are not retained (R409). The interval of the next
report holds a part of it (R415). -/
def ddrTrain (r : TrainResult) (s : State) : State :=
  let s := dramLost { s with ddr := { blank := true } }
  match r with
  | .ok => wrF rDDR_STATUS 6 4 1 (wrF rDDR_STATUS 15 8 0 (wrF rDDR_STATUS 2 0 2 s))
  | .failed ch cause =>
    -- CAUSE 0 names no failure: topology mismatch is the least
    let k := if cause.val = 0 then 1 else cause.val
    raiseE 107 0 (wrF rDDR_STATUS 15 13 k (wrF rDDR_STATUS 12 8 ch.val (wrF rDDR_STATUS 2 0 3 s)))

/-- Inline ECC is in force. -/
def inlineEcc (s : State) : Bool := rdB s rDDR_CFG 16
/-- Is the 1 MiB block of an address valid (R418)? -/
def blockValid (s : State) (a : Nat) : Bool := !inlineEcc s || tget false s.ddrValid ((a - dramBase) / 0x100000)

/-! ### Requests (R413, R414) -/

/-- CAPTURE requests among some, and others. -/
def capOf (l : List Nat) : Nat := (l.filter (fun k => decide (k = 0))).length

/-- May a request of class `k` take one of `total` places, `own` of which only CAPTURE may take (R413)? -/
def mayTake (total own : Nat) (held : List Nat) (k : Nat) : Bool :=
  let c := capOf held
  decide (held.length < total) && (decide (k = 0) || decide (held.length - c + (c - own) < total - own))

/-- DDR_INFLIGHT and its high-water mark follow the requests (R420). -/
def inflight (s : State) : State :=
  let r := s.ddr.reads.length
  let w := s.ddr.writes.length
  highWater r w (wrn rDDR_INFLIGHT (r + 65536 * w) s)

/-- Is a request ahead of another in the order of R394: in profile first, then by class? -/
def ahead (s : State) (x y : DdrReq) : Bool :=
  let p (r : DdrReq) : Nat := (if 0 < tokens s r.cls then 0 else 4) + r.cls
  decide (p x < p y)

/-- The request that is served next of those that may be; the oldest of its class. -/
def pickReq (s : State) (ok : Nat → Bool) : List DdrReq → Option DdrReq
  | [] => none
  | x :: t =>
    match pickReq s ok t with
    | none => if ok x.cls then some x else none
    | some y => if ok x.cls && !ahead s y x then some x else some y

/-- A read takes a tag: it is ordered now (R414), with its bytes and their error state, and draws its tokens at issue (R393). -/
def takeRead (x : DdrReq) (s : State) : State :=
  let s := drawOne x.cls x.len (dramReach x.addr x.len s)
  let ok := blockValid s x.addr
  let d := if ok then memBytes s x.addr x.len else zeros x.len
  let x := { x with data := d, bad := if ok then dramBadUnits s x.addr x.len else [] }
  inflight { s with ddr := { s.ddr with reads := s.ddr.reads ++ [x] } }

/-- What the read for modification of a partial write finds in the word of an address (R417). -/
def rmwFinds (a at_ n : Nat) (e : MemErr) (s : State) : State :=
  let w := at_ / 8 * 8
  if !inlineEcc s || !blockValid s at_ || decide (a ≤ w ∧ w + 8 ≤ a + n) then s
  else match e with
    | .none => s
    | .corrected => bump (rDDR_CNT 2) 1 s
    | .uncorrectable => setPoison w true s

/-- A write takes a buffer and is accepted (R414), after the reads that it needs for modification (R417). -/
def takeWrite (x : DdrReq) (s : State) : Bool × State :=
  let n := x.data.length
  let s := rmwFinds x.addr x.addr n x.head s
  let s := if x.addr / 8 = (x.addr + n - 1) / 8 then s else rmwFinds x.addr (x.addr + n - 1) n x.tail s
  let r := dramWrite x.cls x.addr x.data s
  let s := r.2
  (r.1, inflight { s with ddr := { s.ddr with writes := s.ddr.writes ++ [{ x with data := [] }] } })

/-- Is a request well formed: 1 to 256 bytes of DRAM within one unit of 256 (R413)? -/
def reqOk (a len : Nat) : Bool := decide (regionOf a = .dram ∧ 1 ≤ len ∧ a % 256 + len ≤ 256)

/-- A requester of class `k` at the controller; R490 gives it no number. -/
def ddrAgent (k : Nat) : Agent := { port := 0, cls := k, who := none }

/-- DRAM_READ_REQUEST (R413); above the usable capacity it is a decode error (R13, R403). -/
def execDramReadRequest (cls : Fin 4) (addr : BitVec 48) (len : Fin 257) (s : State) : Host.Outcome State Fault Refusal :=
  let x : DdrReq := { cls := cls.val, addr := addr.toNat, len := len.val }
  if !reqOk x.addr x.len then .next (answerErr 0 s)
  else if !decodesAll s x.addr x.len then
    .next (answerErr ((x.len + 3) / 4) (agentDecodeErr (ddrAgent cls) x.addr s))
  else if mayTake 2048 128 (s.ddr.reads.map (·.cls)) x.cls then .next (takeRead x s)
  else .next { s with ddr := { s.ddr with readWait := s.ddr.readWait ++ [x] } }

/-- DRAM_WRITE_REQUEST (R414): accepted when it is placed in a buffer; a refused partial write gets an error response (R417). -/
def execDramWriteRequest (cls : Fin 4) (addr : BitVec 48) (data : DramData) (s : State) :
    Host.Outcome State Fault Refusal :=
  let x : DdrReq := { cls := cls.val, addr := addr.toNat, len := data.bytes.length, data := data.bytes, head := data.head
                      tail := data.tail }
  if !reqOk x.addr x.len then .next (answerErr 0 s)
  else if !decodesAll s x.addr x.len then .next (answerErr 0 (agentDecodeErr (ddrAgent cls) x.addr s))
  else if mayTake 512 64 (s.ddr.writes.map (·.cls)) x.cls then
    let r := takeWrite x s
    .next (if r.1 then answer [] r.2 else answerErr 0 r.2)
  else .next { s with ddr := { s.ddr with writeWait := s.ddr.writeWait ++ [x] } }

/-- What the inline code finds in a read, by 8-byte word of its 256-byte unit (R417): an error of one bit is counted and
corrected in place; one of two bits stays in the memory, unless a write ordered after the read has replaced the word (R414). -/
def inlineFinds (x : DdrReq) (ecc : List (Nat × MemErr)) (s : State) : State :=
  forAll ecc (fun e s =>
    match e.2 with
    | .none => s
    | .corrected => bump (rDDR_CNT 2) 1 s
    | .uncorrectable => if x.fresh.contains e.1 then s else setPoison e.1 true s) s

/-- The 64-byte units of some words, each once, in order of address. -/
def unitsOfWords (x : DdrReq) (ws : List Nat) : List Nat :=
  ((upto 4).map (fun k => x.addr / 256 * 256 + 64 * k)).filter (fun u => ws.any (fun w => decide (w / 64 * 64 = u)))

/-- DRAM_READ_RETURN (R414, R416, R417): the data of the `k`-th outstanding read comes back, and its tag goes to a request that
waits. `link` and `ecc`: what the link, after its retry, and the inline code found, by 64-byte unit and by word of the read's
256-byte unit; `waited`: cycles in which a request waited since the last return. -/
def execDramReadReturn (k : Fin 2048) (link : List (Fin 4 × MemErr)) (ecc : List (Fin 32 × MemErr)) (waited : BitVec 32)
    (s : State) : Host.Outcome State Fault Refusal :=
  match s.ddr.reads[k.val]? with
  | none => .next s
  | some x =>
    if ddrState s ≠ 2 then .next s
    else
      let s := onlyIf (!s.ddr.readWait.isEmpty) (bumpW (rDDR_CNT 0) waited.toNat) s
      let s := { s with ddr := { s.ddr with reads := s.ddr.reads.eraseIdx k.val } }
      let base := x.addr / 256 * 256
      -- only words and units that the read touches
      let ecc := if inlineEcc s && blockValid s x.addr then
          (ecc.map (fun e => (base + 8 * e.1.val, e.2))).filter (fun e => decide (e.1 < x.addr + x.len ∧ x.addr < e.1 + 8))
        else []
      let s := inlineFinds x ecc s
      let new := (ecc.filter (fun e => decide (e.2 = .uncorrectable))).map (·.1)
      let bad := unitsOfWords x (x.bad ++ new)
      let s := dramCount x.cls x.len (forAll bad (dramUncorrectable 3) s)
      let link := if rdB s rDDR_CFG 18 then
          (link.map (fun e => (base + 64 * e.1.val, e.2))).filter (fun e => decide (e.1 < x.addr + x.len ∧ x.addr < e.1 + 64))
        else []
      let s := forAll link (fun e s => onlyIf (decide (e.2 = .corrected)) (bump (rDDR_CNT 4) 1) s) s
      let lost := unitsOfWords x ((link.filter (fun e => decide (e.2 = .uncorrectable))).map (·.1))
      let s := forAll lost (dramUncorrectable 5) s
      let marked := unitsOfWords x (bad ++ lost)
      let s := answer ((upto ((x.len + 3) / 4)).map (fun i => w32 (leAt (4 * i) 4 x.data))) s
      let s := { s with resp := { s.resp with poison := !marked.isEmpty, badUnits := marked } }
      .next (match pickReq s (mayTake 2048 128 (s.ddr.reads.map (·.cls))) s.ddr.readWait with
        | none => inflight s
        | some y => takeRead y { s with ddr := { s.ddr with readWait := s.ddr.readWait.erase y } })

/-- DRAM_WRITE_BUFFER_FREE (R411, R413, R416): the `k`-th buffered write reaches the DRAM, which takes requests only while no full
retrain runs, and its buffer goes to a request that waits. -/
def execDramWriteBufferFree (k : Fin 512) (w : BufferDone) (s : State) : Host.Outcome State Fault Refusal :=
  if s.ddr.writes.length ≤ k.val ∨ ddrState s ≠ 2 then .next s
  else
    let s := onlyIf (w.corrected && rdB s rDDR_CFG 17) (bump (rDDR_CNT 4) 1) s
    let s := onlyIf (!s.ddr.writeWait.isEmpty) (bumpW (rDDR_CNT 1) w.waited.toNat) s
    let s := { s with ddr := { s.ddr with writes := s.ddr.writes.eraseIdx k.val } }
    match pickReq s (mayTake 512 64 (s.ddr.writes.map (·.cls))) s.ddr.writeWait with
    | none => .next (inflight s)
    | some y =>
      let r := takeWrite y { s with ddr := { s.ddr with writeWait := s.ddr.writeWait.erase y } }
      .next (if r.1 then answer [] r.2 else answerErr 0 r.2)

/-! ### Initialisation and patrol (R418, R419) -/

/-- Blocks of 1 MiB of usable capacity. -/
def ddrBlocks (s : State) : Nat := rdF s rDDR_USABLE 16 0
/-- The lowest block whose valid bit is 0. -/
def nextBlock (s : State) : Option Nat := (upto (ddrBlocks s)).find? (fun b => !tget false s.ddrValid b)
/-- Does some request wait at issue (R413)? Background work uses memory cycles only while none does (R418, R419). -/
def ddrWaits (s : State) : Bool := !s.ddr.readWait.isEmpty || !s.ddr.writeWait.isEmpty

/-- ECC_BACKGROUND_INIT (R418): the next block is filled with zeros and valid codes. -/
def execEccBackgroundInit (s : State) : Host.Outcome State Fault Refusal :=
  if ddrState s ≠ 2 ∨ !inlineEcc s ∨ ddrWaits s then .next s
  else match nextBlock s with
    | none => .next s
    | some b => .next { s with ddrValid := tput false s.ddrValid b true }

/-- PATROL_READ (R419): the next unit is read, and corrected or reported as R417 lays down; a pass that ends is counted. `err`:
what the code finds in its words. -/
def execPatrolRead (err : List (Fin 8 × MemErr)) (s : State) : Host.Outcome State Fault Refusal :=
  if ddrState s ≠ 2 ∨ !inlineEcc s ∨ !rdB s rDDR_CFG 19 ∨ ddrBlocks s = 0 ∨ ddrWaits s then .next s
  else
    let a := dramBase + s.ddr.patrol * 64
    let err := if blockValid s a then err.map (fun e => (a + 8 * e.1.val, e.2)) else []
    let s := inlineFinds { cls := 0, addr := a, len := 64 } err s
    let s := forAll (dramBadUnits s a 64) (dramUncorrectable 3) s
    let n := s.ddr.patrol + 1
    if ddrBlocks s * 16384 ≤ n then .next (bump (rDDR_CNT 9) 1 { s with ddr := { s.ddr with patrol := 0 } })
    else .next { s with ddr := { s.ddr with patrol := n } }

/-! ### Refresh and retraining (R410 to R412) -/

/-- MR4_POLL (R410, R416): the refresh rates that the six packages demand, and writes whose link check failed since the last read
of the mode registers. -/
def execMr4Poll (r0 r1 r2 r3 r4 r5 : RefreshRate) (linkFails : BitVec 8) (s : State) : Host.Outcome State Fault Refusal :=
  if ddrState s ≠ 2 ∧ ddrState s ≠ 5 then .next s
  else
    let code (r : RefreshRate) : Nat := match r with | .x1 => 1 | .x2 => 2 | .x4 => 4
    let cs := [r0, r1, r2, r3, r4, r5].map code
    let top := cs.foldl max 1
    let was := rdF s rDDR_STATUS 6 4
    let s := wrn rDDR_MR4 (cs.foldr (fun c w => c + 16 * w) 0) s
    let s := onlyIf (rdB s rDDR_CFG 17) (bump (rDDR_CNT 4) linkFails.toNat) s
    let s := wrF rDDR_STATUS 6 4 top s
    .next (onlyIf (decide (was ≤ 1 ∧ 1 < top)) (raiseE 108 0) s)

/-- TRACKING_READ (R411, R421): the oscillator of the next channel is read; one that has drifted beyond the tracking range starts
a full retrain, or makes it wait until 100 ms have passed since the last. A retrain that is due replaces the reading. -/
def execTrackingRead (drifted : Bool) (s : State) : Host.Outcome State Fault Refusal :=
  if ddrState s ≠ 2 then .next s
  else
    let free := decide (s.ddr.lastFull = 0 ∨ s.ddr.lastFull + 100 * aonMs ≤ s.clock.aon + 1)
    if s.ddr.deferred ∧ free then .next (fullRetrain s)
    else
      let s := bump (rDDR_CNT 7) 1 { s with ddr := { s.ddr with turn := (s.ddr.turn + 1) % 24, tracked := true } }
      if !drifted then .next s
      else if free then .next (fullRetrain s)
      else .next { s with ddr := { s.ddr with deferred := true } }

/-- DEFERRED_FULL_RETRAIN (R411): the 100 ms have passed. -/
def execDeferredFullRetrain (s : State) : Host.Outcome State Fault Refusal :=
  if s.ddr.deferred ∧ ddrState s = 2 then .next (fullRetrain s) else .next s

/-- FULL_RETRAIN_END (R411); the interval of the next report holds the end of it (R415). -/
def execFullRetrainEnd (s : State) : Host.Outcome State Fault Refusal :=
  if ddrState s = 5 then .next (wrF rDDR_STATUS 2 0 2 { s with ddr := { s.ddr with blank := true } }) else .next s

/-- CHANNEL_POWER_DOWN (R412): a channel without a request for 1 µs. -/
def execChannelPowerDown (ch : Fin 24) (s : State) : Host.Outcome State Fault Refusal :=
  let busy := (s.ddr.reads ++ s.ddr.readWait ++ s.ddr.writes ++ s.ddr.writeWait).any (fun x => decide ((dramPlace x.addr).ch = ch.val))
  if ddrState s = 2 ∧ !busy ∧ s.power.state ≠ .deep then
    .next { s with ddr := { s.ddr with down := tput false s.ddr.down ch true } }
  else .next s

/-! ### The regulator (R40, R41, R393 to R395, R399) -/

/-- The entry of class `k` in the bandwidth section. -/
def regulEntry (p : List Byte) (k : Nat) : Option Nat :=
  (upto (p.length / 8)).find? (fun i => decide (leAt (8 * i) 1 p = k))

/-- Is the payload of the bandwidth section refused (R40, R41)? -/
def regulBad (p : List Byte) : Bool :=
  let n := p.length / 8
  let cls (i : Nat) : Nat := leAt (8 * i) 1 p
  decide (p.length % 8 ≠ 0 ∨ 32 < p.length) ||
  (upto n).any (fun i => decide (3 < cls i ∨ leAt (8 * i + 1) 1 p ≠ 0 ∨ leAt (8 * i + 4) 2 p = 0 ∨ leAt (8 * i + 6) 2 p ≠ 0) ||
    (upto i).any (fun j => decide (cls j = cls i))) ||
  decide (3000 < ((upto n).map (fun i => leAt (8 * i + 2) 2 p)).sum)

/-- A load of the regulator: RATE and EFF from the section, every bucket full (R399). -/
def regulLoad (p : List Byte) (s : State) : State :=
  forAll (upto 4) (fun k s =>
    let e := regulEntry p k
    let rate := match e with | some i => leAt (8 * i + 2) 2 p | none => 0
    let burst := match e with | some i => leAt (8 * i + 4) 2 p | none => 0
    let s := { s with regul := { s.regul with burst := tput 0 s.regul.burst k burst } }
    wrn (rREGUL_TOK k) (burst * 1024) (wrn (rREGUL_RATE k) (rate + 65536 * rate) s)) s

/-- TOKEN_REFILL (R393): every bucket gains EFF bytes, up to BURST × 1,024. -/
def execTokenRefill (s : State) : Host.Outcome State Fault Refusal :=
  .next (forAll (upto 4) (fun k s =>
    let top : Int := ((tget 0 s.regul.burst k * 1024 : Nat) : Int)
    let x := tokens s k + ((rdF s (rREGUL_RATE k) 31 16 : Nat) : Int)
    wrn (rREGUL_TOK k) (wrapN 32 (if top < x then top else x)) s) s)

/-- AVAIL of R415: none where the controller is not trained. -/
def availNow (s : State) : Nat :=
  let e := if inlineEcc s then 9 else 10
  let r := match rdF s rDDR_STATUS 6 4 with | 2 => 95 | 4 => 90 | _ => 100
  let t := if s.ddr.blank ∨ ddrState s = 5 ∨ ddrState s < 2 ∨ ddrState s = 3 then 0 else if s.ddr.tracked then 23 else 24
  let h := match rdF s rPWR_STATUS 9 8 with | 0 => 10 | 1 => 8 | _ => 6
  3300 * e * r * t * h / 240000

/-- The effective rates that an AVAIL allows (R395). -/
def effRates (s : State) (avail : Nat) : List Nat :=
  ((upto 4).foldl (fun (a : List Nat × Nat) k =>
    let e := min (rdF s (rREGUL_RATE k) 15 0) a.2
    (a.1 ++ [e], a.2 - e)) ([], avail)).1

/-- AVAIL_REPORT (R395, R415): the controller reports, the effective rates follow, and an episode begins with E103 when LENS or
CAPTURE is cut; the event carries the lowest class cut. -/
def execAvailReport (s : State) : Host.Outcome State Fault Refusal :=
  let a := availNow s
  let s := wrF rDDR_STATUS 31 16 a (wrn rREGUL_AVAIL a { s with ddr := { s.ddr with tracked := false, blank := false } })
  let eff := effRates s a
  let s := forAll (upto 4) (fun k s => wrF (rREGUL_RATE k) 31 16 (eff.getD k 0) s) s
  let isCut (k : Nat) : Bool := decide (eff.getD k 0 < rdF s (rREGUL_RATE k) 15 0)
  let s := forAll (upto 4) (fun k s => onlyIf (isCut k) (bump (rREGUL_CUT k) 1) (wrB rREGUL_STATUS k (isCut k) s)) s
  let any := (upto 4).any isCut
  let s := if any then { s with regul := { s.regul with lastCut := s.clock.aon } } else s
  if (isCut 0 || isCut 1) && !rdB s rREGUL_STATUS 4 then
    .next (raiseA 103 0 (if isCut 0 then 0 else 1) (wrB rREGUL_STATUS 4 true s))
  else .next s

/-- CUT_EPISODE_END (R395): 1 ms has passed in which every EFF equals its RATE. -/
def execCutEpisodeEnd (s : State) : Host.Outcome State Fault Refusal :=
  if rdF s rREGUL_STATUS 3 0 = 0 then .next (wrB rREGUL_STATUS 4 false s) else .next s

end Sys2Proof.Machine
end

