-- ==== Sys2Proof/Machine/Lantern.lean ====
section
/-! DEFINITION. A Lantern core (chapter 12): results that land at their distance (R311, R313), mode registers and rotation
(R328, R330), boundaries (R323), exceptions and interrupts (R320 to R327), halt and reset (R334, R335), and the registers by
which other agents reach it (R336, R339). -/

namespace Sys2Proof.Machine

open Sys2Proof

/-! ### Registers -/

/-- Bits of a vector (R309). -/
def Lan.vlen (l : Lan) : Nat := if l.vl256 then 256 else 512
/-- The physical number of a vector register name (R345). -/
def Lan.phys (l : Lan) (i : Nat) : Nat := if i < 16 then i else 16 + (i - 16 + 16 - l.rrb % 16) % 16
def Lan.getS (l : Lan) (i : Nat) : Nat := (tget 0 l.sreg i).toNat
def Lan.getA (l : Lan) (i : Nat) : Nat := (tget 0 l.areg i).toNat
/-- A vector register by physical number. -/
def Lan.getV (l : Lan) (p : Nat) : Nat := (tget 0 l.vreg p).toNat
def Lan.getBv (l : Lan) (i : Nat) : Bool := l.bvar.getLsbD i
def Lan.pswBit (l : Lan) (i : Nat) : Bool := bit l.psw i

/-- Do two destinations share a register (R313)? -/
def regClash : LReg → LReg → Bool
  | .bv i, .bvw k => decide (i / 64 = k)
  | .bvw k, .bv i => decide (i / 64 = k)
  | a, b => decide (a = b)

/-- The bits of the 1,024 variables with `v` in place of word `k` of 64. -/
def putBvw (b : BitVec 1024) (k v : Nat) : BitVec 1024 :=
  (b &&& ~~~ BitVec.ofNat 1024 ((2 ^ 64 - 1) * 2 ^ (64 * k))) ||| BitVec.ofNat 1024 ((v % 2 ^ 64) * 2 ^ (64 * k))

/-- A register takes a value: a vector only within its length (R309), Fn only bits [63:0] of Vn (R344). -/
def Lan.put (l : Lan) (d : LReg) (low : Bool) (v : Nat) : Lan :=
  match d with
  | .s i => { l with sreg := tput 0 l.sreg i (BitVec.ofNat 64 v) }
  | .a i => { l with areg := tput 0 l.areg i (BitVec.ofNat 24 v) }
  | .v p =>
    let x := if low then l.getV p / 2 ^ 64 * 2 ^ 64 + v % 2 ^ 64 else v % 2 ^ l.vlen
    { l with vreg := tput 0 l.vreg p (BitVec.ofNat 512 x) }
  | .bv i => { l with bvar := (l.bvar &&& ~~~ BitVec.ofNat 1024 (2 ^ i)) ||| BitVec.ofNat 1024 ((v % 2) * 2 ^ i) }
  | .bvw k => { l with bvar := putBvw l.bvar k v }
  | .lc k => { l with lc := tput 0 l.lc k (v % 2 ^ 32) }
  | .lbase k => { l with lbase := tput 0 l.lbase k (v % 2 ^ 16 / 4 * 4) }
  | .ltail k => { l with ltail := tput 0 l.ltail k (v % 2 ^ 16 / 4 * 4) }
  | .cr _ => l
  | .rs => l

/-! ### Landing (R311, R313, R328, R330, R358) -/

/-- Every result due at bundle `n` or before lands, the later-issued last. -/
def Lan.landWrites (n : Nat) (l : Lan) : Lan :=
  (l.writes.filter (fun w => decide (w.due ≤ n))).foldl (fun l w => l.put w.dst w.low w.val)
    { l with writes := l.writes.filter (fun w => decide (n < w.due)) }

/-- Saturations due set SATF (R358). -/
def Lan.landSats (n : Nat) (l : Lan) : Lan :=
  let d := l.sats.filter (fun x => decide (x.2 ≤ n))
  { l with sats := l.sats.filter (fun x => decide (n < x.2))
           satAt := d.foldl (fun a x => max a (x.1 + 1)) l.satAt
           psw := if d.isEmpty then l.psw else setBit l.psw 5 true }

/-- A mode register takes a value. PSW keeps its read-only and reserved bits; a saturation of the writing bundle or a later
one keeps SATF set, one of an earlier bundle is overwritten (R321, R374). -/
def Lan.putMode (l : Lan) (k v at_ : Nat) : Lan :=
  if k = 0 then
    let w := (l.psw &&& w32 0x300) ||| (w32 v &&& w32 0x7F)
    { l with psw := if at_ < l.satAt then setBit w 5 true else w
             sats := l.sats.filter (fun x => decide (at_ ≤ x.1)) }
  else if k = 1 then { l with rrb := v % 16 }
  else if 8 ≤ k ∧ k < 12 then { l with wb := tput 0 l.wb (k - 8) (v % 2 ^ 28) }
  else if 16 ≤ k ∧ k < 24 then { l with cbb := tput 0 l.cbb (k - 16) (v % 2 ^ 20) }
  else if 24 ≤ k ∧ k < 32 then { l with cbl := tput 0 l.cbl (k - 24) (v % 2 ^ 20) }
  else l

/-- Mode registers and rotations that take effect for bundle `n`; a write of RRB there loses the rotation (R330). -/
def Lan.landModes (n : Nat) (l : Lan) : Lan :=
  let d := l.modes.filter (fun m => decide (m.due ≤ n))
  let l := { l with modes := l.modes.filter (fun m => decide (n < m.due)) }
  let rot := d.filter (fun m => m.cr.isNone && !d.any (fun w => decide (w.cr = some 1 ∧ w.due = m.due)))
  let l := { l with rrb := (l.rrb + rot.length) % 16 }
  d.foldl (fun l m => match m.cr with | some k => l.putMode k m.val m.at_ | none => l) l

/-- What is due at bundle `n` takes effect. -/
def Lan.landAt (n : Nat) (l : Lan) : Lan := ((l.landWrites n).landSats n).landModes n

/-- The drain of R324: every issued bundle writes its results. -/
def Lan.drain (l : Lan) : Lan := (upto 5).foldl (fun l k => l.landAt (l.n + k)) l

/-- Is the boundary before the next bundle interruptible (R323)? Not after a branch or its first delay slot, and not within
2 bundles after a write of a mode register. -/
def Lan.interruptible (l : Lan) : Bool :=
  let near (a : Nat) : Bool := decide (a ≠ 0 ∧ (l.n = a ∨ l.n = a + 1))
  !near l.brAt && !near l.modeAt && !l.longs.any (fun o => decide (o.op = .swait))

/-- Does the next bundle stand in a delay slot (R312)? -/
def Lan.inSlot (l : Lan) : Bool := decide (l.brAt ≠ 0 ∧ (l.n = l.brAt ∨ l.n = l.brAt + 1))

/-! ### Exceptions (R320, R327) -/

/-- The reservation of a core is cleared (R368). -/
def dropResv (n : Nat) (s : State) : State := { s with resv := s.resv.filter (fun r => decide (r.1 ≠ n)) }

/-- An LR in flight brings its data without a reservation. -/
def LLong.plain (o : LLong) : LLong := match o.op with
  | .lr => { o with op := .load .sx }
  | .unit _ | .load _ | .sc _ | .tas | .swait => o

/-- Halting, and accepting a source, clear the reservation of a core, and that of an LR in flight as well (R334, R368). -/
def breakResv (n : Nat) (s : State) : State :=
  dropResv n (setLan n { lan s n with longs := (lan s n).longs.map LLong.plain } s)

/-- Issue stops after the drain; halting clears the reservation (R334). -/
def lanStop (n : Nat) (s : State) : State :=
  breakResv n (setLan n { (lan s n).drain with stopped := true } s)

/-- A fault of a core reaches every job with work on it (R26, R316, R327, R335). Which jobs have work there is known to the job
software alone: for each job it is a free value (log entry 89). -/
def reachLantern (s : State) : State :=
  forAll (upto 16) (fun k s =>
    if jobOpen s k then
      let f := takeFree s
      onlyIf (f.1.getLsbD 0) (reachRef { slot := k, gen := (job s k).gen, jobId := (job s k).jobId }) f.2
    else s) s

/-- A core halts with DOUBLE_EXC and E88, job-fatal for every job with work on it (R327). -/
def lanDouble (n : Nat) (s : State) : State :=
  let s := lanStop n s
  reachLantern (raiseE 88 4 (setLan n { lan s n with dbl := true } s))

/-- An uncorrectable error in instruction memory halts the core, with E90 (R316). -/
def imemHalt (n : Nat) (s : State) : State := reachLantern (raiseE 90 4 (lanStop n s))

/-- A corrected error of a core's memory is counted (R316). -/
def lanCorrected (n : Nat) (e : MemErr) (s : State) : State :=
  if e = .corrected then setLan n { lan s n with corrected := (lan s n).corrected + 1 } s else s

/-- The synchronous sources that a bundle at `at_` raises, with their data addresses: each sets its bit of LC_PEND (R320);
while EXC is 1 the core halts instead (R327). Sources 1, 4, 5 and 6 latch a data address (R336); source 1 raises E91 (R316). -/
def raiseSyncs (n at_ : Nat) (fs : List (Nat × Option Nat)) (s : State) : State :=
  let s := forAll fs (fun f s =>
    let s := onlyIf (decide (f.1 = 1)) (raiseE 91 4) s
    match f.2 with | some a => wr64 (rLC_EXC_ADDR_LO n) (a % 2 ^ 48) s | none => s) s
  if fs.isEmpty then s
  else if (lan s n).pswBit 6 then lanDouble n s
  else forAll fs (fun f s =>
    wrB (rLC_PEND_LO n) f.1 true (setLan n { lan s n with exc := tput 0 (lan s n).exc f.1 at_ } s)) s

/-- One synchronous source is raised for the bundle at `at_`. -/
def raiseSync (n src at_ : Nat) (addr : Option Nat) (s : State) : State := raiseSyncs n at_ [(src, addr)] s

/-! ### Interrupt acceptance (R321 to R326) -/

/-- Priority of a source (R320): 8 for the synchronous ones. -/
def srcPrio (s : State) (n src : Nat) : Nat :=
  if src < 8 then 8 else let j := src % 8; rdF s (rLC_PRIO n (src / 8)) (4 * j + 2) (4 * j)
/-- Is a source pending? -/
def srcPend (s : State) (n src : Nat) : Bool :=
  if src < 32 then rdB s (rLC_PEND_LO n) src else rdB s (rLC_PEND_HI n) (src - 32)
/-- The source that wins against a status word: synchronous ones always, interrupts when IE is 1 and their priority exceeds
ILVL; the highest priority, then the lowest number (R321). -/
def winner (s : State) (n : Nat) (psw : Word) : Option Nat :=
  (upto 64).foldl (fun b src =>
    let p := srcPrio s n src
    if srcPend s n src ∧ (src < 8 ∨ (bit psw 0 ∧ fld psw 3 1 < p)) then
      match b with
      | some c => if srcPrio s n c < p then some src else b
      | none => some src
    else b) none

/-- The pending bit of a source clears at acceptance, which is counted (R320, R336). -/
def srcTaken (n src : Nat) (s : State) : State :=
  let s := if src < 32 then wrB (rLC_PEND_LO n) src false s else wrB (rLC_PEND_HI n) (src - 32) false s
  if src < 8 then
    bump (rLC_CNT n 6) 1 (wrn (rLC_EXC n) (src + 65536 * tget 0 (lan s n).exc src) s)
  else bump (rLC_CNT n 5) 1 s

/-- PSW at the entry of a handler: ILVL takes the source's priority, EXC is set for sources 0 to 7 (R322). -/
def enterPsw (s : State) (n src : Nat) (psw : Word) : Word :=
  let w := setFld psw 3 1 (if src < 8 then 7 else srcPrio s n src)
  setBit (if src < 8 then setBit w 6 true else w) 4 false

/-- A byte address of a bundle: where its bits [1:0] are not 0, which bundle is meant is a free value (log entry 1). -/
def bundleAddr (a : Nat) (s : State) : Nat × State :=
  if a % 4 = 0 then (a % 65536, s) else let f := takeFree s; (f.1.toNat % 16384 * 4, f.2)

/-- The handler of a source: the word of the vector table (R322). -/
def vectorOf (n src : Nat) (s : State) : Nat × State :=
  bundleAddr (memLe s (lanternBase n + 0x800000 + 4 * src) 4 % 65536) s

/-- Does a span of local addresses lie in local data memory (R322, R349)? -/
def isLocal (a len : Nat) : Bool := decide (a + len ≤ 0x80000)

/-- The address that an offset away from A15 gives: OFFSET wraps, SPACE stays (R349). -/
def addOff (a : Nat) (x : Int) : Nat := a / 2 ^ 20 * 2 ^ 20 + wrapN 20 ((a % 2 ^ 20 : Nat) + x)

/-- An issue position moves elsewhere: nothing of a branch is left. -/
def Lan.redirect (l : Lan) (pc : Nat) : Lan :=
  { l with pc := pc, target := none, ret := none, brAt := 0, modeAt := 0, seen := false }

/-- The winning source is accepted (R322 to R324): drain, frame, A15, PSW, and the handler's address. A frame outside local data
memory raises source 4, or halts the core while EXC is 1. -/
def acceptSrc (n src : Nat) (s : State) : State :=
  let l := (lan s n).drain
  let f := addOff (l.getA 15 / 64 * 64) (-64)
  if !isLocal f 64 then
    let s := wr64 (rLC_EXC_ADDR_LO n) f s
    if l.pswBit 6 then lanDouble n s
    else wrB (rLC_PEND_LO n) 4 true (setLan n { l with exc := tput 0 l.exc 4 l.last } s)
  else
    let info := src + (if src < 8 then 256 * tget 0 l.exc src else 0)
    let fr := leBytes 8 l.pc ++ leBytes 8 l.psw.toNat ++ (upto 4).flatMap (fun i => leBytes 8 (l.getS i)) ++ leBytes 8 info ++ zeros 8
    let s := storeBytes (lanternBase n + f) fr false (setLan n l s)
    let v := vectorOf n src s
    let psw := enterPsw v.2 n src l.psw
    let s := srcTaken n src v.2
    let l := (l.put (.a 15) false f).redirect v.1
    let phase : LBufPhase := if l.lbPhase = .running ∨ l.lbPhase = .kept then .kept else .none
    breakResv n (setLan n { l with psw := psw, lbPhase := phase } s)

/-- The frame's registers come back and A15 leaves it (R326). -/
def returnFrame (n f : Nat) (s : State) : State :=
  let b := lanternBase n + f
  let p := bundleAddr (memLe s b 8 % 65536) s
  let l := lan s n
  let l := (upto 4).foldl (fun l i => l.put (.s i) false (memLe s (b + 16 + 8 * i) 8)) l
  let l := { l with psw := (l.psw &&& w32 0x300) ||| (w32 (memLe s (b + 8) 8) &&& w32 0x7F) }
  let l : Lan := (l.put (.a 15) false (addOff (l.getA 15) 64)).redirect p.1
  let back : Bool := decide (l.lbPhase = LBufPhase.kept) && l.lbBody.any (fun x => decide (x.1 = p.1))
  setLan n { l with lbPhase := if back then .running else l.lbPhase } p.2

/-- Handlers chain: the frame stays with CHAINED set and the new source, and ILVL takes its priority (R326). -/
def chainFrame (n f src : Nat) (s : State) : State :=
  let b := lanternBase n + f + 0x30
  let w := memLe s b 8
  let s := storeLe b 8 (w / 256 * 256 + src + 64) s
  let v := vectorOf n src s
  let psw := enterPsw v.2 n src (setBit (lan v.2 n).psw 6 false)
  let s := srcTaken n src v.2
  breakResv n (setLan n { (lan s n).redirect v.1 with psw := psw } s)

/-- The delay slots of RETI have issued: the frame is read, or the handlers chain (R326). -/
def finishReti (n : Nat) (r : LRet) (s : State) : State :=
  match r.chain with
  | some src => if srcPend s n src then chainFrame n r.frame src s else returnFrame n r.frame s
  | none => returnFrame n r.frame s

/-! ### Commands -/

/-- Does a core take a step at all: active, clocked, not in reset, issue not stopped? -/
def lanRuns (s : State) (n : Nat) : Bool := lanternActive s n && domRun s 4 && !lanInReset s n && !(lan s n).stopped

/-- A long operation that is to write S0 to S3 holds the frame write (R324). -/
def frameWaits (l : Lan) : Bool :=
  l.longs.any (fun o => match o.dst with | .s i => decide (i < 4) | _ => false)

/-- HALT takes effect at an interruptible boundary, after an interrupt that is accepted there (R334, R339). -/
def haltIfDue (n : Nat) (s : State) : State :=
  let l := lan s n
  let l0 := l.landAt l.n
  if rdB s (rLC_CTRL n) 0 ∧ lanRuns s n ∧ l.interruptible ∧ (winner s n l0.psw).isNone then lanStop n s else s

/-- INTERRUPT_ACCEPT (R316, R320 to R324, R339): at an interruptible boundary the winning source enters its handler. -/
def execInterruptAccept (v : VectorRead) (s : State) : Host.Outcome State Fault Refusal :=
  let n := v.core
  let l := (lan s n).landAt (lan s n).n
  if !lanRuns s n ∨ !l.interruptible ∨ frameWaits l then .next s
  else match winner s n l.psw with
    | none => .next s
    | some src =>
      let s := setLan n l s
      .next (if v.ierr = .uncorrectable then imemHalt n s else haltIfDue n (acceptSrc n src (lanCorrected n v.ierr s)))

/-- The state that a reset of a core leaves (R335, R373): every register 0 but A15; ENTRY, profile and features stay, long
operations are gone, and posted stores complete. -/
def Lan.fresh (l : Lan) : Lan :=
  let f : Lan := { entry := l.entry, vl256 := l.vl256, rstack := l.rstack, feat := l.feat, pc := l.entry
                   psw := w32 (256 * b2n l.vl256 + 512 * b2n l.rstack), corrected := l.corrected
                   posts := l.posts.map (fun p => { p with wait := 0, pc := none }) }
  f.put (.a 15) false 0x80000

/-- AON cycles of 80 ns that the reset of a core takes (R335). -/
def resetCycles : Nat := 25

/-- A reset of one core (R335): its LCORE registers are cleared with the others, but for HALT and the counters; E92, RESETS, and
a fault for every job with work on it. -/
def coreReset (n : Nat) (s : State) : State :=
  let s := dropResv n (setLan n { (lan s n).fresh with resetTill := s.clock.aon + resetCycles } s)
  let s := wrn (rLC_PEND_LO n) 0 (wrn (rLC_PEND_HI n) 0 s)
  let s := forAll (upto 8) (fun k s => wrn (rLC_PRIO n k) 0 s) s
  let s := wr64 (rLC_EXC_ADDR_LO n) 0 (wrn (rLC_EXC n) 0 s)
  reachLantern (raiseE 92 4 (bump (rLC_CNT n 7) 1 s))

/-- Issue starts again at LC_PC (R334). -/
def lanResume (n : Nat) (s : State) : State := setLan n { lan s n with stopped := false, seen := false } s

/-- The effect of a write of LC_CTRL (R334, R335, R339): a reset wins, and HALT is applied to the restarted core. RESET written
while it reads 1 starts no other reset. -/
def lcCtrlEffect (n : Nat) (v : Word) (s : State) : State × Bool :=
  let was := rdB s (rLC_CTRL n) 0
  let s := wrB (rLC_CTRL n) 0 (bit v 0) s
  let s := if bit v 1 ∧ !lanInReset s n then coreReset n s else if was ∧ !bit v 0 then lanResume n s else s
  (haltIfDue n s, true)

/-- The effect of a write of LC_RAISE as a pair (R64, R320, R336): the bits written as 1 are asserted; sources 0 to 7 cannot
be raised. -/
def lcRaiseEffect (n : Nat) (lo hi : Word) (s : State) : State × Bool :=
  let s := wr (rLC_PEND_LO n) (rd s (rLC_PEND_LO n) ||| (lo &&& w32 0xFFFFFF00)) s
  (wr (rLC_PEND_HI n) (rd s (rLC_PEND_HI n) ||| hi) s, true)

/-- LANTERN_HALT (R334). -/
def execLanternHalt (ifc : Iface) (n : Fin 18) (s : State) : Host.Outcome State Fault Refusal :=
  .next (gatedWrite ifc (rLC_CTRL n) 1 (lcCtrlEffect n 1) s)

/-- LANTERN_RESUME (R334). -/
def execLanternResume (ifc : Iface) (n : Fin 18) (s : State) : Host.Outcome State Fault Refusal :=
  .next (gatedWrite ifc (rLC_CTRL n) 0 (lcCtrlEffect n 0) s)

/-- LANTERN_CORE_RESET (R335, R339, R373); HALT may be written with it. -/
def execLanternCoreReset (ifc : Iface) (n : Fin 18) (halt : Bool) (s : State) : Host.Outcome State Fault Refusal :=
  let v := w32 (2 + b2n halt)
  .next (gatedWrite ifc (rLC_CTRL n) v (lcCtrlEffect n v) s)

/-- LC_RAISE (R64, R320): the write of one half; the LO half waits in the interface's latch for the HI half. -/
def execLcRaise (ifc : Iface) (n : Fin 18) (hi : Bool) (v : Word) (s : State) : Host.Outcome State Fault Refusal :=
  .next (gatedWrite ifc (if hi then rLC_RAISE_HI n else rLC_RAISE_LO n) v
    (lcRaiseEffect n (latch s ifc (rLC_RAISE_LO n)) v) s)

/-- What an access from outside to a memory of core `n` finds uncorrectable (R316): E91 for local data memory; an error in
instruction memory halts the core. -/
def outsideBad (n : Nat) (a : Nat) (s : State) : State :=
  match regionOf a with
  | .lim _ => imemHalt n s
  | _ => raiseE 91 4 s

/-- EXTERNAL_LOCAL_ACCESS (R13, R316, R319): an access through the core's window; one that has waited 16 cycles displaces a core
access, which waits one bubble. A core that is not active, or an offset that R11 does not give, is a decode error. The
memory's protection is met on a read, and under a write of part of a word. -/
def execExternalLocalAccess (n : Fin 18) (off : BitVec 24) (write : Option (List Byte)) (len : BitVec 8) (x : SlotAccess)
    (s : State) : Host.Outcome State Fault Refusal :=
  let a := lanternBase n + off.toNat
  let k := match write with | some b => b.length | none => len.toNat
  let words := match write with | some _ => 0 | none => (k + 3) / 4
  if !decodesAll s a k then .next (answerErr words (agentDecodeErr { port := 12, cls := 3, who := none } a s))
  else if !domOk s 4 then .next (answerErr words s)
  else
    let s := onlyIf x.displaced (bumpW (rLC_CNT n 3) 1) s
    let reads : Bool := write.isNone || decide (a % 8 ≠ 0 ∨ k % 8 ≠ 0)
    if reads ∧ x.err = .uncorrectable then .next (answerErr words (outsideBad n a s))
    else
      let s := onlyIf reads (lanCorrected n x.err) s
      match write with
      | some b => .next (answer [] (storeBytes a b false s))
      | none => .next (answer ((upto words).map (fun i => w32 (leAt (4 * i) 4 (memBytes s a k)))) s)

end Sys2Proof.Machine
end

