-- ==== Sys2Proof/Machine/Arith.lean ====
section
/-! DEFINITION. Integer arithmetic of the output paths (chapter 10) that the Lens and the Sector engine share: the rounding
shift (R257) and piecewise-linear tables (R261). -/

namespace Sys2Proof.Machine

open Sys2Proof

/-- rshift(v, s): v / 2^s rounded to an integer; a half goes up when `up`, otherwise to the even neighbour (R257). -/
def rshift (up : Bool) (v : Int) (s : Nat) : Int :=
  if s = 0 then v
  else
    let q := asr v s
    let r := v - q * ((2 ^ s : Nat) : Int)
    let h : Int := ((2 ^ (s - 1) : Nat) : Int)
    if r < h then q else if h < r then q + 1 else if up then q + 1 else if q % 2 = 0 then q else q + 1

/-- The sum saturated to the INT32 range; 1 for a high clamp, 2 for a low clamp, 0 for none. -/
def sat32 (v : Int) : Int × Nat :=
  if 2147483647 < v then (2147483647, 1) else if v < -2147483648 then (-2147483648, 2) else (v, 0)

/-- A clamp to `[lo, hi]`, with the side on which it clamped: 1 high, 2 low, 0 none. -/
def clampC (lo hi v : Int) : Int × Nat := if hi < v then (hi, 1) else if v < lo then (lo, 2) else (v, 0)

/-- Is the header of a piecewise-linear table valid (R261)? `g off n` is the little-endian number of `n` bytes at `off`. -/
def pwlOk (g : Nat → Nat → Nat) : Bool := decide (g 4 1 ≤ 15 ∧ g 5 1 ≤ 15 ∧ g 6 10 = 0)

/-- The value of a piecewise-linear table for an input (R261). -/
def pwlAt (up : Bool) (g : Nat → Nat → Nat) (q : Int) : Int :=
  let base := sext 32 (g 0 4)
  let sh := g 4 1
  let i := (clampI 0 255 (asr (q - base) sh)).toNat
  let x := base + ((i * 2 ^ sh : Nat) : Int)
  sext 32 (g (16 + i * 8) 4) + rshift up ((q - x) * sext 16 (g (20 + i * 8) 2)) (g 5 1)

end Sys2Proof.Machine
end

