-- ==== Sys2Proof/Machine/Float.lean ====
section
/-! DEFINITION. Floating-point values (R250, R252): exact dyadic values, decoding, rounding to nearest with ties to even,
and the operations of IEEE 754 that the Lens and the Lanterns use. Nothing is flushed to zero. -/

namespace Sys2Proof.Machine

open Sys2Proof

/-- A floating-point value: NaN, an infinity, or (−1)^neg × m × 2^e. -/
inductive FV where
  | nan
  | inf (neg : Bool)
  | fin (neg : Bool) (m : Nat) (e : Int)
deriving DecidableEq, Repr

/-- A binary format: exponent bits and fraction bits. -/
structure FFmt where
  eb : Nat
  mb : Nat
deriving DecidableEq, Repr

def fp32 : FFmt := { eb := 8, mb := 23 }
def fp64 : FFmt := { eb := 11, mb := 52 }
def bf16 : FFmt := { eb := 8, mb := 7 }
def e5m2 : FFmt := { eb := 5, mb := 2 }
def FFmt.bias (f : FFmt) : Nat := 2 ^ (f.eb - 1) - 1
/-- Bits of a word of the format. -/
def FFmt.width (f : FFmt) : Nat := 1 + f.eb + f.mb
def FFmt.sign (f : FFmt) (w : Nat) : Bool := nbit w (f.eb + f.mb)

/-- The value of a word whose exponent and fraction are taken as they stand. -/
def FFmt.plain (f : FFmt) (w : Nat) : FV :=
  let x := nfld w (f.eb + f.mb - 1) f.mb
  let m := w % 2 ^ f.mb
  let lo : Int := 1 - (f.bias : Int) - f.mb
  if x = 0 then .fin (f.sign w) m lo else .fin (f.sign w) (2 ^ f.mb + m) (lo + x - 1)

/-- The value of a word. -/
def FFmt.decode (f : FFmt) (w : Nat) : FV :=
  if nfld w (f.eb + f.mb - 1) f.mb = 2 ^ f.eb - 1 then (if w % 2 ^ f.mb = 0 then .inf (f.sign w) else .nan)
  else f.plain w

/-- The value of an FP8 E4M3 byte: no infinities, and S.1111.111 is NaN (R250). -/
def e4m3Decode (w : Nat) : FV := if w % 128 = 127 then .nan else ({ eb := 4, mb := 3 } : FFmt).plain w

/-- A magnitude m × 2^e rounded to nearest, ties to even, as exponent and fraction fields, with no bound on the exponent. -/
def FFmt.wide (f : FFmt) (m : Nat) (e : Int) : Nat :=
  if m = 0 then 0
  else
    let lo : Int := 1 - (f.bias : Int) - f.mb
    let q := max (e + (Nat.log2 m : Int) - f.mb) lo
    let r : Nat :=
      if q ≤ e then m * 2 ^ (e - q).toNat
      else
        let d := (q - e).toNat
        let a := m / 2 ^ d
        let b := m % 2 ^ d
        let h := 2 ^ (d - 1)
        if b < h then a else if h < b then a + 1 else a + a % 2
    -- a carry out of the fraction moves into the exponent field
    let w : Int := if r < 2 ^ f.mb then r else (q - lo) * (2 ^ f.mb : Nat) + r
    w.toNat
/-- The same with infinity beyond the range. -/
def FFmt.magnitude (f : FFmt) (m : Nat) (e : Int) : Nat := min (f.wide m e) ((2 ^ f.eb - 1) * 2 ^ f.mb)

/-- The word of a value, rounded; `nan` is the word that a NaN becomes. -/
def FFmt.encode (f : FFmt) (nan : Nat) : FV → Nat
  | .nan => nan
  | .inf s => (b2n s * 2 ^ f.eb + (2 ^ f.eb - 1)) * 2 ^ f.mb
  | .fin s m e => b2n s * 2 ^ (f.eb + f.mb) + f.magnitude m e

/-- The FP8 E4M3 byte of a number: the largest finite magnitude, 448 (0x7E), beyond the range (R250, R259). -/
def e4m3Encode : FV → Nat
  | .nan => 0
  | .inf s => b2n s * 128 + 126
  | .fin s m e => b2n s * 128 + min 126 (({ eb := 4, mb := 3 } : FFmt).wide m e)

/-- A NaN word of the format whose payload and sign are free (log entry 1). -/
def FFmt.freeNan (f : FFmt) (x : Nat) : Nat :=
  (x % 2 * 2 ^ f.eb + (2 ^ f.eb - 1)) * 2 ^ f.mb + 2 ^ (f.mb - 1) + (x / 2) % 2 ^ (f.mb - 1)

/-- Rounded to a format and taken back as a value. -/
def FFmt.round (f : FFmt) (v : FV) : FV := match v with | .nan => .nan | v => f.decode (f.encode 0 v)

/-- The integer that a finite value is at scale 2^e. -/
def fvAt (s : Bool) (m : Nat) (e0 e : Int) : Int :=
  let k : Int := ((m * 2 ^ (e0 - e).toNat : Nat) : Int)
  if s then -k else k

/-- The value of an integer at scale 2^e; zero takes the sign given. -/
def fvOf (x : Int) (e : Int) (zneg : Bool := false) : FV :=
  if x = 0 then .fin zneg 0 0 else .fin (decide (x < 0)) x.natAbs e

/-- Exact sum. -/
def FV.add : FV → FV → FV
  | .nan, _ => .nan
  | _, .nan => .nan
  | .inf a, .inf b => if a = b then .inf a else .nan
  | .inf a, .fin _ _ _ => .inf a
  | .fin _ _ _, .inf b => .inf b
  | .fin a m e, .fin b n g =>
    let k := min e g
    fvOf (fvAt a m e k + fvAt b n g k) k (a && b)

def FV.neg : FV → FV
  | .nan => .nan
  | .inf a => .inf (!a)
  | .fin a m e => .fin (!a) m e

/-- Exact product. -/
def FV.mul : FV → FV → FV
  | .nan, _ => .nan
  | _, .nan => .nan
  | .inf a, .inf b => .inf (a != b)
  | .inf a, .fin b n _ => if n = 0 then .nan else .inf (a != b)
  | .fin a m _, .inf b => if m = 0 then .nan else .inf (a != b)
  | .fin a m e, .fin b n g => .fin (a != b) (m * n) (e + g)

/-- Quotient, exact or with a sticky bit far below any rounding position. -/
def FV.div : FV → FV → FV
  | .nan, _ => .nan
  | _, .nan => .nan
  | .inf _, .inf _ => .nan
  | .inf a, .fin b _ _ => .inf (a != b)
  | .fin a _ _, .inf b => .fin (a != b) 0 0
  | .fin a m e, .fin b n g =>
    if n = 0 then (if m = 0 then .nan else .inf (a != b))
    else
      -- 128 bits of quotient, then one sticky bit
      let k := 128 + Nat.log2 n
      let q := m * 2 ^ k / n
      let st := b2n (decide (m * 2 ^ k % n ≠ 0))
      .fin (a != b) (2 * q + st) (e - g - k - 1)

/-- Integer square root, bit by bit: the largest r with r² ≤ x, r below 2^n. -/
def isqrt (x : Nat) : Nat → Nat → Nat
  | 0, r => r
  | n + 1, r => let t := r + 2 ^ n; isqrt x n (if t * t ≤ x then t else r)

/-- Square root, exact or with a sticky bit. -/
def FV.sqrt : FV → FV
  | .nan => .nan
  | .inf a => if a then .nan else .inf false
  | .fin a m e =>
    if m = 0 then .fin a 0 0
    else if a then .nan
    else
      let odd := (e % 2).toNat
      let x := m * 2 ^ (odd + 256)
      let r := isqrt x (Nat.log2 x / 2 + 1) 0
      .fin false (2 * r + b2n (decide (r * r ≠ x))) ((e - odd - 256) / 2 - 1)

/-- Is `a` less than `b`? False where either is NaN; zeros are equal. -/
def FV.lt : FV → FV → Bool
  | .nan, _ => false
  | _, .nan => false
  | .inf a, .inf b => a && !b
  | .inf a, .fin _ _ _ => a
  | .fin _ _ _, .inf b => !b
  | .fin a m e, .fin b n g => let k := min e g; decide (fvAt a m e k < fvAt b n g k)

/-- Equal as numbers. -/
def FV.eq (a b : FV) : Bool := a ≠ .nan && b ≠ .nan && !a.lt b && !b.lt a

/-- The value without its sign. -/
def FV.abs : FV → FV
  | .nan => .nan
  | .inf _ => .inf false
  | .fin _ m e => .fin false m e

/-- The larger of two values; +0 counts above −0. -/
def FV.max (a b : FV) : FV :=
  if a.lt b then b
  else if b.lt a then a
  else match a with | .fin true 0 _ => b | _ => a
/-- The smaller of two values; −0 counts below +0. -/
def FV.min (a b : FV) : FV :=
  if a.lt b then a
  else if b.lt a then b
  else match a with | .fin false 0 _ => b | _ => a

/-- A finite value rounded to an integer, ties to even. -/
def fvToInt (s : Bool) (m : Nat) (e : Int) : Int :=
  let k : Nat :=
    if 0 ≤ e then m * 2 ^ e.toNat
    else
      let d := (-e).toNat
      let a := m / 2 ^ d
      let b := m % 2 ^ d
      if 2 * b < 2 ^ d then a else if 2 ^ d < 2 * b then a + 1 else a + a % 2
  if s then -(k : Int) else k

/-! ### The column adder (R252) -/

/-- The sum of a K-vector's products: each aligned to the largest product exponent, 48 bits kept below it and a sticky bit;
rounded once to FP32. -/
def columnSum (ps : List FV) : FV :=
  if ps.any (fun p => p = .nan) then .nan
  else
    let infs := ps.filterMap (fun p => match p with | .inf s => some s | _ => none)
    if infs.contains true && infs.contains false then .nan
    else match infs with
      | s :: _ => .inf s
      | [] =>
        let fs := ps.filterMap (fun p => match p with | .fin s m e => if m = 0 then none else some (s, m, e) | _ => none)
        match fs with
        | [] => fvOf 0 0 (!ps.isEmpty && ps.all (fun p => match p with | .fin s _ _ => s | _ => false))
        | (_, m0, e0) :: t =>
          let top := t.foldl (fun (a : Int) p => max a (p.2.2 + (Nat.log2 p.2.1 : Int))) (e0 + (Nat.log2 m0 : Int))
          let u := top - 48
          let cut (p : Bool × Nat × Int) : Int × Bool :=
            if u ≤ p.2.2 then (fvAt p.1 p.2.1 p.2.2 u, false)
            else
              let d := (u - p.2.2).toNat
              let a : Int := ((p.2.1 / 2 ^ d : Nat) : Int)
              (if p.1 then -a else a, decide (p.2.1 % 2 ^ d ≠ 0))
          let total := fs.foldl (fun a p => a + (cut p).1) 0
          let sticky := fs.any (fun p => (cut p).2)
          let x := if sticky then 2 * total + (if total < 0 then -1 else 1) else 2 * total
          fp32.round (fvOf x (u - 1))

end Sys2Proof.Machine
end

