-- ==== Sys2Proof/Machine/Lens.lean ====
section
/-! DEFINITION. The Lens's descriptors (R214 to R222, R253 to R255): what they say, and the reasons for which an operation is
refused. -/

namespace Sys2Proof.Machine

open Sys2Proof

/-! ### The operation descriptor (R217) -/

/-- An operation descriptor as fields. -/
structure LDesc where
  cls : Nat
  shape : Nat
  ity : Nat
  prio : Nat
  accIn : Bool
  final : Bool
  outl : Bool
  zsub : Bool
  gather : Bool
  sig : Bool
  sigStep : Bool
  jobId : Nat
  slot : Nat
  gen : Nat
  /-- Wait slots: enabled, per step, semaphore. -/
  waits : List (Bool × Bool × Nat)
  signal : Nat
  kh : Nat
  kw : Nat
  sy : Nat
  sx : Nat
  dy : Nat
  dx : Nat
  padT : Nat
  padL : Nat
  tilePos : Nat
  psB : Nat
  psR : Nat
  qdesc : Nat
  inBase : Nat
  inRow : Nat
  inPlane : Nat
  inW : Nat
  inH : Nat
  inC : Nat
  zp : Nat
  index : Nat
  wBase : Nat
  wStride : Nat
  nOut : Nat
  sideBase : Nat
  sideRow : Nat
  oBase : Nat
  oRow : Nat
  oPlane : Nat
  layout : Nat
  ptype : Nat
  poolK : Nat
  poolS : Nat
  oh : Nat
  ow : Nat
deriving DecidableEq, Repr

/-- The fields of a descriptor's bytes. -/
def lensParse (b : List Byte) : LDesc :=
  let g (o n : Nat) : Nat := leAt o n b
  let c := g 0 4
  let w := g 0xA 1
  let m := g 0xC 8
  let k := g 0x14 4
  { cls := nfld c 2 0, shape := nfld c 4 3, ity := nfld c 7 5, prio := nfld c 10 8, accIn := nbit c 11, final := nbit c 12,
    outl := nbit c 13, zsub := nbit c 14, gather := nbit c 15, sig := nbit c 16, sigStep := nbit c 17,
    jobId := g 4 4, slot := g 8 1 % 16, gen := g 9 1,
    waits := (upto 4).map (fun i => (nbit w i, nbit w (4 + i), nfld m (10 * i + 9) (10 * i))), signal := nfld m 49 40,
    kh := nfld k 2 0 + 1, kw := nfld k 5 3 + 1, sy := nfld k 8 6 + 1, sx := nfld k 11 9 + 1, dy := nfld k 13 12 + 1,
    dx := nfld k 15 14 + 1, padT := nfld k 18 16, padL := nfld k 21 19,
    tilePos := g 0x18 2, psB := g 0x1A 2 % 4096, psR := g 0x1C 2 % 8192, qdesc := g 0x20 8, inBase := g 0x28 8,
    inRow := g 0x30 4, inPlane := g 0x34 4, inW := g 0x38 2, inH := g 0x3A 2, inC := g 0x3C 2, zp := g 0x3E 1,
    index := g 0x40 8, wBase := g 0x48 8, wStride := g 0x50 4, nOut := g 0x54 2, sideBase := g 0x58 8, sideRow := g 0x60 4,
    oBase := g 0x68 8, oRow := g 0x70 4, oPlane := g 0x74 4, layout := nfld (g 0x78 1) 1 0, ptype := nfld (g 0x78 1) 3 2,
    poolK := nfld (g 0x79 1) 2 0 + 1, poolS := nfld (g 0x79 1) 5 3 + 1, oh := g 0x7A 2, ow := g 0x7C 2 }

namespace LDesc

def isConv (d : LDesc) : Bool := decide (d.cls = 0)
def isPool (d : LDesc) : Bool := decide (d.cls = 4)
/-- GEMM, GATHER-GEMM and SCATTER-ACC. -/
def isGemm (d : LDesc) : Bool := decide (1 ≤ d.cls ∧ d.cls ≤ 3)
def isScatter (d : LDesc) : Bool := decide (d.cls = 3)
/-- Source rows come by index. -/
def byIndex (d : LDesc) : Bool := decide (d.cls = 2) || (d.isScatter && d.gather)
/-- An index list is read. -/
def hasIndex (d : LDesc) : Bool := decide (d.cls = 2) || d.isScatter
/-- FP8 or BF16 operands. -/
def fp (d : LDesc) : Bool := decide (2 ≤ d.ity)

/-- K of R214. -/
def kArr (d : LDesc) : Nat := (match d.ity with | 1 => 512 | 4 => 128 | _ => 256) * 2 ^ d.shape
/-- N of R214. -/
def nArr (d : LDesc) : Nat := (match d.ity with | 4 => 256 | _ => 512) / 2 ^ d.shape
/-- Element size in half bytes. -/
def e2 (d : LDesc) : Nat := match d.ity with | 1 => 1 | 4 => 4 | _ => 2
/-- Bytes of `n` elements. -/
def ebytes (d : LDesc) (n : Nat) : Nat := (n * d.e2 + 1) / 2
/-- Bytes of a weight tile without the side block (R215). -/
def tileBytes (d : LDesc) : Nat := if d.ity = 4 then 65536 else 131072
/-- Bytes of a weight tile with what follows it. -/
def tileAll (d : LDesc) : Nat := d.tileBytes + (if d.outl then 8256 else 0)

/-- The image that a class convolves or pools: its rows and columns before pooling. A POOL operation pools its input. -/
def outH (d : LDesc) : Nat := if d.isPool then d.inH else d.oh
def outW (d : LDesc) : Nat := if d.isPool then d.inW else d.ow
/-- Positions (R218). A position of POOL is one input row (log entry 17). -/
def positions (d : LDesc) : Nat := if d.isConv then d.oh * d.ow else d.inH
/-- Output rows before pooling that one position makes: the pixels of its row for POOL. -/
def perPos (d : LDesc) : Nat := if d.isPool then d.inW else 1
/-- K_layer (R218). -/
def kLayer (d : LDesc) : Nat := if d.isConv then d.inC * d.kh * d.kw else if d.isPool then 1 else d.inW
/-- Channels of a K-tile of CONV (R226). -/
def cg (d : LDesc) : Nat := max 1 (min d.inC (d.kArr / (d.kh * d.kw)))
/-- Columns of an N-tile. -/
def nTile (d : LDesc) : Nat := if d.isPool then 256 else d.nArr
/-- Tile counts (R224); a drain and POOL have one K-tile. -/
def nkt (d : LDesc) : Nat :=
  if d.isConv then (d.inC + d.cg - 1) / d.cg else if d.isPool then 1 else max 1 ((d.inW + d.kArr - 1) / d.kArr)
def nnt (d : LDesc) : Nat := (d.nOut + d.nTile - 1) / d.nTile
def npt (d : LDesc) : Nat := (d.positions + d.tilePos - 1) / d.tilePos
/-- The pooled image (R234). -/
def poolH (d : LDesc) : Nat := if d.outH < d.poolK then 0 else (d.outH - d.poolK) / d.poolS + 1
def poolW (d : LDesc) : Nat := if d.outW < d.poolK then 0 else (d.outW - d.poolK) / d.poolS + 1
/-- Does the operation read input rows: all but a drain? -/
def reads (d : LDesc) : Bool := !(d.isGemm && decide (d.inW = 0))

/-- The job of the operation. -/
def ref (d : LDesc) : JobRef := { slot := d.slot, gen := d.gen, jobId := d.jobId }

end LDesc

/-! ### Reasons 1 to 7 (R221, R222) -/

/-- Is a range inside one memory, in banks that a port owns? `m`: 0 weight, 1 activation memory. -/
def lensRange (s : State) (port m a n : Nat) : Bool :=
  decide (n = 0) || (decide (memNo a = some m ∧ memNo (a + n - 1) = some m) && decodesAll s a n && ownsAll s port a n)

/-- A range in weight or activation memory, by the Lens's read ports. -/
def lensTable (s : State) (a n : Nat) : Bool := lensRange s 0 0 a n || lensRange s 1 1 a n

/-- Reason 3: a refused encoding, or a field that must be 0. -/
def lensBad3 (b : List Byte) (d : LDesc) : Bool :=
  let g (o n : Nat) : Nat := leAt o n b
  let hi (o : Nat) : Bool := decide (2 ^ 48 ≤ g o 8)
  decide (4 < d.cls ∨ d.shape = 3 ∨ 4 < d.ity ∨ d.layout = 3 ∨ d.ptype = 3)
  || decide (g 0 4 / 2 ^ 18 ≠ 0 ∨ 16 ≤ g 8 1 ∨ g 0xB 1 ≠ 0 ∨ g 0xC 8 / 2 ^ 50 ≠ 0 ∨ g 0x14 4 / 2 ^ 22 ≠ 0 ∨ 4096 ≤ g 0x1A 2
      ∨ 8192 ≤ g 0x1C 2 ∨ g 0x1E 2 ≠ 0 ∨ g 0x3F 1 ≠ 0 ∨ g 0x56 2 ≠ 0 ∨ g 0x64 4 ≠ 0 ∨ 16 ≤ g 0x78 1 ∨ 64 ≤ g 0x79 1
      ∨ g 0x7E 2 ≠ 0)
  || hi 0x20 || hi 0x28 || hi 0x40 || hi 0x48 || hi 0x58 || hi 0x68
  || decide ((d.ity = 1 ∧ 16 ≤ d.zp) ∨ (2 ≤ d.ity ∧ d.zp ≠ 0))
  || (d.isGemm && decide (d.inC ≠ 0)) || (decide (d.cls = 1) && decide (d.inPlane ≠ 0))
  || (!d.isConv && decide (d.oh ≠ 0 ∨ d.ow ≠ 0)) || (!d.outl && decide (d.sideBase ≠ 0))

/-- Reason 4: a size. -/
def lensBad4 (d : LDesc) : Bool :=
  decide (d.tilePos = 0 ∨ 4096 < d.tilePos ∨ 4096 < d.psR ∨ 4096 < d.psB + d.psR ∨ d.nOut = 0 ∨ d.inH = 0
    ∨ 7 < (d.kh - 1) * d.dy + 1 ∨ 7 < (d.kw - 1) * d.dx + 1)
  || (!d.isGemm && decide (d.inW = 0 ∨ 16384 < d.inW ∨ 16384 < d.inH ∨ d.inC = 0))
  || (d.isConv && decide (d.oh = 0 ∨ 16384 < d.oh ∨ d.ow = 0 ∨ 16384 < d.ow))

/-- Bytes of the input from IN_BASE. -/
def lensInBytes (d : LDesc) : Nat :=
  if d.isGemm then
    let rows := if d.byIndex then d.inPlane else d.inH
    if rows = 0 ∨ !d.reads then 0 else (rows - 1) * d.inRow + d.ebytes d.inW
  else (d.inC - 1) * d.inPlane + (d.inH - 1) * d.inRow + d.ebytes d.inW

/-- Reason 5: alignment of every address and stride, whether the operation uses it or not, and the ranges of those it uses. `ob2` is the output element size in half bytes, by the quantisation descriptor. -/
def lensBad5 (s : State) (d : LDesc) (ob2 : Nat) : Bool :=
  let al (x : Nat) : Bool := decide (x % 64 ≠ 0)
  let pooled := decide (d.ptype ≠ 0)
  let rows := if pooled then d.poolH * d.poolW else d.positions * d.perPos
  let x := if pooled then d.poolW else if d.isGemm then 1 else d.outW
  let y := if pooled then d.poolH else if d.isGemm then d.positions else d.outH
  let nb := (d.nOut * ob2 + 1) / 2
  let outN := if rows = 0 then 0
    else if d.layout = 0 then (d.nOut - 1) * d.oPlane + (y - 1) * d.oRow + (x * ob2 + 1) / 2
    else (rows - 1) * d.oRow + nb
  let ix := if d.cls = 2 then 2 else 4
  let side := (d.kLayer + 255) / 256 * 32
  let srows := if d.byIndex then d.inPlane else d.positions
  al d.qdesc || al d.inBase || al d.inRow || (!d.isGemm && al d.inPlane) || al d.index || al d.wBase || al d.wStride
  || al d.sideBase || al d.sideRow || al d.oBase || al d.oRow || al d.oPlane
  || !lensTable s d.qdesc 128
  || (d.reads && !lensRange s 1 1 d.inBase (lensInBytes d))
  || (d.hasIndex && !lensRange s 1 1 d.index (d.inH * ix))
  || (d.reads && !d.isPool && (decide (d.wStride < d.tileAll)
      || !lensRange s 0 0 d.wBase ((d.nnt * d.nkt - 1) * d.wStride + d.tileAll)))
  || (d.outl && !lensRange s 2 1 d.sideBase (if srows = 0 then 0 else (srows - 1) * d.sideRow + side))
  || (decide (d.layout ≠ 2) && !lensRange s 3 1 d.oBase outN)

/-- Reason 6: the combinations of R222. -/
def lensBad6 (d : LDesc) : Bool :=
  let pos := decide (d.cls ≠ 3)
  let pooled := decide (d.ptype ≠ 0)
  let need := ((d.poolK + d.poolS - 1) / d.poolS) * ((d.outW + d.poolS - 1) / d.poolS) * min d.nOut d.nTile * 4
  (d.outl && (decide (d.ity ≠ 0) || d.isPool || (d.isConv && decide (d.kh ≠ 1 ∨ d.kw ≠ 1))))
  || (d.gather && !d.isScatter)
  || (d.isScatter && (!d.accIn || d.final || (d.gather && decide (d.inPlane = 0))))
  || (!d.final && decide (d.layout ≠ 2)) || (d.final && decide (d.layout = 2))
  || ((!d.final || d.accIn || d.isScatter) && decide (d.nArr < d.nOut ∨ d.psR = 0))
  || ((!d.final || d.accIn) && pos && decide (d.psR < d.positions))
  || (decide (1 < d.nkt) && d.final && !d.accIn && decide (d.psR < d.tilePos))
  || (decide (d.kLayer = 0) && !(decide (d.cls = 1) && d.accIn && d.final))
  || (pooled && (d.isGemm || decide (524288 < need) || (d.final && d.isConv && decide (d.tilePos % d.ow ≠ 0))))
  || (d.isPool && decide (d.kh ≠ 1 ∨ d.kw ≠ 1 ∨ d.sy ≠ 1 ∨ d.sx ≠ 1 ∨ d.dy ≠ 1 ∨ d.dx ≠ 1 ∨ d.padT ≠ 0 ∨ d.padL ≠ 0))

/-- The lowest reason from 2 on that a descriptor meets at the push; 0: accepted. -/
def lensReason (s : State) (b : List Byte) : Nat :=
  let d := lensParse b
  if d.hasIndex ∧ !decodesAll s (d.index % 2 ^ 48) (if d.cls = 2 then 2 else 4) then 2
  else if lensBad3 b d then 3
  else if lensBad4 d then 4
  else if lensBad5 s d (match nfld (memLe s d.qdesc 4) 7 5 with | 0 => 1 | 2 => 4 | 5 => 4 | _ => 2) then 5
  else if lensBad6 d then 6
  else if d.outl ∧ !rdB s rLENS_STATUS 0 then 7
  else 0

/-! ### The quantisation descriptor (R253 to R255) -/

/-- A quantisation descriptor as fields. -/
structure QDesc where
  mode : Nat
  rowOut : Bool
  rescue : Bool
  up : Bool
  oty : Nat
  act : Nat
  stat : Bool
  rowStat : Bool
  split : Bool
  notifyEn : Bool
  nCols : Nat
  rescueMin : Nat
  zp : Int
  qmin : Int
  qmax : Int
  actLo : Nat
  actHi : Nat
  satShift : Nat
  zeroShift : Nat
  notify : Nat
  rsOut : Nat
  rsIn : Nat
  coltab : Nat
  pwl : Nat
  statAt : Nat
  rowStatAt : Nat
  sideOut : Nat
  sideOutRow : Nat
  outMap : Nat
deriving DecidableEq, Repr

/-- The fields of a quantisation descriptor's bytes. -/
def quantParse (b : List Byte) : QDesc :=
  let g (o n : Nat) : Nat := leAt o n b
  let c := g 0 4
  { mode := nfld c 1 0, rowOut := nbit c 2, rescue := nbit c 3, up := nbit c 4, oty := nfld c 7 5, act := nfld c 9 8,
    stat := nbit c 10, rowStat := nbit c 11, split := nbit c 12, notifyEn := nbit c 13, nCols := g 4 2, rescueMin := g 6 2,
    zp := sext 32 (g 8 4), qmin := sext 32 (g 0xC 4), qmax := sext 32 (g 0x10 4), actLo := g 0x14 4, actHi := g 0x18 4,
    satShift := g 0x1C 1, zeroShift := g 0x1D 1, notify := g 0x1E 1, rsOut := g 0x20 4, rsIn := g 0x24 4, coltab := g 0x28 8,
    pwl := g 0x30 8, statAt := g 0x38 8, rowStatAt := g 0x40 8, sideOut := g 0x48 8, sideOutRow := g 0x50 4,
    outMap := g 0x58 8 }

/-- Float path (R255). -/
def QDesc.flt (q : QDesc) : Bool := decide (3 ≤ q.oty)
/-- Output element size in half bytes (R220). -/
def QDesc.ob2 (q : QDesc) : Nat := match q.oty with | 0 => 1 | 2 => 4 | 5 => 4 | _ => 2
/-- T of R265. -/
def QDesc.span (q : QDesc) : Int := min (q.qmax - q.zp) (q.zp - q.qmin)
/-- Lower and upper bounds of an integer output type, and its span (R249). -/
def qRange (oty : Nat) : Int × Int × Int :=
  if oty = 0 then (-8, 15, 15) else if oty = 1 then (-128, 255, 255) else (-32768, 65535, 65535)

/-- A destination in activation memory or DRAM. -/
def lensSink (s : State) (a n : Nat) : Bool :=
  lensRange s 3 1 a n || (decide (regionOf a = .dram) && decodesAll s a n)

/-- The first rule of R255 that a quantisation descriptor breaks for an operation; 0: none. -/
def quantSub (s : State) (d : LDesc) (b pwl : List Byte) : Nat :=
  let q := quantParse b
  let g (o n : Nat) : Nat := leAt o n b
  let al (x : Nat) : Bool := decide (x % 64 ≠ 0)
  let segs := (d.nOut + 255) / 256
  let r := qRange q.oty
  let rows := d.positions * d.perPos
  let pooled := decide (d.ptype ≠ 0)
  let big (o : Nat) : Bool := decide (2 ^ 48 ≤ g o 8)
  let scale := q.rowOut || q.rescue
  let lo := fp32.decode q.actLo
  let hi := fp32.decode q.actHi
  if al q.coltab || !lensTable s q.coltab (q.nCols * 16)
      || (decide (q.act = 3) && (al q.pwl || !lensTable s q.pwl 2064))
      || (q.stat && (al q.statAt || !lensSink s q.statAt (0x40 + 4 * d.nOut)))
      || (q.rowStat && (al q.rowStatAt || !lensSink s q.rowStatAt (4 * rows)))
      || (q.split && (al q.sideOut || !lensRange s 3 1 q.sideOut ((rows - 1) * q.sideOutRow + 32 * segs)
        || al q.outMap || !lensTable s q.outMap (16 * segs))) then 1
  else if 2 ≤ q.mode ∨ 5 < q.oty ∨ g 0 4 / 2 ^ 14 ≠ 0 ∨ 32 ≤ q.notify ∨ g 0x1F 1 ≠ 0 ∨ g 0x54 4 ≠ 0 ∨ g 0x60 32 ≠ 0
      ∨ 31 < q.satShift ∨ 31 < q.zeroShift ∨ (q.rescue ∧ q.rescueMin = 0) ∨ big 0x28 ∨ (q.act = 3 ∧ big 0x30)
      ∨ (q.stat ∧ big 0x38) ∨ (q.rowStat ∧ big 0x40) ∨ (q.split ∧ (big 0x48 ∨ big 0x58 ∨ q.sideOutRow % 64 ≠ 0)) then 2
  else if (d.fp ∧ !q.flt) ∨ (q.flt ∧ (q.zp ≠ 0 ∨ q.act = 3 ∨ q.mode = 1 ∨ q.rowOut ∨ q.rescue ∨ q.split)) then 3
  else if (!q.flt ∧ (q.qmax < q.qmin ∨ q.qmin < r.1 ∨ r.2.1 < q.qmax ∨ r.2.2 < q.qmax - q.qmin ∨ q.zp < q.qmin ∨ q.qmax < q.zp))
      ∨ (q.act = 2 ∧ (if q.flt then hi.lt lo else decide (sext 32 q.actHi < sext 32 q.actLo))) then 4
  else if q.mode = 1 ∧ ((d.cls ≠ 1 ∧ d.cls ≠ 2) ∨ d.accIn ∨ d.layout = 2 ∨ (!d.outl ∧ q.rsIn < d.ebytes d.kLayer)
      ∨ q.rsIn % 4 ≠ 0 ∨ d.inRow < q.rsIn + 4) then 5
  else if (scale ∧ (d.layout ≠ 1 ∨ 1 < d.nnt ∨ !d.final ∨ pooled ∨ q.span < 1 ∨ q.rsOut % 4 ≠ 0
      ∨ q.rsOut < ((d.nOut * q.ob2 + 1) / 2 + 3) / 4 * 4 ∨ d.oRow < q.rsOut + 4)) ∨ (q.rowOut ∧ q.rescue) then 6
  else if q.split ∧ (d.layout ≠ 1 ∨ q.oty = 2 ∨ pooled ∨ q.sideOutRow < 32 * segs) then 7
  else if q.act = 3 ∧ !pwlOk (fun o n => leAt o n pwl) then 8
  else if q.nCols < d.nOut then 9
  else if q.notifyEn ∧ !lanternActive s q.notify then 10
  else 0

end Sys2Proof.Machine
end

