-- ==== Sys2Proof/Machine/LensTile.lean ====
section
/-! DEFINITION. One tile of a Lens operation: operands and column sums (R213 to R219, R226 to R229, R248 to R252), partitions
(R225, R230 to R233), and the output unit (R256 to R272). -/

namespace Sys2Proof.Machine

open Sys2Proof

/-! ### Reading operands and weights -/

/-- `n` bytes as a number through a Lens port, and poison: an unowned bank reads zeros marked poisoned (R286). -/
def lensGet (s : State) (port a n : Nat) : Nat × Bool :=
  if ownsAll s port a n ∧ decodesAll s a n then (memLe s a n, poisonedIn s a n) else (0, true)

/-- Element `k` from an address, as stored (R218, R248). -/
def lensElem (s : State) (d : LDesc) (a k : Nat) : Nat × Bool :=
  match d.ity with
  | 1 => let r := lensGet s 1 (a + k / 2) 1; (if k % 2 = 0 then r.1 % 16 else r.1 / 16, r.2)
  | 4 => lensGet s 1 (a + 2 * k) 2
  | _ => lensGet s 1 (a + k) 1

/-- The value of an FP element (R250). -/
def lensFp (d : LDesc) (w : Nat) : FV :=
  match d.ity with | 2 => e4m3Decode w | 3 => e5m2.decode w | _ => bf16.decode w

/-- The contents of the foreground weight buffer by offset in the tile (R216). -/
def lensBuf (s : State) : Tab Byte := match s.lens.fg with | some b => b.data | none => []

/-- Weight (k, n) of a tile, as a word (R215). -/
def lensWeight (t : Tab Byte) (d : LDesc) (k n : Nat) : Nat :=
  let b (o : Nat) : Nat := (tget 0 t o).toNat
  match d.ity with
  | 1 => let x := b (k / 2 * d.nArr + n); if k % 2 = 0 then x % 16 else x / 16
  | 4 => b (2 * (k * d.nArr + n)) + 256 * b (2 * (k * d.nArr + n) + 1)
  | _ => b (k * d.nArr + n)

/-- An index list entry: the source row (none: the row of zeros), the destination row (none: discarded), and whether an
index lies beyond its bound (R219, R229, R231). -/
structure LIndex where
  src : Option Nat
  dst : Option Nat
  srcBad : Bool
  dstBad : Bool
deriving DecidableEq, Repr

/-- The rows of position `p`. -/
def lensIndex (s : State) (d : LDesc) (p : Nat) : LIndex :=
  if !d.hasIndex then { src := some p, dst := none, srcBad := false, dstBad := false }
  else
    let n := if d.cls = 2 then 2 else 4
    let w := (lensGet s 1 (d.index + p * n) n).1
    let i := w % 65536
    let t := w / 65536
    let by_ := d.byIndex
    { src := if !by_ then some p else if i < d.inPlane ∧ i ≠ 0xFFFF then some i else none,
      dst := if d.isScatter ∧ t < d.psR ∧ t ≠ 0xFFFF then some t else none,
      srcBad := by_ && decide (d.inPlane ≤ i ∧ i ≠ 0xFFFF),
      dstBad := d.isScatter && decide (d.psR ≤ t ∧ t ≠ 0xFFFF) }

/-- Does any entry of the index list lie out of range? The list does not change while the operation is in the queue (R223). -/
def lensIndexBad (s : State) (d : LDesc) : Bool :=
  d.hasIndex && (upto d.inH).any (fun p => let x := lensIndex s d p; x.srcBad || x.dstBad)

/-- The operands of a K-vector, as stored, with poison; `none` stands for IN_ZP (R218, R226, R227). -/
def lensVector (s : State) (d : LDesc) (kt p : Nat) : List (Option Nat) × Bool :=
  if d.isConv then
    let y := p / d.ow
    let x := p % d.ow
    let c0 := kt * d.cg
    let cs := (upto (min d.inC (c0 + d.cg) - c0)).map (fun c => c0 + c)
    let es := cs.flatMap (fun c => (upto d.kh).flatMap (fun ky => (upto d.kw).map (fun kx =>
      let iy : Int := ((y * d.sy + ky * d.dy : Nat) : Int) - d.padT
      let ix : Int := ((x * d.sx + kx * d.dx : Nat) : Int) - d.padL
      if 0 ≤ iy ∧ iy < d.inH ∧ 0 ≤ ix ∧ ix < d.inW then
        let r := lensElem s d (d.inBase + c * d.inPlane + iy.toNat * d.inRow) ix.toNat
        (some r.1, r.2)
      else (none, false))))
    (es.map Prod.fst, es.any Prod.snd)
  else
    let k0 := kt * d.kArr
    let n := min d.inW (k0 + d.kArr) - k0
    match (lensIndex s d p).src with
    | none => (List.replicate n none, false)
    | some row =>
      let es := (upto n).map (fun k => lensElem s d (d.inBase + row * d.inRow) (k0 + k))
      (es.map (fun r => some r.1), es.any Prod.snd)

/-- Address of weight tile (nt, kt) (R224). -/
def lensTileAddr (d : LDesc) (nt kt : Nat) : Nat := d.wBase + (nt * d.nkt + kt) * d.wStride
/-- Entry `i` of segment `j` of a tile's channel map: 0xFF is unused (R215). -/
def lensMap (t : Tab Byte) (d : LDesc) (j i : Nat) : Nat := (tget 0 t (d.tileBytes + 8192 + 16 * j + i)).toNat
/-- Side weight (x, n) of a tile. -/
def lensSideWeight (t : Tab Byte) (d : LDesc) (x n : Nat) : Int := sext 8 (tget 0 t (d.tileBytes + x * d.nArr + n)).toNat

/-- Integer operands of a K-vector: differences to IN_ZP, with outlier channels at zero under ZERO_SUB (R227, R248). -/
def lensInts (t : Tab Byte) (d : LDesc) (v : List (Option Nat)) : List Int :=
  (upto v.length).map (fun k =>
    let out := d.outl && d.zsub && (upto 16).any (fun i => decide (lensMap t d (k / 256) i = k % 256 ∧ k % 256 ≠ 255))
    match v.getD k none with
    | none => 0
    | some u => if out then 0 else (u : Int) - d.zp)

/-- The side row of position `p` for K-tile `kt`: 16 values for each of its segments, and poison (R227). -/
def lensSide (s : State) (d : LDesc) (kt p : Nat) : List Int × Bool :=
  match (lensIndex s d p).src with
  | none => ([], false)
  | some row =>
    let segs := d.kArr / 256
    let all := (d.kLayer + 255) / 256
    let es := (upto (min all ((kt + 1) * segs) - kt * segs)).flatMap (fun j => (upto 16).map (fun i =>
      lensGet s 2 (d.sideBase + row * d.sideRow + ((kt * segs + j) * 16 + i) * 2) 2))
    (es.map (fun r => sext 16 r.1), es.any Prod.snd)

/-- The column sums of a K-vector for all N columns of the tile in the foreground buffer: integers, or FP32 words on FP operands; and poison
(R251, R252). A NaN sum carries a free payload. -/
def lensColumns (s : State) (d : LDesc) (kt p : Nat) : List Int × Bool :=
  let t := lensBuf s
  let v := lensVector s d kt p
  if d.fp then
    let xs := v.1.map (fun o => lensFp d (o.getD 0))
    ((upto d.nArr).map (fun n =>
      let ps := (upto xs.length).map (fun k => (xs.getD k .nan).mul (lensFp d (lensWeight t d k n)))
      (fp32.encode (fp32.freeNan (Config.freeWord (s.free + n)).toNat) (columnSum ps) : Int)), v.2)
  else
    let xs := lensInts t d v.1
    let side : List Int × Bool := if d.outl then lensSide s d kt p else ([], false)
    let wb := if d.ity = 1 then 4 else 8
    ((upto d.nArr).map (fun n =>
      let a := (upto xs.length).foldl (fun a k => a + xs.getD k 0 * sext wb (lensWeight t d k n)) 0
      (upto side.1.length).foldl (fun a i =>
        if lensMap t d (i / 16) (i % 16) = 255 then a else a + side.1.getD i 0 * lensSideWeight t d i n) a),
     v.2 || side.2)

/-- What the Lens reads for position `p` of a tile besides weights and partition rows, by port, address and bytes: the index
entry, the operands, the side row and the row scale word (R218, R219, R226, R227, R267). -/
def lensReads (s : State) (d : LDesc) (rsIn : Option Nat) (nt kt p : Nat) : List (Nat × Nat × Nat) :=
  let run (a k n : Nat) : Nat × Nat × Nat := (1, a + k * d.e2 / 2, d.ebytes (k + n) - k * d.e2 / 2)
  if d.isConv then
    let y := p / d.ow
    let x := p % d.ow
    let c0 := kt * d.cg
    let cols := (upto d.kw).filterMap (fun kx =>
      let ix : Int := ((x * d.sx + kx * d.dx : Nat) : Int) - d.padL
      if 0 ≤ ix ∧ ix < d.inW then some ix.toNat else none)
    if cols.isEmpty then []
    else (upto (min d.inC (c0 + d.cg) - c0)).flatMap (fun c => (upto d.kh).filterMap (fun ky =>
      let iy : Int := ((y * d.sy + ky * d.dy : Nat) : Int) - d.padT
      if 0 ≤ iy ∧ iy < d.inH then
        some (run (d.inBase + (c0 + c) * d.inPlane + iy.toNat * d.inRow) (cols.headD 0) (cols.getLastD 0 + 1 - cols.headD 0))
      else none))
  else if d.isPool then
    (upto (min d.nOut (nt * 256 + 256) - nt * 256)).filterMap (fun i =>
      if nt * 256 + i < d.inC then some (run (d.inBase + (nt * 256 + i) * d.inPlane + p * d.inRow) 0 d.inW) else none)
  else if !d.reads then []
  else
    let ix := if d.cls = 2 then 2 else 4
    let index := if d.hasIndex then [(1, d.index + p * ix, ix)] else []
    match (lensIndex s d p).src with
    | none => index
    | some row =>
      let k0 := kt * d.kArr
      let segs := d.kArr / 256
      let n := min ((d.kLayer + 255) / 256) ((kt + 1) * segs) - kt * segs
      index ++ [run (d.inBase + row * d.inRow) k0 (min d.inW (k0 + d.kArr) - k0)]
        ++ (if d.outl then [(2, d.sideBase + row * d.sideRow + kt * segs * 32, n * 32)] else [])
        ++ (match rsIn with | some o => [(1, d.inBase + row * d.inRow + o, 4)] | none => [])

/-- The protection's findings in what a port reads take effect: those whose address lies in one of the ranges (R288 to R290). -/
def lensErrs (rs : List (Nat × Nat × Nat)) (errs : List (Nat × MemErr)) (s : State) : State :=
  forAll errs (fun e s =>
    match rs.find? (fun r => decide (r.2.1 ≤ e.1 ∧ e.1 < r.2.1 + r.2.2)) with
    | some r => if ownsAll s r.1 e.1 1 then memErrEffect r.1 e.1 e.2 s else s
    | none => s) s

/-- Reads that reach a bank their port does not own are counted, latched and reported (R286). -/
def lensOwners (rs : List (Nat × Nat × Nat)) (s : State) : State :=
  forAll rs (fun r s => if r.2.2 ≠ 0 ∧ decodesAll s r.2.1 r.2.2 ∧ !ownsAll s r.1 r.2.1 r.2.2 then ownerViolation r.1 r.2.1 s else s) s

/-! ### Partition rows (R225, R230 to R233) -/

/-- Address of a partial-sum row. -/
def lensPsRow (r : Nat) : Nat := psBase + r * 2048

/-- The sums of a partition row: as stored, and poison. -/
def lensPsRead (d : LDesc) (r : Nat) (s : State) : (List Int × Bool) × State :=
  let x := portRead 4 (lensPsRow r) (4 * d.nArr) .none s
  (((upto d.nArr).map (fun n => if d.fp then ((leAt (4 * n) 4 x.1.data : Nat) : Int) else sext 32 (leAt (4 * n) 4 x.1.data)),
    x.1.poison), x.2)

/-- Sums go into a partition row; a write with no sum under it clears the row's flag (R233, R244). -/
def lensPsWrite (r : Nat) (v : List Int) (bad fresh : Bool) (s : State) : State :=
  let a := lensPsRow r
  let own := ownsAll s 4 a (4 * v.length)
  let s := (portWrite 4 a (v.flatMap (fun x => leBytes 4 (wrapN 32 x))) bad .none s).2
  if own ∧ fresh then setPoison a bad s else s

/-- The partition row of position `p`: for SCATTER-ACC the row its index entry names, if any (R225, R230). -/
def lensPart (s : State) (d : LDesc) (p : Nat) : Option Nat :=
  if d.isScatter then (lensIndex s d p).dst.map (fun r => d.psB + r)
  else if !d.final ∨ d.accIn then some (d.psB + p) else some (d.psB + p % d.tilePos)

/-- Do the sums go straight to the output unit, past the partition (R224)? -/
def LDesc.direct (d : LDesc) : Bool := decide (d.nkt = 1) && !d.accIn && d.final

/-- The partition rows that K-tile `kt` reads for position `p`, by port, address and bytes. -/
def lensPartReads (s : State) (d : LDesc) (kt p : Nat) : List (Nat × Nat × Nat) :=
  if d.direct ∨ (kt = 0 ∧ !d.accIn) then []
  else match lensPart s d p with | some r => [(4, lensPsRow r, 4 * d.nArr)] | none => []

/-- One element added to a partial sum: saturating INT32, or one FP32 addition (R251, R252). Answers the sum and whether it
saturated. -/
def lensAdd (d : LDesc) (nan : Nat) (a b : Int) : Int × Bool :=
  if d.fp then
    (fp32.encode nan (fp32.round ((fp32.decode a.toNat).add (fp32.decode b.toNat))), false)
  else let r := sat32 (a + b); (r.1, decide (r.2 ≠ 0))

/-! ### The output unit -/

/-- n/d rounded to an integer, a half up when `up`, otherwise to even (R257, R265). -/
def roundRat (up : Bool) (n : Int) (d : Nat) : Int :=
  if d = 0 then n
  else
    let q := n / (d : Int)
    let r := 2 * (n - q * d)
    if r < d then q else if (d : Int) < r then q + 1 else if up then q + 1 else if q % 2 = 0 then q else q + 1

/-- What the output unit works under. -/
structure LOut where
  d : LDesc
  q : QDesc
  pwl : List Byte
  /-- OUT_MAP, and the column table's entries from column `n0` on, as loaded (R237, R254). -/
  map : List Byte
  cols : List Byte
  n0 : Nat
deriving DecidableEq, Repr

/-- Entry `n` of the column table: BIAS, MULT, SHIFT (R254). -/
def lensCol (o : LOut) (n : Nat) : Nat × Nat × Nat :=
  let a := 16 * (n - o.n0)
  (leAt a 4 o.cols, leAt (a + 4) 4 o.cols, leAt (a + 8) 1 o.cols % 64)

/-- The exact result before rounding, as numerator and shift (steps 2 to 4 of R256, R258). `rs`: the row scale word. -/
def lensExact (o : LOut) (rs : Nat) (n : Nat) (p : Int) : Int × Nat :=
  let c := lensCol o n
  let bias := sext 32 c.1
  if o.q.mode = 0 then ((p + bias) * sext 32 c.2.1, c.2.2)
  else
    let m : Int := ((rs % 65536 : Nat) : Int)
    let e := sext 8 (rs / 65536)
    if 0 ≤ e then ((p * m * ((2 ^ e.toNat : Nat) : Int) + bias) * ((c.2.1 : Nat) : Int), c.2.2)
    else ((p * m + bias * ((2 ^ (-e).toNat : Nat) : Int)) * ((c.2.1 : Nat) : Int), c.2.2 + (-e).toNat)

/-- Step 7 and what follows it: the activation (R260). -/
def lensAct (o : LOut) (v : Int) : Int :=
  let q := o.q
  match q.act with
  | 1 => max v q.zp
  | 2 => clampI q.qmin q.qmax (clampI (sext 32 q.actLo) (sext 32 q.actHi) v)
  | 3 => clampI q.qmin q.qmax (pwlAt q.up (fun f n => leAt f n o.pwl) v)
  | _ => v

/-- Is column `n` a channel that OUT_MAP names: its place in the side row (R268)? -/
def lensSplit (o : LOut) (n : Nat) : Option Nat :=
  if !o.q.split ∨ n % 256 = 255 then none
  else ((upto 16).find? (fun i => decide (leAt (n / 256 * 16 + i) 1 o.map = n % 256))).map
    (fun i => n / 256 * 16 + i)

/-- The result of one integer output element: stored value, clamp (1 high, 2 low), |Y| at step 4, and the side value with
its clamp where the channel is split. -/
structure LElem where
  q : Int
  /-- The value after step 6. -/
  s6 : Int := 0
  clamp : Nat := 0
  y : Nat := 0
  side : Option (Nat × Int × Bool) := none
deriving DecidableEq, Repr

/-- A row scale: MULT, EXP and the word's flags (R263, R265). -/
structure LScale where
  mult : Nat
  exp : Int
deriving DecidableEq, Repr

/-- The scale of a row whose largest |Ỹ|·2^128 is `r` (R265). -/
def lensScale (o : LOut) (r : Nat) : LScale :=
  if r = 0 then { mult := 0, exp := 0 }
  else
    let t := o.q.span.toNat
    let e : Int := (((upto 64).map (fun (k : Nat) => (k : Int) - 32)).find? (fun e => decide (r ≤ t * 2 ^ (128 + e).toNat))).getD 31
    let n := r * 2 ^ (31 - e).toNat
    let den := t * 2 ^ 144
    { mult := min 32768 ((n + den - 1) / den), exp := e }

/-- Ỹ·2^128 of an exact result. -/
def lensWide (x : Int × Nat) : Int := x.1 * ((2 ^ (128 - x.2) : Nat) : Int)

/-- round(Ỹ × 2^(15 − EXP) / MULT) (R265). -/
def lensScaled (o : LOut) (sc : LScale) (x : Int × Nat) : Int :=
  if sc.mult = 0 then 0
  else roundRat o.q.up (lensWide x * ((2 ^ (31 - sc.exp).toNat : Nat) : Int)) (sc.mult * 2 ^ 144)

/-- One integer element, under a static or a row scale (R256, R265, R268). -/
def lensElement (o : LOut) (sc : Option LScale) (n : Nat) (x : Int × Nat) : LElem :=
  let y := rshift o.q.up x.1 x.2
  let v := match sc with | none => y | some sc => lensScaled o sc x
  match lensSplit o n with
  | some place =>
    let k := clampC (-32768) 32767 v
    { q := o.q.zp, s6 := o.q.zp, y := y.natAbs, side := some (place, k.1, decide (k.2 ≠ 0)) }
  | none =>
    let k := clampC o.q.qmin o.q.qmax (v + o.q.zp)
    { q := lensAct o k.1, s6 := k.1, clamp := k.2, y := y.natAbs }

/-- One row of integer outputs: its elements and, where one is written, its row scale word (R263 to R266, R272). -/
structure LRow where
  es : List LElem
  word : Option Nat := none
  rescued : Bool := false
  /-- The elements whose clamps count: those of the first pass. -/
  first : List LElem
deriving DecidableEq, Repr

/-- The integer output row of one N-tile. `cols` are the columns' numbers with their sums. -/
def lensIntRow (o : LOut) (rs : Nat) (bad : Bool) (cols : List (Nat × Int)) : LRow :=
  let xs := cols.map (fun c => (c.1, lensExact o rs c.1 c.2))
  let top := xs.foldl (fun m c => if (lensSplit o c.1).isSome then m else max m (lensWide c.2).natAbs) 0
  let make (sc : Option LScale) : List LElem := xs.map (fun c => lensElement o sc c.1 c.2)
  let word (sc : LScale) (es : List LElem) (rescued : Bool) : Nat :=
    let zero := es.all (fun e => e.side.isSome || decide (e.s6 = o.q.zp)) &&
      cols.any (fun c => decide (c.2 ≠ 0) && (lensSplit o c.1).isNone)
    sc.mult + wrapN 8 sc.exp * 65536 + b2n bad * 2 ^ 24 + b2n rescued * 2 ^ 25 + b2n zero * 2 ^ 26
  if o.q.rowOut then
    let sc := lensScale o top
    let es := make (some sc)
    { es := es, word := some (word sc es false), first := es }
  else
    let es := make none
    if !o.q.rescue then { es := es, first := es }
    else if (es.filter (fun e => decide (e.clamp ≠ 0))).length ≤ o.q.rescueMin then
      { es := es, word := some (word { mult := 0x8000, exp := 0 } es false), first := es }
    else
      let sc := lensScale o top
      let r := make (some sc)
      { es := r, word := some (word sc r true), rescued := true, first := es }

/-- The float value of one element before pooling (R259), as an FP32 word, and its magnitude for the maxima. BIAS is FP32 bits for
every ITYPE (R254); the sum is exact for an integer one (log entry 52). -/
def lensFloat (o : LOut) (n : Nat) (p : Int) (nan : Nat) : Nat × Nat :=
  let c := lensCol o n
  let a : FV := if o.d.fp then fp32.round ((fp32.decode p.toNat).add (fp32.decode c.1)) else (fvOf p 0).add (fp32.decode c.1)
  let v := fp32.round (a.mul (fvOf (sext 32 c.2.1) (-(c.2.2 : Int))))
  let w := match v with
    | .nan => v
    | v => match o.q.act with
      | 1 => v.max (.fin false 0 0)
      | 2 => (v.max (fp32.decode o.q.actLo)).min (fp32.decode o.q.actHi)
      | _ => v
  (fp32.encode nan w, match v with | .nan => 0 | v => fp32.encode 0 v.abs)

/-- A float result in its output type: the stored word, the clamp (1 high, 2 low), NaN (R259). -/
def lensConvert (oty : Nat) (v : FV) : Nat × Nat × Bool :=
  let big : FV := match oty with
    | 3 => .fin false 448 0
    | 4 => .fin false 57344 0
    | _ => .fin false 255 120
  let enc (x : FV) : Nat :=
    match oty with
    | 3 => e4m3Encode x
    | 4 => e5m2.encode 0 x
    | _ => bf16.encode 0 x
  match v with
  | .nan => (0, 0, true)
  | v =>
    if big.lt v.abs then (let neg := v.lt (.fin false 0 0); (enc (if neg then big.neg else big), if neg then 2 else 1, false))
    else (enc v, 0, false)

/-! ### Pooling (R234, R262) -/

/-- Average of integer outputs (R262). -/
def lensAvg (o : LOut) (vs : List Int) : Int :=
  let k2 := o.d.poolK * o.d.poolK
  let rk : Nat := (2 * 2 ^ 24 + k2) / (2 * k2)
  let sum := vs.foldl (fun a v => a + (v - o.q.zp)) 0
  clampI o.q.qmin o.q.qmax (o.q.zp + rshift o.q.up (sum * rk) 24)

/-- The pooled value of a window; float windows hold FP32 words. -/
def lensPoolVal (o : LOut) (nan : Nat) (vs : List Int) : Int :=
  if !o.q.flt then
    if o.d.ptype = 1 then vs.foldl max (vs.headD 0) else lensAvg o vs
  else
    let fs := vs.map (fun v => fp32.decode v.toNat)
    if o.d.ptype = 1 then (fp32.encode nan (if fs.any (fun f => f = .nan) then .nan else fs.foldl FV.max (fs.headD .nan)) : Int)
    else
      let sum := (fs.drop 1).foldl (fun a f => fp32.round (a.add f)) (fs.headD .nan)
      (fp32.encode nan (sum.div (fvOf ((o.d.poolK * o.d.poolK : Nat) : Int) 0)) : Int)

/-! ### Output bytes -/

/-- Bytes on their way to memory, by address, each with its row's poison. -/
abbrev LBytes := Tab (Option (Byte × Bool))

/-- One byte joins them; half bytes merge. -/
def lensByte (a : Nat) (b : Byte) (bad : Bool) (t : LBytes) : LBytes := tput none t a (some (b, bad))

/-- A value of `ob2` half bytes at half-byte place `k` from an address. -/
def lensPut (s : State) (a k ob2 : Nat) (v : Nat) (bad : Bool) (t : LBytes) : LBytes :=
  match ob2 with
  | 1 =>
    let at_ := a + k / 2
    let old := match tget none t at_ with | some (b, p) => (b.toNat, p) | none => ((memByte s at_).toNat, false)
    let n := if k % 2 = 0 then old.1 / 16 * 16 + v % 16 else old.1 % 16 + v % 16 * 16
    lensByte at_ (BitVec.ofNat 8 n) (bad || old.2) t
  | 2 => lensByte (a + k / 2) (BitVec.ofNat 8 v) bad t
  | _ => lensByte (a + k / 2) (BitVec.ofNat 8 v) bad (lensByte (a + k / 2 + 1) (BitVec.ofNat 8 (v / 256)) bad t)

/-- The bytes are written in runs of equal poison. -/
def lensFlush : List (Nat × Byte × Bool) → Nat → Bool → List Byte → List (Nat × Bool × List Byte)
  | [], a, p, acc => if acc.isEmpty then [] else [(a, p, acc.reverse)]
  | (k, b, q) :: t, a, p, acc =>
    if k = a + acc.length ∧ q = p then lensFlush t a p (b :: acc)
    else (if acc.isEmpty then [] else [(a, p, acc.reverse)]) ++ lensFlush t k q [b]

/-- All bytes of a tile go out through the Lens's write port; statistics may lie in DRAM, in class LENS. -/
def lensStore (t : LBytes) (s : State) : State :=
  let es := t.filterMap (fun e => e.2.map (fun v => (e.1, v.1, v.2)))
  forAll (lensFlush es 0 false []) (fun r s => devPut { port := 3, cls := 1, who := none } r.1 r.2.2 r.2.1 s) s

end Sys2Proof.Machine
end

