-- ==== Sys2Proof/Machine/LensCmd.lean ====
section
/-! DEFINITION. The Lens's queue and commands: push and admission (R223, R232, R236, R237), counts (R238), tiles (R224, R239 to
R245), retirement (R269 to R271), and the staging area of the tables (R274, R276). -/

namespace Sys2Proof.Machine

open Sys2Proof

/-! ### The queue -/

def LensOp.d (o : LensOp) : LDesc := lensParse o.desc
/-- Resident operations (R236). -/
def lensRes (s : State) : List LensOp := s.lens.ops.filter (fun o => o.slot.isSome)
/-- The operation in a resident slot. -/
def lensAt (s : State) (k : Nat) : Option LensOp := s.lens.ops.find? (fun o => decide (o.slot = some k))
/-- The running operation. -/
def lensCurrent (s : State) : Option LensOp := s.lens.ops.find? (fun o => decide (o.phase = .running))
/-- An operation takes its new state. -/
def setLensOp (o : LensOp) (s : State) : State :=
  { s with lens := { s.lens with ops := s.lens.ops.map (fun x => if x.seq = o.seq then o else x) } }
/-- An operation leaves the queue. -/
def dropLensOp (seq : Nat) (s : State) : State :=
  { s with lens := { s.lens with ops := s.lens.ops.filter (fun x => decide (x.seq ≠ seq)) } }

/-- STATE code of a resident slot (R246). -/
def lensCode : LensPhase → Nat
  | .queued => 0 | .waiting => 1 | .ready => 2 | .running => 3 | .retiring => 4 | .admitting => 5

/-- Do the partitions of two operations overlap? One with no rows owns none. -/
def psOverlap (a b : LDesc) : Bool := decide (0 < a.psR ∧ 0 < b.psR) && decide (a.psB < b.psB + b.psR ∧ b.psB < a.psB + a.psR)

/-- Is a queued operation's admission allowed: no resident and no older queued operation overlaps it (R232)? -/
def lensAllowed (s : State) (o : LensOp) : Bool :=
  !s.lens.ops.any (fun x => decide (x.seq ≠ o.seq) && (x.slot.isSome || decide (x.seq < o.seq)) && psOverlap x.d o.d)

/-- The cause of idle cycles, in the order of their counters (R239). -/
def lensIdle (s : State) : Fin 4 :=
  if (lensRes s).isEmpty then 0
  else if s.lens.ops.any (fun o => decide (o.phase = .queued) && !lensAllowed s o) then 3
  else if 8 ≤ (lensRes s).length then 2
  else 1

/-- The status registers follow the queue (R246), and a cause of idleness that begins to apply is noted (R239). -/
def lensRefresh (s : State) : State :=
  let s := forAll (upto 8) (fun k s =>
    match lensAt s k with
    | none => wrWords (rLENS_RES_STATE k) [0, 0, 0, 0] s
    | some o =>
      let d := o.d
      wrWords (rLENS_RES_STATE k) [lensCode o.phase + d.prio * 8 + d.slot * 64 + d.gen * 1024, d.jobId, o.tiles,
        d.npt * d.nnt * d.nkt] s) s
  let st := setFld (setFld (rd s rLENS_STATUS) 13 8 s.lens.ops.length) 19 16 (lensRes s).length
  let st := match lensCurrent s with
    | some o => setBit (setFld st 22 20 (o.slot.getD 0)) 23 true
    | none => setBit (setFld st 22 20 0) 23 false
  let s := if s.lens.causes.getLast? = some (lensIdle s) then s
    else { s with lens := { s.lens with causes := s.lens.causes ++ [lensIdle s] } }
  wr rLENS_STATUS (setBit st 2 s.lens.tile.isSome) s

/-- An operation is refused (R223). -/
def lensRefuse (a why : Nat) (j : Option JobRef) (s : State) : State :=
  assertRouted rLCL_ROUTE0 16 18 <| raiseJ 72 1 j a (bump (rLENS_CNT 2) 1 (wr64 rLENS_ERR_ADDR_LO a (wrF rLENS_REFUSE 7 4 why (wrB rLENS_REFUSE 0 true s))))

/-- The Lens's agent for a read of a descriptor or table: through the weight port where it lies in weight memory, else through
the activation port; its requests to memory draw in class LENS. -/
def lensAgent (a : Nat) : Agent := { port := if regionOf a = .wm then 0 else 1, cls := 1, who := none }

/-- A read of a descriptor or table: weight memory found uncorrectable raises E74 (R244, R288). -/
def lensFetch (j : Option JobRef) (a n : Nat) (s : State) : Rd × State :=
  let r := devRead (lensAgent a) a n s
  (r.1, onlyIf (decide (regionOf a = .wm) && r.1.poison && ownsAll s 0 a n) (raiseJ 74 1 j a) r.2)

/-- The descriptor at an address is copied into the queue, or the operation refused (R223). A descriptor that is poisoned or
not aligned to 64 bytes cannot be read (log entry 9). It is read for a push to a full queue too: the job it names meets the
fault. -/
def lensPush (a : Nat) (s : State) : State :=
  let r := lensFetch none a 128 (bump (rLENS_CNT 0) 1 s)
  let s := r.2
  let bad := r.1.err || r.1.poison || decide (a % 64 ≠ 0)
  let j := if bad then none else some (lensParse r.1.data).ref
  let why := if 32 ≤ s.lens.ops.length then 1 else if bad then 2 else lensReason s r.1.data
  if why ≠ 0 then lensRefuse a why j s
  else
    let o : LensOp := { seq := s.lens.nextSeq, addr := a, desc := r.1.data }
    lensRefresh { s with lens := { s.lens with ops := s.lens.ops ++ [o], nextSeq := s.lens.nextSeq + 1 } }

/-- The effect of a write of LENS_PUSH_HI. -/
def lensPushEffect (i : Iface) (hi : Word) (s : State) : State × Bool :=
  let r := pairEffect i rLENS_PUSH_HI (latch s i rLENS_PUSH_LO) hi .none s
  (lensPush (rd64 r.1 rLENS_PUSH_LO % 2 ^ 48) r.1, r.2)

/-- LENS_PUSH (R223). -/
def execLensPush (ifc : Iface) (hi : Word) (s : State) : Host.Outcome State Fault Refusal :=
  .next (gatedWrite ifc rLENS_PUSH_HI hi (lensPushEffect ifc hi) s)

/-- A generation mismatch retires an operation at once (R243). -/
def lensDiscard (seq : Nat) (s : State) : State := lensRefresh (bump (rLENS_CNT 3) 1 (dropLensOp seq s))

/-! ### Admission (R232, R237) -/

/-- Does operation `a` go before `b`: higher priority, then older? -/
def lensBefore (a b : LensOp) : Bool := decide (a.d.prio < b.d.prio ∨ (a.d.prio = b.d.prio ∧ a.seq < b.seq))
/-- The first of a list of operations by priority and age. -/
def lensFirst (l : List LensOp) : Option LensOp :=
  l.foldl (fun (b : Option LensOp) o => match b with | none => some o | some x => if lensBefore o x then some o else b) none

/-- LENS_ADMIT (R237, R243): with fewer than 8 resident, the first queued operation that R232 allows takes a resident slot
and begins to load its quantisation state. -/
def execLensAdmit (s : State) : Host.Outcome State Fault Refusal :=
  if !domRun s 1 ∨ 8 ≤ (lensRes s).length then .next s
  else match lensFirst (s.lens.ops.filter (fun o => decide (o.phase = .queued) && lensAllowed s o)),
      (upto 8).find? (fun k => (lensAt s k).isNone) with
    | some o, some k =>
      if !genOk s o.d.slot o.d.gen then .next (lensDiscard o.seq s)
      else .next (lensRefresh (setLensOp { o with slot := some k, phase := .admitting } s))
    | _, _ => .next s

/-- LENS_ADMISSION_LOADED (R237, R255): the quantisation descriptor and tables of slot `slot` have loaded; reason 8 is
applied. -/
def execLensAdmissionLoaded (slot : Fin 8) (s : State) : Host.Outcome State Fault Refusal :=
  match lensAt s slot with
  | none => .next s
  | some o =>
    if o.phase ≠ .admitting ∨ !domRun s 1 then .next s
    else
      let d := o.d
      let r := lensFetch (some d.ref) d.qdesc 128 s
      let q := quantParse r.1.data
      let p : Rd × State := if q.act = 3 ∧ !r.1.err then lensFetch (some d.ref) q.pwl 2064 r.2 else ({}, r.2)
      let s := p.2
      let sub := if r.1.err ∨ r.1.poison ∨ p.1.err ∨ p.1.poison then 1 else quantSub s d r.1.data p.1.data
      if sub ≠ 0 then
        let s := wrF rQOUT_REFUSE 7 4 sub (wrB rQOUT_REFUSE 0 true (wr64 rQOUT_ERR_ADDR_LO d.qdesc (bump (rQOUT_CNT 10) 1 s)))
        .next (lensRefresh (dropLensOp o.seq (lensRefuse o.addr 8 (some d.ref) s)))
      else
        let m : Rd × State := if q.split then lensFetch (some d.ref) q.outMap ((d.nOut + 255) / 256 * 16) s else ({}, s)
        let x : LensOp :=
          { o with qd := r.1.data, pwl := p.1.data, map := m.1.data, mapBad := m.1.err || m.1.poison, phase := .waiting }
        .next (lensRefresh (setLensOp x m.2))

/-! ### Counts (R238) -/

/-- The semaphores whose counts the current step of an operation needs. -/
def lensNeeds (o : LensOp) : List Nat :=
  (o.d.waits.filter (fun w => w.1 && (w.2.1 || decide (o.pt = 0)))).map (fun w => w.2.2)

/-- Does every needed semaphore hold enough counts? Two slots that name one semaphore need a count each. -/
def lensHave (s : State) (o : LensOp) : Bool :=
  let l := lensNeeds o
  l.all (fun n => decide ((l.filter (· = n)).length ≤ (sem s n).count))

/-- Counts are taken for a waiting operation, if all are there. -/
def lensTake (o : LensOp) (s : State) : State :=
  if o.phase = .waiting ∧ lensHave s o then setLensOp { o with phase := .ready } (forAll (lensNeeds o) semTake s) else s

/-- LENS_STEP_COUNTS_TAKEN (R238): of the waiting operations whose counts are all there, the one of highest priority, then
the oldest, takes them. -/
def execLensStepCountsTaken (s : State) : Host.Outcome State Fault Refusal :=
  if !domRun s 1 then .next s
  else match lensFirst (s.lens.ops.filter (fun o => decide (o.phase = .waiting) && lensHave s o)) with
    | some o => .next (lensRefresh (lensTake o s))
    | none => .next s

/-! ### A tile -/

/-- A tile in work: the device, the operation and the output bytes so far. -/
structure LWork where
  s : State
  o : LensOp
  out : LBytes := []

/-- A row of results enters its place in the output, or waits for its pooling window (R220, R234). `vs`: columns and values
(stored integers, or FP32 words). -/
def lensEmit (w : LOut) (nt ri : Nat) (bad : Bool) (vs : List (Nat × Int)) (k : LWork) : LWork :=
  let d := w.d
  let q := w.q
  -- one result at a place of the output: row and column, or raster position
  let store (y x row : Nat) (bad : Bool) (vs : List (Nat × Int)) (k : LWork) : LWork :=
    vs.foldl (fun k v =>
      let c := if q.flt then (lensConvert q.oty (fp32.decode v.2.toNat)).1 else wrapN 16 v.2
      { k with out := if d.layout = 0 then lensPut k.s (d.oBase + v.1 * d.oPlane + y * d.oRow) (x * q.ob2) q.ob2 c bad k.out
          else lensPut k.s (d.oBase + row * d.oRow) (v.1 * q.ob2) q.ob2 c bad k.out }) k
  if d.ptype = 0 then
    if d.isGemm then store ri 0 ri bad vs k else store (ri / d.outW) (ri % d.outW) ri bad vs k
  else
    let key (i : Nat) : Nat := nt * 2 ^ 32 + i
    let k := { k with o := { k.o with pool := tput {} k.o.pool (key ri) { vals := vs.map Prod.snd, bad := bad } } }
    let y := ri / d.outW
    let x := ri % d.outW
    let done := decide (d.poolK ≤ y + 1 ∧ d.poolK ≤ x + 1 ∧ (y + 1 - d.poolK) % d.poolS = 0 ∧ (x + 1 - d.poolK) % d.poolS = 0)
    if !done then k
    else
      let y0 := y + 1 - d.poolK
      let x0 := x + 1 - d.poolK
      let win := (upto d.poolK).flatMap (fun a => (upto d.poolK).map (fun b =>
        tget {} k.o.pool (key ((y0 + a) * d.outW + x0 + b))))
      let nan := fp32.freeNan (Config.freeWord (k.s.free + 2 ^ 19 + ri)).toNat
      let res := (upto vs.length).map (fun i =>
        ((vs.getD i (0, 0)).1, lensPoolVal w nan (win.map (fun c => c.vals.getD i 0))))
      store (y0 / d.poolS) (x0 / d.poolS) (y0 / d.poolS * d.poolW + x0 / d.poolS) (win.any (fun c => c.bad)) res k

/-- Side values of a row and zeros in unused places of its side row (R268). -/
def lensSideOut (w : LOut) (nt ri : Nat) (bad : Bool) (es : List LElem) (k : LWork) : LWork :=
  let q := w.q
  if !q.split then k
  else
    let a := q.sideOut + ri * q.sideOutRow
    let segs := (w.d.nOut + 255) / 256
    let unused := if nt ≠ 0 then [] else (upto (16 * segs)).filter (fun p =>
      let c := leAt p 1 w.map
      decide (c = 255 ∨ w.d.nOut ≤ p / 16 * 256 + c))
    let out := unused.foldl (fun t p => lensPut k.s a (4 * p) 4 0 bad t) k.out
    let out := es.foldl (fun t e => match e.side with
      | some (p, v, _) => lensPut k.s a (4 * p) 4 (wrapN 16 v) bad t
      | none => t) out
    { k with out := out }

/-- A column maximum takes a magnitude (R269). -/
def lensMax (n y : Nat) (t : Tab Nat) : Tab Nat := tput 0 t n (max (tget 0 t n) (satN 32 y))

/-- What a complete row adds to the measures of its operation (R269). -/
def LensRow.addTo (r : LensRow) (flt : Bool) (o : LensOp) : LensOp :=
  { o with high := o.high + r.high, low := o.low + r.low, sideClamp := o.sideClamp + r.side, nans := o.nans + r.nans,
           psumSat := o.psumSat + r.psum, rescued := o.rescued + b2n r.rescued,
           zeroRows := o.zeroRows + b2n (!flt && r.zero && r.some_),
           colMax := r.cols.foldl (fun t c => lensMax c.1 c.2 t) o.colMax }

/-- One row of column sums passes through the output unit (R256 to R272). `ri`: the row among the rows before pooling. Its
measures count once the row is complete and no N-tile has poisoned it (R269). -/
def lensOut (w : LOut) (nt ri rs : Nat) (bad : Bool) (sums : List Int) (k : LWork) : LWork :=
  let d := w.d
  let q := w.q
  let n0 := nt * d.nTile
  let cols := (upto (min d.nOut (n0 + d.nTile) - n0)).map (fun i => (n0 + i, sums.getD i 0))
  let st := tget {} k.o.rowSt ri
  let bad := bad || st.bad || k.o.mapBad || k.o.colBad
  let r : List (Nat × Int) × LensRow × LWork :=
    if q.flt then
      let fs := cols.map (fun c => (c.1, lensFloat w c.1 c.2 (fp32.freeNan (Config.freeWord (k.s.free + c.1)).toNat)))
      let cs := fs.map (fun f => (lensConvert q.oty (fp32.decode f.2.1)).2)
      (fs.map (fun f => (f.1, (f.2.1 : Int))),
        { st with
          zero := false, top := fs.foldl (fun m f => max m f.2.2) st.top, bad := bad,
          high := st.high + (cs.filter (fun c => decide (c.1 = 1))).length,
          low := st.low + (cs.filter (fun c => decide (c.1 = 2))).length,
          nans := st.nans + (cs.filter (fun c => c.2)).length,
          cols := st.cols ++ fs.map (fun f => (f.1, f.2.2)) }, k)
    else
      let r := lensIntRow w rs bad cols
      let named := r.es.filter (fun e => e.side.isNone)
      let cnt (j : Nat) : Nat := (r.first.filter (fun e => decide (e.clamp = j ∧ e.side = none))).length
      let st := { st with
        zero := st.zero && named.all (fun e => decide (e.s6 = q.zp)),
        some_ := st.some_ || cols.any (fun c => decide (c.2 ≠ 0) && (lensSplit w c.1).isNone),
        top := named.foldl (fun m e => max m (satN 32 e.y)) st.top, bad := bad,
        high := st.high + cnt 1, low := st.low + cnt 2, rescued := st.rescued || r.rescued,
        side := st.side + (r.es.filter (fun e => match e.side with | some (_, _, c) => c | none => false)).length,
        cols := st.cols ++ (cols.map Prod.fst).zip (r.first.map (fun e => e.y)) }
      let k := lensSideOut w nt ri bad r.es k
      let k := match r.word with
        | some v => { k with out := (upto 4).foldl (fun t i =>
            lensByte (d.oBase + ri * d.oRow + q.rsOut + i) (BitVec.ofNat 8 (v / 256 ^ i)) bad t) k.out }
        | none => k
      ((cols.map Prod.fst).zip (r.es.map (fun e => e.q)), st, k)
  let k := lensEmit w nt ri bad r.1 r.2.2
  let st := r.2.1
  if nt + 1 < d.nnt then { k with o := { k.o with rowSt := tput {} k.o.rowSt ri st } }
  else
    -- the row is complete
    let o := { k.o with rows := k.o.rows + 1, poisonedRows := k.o.poisonedRows + b2n st.bad, rowSt := tput {} k.o.rowSt ri {} }
    let o := if st.bad then o else st.addTo q.flt o
    let out := if q.rowStat ∧ !st.bad then
        (upto 4).foldl (fun t i => lensByte (q.rowStatAt + ri * 4 + i) (BitVec.ofNat 8 (st.top / 256 ^ i)) false t) k.out
      else k.out
    { k with o := o, out := out, s := bump (rLENS_CNT 16) (b2n st.bad) (bumpW (rQOUT_CNT 0) 1 k.s) }

/-- The row scale word of input row `p` in DYNAMIC mode, and poison (R267); where no row is read it is free (log entry 1). -/
def lensRowScale (s : State) (w : LOut) (p : Nat) : Nat × Bool :=
  if w.q.mode = 0 then (0, false)
  else match (lensIndex s w.d p).src with
    | some row => lensGet s 1 (w.d.inBase + row * w.d.inRow + w.q.rsIn) 4
    | none => ((Config.freeWord (s.free + 2 ^ 18 + p)).toNat % 2 ^ 24, false)

/-- A pixel of a POOL operation as it enters the output path: its channels of the N-tile less IN_ZP, and poison (R234). -/
def lensPixel (s : State) (d : LDesc) (nt y x : Nat) : List Int × Bool :=
  let n0 := nt * 256
  let es := (upto (min d.nOut (n0 + 256) - n0)).map (fun i =>
    if n0 + i < d.inC then lensElem s d (d.inBase + (n0 + i) * d.inPlane + y * d.inRow) x else (d.zp, false))
  (es.map (fun r => if d.fp then (fp32.encode (fp32.freeNan (Config.freeWord s.free).toNat) (lensFp d r.1) : Int) else (r.1 : Int) - d.zp),
    es.any Prod.snd)

/-- The sums of a position join the partition or go to the output unit (R224, R225, R230, R244). PSUM_SAT and POISONED_ROWS of
rows that stay in the partition count as they arise. -/
def lensSums (w : LOut) (nt kt p ri : Nat) (v : List Int) (bad : Bool) (k : LWork) : LWork :=
  let d := w.d
  let drain := !d.reads
  let lastK := decide (kt + 1 = d.nkt)
  let rs := lensRowScale k.s w p
  let rsBad := decide (w.q.mode = 1) && (nbit rs.1 24 || rs.2)
  let toOut (v : List Int) (bad : Bool) (k : LWork) : LWork := lensOut w nt ri rs.1 (bad || rsBad) v k
  let stay (r : Nat) (v : List Int) (bad fresh : Bool) (k : LWork) : LWork :=
    let n := b2n (lastK && !d.final && bad)
    { k with s := bump (rLENS_CNT 16) n (lensPsWrite r v bad fresh k.s), o := { k.o with poisonedRows := k.o.poisonedRows + n } }
  if d.direct then toOut v bad k
  else match lensPart k.s d p with
    | none => k
    | some r =>
      if kt = 0 ∧ !d.accIn then stay r v bad true k
      else
        let old := lensPsRead d r k.s
        let bad' := bad || old.1.2
        let nan := fp32.freeNan (Config.freeWord (old.2.free + 2 ^ 17)).toNat
        let es := if drain then old.1.1.map (fun a => (a, false))
          else (upto v.length).map (fun i => lensAdd d nan (old.1.1.getD i 0) (v.getD i 0))
        let sat := if bad' then 0 else (es.filter Prod.snd).length
        let row := tget {} k.o.rowSt ri
        let o := if d.final then { k.o with rowSt := tput {} k.o.rowSt ri { row with psum := row.psum + sat } }
          else { k.o with psumSat := k.o.psumSat + sat }
        let k := { k with s := old.2, o := o }
        let sum := es.map Prod.fst
        if lastK ∧ d.final then toOut sum bad' k else stay r sum bad' false k

/-- Does a tile of the operation use weights? -/
def LDesc.weighs (d : LDesc) : Bool := d.reads && !d.isPool

/-- The weight tile is loaded, unless it is in the foreground buffer (R216, R244). `errs`: what the protection finds. -/
def lensLoad (o : LensOp) (errs : List (Nat × MemErr)) (s : State) : State :=
  let d := o.d
  let t := lensTileAddr d o.nt o.kt
  let held : Bool := match s.lens.fg with | some b => decide (b.addr = t ∧ d.tileAll ≤ b.len) | none => false
  if !d.weighs ∨ held then s
  else
    let r := portRead 0 t d.tileAll .none (lensErrs [(0, t, d.tileAll)] errs s)
    let hit := r.1.poison && ownsAll s 0 t d.tileAll
    let data := ((upto r.1.data.length).zip r.1.data).filter (fun e => decide (e.2 ≠ 0))
    let s := { r.2 with lens := { r.2.lens with fg := some { addr := t, len := d.tileAll, data := data, bad := r.1.poison } } }
    lensHit o.seq d hit s
where
  /-- A load found weight memory uncorrectable: counted, and E74 once per operation (R244). -/
  lensHit (seq : Nat) (d : LDesc) (hit : Bool) (s : State) : State :=
    if !hit then s
    else
      let s := bump (rLENS_CNT 17) 1 s
      match s.lens.ops.find? (fun o => decide (o.seq = seq)) with
      | some o => if o.e74 then s else setLensOp { o with e74 := true } (raiseJ 74 1 (some d.ref) 0 s)
      | none => s

/-- The entries of the column table for an N-tile load with its first weight tile (R254). -/
def lensLoadCols (o : LensOp) (errs : List (Nat × MemErr)) (s : State) : State :=
  let d := o.d
  let n0 := o.nt * d.nTile
  let a := (quantParse o.qd).coltab + 16 * n0
  let n := 16 * (min d.nOut (n0 + d.nTile) - n0)
  if !d.final ∨ o.kt ≠ 0 ∨ (o.pt ≠ 0 ∧ d.nnt = 1) then s
  else
    let g := lensAgent a
    let s := lensErrs [(g.port, a, n)] errs s
    let hit := decide (regionOf a = .wm) && ownsAll s 0 a n
    let r := devRead g a n s
    let bad := r.1.err || r.1.poison
    let s := match r.2.lens.ops.find? (fun x => decide (x.seq = o.seq)) with
      | some x => setLensOp { x with cols := r.1.data, colBad := bad } r.2
      | none => r.2
    lensLoad.lensHit o.seq d (hit && r.1.poison) s

/-- Positions of the current tile, one after another. -/
def lensPositions (w : LOut) (nt kt : Nat) (wbad : Bool) (ps : List Nat) (k : LWork) : LWork :=
  let d := w.d
  ps.foldl (fun k p =>
    let bad := wbad || k.o.bad
    let x := lensIndex k.s d p
    let out := (x.srcBad || x.dstBad) && decide (nt = 0 ∧ kt = 0)
    let k := if !out then k else
      let s := bump (rLENS_CNT 15) (b2n x.srcBad + b2n x.dstBad) k.s
      let s := if k.o.e73 then s else raiseJ 73 1 (some d.ref) 0 s
      { k with s := s, o := { k.o with e73 := true } }
    if d.isPool then
      (upto d.inW).foldl (fun k xx =>
        let v := lensPixel k.s d nt p xx
        lensSums w nt kt p (p * d.inW + xx) v.1 (bad || v.2) k) k
    else if !d.reads then lensSums w nt kt p p [] bad k
    else
      let v := lensColumns k.s d kt p
      lensSums w nt kt p p v.1 (bad || v.2) k) k

/-- Cycles that a tile streams: its positions at v each, and the extra at each output row segment (R226, R227). -/
def lensCycles (d : LDesc) (kt first n : Nat) : Nat :=
  if d.isConv then
    let ct := min d.inC ((kt + 1) * d.cg) - kt * d.cg
    let cut (c : Nat) : Nat := (ct * d.e2 * d.kh * c + 511) / 512
    let full := (d.kw - 1) * d.dx + 1
    let v := max 1 (cut (min d.sx full))
    let f := max v (cut full)
    let segs := if n = 0 then 0 else (first + n - 1) / d.ow - first / d.ow + 1
    n * v + segs * (f - v)
  else if d.isPool then n * d.inW
  else
    let k := min d.inW ((kt + 1) * d.kArr) - kt * d.kArr
    n * max 1 ((k * d.e2 + 511) / 512)

/-- The counters of the output unit follow what a tile added (R270, R277). -/
def lensCounts (a b : LensOp) (s : State) : State :=
  let s := bump (rQOUT_CNT 1) (b.high - a.high) (bump (rQOUT_CNT 2) (b.low - a.low) s)
  let s := bump (rQOUT_CNT 3) (b.zeroRows - a.zeroRows) (bump (rQOUT_CNT 4) (b.rescued - a.rescued) s)
  let s := bump (rQOUT_CNT 5) (b.psumSat - a.psumSat) (bump (rQOUT_CNT 6) (b.sideClamp - a.sideClamp) s)
  bump (rQOUT_CNT 7) (b.nans - a.nans) s

/-- Free values that a tile may have used. -/
def lensFree (s : State) : State := { s with free := s.free + 2 ^ 36 }

/-- Every row of an operation's partition is flagged (R244). -/
def lensFlagAll (d : LDesc) (s : State) : State :=
  forAll (upto d.psR) (fun r s => if ownsAll s 4 (lensPsRow (d.psB + r)) 4 then setPoison (lensPsRow (d.psB + r)) true s else s) s

/-- The tile of an operation that streams comes to its end (R224): what it read, what it wrote and what it counted take effect.
`errs`: what the protection finds in its reads. -/
def lensTile (o : LensOp) (errs : List (Nat × MemErr)) (s : State) : State :=
  let d := o.d
  let w : LOut := { d := d, q := quantParse o.qd, pwl := o.pwl, map := o.map, cols := o.cols, n0 := o.nt * d.nTile }
  let first := decide (o.pt = 0 ∧ o.nt = 0 ∧ o.kt = 0)
  let p0 := o.pt * d.tilePos
  let n := min d.positions (p0 + d.tilePos) - p0
  let ps := (upto n).map (fun i => p0 + i)
  let rs := ps.flatMap (fun p => lensReads s d (if w.q.mode = 1 then some w.q.rsIn else none) o.nt o.kt p)
  let s := lensOwners rs (lensErrs (rs ++ ps.flatMap (lensPartReads s d o.kt)) errs s)
  let o0 := { o with bad := o.bad || (first && lensIndexBad s d) }
  let wbad := d.weighs && (match s.lens.fg with | some b => b.bad | none => false)
  let k := lensPositions w o.nt o.kt wbad ps { s := s, o := o0 }
  let s := lensStore k.out k.s
  let s := onlyIf (first && k.o.bad) (lensFlagAll d) s
  let s := lensFree (lensCounts o k.o s)
  let s := bumpW (rLENS_CNT 6) (lensCycles d o.kt p0 n) (bumpW (rLENS_CNT 5) 1 s)
  -- the place of the next tile
  let kt := if o.kt + 1 < d.nkt then o.kt + 1 else 0
  let nt := if kt ≠ 0 then o.nt else if o.nt + 1 < d.nnt then o.nt + 1 else 0
  let step := decide (kt = 0 ∧ nt = 0)
  let pt := if step then o.pt + 1 else o.pt
  let last := step && decide (d.npt ≤ pt)
  let s := onlyIf (step && d.sig && d.sigStep && !last) (semRelease d.signal 1) s
  let ph : LensPhase := if last then .retiring else if step then .waiting else .running
  setLensOp { k.o with kt := kt, nt := nt, pt := pt, tiles := o.tiles + 1, phase := ph } s

/-- After the end of a step: the counts of waiting operations are taken in order of priority and age, down to the one that
ran (R238); if it got its counts it goes on running (R239). -/
def lensStepEnd (seq : Nat) (s : State) : State :=
  match s.lens.ops.find? (fun o => decide (o.seq = seq)) with
  | none => s
  | some o =>
    if o.phase ≠ .waiting then s
    else
      let ahead := (upto 32).foldl (fun (a : State) _ =>
        match lensFirst (a.lens.ops.filter (fun x => decide (x.phase = .waiting) && lensHave a x && lensBefore x o)) with
        | some x => lensTake x a
        | none => a) s
      if lensHave ahead o then setLensOp { o with phase := .running } (forAll (lensNeeds o) semTake ahead) else ahead

/-- The operation that the next tile belongs to (R239), and whether taking it is a switch. -/
def lensChoose (s : State) : Option (LensOp × Bool) :=
  let ready := lensFirst (s.lens.ops.filter (fun o => decide (o.phase = .ready)))
  match lensCurrent s, ready with
  | some c, some r => if r.d.prio < c.d.prio then some (r, true) else some (c, false)
  | some c, none => some (c, false)
  | none, some r => some (r, true)
  | none, none => none

/-- The tile that streams ends; a generation mismatch before its output writes discards the operation instead (R243). -/
def lensFinish (errs : List (Nat × MemErr)) (s : State) : State :=
  match s.lens.tile with
  | none => s
  | some seq =>
    let s := { s with lens := { s.lens with tile := none } }
    match s.lens.ops.find? (fun o => decide (o.seq = seq)) with
    | none => s
    | some o => if !genOk s o.d.slot o.d.gen then lensDiscard seq s else lensStepEnd seq (lensTile o errs s)

/-- The next tile of an operation begins to stream: its weights and table entries load (R216, R254). -/
def lensStart (o : LensOp) (errs : List (Nat × MemErr)) (s : State) : State :=
  let s := lensLoadCols o errs (lensLoad o errs (setLensOp { o with phase := .running } s))
  { s with lens := { s.lens with tile := some o.seq } }

/-- Cycles since the last boundary are charged: stalls for operands, for the output and for weights, and the idle cycles under
each cause that has applied since then, in turn (R239, R246). -/
def lensCharge (feed out wload : BitVec 32) (idle : List (BitVec 32)) (s : State) : State :=
  let s := bumpW (rLENS_CNT 9) wload.toNat (bumpW (rLENS_CNT 8) out.toNat (bumpW (rLENS_CNT 7) feed.toNat s))
  let s := forAll (s.lens.causes.zip idle) (fun c s => bumpW (rLENS_CNT (11 + c.1.val)) c.2.toNat s) s
  { s with lens := { s.lens with causes := [lensIdle s] } }

/-- What a boundary does once the tile before it has ended (R239, R240, R243, R245): stop, go on, switch or idle. -/
def lensNext (errs : List (Nat × MemErr)) (s : State) : State :=
  if rdB s rLENS_CTRL 0 then wrB rLENS_STATUS 1 true (lensRefresh s)
  else match lensChoose s with
    | none => lensRefresh s
    | some (o, sw) =>
      let s := if sw then
          let s := bumpW (rLENS_CNT 10) 72 (bump (rLENS_CNT 4) 1 s)
          match lensCurrent s with | some c => setLensOp { c with phase := .ready } s | none => s
        else s
      if !genOk s o.d.slot o.d.gen then lensDiscard o.seq s
      else lensRefresh (lensStart o errs s)

/-- D1 is reset: the queue is lost, and each operation in it is a fault of its job (R243). -/
def lensReset (s : State) : State := { s with lens := {} }

/-- D1 is fenced: queued and resident operations are lost (R243), and the tile that streams ends within the drain (R494, R496;
log entry 41). -/
def lensFenced (s : State) : State :=
  { s with lens := match s.lens.tile with
      | none => {}
      | some q => { ops := s.lens.ops.filter (fun o => decide (o.seq = q)), fg := s.lens.fg, tile := some q } }

/-- Does the tile that streamed when D1 was fenced still have to end (R494, step 2)? The Lens's clock must run (R19). -/
def lensDrains (s : State) : Bool :=
  decide (tget .none s.fault.fence 1 = .draining) && s.lens.tile.isSome && !d0InReset s &&
    !(decide (s.power.state = .nap) && nbit (rdF s rPWR_PLAN 3 0) 0)

/-- LENS_TILE_BOUNDARY (R239, R240, R243, R494): the tile that streams ends; the Lens goes on with the running operation, switches,
idles or stops, and one that drains stops with its last tile. `errs`: what the protection finds, by address, in what the ended tile read and the new one loads. -/
def execLensTileBoundary (errs : List (BitVec 48 × MemErr)) (feed out wload : BitVec 32) (idle : List (BitVec 32)) (s : State) :
    Host.Outcome State Fault Refusal :=
  let es := errs.map (fun e => (e.1.toNat, e.2))
  if lensDrains s then .next (lensReset (lensFinish es s))
  else if !domRun s 1 then .next s
  else
    .next (lensNext es (lensFinish es (lensCharge feed out wload idle s)))

/-! ### Retirement (R269 to R271) -/

/-- The statistics record (R270). -/
def lensRecord (o : LensOp) (q : QDesc) (outs : Nat) (sat zero : Bool) (s : State) : List Byte :=
  let d := o.d
  let w (n : Nat) : List Byte := leBytes 4 (satN 32 n)
  leBytes 4 d.jobId ++ leBytes 1 d.slot ++ leBytes 1 d.gen
    ++ leBytes 2 (b2n (decide (0 < o.poisonedRows)) + 2 * b2n q.flt + 4 * b2n sat + 8 * b2n zero)
    ++ w o.rows ++ w d.nOut ++ leBytes 8 outs
    ++ w o.high ++ w o.low ++ w o.zeroRows ++ w o.rescued ++ w o.psumSat ++ w o.sideClamp ++ w o.poisonedRows ++ w o.nans
    ++ leBytes 8 (dtime s) ++ (upto d.nOut).flatMap (fun n => leBytes 4 (tget 0 o.colMax n))

/-- LENS_RETIRE (R236, R270, R271): the writes of the operation in slot `slot` are visible; statistics, events, signal. -/
def execLensRetire (slot : Fin 8) (s : State) : Host.Outcome State Fault Refusal :=
  match lensAt s slot with
  | none => .next s
  | some o =>
    if o.phase ≠ .retiring ∨ !domRun s 1 then .next s
    else
      let d := o.d
      let w : LOut := { d := d, q := quantParse o.qd, pwl := o.pwl, map := o.map, cols := [], n0 := 0 }
      let q := w.q
      let cols := ((upto d.nOut).filter (fun n => (lensSplit w n).isNone)).length
      let outs := o.rows * cols
      let sat := d.final && decide (q.satShift ≠ 0 ∧ outs < (o.high + o.low) * 2 ^ q.satShift)
      let zero := d.final && decide (q.zeroShift ≠ 0 ∧ o.rows < o.zeroRows * 2 ^ q.zeroShift)
      let s := if q.stat ∧ d.final then
          bump (rQOUT_CNT 11) 1 (devPut { port := 3, cls := 1, who := none } q.statAt (lensRecord o q outs sat zero s) false s)
        else s
      let ev (on : Bool) (num cnt : Nat) (s : State) : State :=
        if on then
          onlyIf q.notifyEn (assertSrc q.notify 9) (raiseJ num 1 (some d.ref) o.addr (bump (rQOUT_CNT cnt) 1 s))
        else s
      let s := ev zero 77 9 (ev sat 76 8 s)
      let s := onlyIf d.sig (semRelease d.signal 1) s
      .next (lensRefresh (bump (rLENS_CNT 1) 1 (dropLensOp o.seq s)))

/-! ### HALT (R245) -/

/-- The effect of a write of LENS_CTRL: with no tile in progress HALT stops the Lens at once; clearing it resumes. -/
def lensCtrlEffect (i : Iface) (v : Word) (s : State) : State × Bool :=
  let r := plainEffect i rLENS_CTRL v .none s
  (if bit v 0 then (if rdB r.1 rLENS_STATUS 2 then r.1 else wrB rLENS_STATUS 1 true r.1) else wrB rLENS_STATUS 1 false r.1, r.2)

/-- LENS_HALT (R245). -/
def execLensHalt (ifc : Iface) (s : State) : Host.Outcome State Fault Refusal :=
  .next (gatedWrite ifc rLENS_CTRL 1 (lensCtrlEffect ifc 1) s)
/-- LENS_RESUME (R245). -/
def execLensResume (ifc : Iface) (s : State) : Host.Outcome State Fault Refusal :=
  .next (gatedWrite ifc rLENS_CTRL 0 (lensCtrlEffect ifc 0) s)

/-! ### Resets of D1 (R203's twin: R243, R276) -/

/-- D1 leaves reset: the staging area takes the tables region of the Persistent Record (R276). -/
def lensStaging (s : State) : State :=
  let q := padTo 32768 s.prec.qtab
  let ok := decide (leAt 0 4 q = 0x42415451)
  let s := wrB rQOUT_STATUS 0 ok s
  forAll (upto 8192) (fun i s => wrn (rQOUT_STAGE i) (if ok then leAt (4 * i) 4 q else 0) s) s

end Sys2Proof.Machine
end

