-- ==== Sys2Proof/Machine/Keeper.lean ====
section
/-! DEFINITION. The Keeper domain (chapter 4): encoder counters, light curtains, parcel windows, job slots at a window's
opening (R21), camera triggers, the Keeper event ring, and wake requests (R92). -/

namespace Sys2Proof.Machine

open Sys2Proof

/-! ### Wake requests (R92, R18, R512, R513) -/

/-- The fast domains are in RUN: no entry, no wake and no exit is in progress, and no domain failed its retention check
(R16, R93). IDLE runs the clocks too. -/
def fastRun (s : State) : Bool :=
  decide (s.power.state = .run) && decide (s.power.step = .none) && decide (s.power.failed = 0)

/-- The power step becomes `sp`. -/
def setStep (sp : PowerStep) (s : State) : State := { s with power := { s.power with step := sp } }

/-- A wake request of any source: counted in WAKES; it aborts a NAP entry (NAP_ABORTS), stops a DEEP entry before step 4,
and from NAP or DEEP starts the way back to RUN (R92, R18, R512, R513). It clears DEEP_REQ (R529), and from IDLE the fast
domains return to RUN, from where the idle hold counts anew (R20, R510). -/
def wakeRequest (s : State) : State :=
  let s := wrB rPWR_CTRL 0 false (bump (rPWR_CNT 1) 1 s)
  match s.power.step with
  | .napEntry | .deepNap => bump (rPWR_CNT 2) 1 (setStep .waking s)
  | .deepStop => setStep .waking (wrn rPWR_PLL (rdn s rPWR_PLL ||| 0b001101) s)
  | .waking | .deepExit => s
  | .none =>
    match s.power.state with
    | .run => { s with power := { s.power with idleFrom := s.clock.aon } }
    | .nap => setStep .waking s
    | .deep => setStep .deepExit s

/-- May the device enter DEEP: DEEP_EN, and no window, segment or job open; HOLD keeps the fast domains in RUN (R512, R93)? -/
def deepOk (s : State) : Bool := rdB s rPWR_PLAN 4 && !fastBusy s

/-- DEEP entry begins: step 1 is NAP entry, and from NAP it is done (R512). -/
def startDeep (s : State) : State :=
  match s.power.step, s.power.state with
  | .none, .run => setStep .deepNap s
  | .napEntry, .run => setStep .deepNap s
  | .none, .nap => onlyIf (decide (ddrState s = 2 ∨ ddrState s = 5)) (wrF rDDR_STATUS 2 0 4)
      (setStep .deepStop (wrn rPWR_PLL (rdn s rPWR_PLL &&& 0b110010) s))
  | _, _ => s

/-- A DEEP_REQ that waits takes effect once nothing holds DEEP off (R512). -/
def deepPoll (s : State) : State := if rdB s rPWR_CTRL 0 ∧ deepOk s then startDeep s else s

/-- The idle hold and the DEEP hold count anew, because one of the conditions of R20 and R512 may just have become true; a
DEEP_REQ that waits is looked at again. -/
def restartIdle (s : State) : State :=
  deepPoll { s with power := { s.power with idleFrom := s.clock.aon, deepFrom := s.clock.aon } }

/-! ### Accessors -/

/-- Window unit `w`. -/
def win (s : State) (w : Nat) : Win := tget {} s.keeper.wins w
def setWin (w : Nat) (x : Win) (s : State) : State := { s with keeper := { s.keeper with wins := tput {} s.keeper.wins w x } }
def setWinState (w v : Nat) (s : State) : State := wrF (rWIN_STATE w) 1 0 v s
def setTrig (t : Nat) (x : Trig) (s : State) : State := { s with keeper := { s.keeper with trigs := tput {} s.keeper.trigs t x } }
/-- Position of encoder `n`. -/
def encPos (s : State) (n : Nat) : Nat := rdn s (rENC_POS n)
/-- Curtain `n` is blocked in its filtered state. -/
def blocked (s : State) (n : Nat) : Bool := rdB s rCURT_STATE n
/-! ### The Keeper event ring (R88) -/

/-- A 32-byte Keeper record; it asserts source 8 of the Lantern that LCL_ROUTE0 names. -/
def kprRecord (type unit trigNo curtNo flags jobId pos aon : Nat) (s : State) : State :=
  let q := rdn s rKPR_EVT_NEXT
  let s := wrWords (rKPR_EVT_WORD ((q % 256) * 8))
    [q, type + (unit % 4 + (trigNo % 8) * 4 + (curtNo % 8) * 32) * 0x100 + flags * 0x10000, jobId, pos,
      aon % 2 ^ 32, aon / 2 ^ 32, 0, 0] s
  assertRouted rLCL_ROUTE0 0 8 (wrn rKPR_EVT_NEXT (q + 1) s)

/-! ### Job slots (R21) -/

/-- The slot a new job takes: among the free ones the one freed longest ago, the lowest number first (R21). -/
def pickSlot (s : State) : Option Nat :=
  (upto 16).foldl (fun best k =>
    match (job s k).state with
    | .free => (match best with
        | none => some k
        | some b => if (job s k).freedOrd < (job s b).freedOrd then some k else best)
    | _ => best) none

/-- The job's slot is freed; it becomes available 20 ms later (R21, R24 step 7). -/
def freeSlot (k : Nat) (s : State) : State :=
  let j := job s k
  let n := s.keeper.freeSeq + 1
  restartIdle (setJob k { j with state := .cooling, freedOrd := n, freedAt := s.clock.aon, reached := false }
    { s with keeper := { s.keeper with freeSeq := n } })

/-- The reference of a slot's job. -/
def jobRef (s : State) (k : Nat) : JobRef := { slot := k, gen := (job s k).gen, jobId := (job s k).jobId }

/-! ### Camera triggers (R89 to R91) -/

/-- The open job of a job ID, if there is one. -/
def jobOfId (s : State) (jobId : Nat) : Option JobRef :=
  ((upto 16).find? (fun k => jobOpen s k && decide ((job s k).jobId = jobId))).map (jobRef s)

/-- E19 has been raised for a window: every generator that follows it learns so (R91). -/
def markE19 (jobId : Nat) (s : State) : State :=
  forAll (upto 8) (fun t s =>
    let x := trig s t
    setTrig t { x with
      pends := x.pends.map (fun p => if p.jobId = jobId then { p with e19 := true } else p)
      seg := x.seg.map (fun g => if g.jobId = jobId then { g with e19 := true } else g) } s) s

/-- TRIG_DROPPED of the window and of the segment, the counter, and E19 once per window (R91): the trigger dropped is the one
that fell due after the held one. -/
def dropTrigger (t : Nat) (g : Seg) (s : State) : State :=
  let s := bump (rTRIG_DROPPED t) 1 s
  let s := setTrig t { trig s t with seg := some { g with dues := g.dues.take 1 ++ g.dues.drop 2, dropped := true } } s
  let w := win s g.win
  let s := onlyIf (winOpen s g.win && decide (w.jobId = g.jobId)) (setWin g.win { w with trigDropped := true }) s
  if g.e19 then s else markE19 g.jobId (raiseJ 19 7 (jobOfId s g.jobId) 0 s)

/-- A pulse issues: WIDTH not below MINPER acts as MINPER − 1 (R91). -/
def pulse (t : Nat) (g : Seg) (s : State) : State :=
  let x := trig s t
  let width := if g.minper ≤ g.width then g.minper - 1 else g.width
  let g := { g with dues := g.dues.drop 1, lastPos := encPos s g.enc, lastAt := s.clock.aon, issued := g.issued + 1 }
  setTrig t { x with seg := some g, held := false, last := s.clock.aon + 1, pulseUntil := s.clock.aon + width,
                     pulseLow := g.activeLow, pulses := x.pulses + 1 } s

/-- The window of a job ID is open in some unit. -/
def winOfOpen (s : State) (jobId : Nat) : Bool := (upto 4).any (fun w => winOpen s w && decide ((win s w).jobId = jobId))

/-- Some camera of the window of a job ID has its segment open or still to come (R23, R89). -/
def camerasOpen (s : State) (jobId : Nat) : Bool :=
  (upto 8).any (fun t => (trig s t).pends.any (fun p => decide (p.jobId = jobId)) ||
    (match (trig s t).seg with | some g => decide (g.jobId = jobId) | none => false))

/-- CAPTURING ends, and PROCESSING begins, for every job whose window is closed for every camera (R23). -/
def captureEnd (s : State) : State :=
  forAll (upto 16) (fun k s =>
    let j := job s k
    if j.state = .capturing ∧ !winOfOpen s j.jobId ∧ !camerasOpen s j.jobId then setJob k { j with state := .processing } s
    else s) s

/-- The segment closes: CAMERA_STOP carries its last trigger (R88, R89). -/
def cutSeg (t : Nat) (s : State) : State :=
  match (trig s t).seg with
  | none => s
  | some g =>
    let s := kprRecord 8 g.win t g.curt (2 * b2n g.encErr + 4 * b2n g.dropped) g.jobId g.lastPos g.lastAt s
    captureEnd (setTrig t { trig s t with seg := none, held := false, fin := some (g.win, g.jobId, g.issued) } s)
/-- The segment closes and no other one follows at once. -/
def stopSeg (t : Nat) (s : State) : State :=
  if (trig s t).seg.isSome then restartIdle (cutSeg t s) else s

/-- Closes a segment whose stop position is passed, once nothing due is left. -/
def finishStop (t : Nat) (s : State) : State :=
  match (trig s t).seg with
  | none => s
  | some g => if g.stopping ∧ g.dues = [] ∧ !(trig s t).held then stopSeg t s else s

/-- A position lies beyond p_trail + STOP (R89). -/
def beyondStop (trail : Option Nat) (stop pos : Nat) : Bool :=
  match trail with
  | none => false
  | some p => serialGe pos ((p + stop + 1) % 2 ^ 32)

/-- The job of a window, if it is open still, has a front-truncated camera (R16, R464). -/
def truncJob (jobId : Nat) (s : State) : State :=
  forAll (upto 16) (fun k s =>
    if jobOpen s k ∧ (job s k).jobId = jobId then setJob k { job s k with frontTrunc := true } s else s) s

/-- The first trigger of a window opens the segment: CAMERA_START, the context's frame number, the first pulse (R89). -/
def beginSeg (t : Nat) (p : TrigPend) (trunc : Bool) (s : State) : State :=
  let s := setTrig t { trig s t with pends := (trig s t).pends.filter (fun q => decide (q ≠ p)) } s
  let cfg := rd s (rTRIG_CFG t)
  let pos := encPos s p.enc
  if beyondStop p.trail (rdn s (rTRIG_STOP t)) pos then captureEnd s
  else
    let s := cutSeg t s
    let width := fld cfg 31 16
    let ctx := fld cfg 8 5
    let g : Seg := { win := p.win, jobId := p.jobId, enc := p.enc, curt := p.curt, trail := p.trail, e19 := p.e19,
                     div := if rdn s (rTRIG_DIV t) < 0x10000 then 0x10000 else rdn s (rTRIG_DIV t),
                     stop := rdn s (rTRIG_STOP t), minper := rdn s (rTRIG_MINPER t),
                     width := if width = 0 then 1 else width, interp := bit cfg 4, activeLow := bit cfg 3, ctx := ctx, trunc := trunc,
                     hi := pos, dues := [s.clock.aon], lastPos := pos, lastAt := s.clock.aon }
    let s := { s with frames := tput 0 s.frames ctx ((tget 0 s.frames ctx + 1) % 2 ^ 32) }
    let s := kprRecord 7 p.win t p.curt (b2n trunc) p.jobId pos s.clock.aon s
    let s := onlyIf trunc (truncJob p.jobId) s
    let x := trig s t
    if x.last ≠ 0 ∧ s.clock.aon + 1 < x.last + g.minper then setTrig t { x with seg := some g, held := true } s
    else pulse t g s

/-- The fast domains have reached RUN: every camera whose start was held begins front-truncated, with E17 (R16). Of a camera
whose window has closed, and whose stop position is passed, before RUN the rule says neither whether its first trigger issues nor
whether E17 is raised: the model's choice is that no trigger issues and no segment opens, as R89 has it for a stop passed before
the start, and that E17 is raised, since the wake was late for the window (log entry 85). -/
def releaseHeld (s : State) : State :=
  if fastRun s then
    forAll (upto 8) (fun t s => forAll (trig s t).pends (fun p s =>
      if p.heldRun then raiseJ 17 7 (jobOfId s p.jobId) 0 (beginSeg t p true s) else s) s) s
  else s

/-- Start and stop conditions of generator `t` against encoder `n`'s position. -/
def checkTrig (n t : Nat) (s : State) : State :=
  let s := match (trig s t).seg with
    | some g =>
      if g.enc = n ∧ beyondStop g.trail g.stop (encPos s n) then
        finishStop t (setTrig t { trig s t with seg := some { g with stopping := true } } s)
      else s
    | none => s
  forAll (trig s t).pends (fun p s =>
    if p.enc = n ∧ serialGe (encPos s n) p.startAt ∧ !p.heldRun then
      if fastRun s then beginSeg t p false s
      else if beyondStop p.trail (rdn s (rTRIG_STOP t)) (encPos s n) then
        captureEnd (setTrig t { trig s t with pends := (trig s t).pends.filter (fun q => decide (q ≠ p)) } s)
      else
        setTrig t { trig s t with pends := (trig s t).pends.map (fun q => if q = p then { p with heldRun := true } else q) } s
    else s) s

/-- One count of motion beyond the highest position: the accumulator adds 65,536 and a trigger falls due at DIV, or with
INTERP is placed at the accumulator's fraction of the previous interval (R89, R90): it issues no sooner than that moment. -/
def accumulate (n t : Nat) (s : State) : State :=
  match (trig s t).seg with
  | none => s
  | some g =>
    if g.enc = n ∧ !g.stopping ∧ serialGe (encPos s n) ((g.hi + 1) % 2 ^ 32) then
      let acc := g.acc + 65536
      let iv := (tget {} s.keeper.encs n).interval
      let g := { g with hi := (g.hi + 1) % 2 ^ 32, acc := acc }
      let g :=
        if (g.div : Int) ≤ acc then { g with acc := acc - g.div, dues := g.dues ++ [s.clock.aon] }
        else if g.interp ∧ (g.div : Int) - acc < 65536 ∧ iv ≠ 0 then
          { g with acc := acc - g.div
                   dues := g.dues ++ [s.clock.aon + (((g.div : Int) - acc).toNat * iv + 32768) / 65536] }
        else g
      setTrig t { trig s t with seg := some g } s
    else s

/-- A count of encoder `n`: its interval is measured, and every generator that follows it accumulates (R89, R90). -/
def countMotion (n : Nat) (s : State) : State :=
  let e := tget ({} : Enc) s.keeper.encs n
  let e' : Enc := { lastAt := s.clock.aon, interval := s.clock.aon - e.lastAt }
  forAll (upto 8) (accumulate n) { s with keeper := { s.keeper with encs := tput {} s.keeper.encs n e' } }

/-! ### Parcel windows (R84 to R87) -/

/-- Generators that follow the window: at a CLOSE they learn p_trail, at any other close they stop (R89). -/
def closeTrigs (w jobId : Nat) (forced : Bool) (trail : Nat) (s : State) : State :=
  forAll (upto 8) (fun t s =>
    let mine (p : TrigPend) : Bool := decide (p.win = w ∧ p.jobId = jobId)
    if forced then
      let s := captureEnd (setTrig t { trig s t with pends := (trig s t).pends.filter (fun p => !mine p) } s)
      match (trig s t).seg with
      | some g => if g.win = w ∧ g.jobId = jobId then stopSeg t s else s
      | none => s
    else
      let x := trig s t
      let s := setTrig t { x with
        pends := x.pends.map (fun p => if mine p then { p with trail := some trail } else p),
        seg := x.seg.map (fun g => if g.win = w ∧ g.jobId = jobId then { g with trail := some trail } else g) } s
      checkTrig (win s w).enc t s) s

/-- The window of unit `w` closes: record of the given type, the job's trailing edge, the followers (R84, R85, R88). -/
def closeWin (w type : Nat) (s : State) : State :=
  let x := win s w
  let inGap := decide (winState s w = 2)
  let pos := if inGap then x.pTrail else encPos s x.enc
  let at_ := if inGap then x.trailAt else s.clock.aon
  let dropped := x.trigDropped
  let s := kprRecord type w 0 x.curt (2 * b2n x.encErr + 4 * b2n dropped) x.jobId pos at_ s
  let s := match x.slot with
    | none => s
    | some k =>
      let j := job s k
      if j.jobId = x.jobId then setJob k { j with trailing := at_, posTrail := pos } s else s
  let s := setWinState w (if type = 5 then 3 else 0) s
  let clear := if inGap then x.pTrail else encPos s x.enc
  let s := setWin w { x with clearAt := if blocked s x.curt then none else some clear } s
  let s := onlyIf (decide (type = 5)) (raiseJ 20 7 (jobOfId s x.jobId) 0) s
  restartIdle (captureEnd (closeTrigs w x.jobId (decide (type ≠ 2)) pos s))

/-- A window opens at the encoder's position: job ID, slot, records, generators, wake request (R21, R84, R89, R92). -/
def openWin (w n : Nat) (s : State) : State :=
  let cfg := rd s (rWIN_CFG w)
  let e := fld cfg 5 4
  let pos := encPos s e
  let id := s.keeper.nextJobId
  let s := { s with keeper := { s.keeper with nextJobId := if id + 1 = 2 ^ 32 then 1 else id + 1 } }
  let slot := pickSlot s
  let s := match slot with
    | none => s
    | some k => genAdvance k (setJob k { job s k with
        state := .capturing, jobId := id, restarted := false, merged := false, reached := false, noRead := false,
        viewDropped := false, unit := w, frontTrunc := false, posLead := pos, aonLead := s.clock.aon, trailing := 0, posTrail := 0 } s)
  let s := setWinState w 1 (setWin w {
    jobId := id, slot := slot, curt := n, enc := e, minGap := rdn s (rWIN_MIN_GAP w),
    maxLen := rdn s (rWIN_MAX_LEN w), gapTimeout := fld cfg 31 16, pLead := pos } s)
  let s := kprRecord 1 w 0 n 0 id pos s.clock.aon s
  let s := onlyIf slot.isNone (fun s => kprRecord 6 w 0 n 0 id pos s.clock.aon (raiseE 98 7 s)) s
  let s := forAll (upto 8) (fun t s =>
    let c := rd s (rTRIG_CFG t)
    if bit c 0 ∧ fld c 2 1 = w then
      setTrig t { trig s t with pends := (trig s t).pends ++
        [{ win := w, jobId := id, enc := e, curt := n, startAt := (pos + rdn s (rTRIG_START t)) % 2 ^ 32 }] } s
    else s) s
  let s := wakeRequest s
  forAll (upto 8) (checkTrig e) s

/-- MISSED_EDGE: counted in QUIESCE_MISSED and recorded with JOB_ID 0 (R53, R87, R88). QUIESCE_MISSED counts edges "latched while
QUIESCED, QUIESCED_FORCED or APPLYING" (R59); R54 does not say what becomes of an edge while quiesce is being forced and STATE is
still PENDING: the model's choice is a record without a count (log entry 85). -/
def missedEdge (w n : Nat) (s : State) : State :=
  kprRecord 9 w 0 n 0 0 (encPos s (rdF s (rWIN_CFG w) 5 4)) s.clock.aon (onlyIf (isQuiesced s) (bump rQUIESCE_MISSED 1) s)

/-- The lockout of unit `w` ends once its curtain has been clear for MIN_GAP counts (R85). -/
def endLockout (w : Nat) (s : State) : State :=
  let x := win s w
  match x.clearAt with
  | some p =>
    if winState s w = 3 ∧ !blocked s x.curt ∧ serialGe (encPos s x.enc) ((p + x.minGap) % 2 ^ 32) then setWinState w 0 s else s
  | none => s

/-- The window rules that depend on the position of encoder `n` (R84, R85). -/
def checkWin (n w : Nat) (s : State) : State :=
  let x := win s w
  let st := winState s w
  if x.enc ≠ n then s
  else if st = 1 ∨ st = 2 then
    if x.maxLen < (encPos s n + 2 ^ 32 - x.pLead) % 2 ^ 32 then endLockout w (closeWin w 5 s)
    else if st = 2 ∧ !blocked s x.curt ∧ serialGe (encPos s n) ((x.pTrail + x.minGap) % 2 ^ 32) then closeWin w 2 s
    else s
  else endLockout w s

/-- Everything that encoder `n`'s position decides, after it changed. -/
def afterPos (n : Nat) (s : State) : State :=
  forAll (upto 8) (checkTrig n) (forAll (upto 4) (checkWin n) s)

/-- A Keeper runs a loaded program: without one there are no parcel windows and no triggers (R38). -/
def kprLoaded (s : State) : Bool := s.keeper.core0.loaded || s.keeper.core1.loaded

/-- A blocking edge reaches window unit `w` from curtain `n`. -/
def winBlock (n w : Nat) (s : State) : State :=
  let x := win s w
  let cfg := rd s (rWIN_CFG w)
  match winState s w with
  | 0 =>
    if bit cfg 0 ∧ fld cfg 3 1 = n then
      if isQuiesced s ∨ s.boot.forcing then missedEdge w n s
      else if deviceOos s || !kprLoaded s then s
      else openWin w n s
    else s
  | 2 =>
    if x.curt = n then
      let s := match x.slot with
        | some k => if (job s k).jobId = x.jobId then setJob k { job s k with merged := true } s else s
        | none => s
      kprRecord 3 w 0 n 0 x.jobId (encPos s x.enc) s.clock.aon (setWinState w 1 s)
    else s
  | 3 => if x.curt = n then setWin w { x with clearAt := none } s else s
  | _ => s

/-- A clearing edge reaches window unit `w` from curtain `n`: the gap starts, and ends at once where MIN_GAP is 0 (R84, R85). -/
def winClear (n w : Nat) (s : State) : State :=
  let x := win s w
  if x.curt ≠ n then s
  else match winState s w with
    | 1 => checkWin x.enc w (setWinState w 2 (setWin w { x with pTrail := encPos s x.enc, trailAt := s.clock.aon } s))
    | 3 => endLockout w (setWin w { x with clearAt := some (encPos s x.enc) } s)
    | _ => s

/-! ### Meanings -/

/-- ENCODER_STATE_CHANGE (R82): POS moves by one, or a quadrature error is counted with E18 at most once per second. -/
def execEncoderStateChange (n : Fin 4) (ch : QuadChange) (s : State) : Host.Outcome State Fault Refusal :=
  if !rdB s (rENC_CFG n) 0 then .next s
  else match ch with
    | .both =>
      let s := bump (rENC_ERRCNT n) 1 s
      let s := forAll (upto 4) (fun w s =>
        if winOpen s w ∧ (win s w).enc = n then setWin w { win s w with encErr := true } s else s) s
      let s := forAll (upto 8) (fun t s => match (trig s t).seg with
        | some g => if g.enc = n then setTrig t { trig s t with seg := some { g with encErr := true } } s else s
        | none => s) s
      .next (limited (1800 + n) aonS (raiseE 18 7) s)
    | _ =>
      let fwd := decide (ch = .aLeadsB) != rdB s (rENC_CFG n) 1
      let p := if fwd then encPos s n + 1 else encPos s n + 2 ^ 32 - 1
      .next (countMotion n (afterPos n (wrn (rENC_POS n) p s)))

/-- The effect of a write to ENCn_POS (R89): a load that is not motion, by whose difference the highest-position marks shift;
counts of the same cycle are motion beyond it (R68). -/
def encPosEffect (i : Iface) (n : Nat) (v : Word) (co : Coincident) (s : State) : State × Bool :=
  let old := encPos s n
  let r := plainEffect i (rENC_POS n) v co s
  let s := r.1
  let d := (v.toNat + 2 ^ 32 - old) % 2 ^ 32
  let s := forAll (upto 8) (fun t s => match (trig s t).seg with
    | some g => if g.enc = n then setTrig t { trig s t with seg := some { g with hi := (g.hi + d) % 2 ^ 32 } } s else s
    | none => s) s
  (forAll (upto (coCounts co)) (fun _ s => countMotion n s) (afterPos n s), r.2)

/-- ENC_POS_WRITE (R89, R492). -/
def execEncPosWrite (ifc : Iface) (n : Fin 4) (v : Word) (co : Coincident) (s : State) : Host.Outcome State Fault Refusal :=
  .next (gatedWrite ifc (rENC_POS n) v (encPosEffect ifc n v co) (internalErr co s))

/-- CURTAIN_EDGE_ACCEPTED (R83, R84, R87, R92): the filtered level of a curtain pin changes; its ROLE says what follows. -/
def execCurtainEdgeAccepted (n : Fin 8) (level : Bool) (s : State) : Host.Outcome State Fault Refusal :=
  let s := { s with keeper := { s.keeper with curts := tput {} s.keeper.curts n { level := level } } }
  let cfg := rd s (rCURT_CFG n)
  let b := decide (level = bit cfg 1)
  if !bit cfg 0 ∨ b = blocked s n then .next s
  else
    let s := wrB rCURT_STATE n b s
    .next (match fld cfg 8 7 with
      | 0 => forAll (upto 4) (if b then winBlock n else winClear n) s
      | 1 => onlyIf b wakeRequest s
      | _ => kprRecord 0xA 0 0 n 0 0 (encPos s (fld cfg 10 9)) s.clock.aon s)

/-- The effect of a write to CURTn_CFG (R83): setting EN or changing BLOCKED_HIGH takes the pin's filtered level without an
edge; while EN is 0 the state reads clear. -/
def curtCfgEffect (i : Iface) (n : Nat) (v : Word) (s : State) : State × Bool :=
  let old := rd s (rCURT_CFG n)
  let r := plainEffect i (rCURT_CFG n) v .none s
  let s := r.1
  let new := rd s (rCURT_CFG n)
  let s :=
    if !bit new 0 then wrB rCURT_STATE n false s
    else if !bit old 0 ∨ bit old 1 ≠ bit new 1 then
      wrB rCURT_STATE n (decide ((tget ({} : Curt) s.keeper.curts n).level = bit new 1)) s
    else s
  let s := forAll (upto 4) (fun w s =>
    if winState s w = 3 ∧ (win s w).curt = n then
      let c := if blocked s n then none else some ((win s w).clearAt.getD (encPos s (win s w).enc))
      setWin w { win s w with clearAt := c } s
    else s) s
  (s, r.2)

/-- CURTAIN_CFG_WRITE (R83). -/
def execCurtainCfgWrite (ifc : Iface) (n : Fin 8) (v : Word) (s : State) : Host.Outcome State Fault Refusal :=
  .next (gatedWrite ifc (rCURT_CFG n) v (curtCfgEffect ifc n v) s)

/-- GAP_TIMEOUT_EXPIRY (R84): GAP_TIMEOUT has elapsed since the clearing edge; with the curtain still clear the window
closes. A timeout of 0 never expires. -/
def execGapTimeoutExpiry (w : Fin 4) (s : State) : Host.Outcome State Fault Refusal :=
  let x := win s w
  if winState s w = 2 ∧ x.gapTimeout ≠ 0 ∧ !blocked s x.curt ∧ x.trailAt + 1000 * x.gapTimeout ≤ s.clock.aon then
    .next (closeWin w 2 s)
  else .next s

/-- The `k`-th trigger of a segment has fallen due: its moment of R89 or R90 is reached. -/
def isDue (s : State) (g : Seg) (k : Nat) : Bool :=
  match g.dues[k]? with | some a => decide (a ≤ s.clock.aon) | none => false

/-- LINE_TRIGGER (R89 to R91): a trigger that has fallen due issues, is held for MINPER, or is dropped while one is held. -/
def execLineTrigger (t : Fin 8) (s : State) : Host.Outcome State Fault Refusal :=
  let x := trig s t
  match x.seg with
  | none => .next s
  | some g =>
    if x.held then
      -- the held trigger is the first of the due ones: a further one is dropped
      if isDue s g 1 then .next (finishStop t (dropTrigger t g s)) else .next s
    else if !isDue s g 0 then .next s
    else if x.last ≠ 0 ∧ s.clock.aon + 1 < x.last + g.minper then .next (setTrig t { x with held := true } s)
    else .next (finishStop t (pulse t g s))

/-- TRIGGER_HOLD_RELEASE (R91): MINPER has passed and the held trigger issues. -/
def execTriggerHoldRelease (t : Fin 8) (s : State) : Host.Outcome State Fault Refusal :=
  let x := trig s t
  match x.seg with
  | none => .next s
  | some g => if x.held ∧ x.last + g.minper ≤ s.clock.aon + 1 then .next (finishStop t (pulse t g s)) else .next s

/-- SLOT_REUSE_DELAY_EXPIRY (R21): 20 ms after it was freed, the slot is available again. -/
def execSlotReuseDelayExpiry (slot : Fin 16) (s : State) : Host.Outcome State Fault Refusal :=
  let j := job s slot
  if j.state = .cooling ∧ j.freedAt + 20 * aonMs ≤ s.clock.aon then .next (setJob slot { j with state := .free } s) else .next s

end Sys2Proof.Machine
end

