-- ==== Sys2Proof/Machine/Capture.lean ====
section
/-! DEFINITION. The video ports (chapter 5): framing, line length, FIFO overflow, admission, raw writes, frame records; and
the shadowed groups of R69 to R71, whose boundaries are frame starts. -/

namespace Sys2Proof.Machine

open Sys2Proof

/-! ### Routes (R530) -/

/-- The payload of a section of the image in force. -/
def sec (s : State) (t : Nat) : List Byte := tget [] s.boot.secs t
/-- Context entry `c` of the stream fabric routes section. -/
def route (s : State) (c : Nat) : Nat := leAt (c * 8) 8 (sec s 3)
/-- KIND of a context: 0 unbound, 1 live, 2 memory-to-memory. -/
def ctxKind (s : State) (c : Nat) : Nat := nfld (route s c) 1 0
/-- The pipe of a context. -/
def ctxPipe (s : State) (c : Nat) : Nat := nfld (route s c) 2 2
/-- The port of a live context. -/
def ctxPort (s : State) (c : Nat) : Nat := nfld (route s c) 6 4
/-- The live context that names port `p`. -/
def portCtx (s : State) (p : Nat) : Option Nat :=
  (upto 16).find? (fun c => decide (ctxKind s c = 1 ∧ ctxPort s c = p))

/-! ### Shadowed groups (R69 to R71) -/

/-- Page, SHADOW_CTRL and shadow ranges of a group, as offsets. -/
def groupPage : ShadowGroup → Nat
  | .ctx c => rCTX_CFG c | .vport p => rVP_CFG p | .meas c => rSTAT_CFG c
def groupCtrl : ShadowGroup → Nat
  | .ctx c => rCTX_SHADOW_CTRL c | .vport p => rVP_SHADOW_CTRL p | .meas c => rMEAS_SHADOW_CTRL c
def groupRanges (g : ShadowGroup) : List (Nat × Nat) :=
  let b := groupPage g
  match g with
  | .ctx _ => [(b, b + 0x100), (b + 0x1000, b + 0x5000)]
  | .vport _ => [(b, b + 0xC)]
  | .meas _ => [(b, b + 0x3C)]

/-- The shadow set of one range is copied into force (R71). -/
def copyShadow (r : Nat × Nat) (s : State) : State :=
  let es := s.regs.filter (fun e => decide (r.1 ≤ e.1 ∧ e.1 < r.2))
  forAll es (fun e s => wr (e.1 + 0x8000) e.2 s) { s with regs := tclear (r.1 + 0x8000) (r.2 + 0x8000) s.regs }

/-- What a context's new set in force starts afresh: the byte counts of an output whose EN goes from 0 to 1, and the slots of
the band ring (R150, R157). -/
def ctxRestart (c : Nat) (old s : State) : State :=
  let rises (off : Nat) : Bool := !rdB old (off + 0x8000) 0 && rdB s (off + 0x8000) 0
  let s := forAll (upto 4) (fun o s =>
    onlyIf (rises (rCTX_OUT_CFG c o)) (fun s => wr64 (rCTX_OUT_WRITTEN_LO c o) 0 (wr64 (rCTX_OUT_RELEASE_LO c o) 0 s)) s) s
  onlyIf (rises (rCTX_BAND c)) (fun s =>
    { s with pctx := tput {} s.pctx c { (tget {} s.pctx c) with bandSlot := 0 } }) s

/-- The whole shadow set is copied into force and COMMIT clears (R71). -/
def shadowApply (g : ShadowGroup) (s : State) : State :=
  let t := wrB (groupCtrl g) 0 false (forAll (groupRanges g) copyShadow s)
  match g with
  | .ctx c => ctxRestart c s t
  | .vport _ => t
  | .meas _ => t

/-- A pending COMMIT takes force at the boundary (R71). -/
def shadowBoundary (g : ShadowGroup) (s : State) : State :=
  if rdB s (groupCtrl g) 0 then shadowApply g s else s

/-! ### The set in force of a port -/

/-- VP_CFG, VP_SIZE and VP_LINE in force. -/
def vpCfg (s : State) (p : Nat) : Word := rd s (rVP_CFG p + 0x8000)
def vpSize (s : State) (p : Nat) : Word := rd s (rVP_SIZE p + 0x8000)
/-- Bit depth (R102). -/
def vpBits (s : State) (p : Nat) : Nat := match fld (vpCfg s p) 2 1 with | 0 => 8 | 1 => 10 | _ => 12
def vpTaps (s : State) (p : Nat) : Nat := fld (vpCfg s p) 4 3 + 1
def vpWidth (s : State) (p : Nat) : Nat := fld (vpSize s p) 15 0
def vpHeight (s : State) (p : Nat) : Nat := fld (vpSize s p) 31 16
/-- LINE mode. -/
def vpLine (s : State) (p : Nat) : Bool := bit (vpCfg s p) 0
/-- AUX_MODE FRAME_PULSE in AREA mode (R106, R118). -/
def vpPulse (s : State) (p : Nat) : Bool := decide (fld (vpCfg s p) 13 12 = 2) && !vpLine s p

/-- Is the set in force invalid (R107)? -/
def vpInvalid (s : State) (p : Nat) : Bool :=
  let c := vpCfg s p
  decide (fld c 2 1 = 3) || decide (fld c 6 5 = 3) || (decide (fld c 2 1 = 2) && decide (vpTaps s p = 4)) ||
  decide (vpWidth s p < 16 ∨ 16384 < vpWidth s p ∨ vpWidth s p % vpTaps s p ≠ 0) ||
  (!vpLine s p && decide (vpHeight s p = 0))

def port (s : State) (p : Nat) : Port := tget {} s.ports p
def setPort (p : Nat) (x : Port) (s : State) : State := { s with ports := tput {} s.ports p x }
/-- VP_STATUS.STATE: 0 IDLE, 1 WAIT, 2 FRAME, 3 DROP. -/
def portState (s : State) (p : Nat) : Nat := rdF s (rVP_STATUS p) 1 0
def setPortState (p v : Nat) (s : State) : State := wrF (rVP_STATUS p) 1 0 v s
/-- A FLAGS bit of the frame's record is set (R119). -/
def portFlag (p b : Nat) (s : State) : State :=
  let x := port s p
  setPort p { x with flags := x.flags ||| 2 ^ b } s

/-- FLAGS of R119. -/
def fTRUNCATED : Nat := 0
def fOVERFLOW : Nat := 1
def fBURST : Nat := 2
def fPCLK_LOST : Nat := 3
def fSHORT_LINES : Nat := 4
def fLONG_LINES : Nat := 5
def fDEFICIT : Nat := 6
def fEXTRA : Nat := 7
def fFRONT_TRUNC : Nat := 8
def fDISABLED : Nat := 9
def fNAP : Nat := 10
def fSHORT_FRAME : Nat := 11

/-! ### The FIFO (R110) -/

/-- Bytes of FIFO that a line occupies: 1 byte a pixel at 8 bits, 2 otherwise. -/
def fifoBytes (s : State) (p : Nat) (l : Line) : Nat :=
  (l.planes.headD []).length * (if vpBits s p = 8 then 1 else 2)

/-- Lines of context `c` that wait for its pipe. -/
def pipeQueue (s : State) (c : Nat) : List PipeItem := tget [] s.pipeq c
def setPipeQueue (c : Nat) (q : List PipeItem) (s : State) : State := { s with pipeq := tput [] s.pipeq c q }
/-- The pipe is handed one more item of a context. -/
def pushPipe (c : Nat) (x : PipeItem) (s : State) : State := setPipeQueue c (pipeQueue s c ++ [x]) s

/-- FIFO_LEVEL and the high-water mark follow the lines that the pipe has not taken, in whole KiB (log entry 11). -/
def fifoLevel (p : Nat) (s : State) : State :=
  let n := match portCtx s p with
    | none => 0
    | some c => (pipeQueue s c).foldl (fun n x => match x with | .line l => n + fifoBytes s p l | _ => n) 0
  let k := min 64 (n / 1024)
  wrF (rVP_FIFO_HWM p) 6 0 (max k (rdF s (rVP_FIFO_HWM p) 6 0)) (wrF (rVP_STATUS p) 14 8 k s)

/-! ### Raw writes (R117) -/

/-- RAW_EN with a legal LOG2SIZE. -/
def rawOn (s : State) (p : Nat) : Bool :=
  let n := rdF s (rVP_RAW_CFG p) 4 0
  rdB s (rVP_ADMIT p) 2 && decide (16 ≤ n ∧ n ≤ 30)

/-- Bits of the samples, least significant first, `b` each, packed into a number. -/
def packBits (b : Nat) : List Nat → Nat
  | [] => 0
  | x :: t => x % 2 ^ b + 2 ^ b * packBits b t

/-- A delivered line in the raw buffer's format, padded to 64 bytes. -/
def rawBytes (s : State) (p : Nat) (px : List Nat) : List Byte :=
  let b := vpBits s p
  let l := if rdB s (rVP_RAW_CFG p) 5 then leBytes ((px.length * b + 7) / 8) (packBits b px) else px.flatMap (leBytes 2)
  padTo ((l.length + 63) / 64 * 64) l

/-- Bytes go to DRAM in class CAPTURE; a buffer elsewhere takes nothing, and at an undecoded address it is a decode error. -/
def rawStore (a : Nat) (bs : List Byte) (s : State) : State :=
  if !decodesAll s a bs.length then agentDecodeErr { port := 12, cls := 0, who := none } a s
  else if regionOf a = .dram then (dramWrite 0 a bs s).2
  else s

/-- One line is written into the circular buffer. -/
def rawLine (p : Nat) (px : List Nat) (s : State) : State :=
  if !rawOn s p then s
  else
    let size := 2 ^ rdF s (rVP_RAW_CFG p) 4 0
    let base := rd64 s (rVP_RAW_BASE_LO p) % 2 ^ 48 / size * size
    let bs := rawBytes s p px
    let off := rd64 s (rVP_RAW_BYTES_LO p) % size
    let n := min bs.length (size - off)
    let s := rawStore (base + off) (bs.take n) s
    let s := if n < bs.length then rawStore base (bs.drop n) s else s
    wr64 (rVP_RAW_BYTES_LO p) (rd64 s (rVP_RAW_BYTES_LO p) + bs.length) s

/-! ### Frames -/

/-- A line is delivered: to the routed context's pipe and to the raw writer (R110). -/
def deliver (p : Nat) (l : Line) (s : State) : State :=
  let x := port s p
  let l := { l with idx := x.lines }
  let s := setPort p { x with lines := x.lines + 1 } s
  let s := match x.toPipe with | some c => pushPipe c (.line l) s | none => s
  fifoLevel p (rawLine p (l.planes.headD []) s)

/-- Triggers issued in the camera segment that the open frame follows, whether the generator is still in it, has closed it, or
is in the next one already (R105). -/
def segTriggers (s : State) (p : Nat) : Nat :=
  match (port s p).seg with
  | none => 0
  | some (t, w, j) =>
    let closed : Nat := match (trig s t).fin with
      | some (w', j', n) => if w' = w ∧ j' = j then n else 0
      | none => 0
    match (trig s t).seg with
    | some g => if g.win = w ∧ g.jobId = j then g.issued else closed
    | none => closed

/-- Lines held beyond the trigger count are delivered as far as triggers have been issued since. -/
def releaseExtra (p : Nat) (s : State) : State :=
  let n := segTriggers s p - (port s p).lines
  let e := (port s p).extra
  let s := setPort p { port s p with extra := e.drop n } s
  forAll (e.take n) (deliver p) s

/-- Lines that the frame should have: triggers issued, or HEIGHT. -/
def frameExpected (s : State) (p : Nat) : Nat := if vpLine s p then segTriggers s p else vpHeight s p

/-- Lines that no trigger asked for are discarded with the frame: counted in EXTRA_LINES, and the frame carries EXTRA (R105). -/
def dropExtra (p : Nat) (s : State) : State :=
  let s := releaseExtra p s
  let e := (port s p).extra.length
  onlyIf (decide (0 < e)) (fun s => portFlag p fEXTRA (bump (rVP_CNT p 5) e s)) s

/-- The frame's record goes into the ring, SEQ last (R119); the pipe gets the end marker. -/
def closeFrame (p next : Nat) (s : State) : State :=
  let s := dropExtra p s
  let exp := frameExpected s p
  let s := onlyIf (decide ((port s p).lines < exp)) (portFlag p fTRUNCATED) s
  let x := port s p
  let q := rdn s (rVP_FR_NEXT p)
  let s := match portCtx s p with
    | some c => wrWords (rVP_REC p ((q % 64) * 8))
        [q, c + x.flags * 0x10000, x.frame, satN 16 x.lines + satN 16 exp * 0x10000, x.dtime % 2 ^ 32, x.dtime / 2 ^ 32, x.rawOff, 0] s
    | none =>
      -- a port without a context: the record's CTX and FRAME are not stated (log entry 1)
      let f := takeFree s
      let g := takeFree f.2
      wrWords (rVP_REC p ((q % 64) * 8))
        [q, f.1.toNat % 16 + x.flags * 0x10000, g.1.toNat % 2 ^ 32, satN 16 x.lines + satN 16 exp * 0x10000,
          x.dtime % 2 ^ 32, x.dtime / 2 ^ 32, x.rawOff, 0] g.2
  let s := bump (rVP_CNT p 0) 1 (wrn (rVP_FR_NEXT p) (q + 1) s)
  let s := match x.toPipe with | some c => pushPipe c (.stop x.flags) s | none => s
  setPortState p next (setPort p { port s p with opened := false, toPipe := none, extra := [], closing := false, next := none } s)

/-- The camera segment closes: lines against triggers (R105). -/
def closeSegment (p next : Nat) (s : State) : State :=
  let s := releaseExtra p s
  let d := segTriggers s p - (port s p).lines
  let s := onlyIf (decide (0 < d)) (fun s => raiseE 52 3 (bump (rVP_CNT p 6) d (portFlag p fDEFICIT s))) s
  closeFrame p next s

/-- An area frame closes (R106). -/
def closeArea (p next : Nat) (s : State) : State :=
  closeFrame p next (onlyIf (decide ((port s p).got < vpHeight s p)) (portFlag p fSHORT_FRAME) s)

/-- The frame that is open closes normally, by its mode. -/
def closeOpen (p next : Nat) (s : State) : State :=
  if !(port s p).opened then s else if vpLine s p then closeSegment p next s else closeArea p next s

/-- STATE and CFG_INVALID of a port with no open frame follow EN and the set in force (R107, R113). -/
def portMode (p : Nat) (s : State) : State :=
  let bad := vpInvalid s p
  let s := wrB (rVP_STATUS p) 2 bad s
  if !rdB s (rVP_ADMIT p) 0 || bad then setPortState p 0 s
  else if portState s p = 0 then setPortState p 1 s
  else s

/-! ### Contexts at a frame start (R129) -/

/-- Does a context process frames: EN in force and bound (R122, R157)? -/
def ctxOn (s : State) (c : Nat) : Bool := rdB s (rCTX_CFG c + 0x8000) 0 && decide (ctxKind s c ≠ 0)
/-- CTX_STATUS.STATE: 0 IDLE, 1 WAIT, 2 FRAME, 3 DROP. -/
def ctxState (s : State) (c : Nat) : Nat := rdF s (rCTX_STATUS c) 1 0
def setCtxState (c v : Nat) (s : State) : State := wrF (rCTX_STATUS c) 1 0 v s
/-- A context that is not enabled is IDLE; one that has been enabled waits for a frame. -/
def ctxRefresh (c : Nat) (s : State) : State :=
  if !ctxOn s c then (if ctxState s c = 2 then s else setCtxState c 0 s)
  else if ctxState s c = 0 then setCtxState c 1 s else s

/-- The sets in force of a context, CTX and MEAS, keyed by their shadow offsets. -/
def ctxRegs (s : State) (c : Nat) : Tab Word :=
  let cut (lo hi : Nat) : Tab Word :=
    (s.regs.filter (fun e => decide (lo + 0x8000 ≤ e.1 ∧ e.1 < hi + 0x8000))).map (fun e => (e.1 - 0x8000, e.2))
  cut (rCTX_CFG c) (rCTX_CFG c + 0x5000) ++ cut (rSTAT_CFG c) (rSTAT_CFG c + 0x3C)

/-- Is a context an area context, and what are its WIDTH and HEIGHT (R122)? A memory-to-memory context reads frames of a
height (log entry 13). -/
def ctxArea (s : State) (c : Nat) : Bool := if ctxKind s c = 1 then !vpLine s (ctxPort s c) else decide (ctxKind s c = 2)
def ctxSize (s : State) (c : Nat) : Nat × Nat :=
  if ctxKind s c = 1 then (vpWidth s (ctxPort s c), vpHeight s (ctxPort s c))
  else
    let w := rd s (rCTX_M2M_SIZE c + 0x8000)
    (fld w 15 0, fld w 31 16)

/-- May the extractor serve a context (R159)? -/
def pxEligible (s : State) (c : Nat) : Bool :=
  let z := ctxSize s c
  decide (ctxKind s c ≠ 0) && rdB s (rPX_CFG c + 0x8000) 0 && ctxArea s c && rdB s (rCTX_CFG c + 0x8000) 1 &&
    decide (z.1 ≤ 2048 ∧ z.2 ≤ 1024)
/-- Does an extractor serve a context: the lowest-numbered of its pipe that may be (R159)? -/
def pxServed (s : State) (c : Nat) : Bool :=
  pxEligible s c && (upto c).all (fun k => !(pxEligible s k && decide (ctxPipe s k = ctxPipe s c)))

/-- Is the statistics set invalid (R173), given the registers in force and the splice? A point behind OUT_TAP gets nothing from a
splice that returns at no tap the pipe has; a legal splice returns to every point (R158; log entry 14). -/
def statBad (cfg zone spl : Word) : Bool :=
  let pt := fld cfg 2 1
  decide (pt = 3) || decide (fld zone 9 0 < 1 ∨ 512 < fld zone 9 0) || decide (fld zone 26 16 < 1 ∨ 1024 < fld zone 26 16) ||
    (bit spl 0 && decide (pt ≠ 0 ∧ fld spl 3 1 < 2 * pt ∧ fld spl 6 4 ≠ 7 ∧ (fld spl 6 4 ≤ fld spl 3 1 ∨ 4 < fld spl 6 4)))
/-- Is the statistics set in force invalid (R173)? -/
def statInvalid (s : State) (c : Nat) : Bool :=
  statBad (rd s (rSTAT_CFG c + 0x8000)) (rd s (rSTAT_ZONE c + 0x8000)) (rd s (rCTX_SPLICE c + 0x8000))

/-! ### Zero height from the Persistent Record (R171) -/

def pctx (s : State) (c : Nat) : PCtx := tget {} s.pctx c
def setPctx (c : Nat) (x : PCtx) (s : State) : State := { s with pctx := tput {} s.pctx c x }

/-- Unknown entry of Z. -/
def zUnknown : Nat := 0xFFFFF
/-- Z of column `i`. -/
def zAt (s : State) (c i : Nat) : Nat := rdF s (rMEAS_Z c i) 19 0
/-- Zero height from a calibration record: interpolated between knots, rounded half up; a column beside an unknown knot is
unknown (R171). -/
def knotZ (s : State) (c width u : Nat) : Nat :=
  let col (i : Nat) : Nat := i * (width - 1) / 128
  let i := (upto 129).foldl (fun a k => if col k ≤ u then k else a) 0
  let k (i : Nat) : Nat := rdF s (rCAL_REC c (8 + i)) 19 0
  if col i = u then k i
  else if k i = zUnknown ∨ k (i + 1) = zUnknown then zUnknown
  else
    let n : Int := ((k (i + 1) : Int) - k i) * ((u - col i : Nat) : Int)
    let d : Int := ((col (i + 1) - col i : Nat) : Int)
    ((k i : Int) + (2 * n + d) / (2 * d)).toNat

/-- Every entry of Z becomes unknown, and ZERO_VALID clears (R171, R173). -/
def zClear (c : Nat) (s : State) : State :=
  wrB (rMEAS_STATUS c) 1 false (forAll (upto 2048) (fun i s => wrF (rMEAS_Z c i) 19 0 zUnknown s) s)

/-- ZERO_VALID: Z holds a known column (R172). -/
def zStatus (c : Nat) (s : State) : State :=
  wrB (rMEAS_STATUS c) 1 ((upto 2048).any (fun u => decide (zAt s c u ≠ zUnknown))) s

/-- A context is served for the first time since D3 left reset: Z is loaded from a calibration record of KIND 1 and of its WIDTH;
another WIDTH raises E59 (R171; log entry 15). -/
def zLoad (c : Nat) (s : State) : State :=
  let s := setPctx c { pctx s c with calDue := false } s
  let w := (ctxSize s c).1
  if rdn s (rCAL_REC c 0) ≠ 1 then s
  else if rdF s (rCAL_REC c 1) 15 0 = w then
    zStatus c (forAll (upto w) (fun u s => wrF (rMEAS_Z c u) 19 0 (knotZ s c w u) s) s)
  else raiseE 59 3 s

/-- PX_SERVED and CFG_INVALID of every context follow the sets in force (R172). -/
def measRefresh (s : State) : State :=
  forAll (upto 16) (fun c s =>
    let s := wrB (rMEAS_STATUS c) 2 (statInvalid s c) (wrB (rMEAS_STATUS c) 0 (pxServed s c) s)
    if pxServed s c && (pctx s c).calDue then zLoad c s else s) s

/-- Both sets of a context take force at its frame start (R71, R129, R172). -/
def ctxBoundary (c : Nat) (s : State) : State := measRefresh <| ctxRefresh c (shadowBoundary (.meas (Fin.ofNat 16 c)) (shadowBoundary (.ctx (Fin.ofNat 16 c)) s))

/-- ENCn_POS of the four encoders. -/
def encSnapshot (s : State) : List Nat := (upto 4).map (encPos s)

/-- The camera segment that is open for the bound context of a port, with FRONT_TRUNC and whether its start has passed
(R105). -/
def openSegOf (s : State) (p : Nat) : Option ((Nat × Nat × Nat × Bool) × Bool) :=
  match portCtx s p with
  | none => none
  | some c => ((upto 8).filterMap (fun t => match (trig s t).seg with
      | some g => if g.ctx = c then some ((t, g.win, g.jobId, g.trunc), g.seen) else none
      | none => none)).head?

/-- A frame of port `p` opens at DTIME `at_` (R104, R121): shadow sets, number, stamp, marker. FRONT_TRUNC is that of the
camera segment: its own in LINE mode, and in AREA mode the one that is open for the context (R16, R119; log entry 10). -/
def openFrame (p : Nat) (sg : Option (Nat × Nat × Nat × Bool)) (at_ : Nat) (s : State) : State :=
  let s := shadowBoundary (.vport (Fin.ofNat 8 p)) s
  let ctx := portCtx s p
  let s := match ctx with | some c => ctxBoundary c s | none => s
  let s := portMode p s
  if portState s p = 0 then s
  else
    let s := match ctx, sg with
      | some c, none => { s with frames := tput 0 s.frames c ((tget 0 s.frames c + 1) % 2 ^ 32) }
      | _, _ => s
    let front := match sg with
      | some (_, _, _, f) => f
      | none => match openSegOf s p with | some ((_, _, _, f), _) => f | none => false
    let size := 2 ^ rdF s (rVP_RAW_CFG p) 4 0
    let frame := match ctx with | some c => tget 0 s.frames c | none => 0
    let deliverTo := match ctx with | some c => if rdB s (rVP_ADMIT p) 1 && ctxOn s c then some c else none | none => none
    let s := setPort p {
        opened := true, flags := if front then 2 ^ fFRONT_TRUNC else 0, frame := frame, dtime := at_,
        rawOff := if rawOn s p then rd64 s (rVP_RAW_BYTES_LO p) % size else 0xFFFFFFFF,
        seg := sg.map (fun g => (g.1, g.2.1, g.2.2.1)), toPipe := deliverTo, pixels := (port s p).pixels } s
    let s := setPortState p 2 (wrB (rVP_STATUS p) 4 true s)
    match deliverTo with
    | none => s
    | some c => pushPipe c (.start {
        frame := frame, dtime := at_, regs := ctxRegs s c, width := vpWidth s p,
        height := if vpLine s p then 0 else vpHeight s p, bits := vpBits s p, area := !vpLine s p, frontTrunc := front,
        job := (sg.or ((openSegOf s p).map Prod.fst)).map (fun g => g.2.2.1),
        served := pxServed s c, enc := encSnapshot s }) s

/-- The start of generator `t`'s open segment has passed: one segment starts one frame (R105, R112). -/
def segSeen (t : Nat) (s : State) : State :=
  match (trig s t).seg with
  | some g => setTrig t { trig s t with seg := some { g with seen := true } } s
  | none => s

/-- A frame start reaches port `p`: a rising FVAL, a frame pulse or CAMERA_START, by the mode in force (R104, R112). A line
whose LVAL rose before a new CAMERA_START (`mid`) is completed in its own frame: that frame closes, and the new one begins, with
the line (R105). -/
def frameStart (p : Nat) (pulse mid : Bool) (s : State) : State :=
  if portState s p = 0 then s
  else if vpLine s p then
    match openSegOf s p with
    | none => s
    | some (g, seen) =>
      if seen then s
      else
        let s := segSeen g.1 s
        if mid ∧ (port s p).opened then setPort p { port s p with closing := true, next := some (dtime s, g) } s
        else openFrame p (some g) (dtime s) (closeOpen p 1 s)
  else if vpPulse s p then
    if pulse then openFrame p none (dtime s) (closeOpen p 1 s) else s
  else if pulse ∨ (port s p).opened then s
  else openFrame p none (dtime s) s

/-- The frame start that waited for the line, if any, takes place. -/
def startNext (p : Nat) (next : Option (Nat × Nat × Nat × Nat × Bool)) (s : State) : State :=
  match next with
  | none => s
  | some (at_, g) => openFrame p (some g) at_ s

/-- The line that a closed segment waited for has ended: the frame closes, and the next one begins if its start has passed
(R105). -/
def settle (p : Nat) (s : State) : State :=
  let x := port s p
  if x.opened ∧ x.closing then startNext p x.next (closeOpen p 1 s) else s

/-- The frame that is open ends early with a reason; of a segment that has closed, the frame ends as it stands. -/
def cutFrame (p reason next : Nat) (s : State) : State :=
  let s := settle p s
  if (port s p).opened then closeFrame p next (portFlag p fTRUNCATED (portFlag p reason s)) else s

/-- The port follows EN and its set in force. -/
def portSet (p : Nat) (s : State) : State :=
  portMode p (if rdB s (rVP_ADMIT p) 0 then s else cutFrame p fDISABLED 0 s)

/-- The port follows EN and its set in force; a COMMIT that is pending once the port is IDLE is applied (R71, R107, R113,
R121). -/
def portRefresh (p : Nat) (s : State) : State :=
  let s := portSet p s
  if portState s p = 0 then portSet p (shadowBoundary (.vport (Fin.ofNat 8 p)) s) else s

/-- D3 enters NAP: every open frame closes, and a port in DROP waits for the next frame start once awake (R113). -/
def portsNap (s : State) : State :=
  forAll (upto 8) (fun p s =>
    let s := cutFrame p fNAP 1 s
    if portState s p = 3 then setPortState p 1 s else s) s

/-! ### Lines -/

/-- The samples that a port accepts (R101): DVAL and, in AREA mode without frame pulses, FVAL are active. -/
def acceptedCycles (s : State) (p : Nat) (l : List PixSample) : List Nat :=
  let c := vpCfg s p
  let useF := !vpLine s p && !vpPulse s p
  (l.filter (fun x => (!bit c 7 || x.dval != bit c 11) && (!useF || x.fval != bit c 9))).map (fun x => x.data.toNat)

/-- Accepted cycle and tap that carry pixel `x` of the line (R103). -/
def pixelAt (s : State) (p x : Nat) : Nat × Nat :=
  let taps := vpTaps s p
  let seg := vpWidth s p / taps
  match fld (vpCfg s p) 6 5 with
  | 0 => (x / taps, x % taps)
  | 1 => (x % seg, x / seg)
  | _ => let k := x / seg; ((if k % 2 = 0 then x % seg else seg - 1 - x % seg), k)

/-- The black level in force for the colour channel of a pixel, in input units (R108, R130). -/
def blackAt (s : State) (c b row col : Nat) : Nat :=
  let off := 0x8000
  let pos := if rdB s (rCTX_CFG c + off) 1 then 0 else 2 * (row % 2) + col % 2
  let w := rd s ((if pos < 2 then rCTX_BLACK01 c else rCTX_BLACK23 c) + off)
  min (2 ^ b - 1) (if pos % 2 = 0 then fld w 15 0 else fld w 31 16)

/-- The line of WIDTH pixels that the accepted cycles give, padded with the black level (R108); a port without a context
pads with free values (log entry 1). -/
def lineOf (s : State) (p : Nat) (cycles : List Nat) : List Nat :=
  let b := vpBits s p
  let row := (port s p).lines + (port s p).extra.length
  (upto (vpWidth s p)).map (fun x =>
    let a := pixelAt s p x
    match cycles[a.1]? with
    | some w => nfld w (a.2 * b + b - 1) (a.2 * b)
    | none => match portCtx s p with
      | some c => blackAt s c b row x
      | none => (Config.freeWord (s.free + x)).toNat % 2 ^ b)

/-- The line is checked against WIDTH, counted and flagged (R108). -/
def checkLine (p : Nat) (cycles : List Nat) (s : State) : Line × State :=
  let n := cycles.length * vpTaps s p
  let w := vpWidth s p
  let l : Line := { planes := [lineOf s p cycles], short := decide (n < w), long := decide (w < n) }
  let s := if n < w ∧ (portCtx s p).isNone then { s with free := s.free + w } else s
  let s := onlyIf l.short (fun s => bump (rVP_CNT p 2) 1 (portFlag p fSHORT_LINES s)) s
  let s := onlyIf l.long (fun s => bump (rVP_CNT p 3) 1 (portFlag p fLONG_LINES s)) s
  (l, s)

/-- A line that belongs to no frame is discarded and counted (R105, R106). -/
def strayLine (p : Nat) (s : State) : State := bump (rVP_CNT p 4) 1 s

/-- An eighth malformed line in a row (R109); a frame start that waited for that line follows it. -/
def burst (p : Nat) (s : State) : State :=
  let next := (port s p).next
  let s := bump (rVP_CNT p 1) 1 s
  let s := portFlag p fTRUNCATED (portFlag p fBURST (portFlag p fOVERFLOW s))
  startNext p next (raiseE 49 3 (closeFrame p 3 s))

/-- A line of the open frame ends (R105, R106, R108, R109). -/
def frameLine (p : Nat) (cycles : List Nat) (s : State) : State :=
  if !vpLine s p ∧ vpHeight s p ≤ (port s p).got then portFlag p fEXTRA (bump (rVP_CNT p 5) 1 s)
  else
    let s := releaseExtra p s
    let r := checkLine p cycles s
    let l := r.1
    let x := port r.2 p
    let run := if l.short || l.long then x.run + 1 else 0
    let s := setPort p { x with got := x.got + 1, run := run } r.2
    if run = 8 then burst p (deliver p l s)
    else if vpLine s p ∧ segTriggers s p ≤ (port s p).lines then setPort p { port s p with extra := (port s p).extra ++ [l] } s
    else deliver p l s

/-- LINE_END (R101 to R109): LVAL falls after the given cycles. -/
def execLineEnd (p : Fin 8) (samples : List PixSample) (s : State) : Host.Outcome State Fault Refusal :=
  if !domRun s 3 then .next s else
  let s := wrB (rVP_STATUS p) 4 true s
  let cycles := acceptedCycles s p samples
  let useF := !vpLine s p && !vpPulse s p
  let inF := samples.any (fun x => x.fval != bit (vpCfg s p) 9)
  let s := if vpPulse s p ∧ (port s p).opened ∧ vpHeight s p ≤ (port s p).got then closeArea p 1 s else s
  match portState s p with
  | 0 => .next (if rdB s (rVP_ADMIT p) 0 then strayLine p s else s)
  | 1 => .next (strayLine p s)
  | 2 =>
    if useF ∧ !inF then .next (strayLine p s)
    else
      let x := port s p
      .next (settle p (frameLine p cycles (setPort p { x with pixels := x.pixels + cycles.length * vpTaps s p } s)))
  | _ => .next s

/-- FRAME_START (R104, R105, R112, R121): a rising FVAL, or CAMERA_START of the bound context, with or without a line being
received. -/
def execFrameStart (p : PortCut) (s : State) : Host.Outcome State Fault Refusal :=
  if !domRun s 3 then .next s else .next (frameStart p.port false p.mid (wrB (rVP_STATUS p.port) 4 true s))

/-- FRAME_END (R106): FVAL falls, or HEIGHT lines are received in pulse mode; a DROP state stays. -/
def execFrameEnd (p : Fin 8) (s : State) : Host.Outcome State Fault Refusal :=
  if !domRun s 3 ∨ vpLine s p ∨ !(port s p).opened then .next s
  else if vpPulse s p ∧ (port s p).got < vpHeight s p then .next s
  else .next (closeArea p 1 s)

/-- FIFO_OVERFLOW (R111): a pixel meets a full FIFO after the given cycles of the line being received. -/
def execFifoOverflow (p : Fin 8) (samples : List PixSample) (s : State) : Host.Outcome State Fault Refusal :=
  if !domRun s 3 ∨ !(port s p).opened then .next s
  else
    let cycles := acceptedCycles s p samples
    let x := port s p
    let s := setPort p { x with pixels := x.pixels + cycles.length * vpTaps s p } s
    let s :=
      if cycles.isEmpty ∧ x.got = 0 then s
      else
        let s := releaseExtra p s
        let r := checkLine p cycles s
        let y := port r.2 p
        deliver p { r.1 with short := true } (setPort p { y with got := y.got + 1 } r.2)
    let s := bump (rVP_CNT p 1) 1 s
    let s := portFlag p fTRUNCATED (portFlag p fOVERFLOW s)
    .next (startNext p x.next (raiseE 48 3 (closeFrame p 3 s)))

/-- LATE_WINDOW_EXPIRY (R105): LATE_WINDOW after CAMERA_STOP the segment closes, with the line being received if there is
one. -/
def execLateWindowExpiry (x : PortCut) (s : State) : Host.Outcome State Fault Refusal :=
  let p := x.port
  let ended : Bool := match (port s p).seg with
    | none => true
    | some (t, w, j) => match (trig s t).seg with
      | some g => !decide (g.win = w ∧ g.jobId = j)
      | none => true
  if domRun s 3 ∧ (port s p).opened ∧ vpLine s p ∧ ended ∧ !(port s p).closing then
    .next (if x.mid then setPort p { port s p with closing := true } s else closeSegment p 1 s)
  else .next s

/-- PCLK_LOSS (R113): no edge of PCLK for 8 µs. -/
def execPclkLoss (p : Fin 8) (s : State) : Host.Outcome State Fault Refusal :=
  if !domRun s 3 then .next s
  else
    let s := wrB (rVP_STATUS p) 4 false s
    if (port s p).opened then
      let next := (port s p).next
      .next (startNext p next (raiseE 51 3 (closeFrame p 3 (portFlag p fTRUNCATED (portFlag p fPCLK_LOST s)))))
    else .next s

/-- SYNC_AUX_EDGE (R118): the active edge stamps and counts, or starts a frame. -/
def execSyncAuxEdge (p : Fin 8) (rising : Bool) (s : State) : Host.Outcome State Fault Refusal :=
  let c := vpCfg s p
  if !domRun s 3 ∨ vpInvalid s p ∨ rising = bit c 14 then .next s
  else if vpPulse s p then .next (frameStart p true false s)
  else if fld c 13 12 = 1 ∨ fld c 13 12 = 2 then
    .next (bumpW (rVP_AUX_COUNT p) 1 (wr64 (rVP_AUX_TIME_LO p) (dtime s) s))
  else .next s

/-! ### Admission (R114, R115) -/

/-- EN, PIPE_EN and RATE of port `n`, with the value `v` in the place of port `p`'s. -/
def admitWord (s : State) (p : Nat) (v : Word) (n : Nat) : Word := if n = p then v else rd s (rVP_ADMIT n)

/-- Does a port count toward pipe `k` (R114)? -/
def countsToward (s : State) (w : Word) (n k : Nat) : Bool :=
  bit w 0 && bit w 1 && (match portCtx s n with | some c => decide (ctxPipe s c = k) | none => false)

/-- Do the limits of R114 hold with `v` in port `p`'s VP_ADMIT? -/
def admitted (s : State) (p : Nat) (v : Word) : Bool :=
  let w := admitWord s p v
  let sum (k : Nat) : Nat := (upto 8).foldl (fun a n => if countsToward s (w n) n k then a + fld (w n) 26 16 else a) 0
  (upto 8).all (fun n => decide (fld (w n) 26 16 ≤ 1000)) && decide (sum 0 ≤ 1600 ∧ sum 1 ≤ 1600 ∧ sum 0 + sum 1 ≤ 3200) &&
  (!(portCtx s p).isNone || !bit v 1)

/-- VP_ADMIT of port `p` takes a value: RAW_EN rising zeroes RAW_BYTES (R117), PIPE_EN cleared in a frame ends the context's
frame there. -/
def admitApply (p : Nat) (v : Word) (s : State) : State :=
  let old := rd s (rVP_ADMIT p)
  let s := wr (rVP_ADMIT p) (v &&& w32 0x07FF0007) s
  let s := onlyIf (!bit old 2 && bit v 2) (wr64 (rVP_RAW_BYTES_LO p) 0) s
  let s := match (port s p).toPipe with
    | some c =>
      if !bit v 1 ∧ bit v 0 then pushPipe c (.stop ((port s p).flags ||| 1)) (setPort p { port s p with toPipe := none } s)
      else s
    | none => s
  portRefresh p s

/-- The effect of a write of VP_ADMIT (R115). -/
def admitEffect (p : Nat) (v : Word) (s : State) : State × Bool :=
  let old := rd s (rVP_ADMIT p)
  let sets := (!bit old 0 && bit v 0) || (!bit old 1 && bit v 1)
  let clears := (bit old 0 && !bit v 0) || (bit old 1 && !bit v 1)
  let raises := decide (fld old 26 16 < fld v 26 16) && bit old 0 && bit old 1 && (portCtx s p).isSome
  if (sets || (raises && !clears)) && !admitted s p v then (raiseE 50 3 (wrB (rVP_STATUS p) 3 true s), true)
  else (admitApply p v s, true)

/-- VP_ADMIT_WRITE (R115). -/
def execVpAdmitWrite (ifc : Iface) (p : Fin 8) (v : Word) (s : State) : Host.Outcome State Fault Refusal :=
  .next (gatedWrite ifc (rVP_ADMIT p) v (admitEffect p v) s)

/-- RATE_CHECK_INTERVAL (R116): a 1 ms interval ends. -/
def execRateCheckInterval (p : Fin 8) (s : State) : Host.Outcome State Fault Refusal :=
  let x := port s p
  let tooMany := !vpInvalid s p && decide (rdF s (rVP_ADMIT p) 26 16 * 1000 * 9 < x.pixels * 8)
  .next (if domRun s 3 then setPort p { x with pixels := 0 } (onlyIf tooMany (bump (rVP_CNT p 7) 1) s) else s)

end Sys2Proof.Machine
end

