-- ==== Sys2Proof/Machine/Stages.lean ====
section
/-! DEFINITION. The arithmetic of the image pipeline's stages (R126 to R139), on rows of 16-bit samples, and the windows of
R128. Every function here is pure; `Machine/Pipe.lean` gives it the parameters in force. -/

namespace Sys2Proof.Machine

open Sys2Proof

/-! ### Rounding and clamps (R128) -/

/-- `rnd(v, n)`: (v + 2^(n−1)) >> n, an arithmetic shift that rounds half up. -/
def rnd (v : Int) (n : Nat) : Int := asr (v + ((2 ^ n / 2 : Nat) : Int)) n
/-- Clamped to 0 to 65,535. -/
def clamp16 (v : Int) : Nat := (clampI 0 65535 v).toNat
/-- A quotient of natural numbers rounded half up. -/
def rndDiv (a b : Nat) : Nat := if b = 0 then 0 else (2 * a + b) / (2 * b)
/-- Absolute difference. -/
def dist (a b : Nat) : Nat := if a ≤ b then b - a else a - b

/-- An index that falls outside `0 … n − 1` moves to the nearest one inside, of the same parity unless `mono` (R128). `none`
where a frame of one row or column holds no such index. -/
def edgeIx (mono : Bool) (n : Nat) (i : Int) : Option Nat :=
  if 0 ≤ i ∧ i < n then some i.toNat
  else if n = 0 then none
  else if mono then some (if i < 0 then 0 else n - 1)
  else
    let par := (i % 2).toNat
    if i < 0 then (if par < n then some par else none)
    else
      let j := if (n - 1) % 2 = par then n - 1 else n - 2
      if j < n ∧ j % 2 = par then some j else none

/-- A sample of a row at a column that may lie outside it; rows are at least 16 samples wide, so both parities exist. -/
def rowAt (mono : Bool) (r : List Nat) (x : Int) : Nat := r.getD ((edgeIx mono r.length x).getD 0) 0

/-- A column or row position of R127: which of the four Bayer positions. -/
def bayerPos (row col : Nat) : Nat := 2 * (row % 2) + col % 2

/-- Colour of a Bayer position under CFA_PHASE: 0 R, 1 Gr, 2 Gb, 3 B (R127). -/
def cfaColour (phase p : Nat) : Nat :=
  match phase with
  | 0 => p
  | 1 => [1, 0, 3, 2].getD p 0
  | 2 => [2, 3, 0, 1].getD p 0
  | _ => 3 - p

/-! ### Input format, black level (R130) -/

/-- A sample of `b` bits brought to 16 bits. -/
def inFormat (b s : Nat) : Nat := s * 2 ^ (16 - b)
/-- The black-level stage for one sample; `bl` in input units. -/
def blackLevel (b bl norm x : Nat) : Nat :=
  let k := min (2 ^ b - 1) bl * 2 ^ (16 - b)
  min 65535 (rnd ((x - k) * norm : Nat) 12).toNat

/-! ### Defect correction (R131) -/

/-- The eight neighbours of a pixel at distance `d`, of the rows above, at and below it. -/
def neighbours (mono : Bool) (up at_ dn : List Nat) (d x : Nat) : List Nat :=
  let l : Int := (x : Int) - d
  let r : Int := (x : Int) + d
  [rowAt mono up l, rowAt mono up x, rowAt mono up r, rowAt mono at_ l, rowAt mono at_ r,
    rowAt mono dn l, rowAt mono dn x, rowAt mono dn r]

/-- Insertion into a rising list, and the rising order of a list. -/
def insertUp (x : Nat) : List Nat → List Nat
  | [] => [x]
  | y :: t => if x ≤ y then x :: y :: t else y :: insertUp x t
def sortUp : List Nat → List Nat
  | [] => []
  | x :: t => insertUp x (sortUp t)

/-- Defect correction of one pixel: the sample, and 1 for a dynamic, 2 for a static replacement, 0 for none. -/
def dpcPixel (dyn bad : Bool) (thr x : Nat) (ns : List Nat) : Nat × Nat :=
  let o := sortUp ns
  let med := (o.getD 3 0 + o.getD 4 0 + 1) / 2
  if bad then (med, 2)
  else if dyn ∧ (o.getD 7 0 + thr < x ∨ x + thr < o.getD 0 0) then (med, 1)
  else (x, 0)

/-! ### Spatial noise reduction (R133) -/

/-- The threshold curve of 17 points, interpolated linearly. -/
def snrThr (pts : List Nat) (c : Nat) : Nat :=
  let i := c / 4096
  let p := (pts.getD i 0 : Int)
  (p + rnd (((pts.getD (i + 1) 0 : Int) - p) * (c % 4096 : Nat)) 12).toNat

/-- The stage for one pixel: window samples (the centre among them), threshold, STRENGTH. -/
def snrPixel (win : List Nat) (c t strength : Nat) : Nat :=
  let ws := win.map (fun x => (256 - dist x c * 256 / max t 1, x))
  let m := rndDiv (ws.foldl (fun a q => a + q.1 * q.2) 0) (ws.foldl (fun a q => a + q.1) 0)
  clamp16 (c + rnd (strength * ((m : Int) - c)) 8)

/-! ### Temporal noise reduction (R134) -/

/-- The blend factor for a difference. -/
def tnrAlpha (amax lo hi d : Nat) : Nat :=
  if hi ≤ lo then (if d < lo then amax else 0)
  else if d ≤ lo then amax
  else if hi ≤ d then 0
  else amax * (hi - d) / (hi - lo)

/-- The stage for one sample with its reference, when that is valid. -/
def tnrPixel (amax lo hi x : Nat) (r : Option Nat) : Nat :=
  match r with
  | none => x
  | some r => clamp16 (x + rnd (tnrAlpha amax lo hi (dist x r) * ((r : Int) - x)) 8)

/-! ### Lens shading and white balance (R135) -/

/-- Position `u` of `n` on a grid of `g` intervals, in 1/256 of an interval, cut to 8 fractional bits (log entry 12). -/
def gridPos (g n u : Nat) : Nat := min (g * 256) (u * g * 256 / (n - 1))

/-- The gain at a pixel of an area context from the 17 × 17 grid. -/
def shadeArea (tab : Nat → Nat) (w h u v : Nat) : Nat :=
  let px := gridPos 16 w u
  let py := gridPos 16 h v
  let i := min 15 (px / 256)
  let k := min 15 (py / 256)
  let fx := px - i * 256
  let fy := py - k * 256
  let p (i k : Nat) : Nat := tab (k * 17 + i)
  (p i k * (256 - fx) * (256 - fy) + p (i + 1) k * fx * (256 - fy) + p i (k + 1) * (256 - fx) * fy
    + p (i + 1) (k + 1) * fx * fy + 32768) / 65536

/-- The gain at a column of a line context from the curve of 289 points. -/
def shadeLine (tab : Nat → Nat) (w u : Nat) : Nat :=
  let px := gridPos 288 w u
  let i := min 287 (px / 256)
  let f := px - i * 256
  (tab i * (256 - f) + tab (i + 1) * f + 128) / 256

/-- A gain in unsigned 4.12 applied to a sample. -/
def gain12 (x g : Nat) : Nat := min 65535 (rnd (x * g : Nat) 12).toNat

/-! ### Demosaic (R136) -/

/-- R, G and B of one pixel from its 5 × 5 window; `s a b` is the sample at column offset a and row offset b. -/
def demosaicPixel (phase p t : Nat) (s : Int → Int → Nat) : Nat × Nat × Nat :=
  let z (a b : Int) : Int := s a b
  let gh := clamp16 (rnd (2 * (z (-1) 0 + z 1 0) + 2 * z 0 0 - z (-2) 0 - z 2 0) 2)
  let gv := clamp16 (rnd (2 * (z 0 (-1) + z 0 1) + 2 * z 0 0 - z 0 (-2) - z 0 2) 2)
  let colour := cfaColour phase p
  if colour = 0 ∨ colour = 3 then
    let dh := (z (-1) 0 - z 1 0).natAbs + (2 * z 0 0 - z (-2) 0 - z 2 0).natAbs
    let dv := (z 0 (-1) - z 0 1).natAbs + (2 * z 0 0 - z 0 (-2) - z 0 2).natAbs
    let g := if dh + t < dv then gh else if dv + t < dh then gv else clamp16 (rnd ((gh : Int) + gv) 1)
    let other := clamp16 (rnd (z (-1) (-1) + z 1 (-1) + z (-1) 1 + z 1 1 + 4 * (g : Int) - z (-1) 0 - z 1 0
      - z 0 (-1) - z 0 1) 2)
    if colour = 0 then (s 0 0, g, other) else (other, g, s 0 0)
  else
    -- the row neighbours of Gr are R, those of Gb are B
    if colour = 1 then (gh, s 0 0, gv) else (gv, s 0 0, gh)

/-! ### Colour matrix, tone curves, colour conversion (R137 to R139) -/

/-- One row of a 3 × 3 matrix of signed 4.12 coefficients applied to a pixel, with an offset. -/
def matRow (m : List Int) (r g b : Nat) (off : Int) : Nat :=
  clamp16 (rnd (m.getD 0 0 * r + m.getD 1 0 * g + m.getD 2 0 * b) 12 + off)

/-- The tone curve of 1,025 points at a sample. -/
def toneAt (pt : Nat → Nat) (x : Nat) : Nat :=
  let i := x / 64
  let p : Int := pt i
  clamp16 (p + rnd (((pt (i + 1) : Int) - p) * (x % 64 : Nat)) 6)

/-- The nine coefficients of a conversion MODE other than 0b11 (R139). -/
def cscMatrix (mode : Nat) : List Int :=
  match mode with
  | 0 => [1225, 2404, 467, -691, -1357, 2048, 2048, -1715, -333]
  | 1 => [871, 2929, 296, -469, -1579, 2048, 2048, -1860, -188]
  | _ => [1076, 2777, 243, -572, -1476, 2048, 2048, -1883, -165]

/-- LIMITED scaling of luma and of chroma. -/
def limitY (y : Nat) : Nat := clamp16 (4096 + rnd ((y : Int) * 56064) 16)
def limitC (c : Nat) : Nat := clamp16 (32768 + rnd (((c : Int) - 32768) * 57344) 16)

/-- A sample rounded half up to its top `n` bits and clamped (R146 to R148). -/
def toBits (n v : Nat) : Nat := min (2 ^ n - 1) ((v + 2 ^ (16 - n) / 2) / 2 ^ (16 - n))

end Sys2Proof.Machine
end

