-- ==== Sys2Proof/Machine/Pipe.lean ====
section
/-! DEFINITION. The image pipes (chapter 6): contexts, the order of lines, the stages over rows, the splice, the four outputs,
bands, and context frame records. -/

namespace Sys2Proof.Machine

open Sys2Proof

/-! ### Accessors -/

/-- The frame that context `c` has in its pipe. -/
def pframe (s : State) (c : Nat) : PipeFrame := (pctx s c).frame.getD {}
def setPframe (c : Nat) (f : PipeFrame) (s : State) : State := setPctx c { pctx s c with frame := some f } s
/-- A FLAGS bit of R155. -/
def pipeFlag (c b : Nat) (s : State) : State :=
  let f := pframe s c
  setPframe c { f with flags := f.flags ||| 2 ^ b } s

/-- FLAGS of R155. -/
def gTRUNCATED : Nat := 0
def gSPLICE_LOST : Nat := 1
def gFALLBACK : Nat := 2
def gOUT_FULL : Nat := 3
def gBAND_DROP : Nat := 7
def gTNR_NOREF : Nat := 8
def gDISP_CLIPPED : Nat := 9
def gSTAGE_DROP : Nat := 10
def gPOISONED : Nat := 11
def gCFG_INVALID : Nat := 12

/-- A parameter of a frame: the register's value in force at the frame's start (R129). -/
def prm (f : FrameInfo) (off : Nat) : Word := tget (resetVal off) f.regs off
/-- Field of a parameter. -/
def prmF (f : FrameInfo) (off hi lo : Nat) : Nat := fld (prm f off) hi lo
/-- Bit of a parameter. -/
def prmB (f : FrameInfo) (off i : Nat) : Bool := bit (prm f off) i
/-- A 48-bit address parameter. -/
def prmAddr (f : FrameInfo) (lo : Nat) : Nat := prmF f lo 31 0 + 2 ^ 32 * prmF f (lo + 4) 15 0
/-- MONO. -/
def isMono (f : FrameInfo) (c : Nat) : Bool := prmB f (rCTX_CFG c) 1
/-- Is a live context's frame (CAPTURE) or a memory-to-memory one (BULK) (R125)? -/
def pipeClass (s : State) (c : Nat) : Nat := if ctxKind s c = 2 then 2 else 0
/-- The pipe's agent: ports 9 and 10. -/
def pipeAgent (s : State) (c : Nat) : Agent := { port := 9 + ctxPipe s c, cls := pipeClass s c, who := none }

/-! ### The splice of a frame (R140, R141, R158) -/

def splEn (f : FrameInfo) (c : Nat) : Bool := prmB f (rCTX_SPLICE c) 0
def splOut (f : FrameInfo) (c : Nat) : Nat := prmF f (rCTX_SPLICE c) 3 1
def splRet (f : FrameInfo) (c : Nat) : Nat := prmF f (rCTX_SPLICE c) 6 4
def splTee (f : FrameInfo) (c : Nat) : Bool := decide (splRet f c = 7)
def splRgb (f : FrameInfo) (c : Nat) : Bool := prmB f (rCTX_SPLICE c) 7
def splFallback (f : FrameInfo) (c : Nat) : Bool := prmB f (rCTX_SPLICE c) 8

/-- Does the frame's splice stand in for the stage between taps `t − 1` and `t`? -/
def spliced (pf : PipeFrame) (c t : Nat) : Bool :=
  pf.splice && !splTee pf.info c && decide (splOut pf.info c < t ∧ t ≤ splRet pf.info c)

/-- The tap that POINT names, moved to RET_TAP where it lies inside the splice (R158); and whether it was moved. -/
def statTap (pf : PipeFrame) (c : Nat) : Nat × Bool :=
  let t := 2 * min 2 (prmF pf.info (rSTAT_CFG c) 2 1)
  if pf.splice ∧ !splTee pf.info c ∧ splOut pf.info c < t ∧ t < splRet pf.info c then (splRet pf.info c, true) else (t, false)

/-! ### Validity of the set (R153) -/

/-- Planes of the machine-vision output. -/
def mvPlanes (f : FrameInfo) (c : Nat) : Nat := if prmB f (rCTX_OUT_CFG c 2) 11 ∧ !isMono f c then 3 else 1
/-- Bytes of a line of the machine-vision output, rounded up to 64 (R144, R148). -/
def mvStride (f : FrameInfo) (c : Nat) : Nat :=
  let n := f.width * (if prmF f (rCTX_OUT_CFG c 2) 10 8 = 0 then 1 else 2)
  (n + 63) / 64 * 64
/-- Bytes of a band slot (R150). -/
def bandSlotSize (f : FrameInfo) (c : Nat) : Nat := 64 + mvPlanes f c * prmF f (rCTX_BAND c) 31 16 * mvStride f c
/-- Device address of band slot `b`. -/
def bandSlotAddr (f : FrameInfo) (c b : Nat) : Nat :=
  amBase + prmF f (rCTX_BAND_BASE c) 25 6 * 64 + b * bandSlotSize f c

/-- Is the set of a frame invalid (R153)? -/
def setInvalid (s : State) (c : Nat) (f : FrameInfo) : Bool :=
  let spl := splEn f c
  let badSplice := spl && (decide (4 < splOut f c) || (!splTee f c && decide (splRet f c ≤ splOut f c ∨ 4 < splRet f c))
    || (splRgb f c && (decide (splRet f c ≠ 2) || isMono f c)))
  let badOut := (upto 4).any (fun o =>
    let k := prm f (rCTX_OUT_CFG c o)
    bit k 0 && (decide (fld k 6 2 < 16 ∨ 31 < fld k 6 2) || decide (fld k 10 8 > [1, 1, 2, 0].getD o 0)))
  let ow := prmF f (rCTX_DISP_SCALE c) 11 0
  let bl := prmF f (rCTX_BAND c) 31 16
  let slots := prmF f (rCTX_BAND c) 4 1 + 1
  let a0 := bandSlotAddr f c 0
  let n := slots * bandSlotSize f c
  let badBand := prmB f (rCTX_BAND c) 0 &&
    (decide (0x144000000 < a0 + n) || !decodesAll s a0 n || !ownsAll s (9 + ctxPipe s c) a0 n)
  let m2m := ctxKind s c = 2
  badSplice || badOut || decide (ow = 0 ∨ 3840 < ow ∨ f.width < ow) || decide (prmF f (rCTX_DISP_SCALE c) 27 16 < 0x100)
    || decide (bl % 16 ≠ 0 ∨ bl < 16 ∨ 4096 < bl) || badBand
    || (m2m && decide (f.width < 16 ∨ 16384 < f.width ∨ f.height = 0))

/-! ### Rows with a vertical window (R128) -/

/-- The row at index `y` of a stage's window: an index outside the frame moves to the nearest of the same parity. `last` is
the last row known; where a Bayer frame of one row has none of the parity, the samples are free values (log entry 1). -/
def vrow (b : VBuf) (mono : Bool) (last free : Nat) (y : Int) : Line :=
  match edgeIx mono (last + 1) y with
  | some i => b.rows.getD (i - b.base) {}
  | none => { planes := [(upto ((b.rows.headD {}).planes.headD []).length).map
      (fun x => (Config.freeWord (free + x)).toNat % 65536)] }

/-- The rows that a stage of reach `r` can produce now: all up to `r` before the last row, or all at the frame's end. -/
def vready (b : VBuf) (r : Nat) (flush : Bool) : Nat :=
  let n := b.base + b.rows.length
  (if flush then n else n - r) - b.next

/-- `k` further rows of a stage; `f` gives the output row for a getter and a row index. -/
def vstep {α : Type} (mono : Bool) (free : Nat) (f : (Int → Line) → Nat → α) : Nat → VBuf → List α
  | 0, _ => []
  | k + 1, b =>
    f (vrow b mono (b.base + b.rows.length - 1) free) b.next :: vstep mono free f k { b with next := b.next + 1 }

/-- A stage takes a row, or the frame's end, and gives the rows that follow from it; rows that no later window reaches are
let go. -/
def vstage {α : Type} (mono : Bool) (free r : Nat) (f : (Int → Line) → Nat → α) (x : Option Line) (b : VBuf) :
    List α × VBuf :=
  let b := match x with | some l => { b with rows := b.rows ++ [l] } | none => b
  let k := vready b r x.isNone
  let o := vstep mono free f k b
  let nx := b.next + k
  let cut := min ((nx - r) - b.base) (b.rows.length - min b.rows.length 2)
  (o, { base := b.base + cut, rows := b.rows.drop cut, next := nx })

/-- The free-value counter moves past what the windows of a one-row Bayer frame may have used. -/
def useRowFree (mono : Bool) (b : VBuf) (s : State) : State :=
  if !mono ∧ b.base + b.rows.length = 1 then { s with free := s.free + ((b.rows.headD {}).planes.headD []).length } else s

/-- A line with the tags of row `y` of a window: short and long of the row itself, poison of every row it reads, which lie at
the given distances (R154). -/
def tagOf (g : Int → Line) (reads : List Int) (y : Nat) (planes : List (List Nat)) : Line :=
  { g y with planes := planes, idx := y, poison := reads.any (fun d => (g ((y : Int) + d)).poison) }

/-- The plane of a single-sample row. -/
def p0 (l : Line) : List Nat := l.planes.headD []

/-! ### Stages over rows -/

/-- Input format: samples at 16 bits (R130). -/
def formatRow (f : FrameInfo) (l : Line) : Line := { l with planes := l.planes.map (List.map (inFormat f.bits)) }

/-- Half-word `i` (0 even position, 1 odd) of one of a pair of registers. -/
def pairHalf (f : FrameInfo) (lo hi p : Nat) : Nat :=
  let w := prm f (if p < 2 then lo else hi)
  if p % 2 = 0 then fld w 15 0 else fld w 31 16

/-- Black level of a row already at 16 bits (R130). -/
def blackRow (f : FrameInfo) (c : Nat) (l : Line) : Line :=
  if prmB f (rCTX_BYPASS c) 0 then l
  else
    let px := p0 l
    let norm := prmF f (rCTX_BLNORM c) 15 0
    { l with planes := [(upto px.length).map (fun x =>
        let p := if isMono f c then 0 else bayerPos l.idx x
        blackLevel f.bits (pairHalf f (rCTX_BLACK01 c) (rCTX_BLACK23 c) p) norm (px.getD x 0))] }

/-- Defect correction of row `y`, and the counts of dynamic and static replacements (R131). -/
def dpcRow (pf : PipeFrame) (c : Nat) (g : Int → Line) (y : Nat) : Line × Nat × Nat :=
  let f := pf.info
  let mono := isMono f c
  let px := p0 (g y)
  if prmB f (rCTX_BYPASS c) 1 then (tagOf g [0] y [px], 0, 0)
  else
    let d : Nat := if mono then 1 else 2
    let k := prm f (rCTX_DPC c)
    let up := p0 (g ((y : Int) - d))
    let dn := p0 (g ((y : Int) + d))
    let reads : List Int := if bit k 0 || (!pf.badCols.isEmpty) || pf.badPix.any (fun q => decide (q.1 = y)) then [-d, 0, d] else [0]
    let out := (upto px.length).map (fun x =>
      let bad := pf.badCols.contains x || pf.badPix.contains (y, x)
      dpcPixel (bit k 0) bad (fld k 31 16) (px.getD x 0) (neighbours mono up px dn d x))
    (tagOf g reads y [out.map Prod.fst], (out.filter (fun o => o.2 = 1)).length, (out.filter (fun o => o.2 = 2)).length)

/-- The 17 points of the threshold curve (R133). -/
def snrPoints (f : FrameInfo) (c : Nat) : List Nat :=
  (upto 17).map (fun i =>
    let w := prm f (if i = 16 then rCTX_SNR_THR8 c else rCTX_SNR_THR c (i / 2))
    if i % 2 = 0 then fld w 15 0 else fld w 31 16)

/-- Spatial noise reduction of row `y` (R133). -/
def snrRow (f : FrameInfo) (c : Nat) (g : Int → Line) (y : Nat) : Line :=
  let mono := isMono f c
  let px := p0 (g y)
  let str := prmF f (rCTX_SNR c) 7 0
  if prmB f (rCTX_BYPASS c) 2 ∨ str = 0 then tagOf g [0] y [px]
  else
    let pts := snrPoints f c
    let offs : List Int := if mono then [-2, -1, 0, 1, 2] else [-2, 0, 2]
    let rows := offs.map (fun dy => p0 (g ((y : Int) + dy)))
    tagOf g offs y [(upto px.length).map (fun (x : Nat) =>
      let win := rows.flatMap (fun r => offs.map (fun dx => rowAt mono r ((x : Int) + dx)))
      snrPixel win (px.getD x 0) (snrThr pts (px.getD x 0)) str)]

/-- Gain `i` of the shading table of a Bayer position (R135, R157). -/
def shadePoint (f : FrameInfo) (c p i : Nat) : Nat :=
  let w := prm f (rCTX_SHADE c p (i / 2))
  if i % 2 = 0 then fld w 15 0 else fld w 31 16

/-- Lens shading and white balance of a row (R135). -/
def shadeRow (f : FrameInfo) (c : Nat) (l : Line) : Line :=
  let mono := isMono f c
  let px := p0 l
  { l with planes := [(upto px.length).map (fun x =>
      let p := if mono then 0 else bayerPos l.idx x
      let v := px.getD x 0
      let v :=
        if prmB f (rCTX_BYPASS c) 4 then v
        else if f.area then gain12 v (shadeArea (shadePoint f c p) f.width f.height x l.idx)
        else gain12 v (shadeLine (shadePoint f c p) f.width x)
      if prmB f (rCTX_BYPASS c) 5 ∨ mono then v
      else gain12 v (pairHalf f (rCTX_WB01 c) (rCTX_WB23 c) p))] }

/-- Demosaic of row `y` (R136); MONO passes, and a line that already has three planes passes (R141). -/
def dmsRow (f : FrameInfo) (c : Nat) (g : Int → Line) (y : Nat) : Line :=
  let l := g y
  if isMono f c ∨ l.planes.length = 3 then tagOf g [0] y l.planes
  else
    let px := p0 l
    if prmB f (rCTX_BYPASS c) 6 then tagOf g [0] y [px, px, px]
    else
      let t := prmF f (rCTX_DMS c) 15 0
      let ph := prmF f (rCTX_CFG c) 3 2
      let rows := (upto 5).map (fun k => p0 (g ((y : Int) + k - 2)))
      let out := (upto px.length).map (fun x =>
        demosaicPixel ph (bayerPos y x) t (fun a b => rowAt false (rows.getD (b + 2).toNat []) ((x : Int) + a)))
      tagOf g [-2, -1, 0, 1, 2] y [out.map (fun o => o.1), out.map (fun o => o.2.1), out.map (fun o => o.2.2)]

/-- The nine coefficients held in five registers (R157). -/
def coeffs (f : FrameInfo) (r0 : Nat) : List Int :=
  let lo (k : Nat) : Int := sext 16 (prmF f (r0 + 4 * k) 15 0)
  let hi (k : Nat) : Int := sext 16 (prmF f (r0 + 4 * k) 31 16)
  [lo 0, hi 0, lo 1, hi 1, lo 2, hi 2, lo 3, hi 3, lo 4]

/-- A row of three planes, pixel by pixel. -/
def mapRgb (l : Line) (f : Nat → Nat → Nat → Nat × Nat × Nat) : Line :=
  let r := l.planes.getD 0 []
  let g := l.planes.getD 1 []
  let b := l.planes.getD 2 []
  let o := (upto r.length).map (fun x => f (r.getD x 0) (g.getD x 0) (b.getD x 0))
  { l with planes := [o.map (fun q => q.1), o.map (fun q => q.2.1), o.map (fun q => q.2.2)] }

/-- Colour matrix (R137). -/
def ccmRow (f : FrameInfo) (c : Nat) (l : Line) : Line :=
  if prmB f (rCTX_BYPASS c) 7 ∨ isMono f c ∨ l.planes.length ≠ 3 then l
  else
    let m := coeffs f (rCTX_CCM0 c)
    let o01 := prm f (rCTX_CCM_OFF01 c)
    let o (i : Nat) : Int := if i = 0 then sext 16 (fld o01 15 0) else if i = 1 then sext 16 (fld o01 31 16)
      else sext 16 (prmF f (rCTX_CCM_OFF2 c) 15 0)
    mapRgb l (fun r g b => (matRow (m.take 3) r g b (o 0), matRow ((m.drop 3).take 3) r g b (o 1),
      matRow (m.drop 6) r g b (o 2)))

/-- Point `i` of the tone curve of channel `ch` (R138, R157). -/
def tonePoint (f : FrameInfo) (c ch i : Nat) : Nat :=
  let ch := if prmB f (rCTX_TONE c) 0 then 0 else ch
  if 1024 ≤ i then prmF f (rCTX_TONE_LAST c ch) 15 0
  else
    let w := prm f (rCTX_TONE_PT c ch (i / 2))
    if i % 2 = 0 then fld w 15 0 else fld w 31 16

/-- Tone curves (R138). -/
def toneRow (f : FrameInfo) (c : Nat) (l : Line) : Line :=
  if prmB f (rCTX_BYPASS c) 8 then l
  else { l with planes := (upto l.planes.length).map (fun ch => (l.planes.getD ch []).map (toneAt (tonePoint f c ch))) }

/-- Colour conversion: Y, Cb and Cr; a MONO context's is the same whatever its bypass bit holds (R126, R139). -/
def cscRow (f : FrameInfo) (c : Nat) (l : Line) : Line :=
  let k := prm f (rCTX_CSC c)
  let by_ := prmB f (rCTX_BYPASS c) 9
  let lim (q : Nat × Nat × Nat) : Nat × Nat × Nat := if bit k 2 then (limitY q.1, limitC q.2.1, limitC q.2.2) else q
  if isMono f c ∨ l.planes.length ≠ 3 then
    let y := p0 l
    mapRgb { l with planes := [y, y.map (fun _ => 32768), y.map (fun _ => 32768)] }
      (fun a b d => lim (a, b, d))
  else if by_ then l
  else
    let m := if fld k 1 0 = 3 then coeffs f (rCTX_CSC_M0 c) else cscMatrix (fld k 1 0)
    mapRgb l (fun r g b => lim (matRow (m.take 3) r g b 0, matRow ((m.drop 3).take 3) r g b 32768,
      matRow (m.drop 6) r g b 32768))

/-! ### Outputs (R144 to R149, R151) -/

/-- Bytes into a ring of `size` bytes at `base`, from position `pos`, wrapping. -/
def ringStore (g : Agent) (base size pos : Nat) (bs : List Byte) (dirty : Bool) (s : State) : State :=
  let o := pos % size
  let n := min bs.length (size - o)
  let s := devPut g (base + o) (bs.take n) dirty s
  if n < bs.length then devPut g base (bs.drop n) dirty s else s

/-- Output `o` of the frame. -/
def outSt (pf : PipeFrame) (o : Nat) : OutSt :=
  match o with | 0 => pf.out0 | 1 => pf.out1 | 2 => pf.out2 | _ => pf.out3
def setOutSt (o : Nat) (x : OutSt) (pf : PipeFrame) : PipeFrame :=
  match o with
  | 0 => { pf with out0 := x } | 1 => { pf with out1 := x } | 2 => { pf with out2 := x } | _ => { pf with out3 := x }

/-- A line padded to its stride. -/
def padLine (bs : List Byte) : List Byte := padTo ((bs.length + 63) / 64 * 64) bs

/-- Do `n` bytes of CAPTURE-class DRAM writes fit into the staging ring of the context's pipe (R151)? -/
def ringFits (s : State) (c n : Nat) : Bool :=
  decide (tget 0 s.stage (ctxPipe s c) + n ≤ rdn s (rPIPE_STAGE (ctxPipe s c)) * 1024)
/-- The same of an output or reference write: only a live context's are of class CAPTURE (R125). -/
def stageFits (s : State) (c n : Nat) : Bool := decide (ctxKind s c = 2) || ringFits s c n

/-- The staging ring takes `n` bytes; the high-water mark follows in KiB. -/
def ringTake (c n : Nat) (s : State) : State :=
  let p := ctxPipe s c
  let m := tget 0 s.stage p + n
  let s := { s with stage := tput 0 s.stage p m }
  wrn (rPIPE_STAGE_HWM p) (max (rdn s (rPIPE_STAGE_HWM p)) ((m + 1023) / 1024)) s
/-- The same of an output or reference write. -/
def stageTake (c n : Nat) (s : State) : State := if ctxKind s c = 2 then s else ringTake c n s

/-- The regulator has drained bytes of a pipe's staging ring. -/
def stageDrain (p n : Nat) (s : State) : State := { s with stage := tput 0 s.stage p (tget 0 s.stage p - n) }

/-- A line does not fit in the staging ring: the DRAM outputs of the frame end (R151). -/
def stageDrop (c : Nat) (s : State) : State :=
  let pf := pframe s c
  if nbit pf.flags gSTAGE_DROP then s
  else
    let pf := (upto 4).foldl (fun pf o => setOutSt o { outSt pf o with dead := true } pf) pf
    let s := pipeFlag c gTRUNCATED (pipeFlag c gSTAGE_DROP (setPframe c pf s))
    raiseE 56 3 (bump (rCTX_CNT c 7) 1 s)

/-- Base, size and register values of output `o`'s ring. -/
def outSize (f : FrameInfo) (c o : Nat) : Nat := 2 ^ prmF f (rCTX_OUT_CFG c o) 6 2
def outBase (f : FrameInfo) (c o : Nat) : Nat := prmAddr f (rCTX_OUT_BASE_LO c o) / outSize f c o * outSize f c o

/-- RELEASE as the output sees it: above WRITTEN it acts as WRITTEN (R145). -/
def outRelease (s : State) (c o : Nat) : Nat := min (rd64 s (rCTX_OUT_RELEASE_LO c o)) (rd64 s (rCTX_OUT_WRITTEN_LO c o))

/-- The ring of output `o` is full: the rest of the frame is dropped on it (R145). -/
def outFull (c o : Nat) (s : State) : State :=
  let pf := pframe s c
  let s := setPframe c (setOutSt o { outSt pf o with dead := true } pf) s
  raiseE 54 3 (bump (rCTX_CNT c 4) 1 (pipeFlag c gTRUNCATED (pipeFlag c (gOUT_FULL + o) s)))

/-- One line of output `o`, with its planes, at the write position (R144, R145). -/
def outLine (c o : Nat) (planes : List (List Byte)) (s : State) : State :=
  let pf := pframe s c
  let x := outSt pf o
  if !x.on ∨ x.dead then s
  else
    let f := pf.info
    let size := outSize f c o
    let base := outBase f c o
    let pos := rd64 s (rCTX_OUT_WRITTEN_LO c o)
    let bs := planes.map padLine
    let n := (bs.headD []).length
    let all := bs.length * n
    if prmB f (rCTX_OUT_CFG c o) 1 ∧ outRelease s c o + size < pos + n then outFull c o s
    else if !stageFits s c all then stageDrop c s
    else
      let g := pipeAgent s c
      let s := stageTake c all s
      let s := forAll (upto bs.length) (fun q s => ringStore g (base + q * size) size pos (bs.getD q []) false s) s
      let pf := pframe s c
      wr64 (rCTX_OUT_WRITTEN_LO c o) (pos + n)
        (setPframe c (setOutSt o { outSt pf o with lines := (outSt pf o).lines + 1 } pf) s)

/-- One display line of the box sums (R146). -/
def dispBytes (fmt rows : Nat) (sums : List (Nat × Nat × Nat)) (w : Nat) : List Byte :=
  let ow := sums.length
  (upto ow).flatMap (fun x =>
    let q := sums.getD x (0, 0, 0)
    -- input columns whose centres lie in the box
    let cnt := ((upto w).filter (fun i => decide (2 * x * w ≤ (2 * i + 1) * ow ∧ (2 * i + 1) * ow < 2 * (x + 1) * w))).length
    let m (v : Nat) : Nat := rndDiv v (cnt * rows)
    if fmt = 0 then [BitVec.ofNat 8 (toBits 8 (m q.1)), BitVec.ofNat 8 (toBits 8 (m q.2.1)), BitVec.ofNat 8 (toBits 8 (m q.2.2))]
    else leBytes 2 (toBits 5 (m q.1) * 2048 + toBits 6 (m q.2.1) * 32 + toBits 5 (m q.2.2)))

/-- The display line of the box that is complete. -/
def dispEmit (c : Nat) (s : State) : State :=
  let pf := pframe s c
  let d := pf.disp
  let f := pf.info
  let s := setPframe c { pf with disp := { y := d.y + 1 } } s
  if 2160 ≤ d.y then pipeFlag c gDISP_CLIPPED s
  else outLine c 0 [dispBytes (prmF f (rCTX_OUT_CFG c 0) 10 8) d.rows d.sums f.width] s

/-- The display output takes a line at T4 (R146). -/
def dispLine (c : Nat) (l : Line) (s : State) : State :=
  let pf := pframe s c
  if !pf.out0.on then s
  else
    let f := pf.info
    let vs := prmF f (rCTX_DISP_SCALE c) 27 16
    let ow := prmF f (rCTX_DISP_SCALE c) 11 0
    let y := (2 * l.idx + 1) * 128 / vs
    let s := if pf.disp.y < y then dispEmit c s else s
    let pf := pframe s c
    let r := l.planes.getD 0 []
    let g := if l.planes.length = 3 then l.planes.getD 1 [] else r
    let b := if l.planes.length = 3 then l.planes.getD 2 [] else r
    let w := f.width
    let sum (p : List Nat) (x : Nat) : Nat := (upto w).foldl (fun a i =>
      if 2 * x * w ≤ (2 * i + 1) * ow ∧ (2 * i + 1) * ow < 2 * (x + 1) * w then a + p.getD i 0 else a) 0
    let sums := (upto ow).map (fun x =>
      let o := pf.disp.sums.getD x (0, 0, 0)
      (o.1 + sum r x, o.2.1 + sum g x, o.2.2 + sum b x))
    let s := setPframe c { pf with disp := { pf.disp with rows := pf.disp.rows + 1, sums := sums } } s
    if ((pframe s c).disp.y + 1) * vs ≤ (l.idx + 1) * 256 then dispEmit c s else s

/-- A row made even by repeating its last sample. -/
def evenRow (r : List Nat) : List Nat := if r.length % 2 = 0 then r else r ++ [r.getLastD 0]

/-- A sample of the coding output: NV12 or P010 (R147). -/
def codingBytes (fmt : Nat) (v : Nat) : List Byte :=
  if fmt = 0 then [BitVec.ofNat 8 (toBits 8 v)] else leBytes 2 (toBits 10 v * 64)

/-- The chroma line of two rows of Cb and Cr. -/
def chromaBytes (fmt : Nat) (a b : List (List Nat)) : List Byte :=
  let cb0 := evenRow (a.getD 1 [])
  let cb1 := evenRow (b.getD 1 [])
  let cr0 := evenRow (a.getD 2 [])
  let cr1 := evenRow (b.getD 2 [])
  let m (p q : List Nat) (x : Nat) : Nat :=
    rndDiv (p.getD (2 * x) 0 + p.getD (2 * x + 1) 0 + q.getD (2 * x) 0 + q.getD (2 * x + 1) 0) 4
  (upto (cb0.length / 2)).flatMap (fun x => codingBytes fmt (m cb0 cb1 x) ++ codingBytes fmt (m cr0 cr1 x))

/-- The coding output takes a converted line; chroma goes with every second one (R147). -/
def codingLine (c : Nat) (ycc : List (List Nat)) (s : State) : State :=
  let pf := pframe s c
  if !pf.out1.on then s
  else
    let fmt := prmF pf.info (rCTX_OUT_CFG c 1) 10 8
    let luma := (evenRow (ycc.getD 0 [])).flatMap (codingBytes fmt)
    if pf.chroma.isEmpty then outLine c 1 [luma] (setPframe c { pf with chroma := ycc } s)
    else
      -- the chroma line lies at half the frame offset of its even luma line
      let ch := chromaBytes fmt pf.chroma ycc
      let s := setPframe c { pf with chroma := [] } s
      let before := rd64 s (rCTX_OUT_WRITTEN_LO c 1)
      let s := outLine c 1 [luma] s
      let pf := pframe s c
      if rd64 s (rCTX_OUT_WRITTEN_LO c 1) = before ∨ pf.out1.dead then s
      else
        let n := (padLine luma).length
        let cl := padLine ch
        if !stageFits s c cl.length then stageDrop c s
        else
          let size := outSize pf.info c 1
          ringStore (pipeAgent s c) (outBase pf.info c 1 + size) (size / 2) ((before - n) / 2) cl false (stageTake c cl.length s)

/-- A sample of the machine-vision output (R148). -/
def mvBytes (fmt v : Nat) : List Byte :=
  match fmt with | 0 => [BitVec.ofNat 8 (toBits 8 v)] | 1 => leBytes 2 (toBits 10 v) | _ => leBytes 2 v

/-- The band ends: its header, then FULL_SEM (R150). -/
def bandClose (c : Nat) (last : Bool) (s : State) : State :=
  let pf := pframe s c
  let b := pf.band
  if !b.active then s
  else
    let f := pf.info
    let s := setPframe c { pf with band := { b with active := false, dropped := false, count := b.count + b2n (!b.dropped) } } s
    if b.dropped then s
    else
      let fl := b2n last + 2 * b2n (last && nbit pf.flags gTRUNCATED) + 4 * b2n b.malformed + 8 * b2n b.poison
        + 16 * b2n f.frontTrunc
      let h := leBytes 4 f.frame ++ leBytes 2 b.index ++ leBytes 2 b.lines ++ leBytes 4 b.first ++ leBytes 2 fl
        ++ leBytes 1 c ++ leBytes 1 0 ++ leBytes 8 f.dtime ++ zeros 40
      let slot := (pctx s c).bandSlot
      let s := devPut (pipeAgent s c) (bandSlotAddr f c slot) h false s
      let n := prmF f (rCTX_BAND c) 4 1 + 1
      let s := setPctx c { pctx s c with bandSlot := (slot + 1) % n } s
      semRelease (prmF f (rCTX_BAND_SEM c) 9 0) 1 s

/-- A line of the machine-vision output goes into its band (R150). -/
def bandLine (c : Nat) (l : Line) (planes : List (List Byte)) (s : State) : State :=
  let pf := pframe s c
  let f := pf.info
  if !prmB f (rCTX_BAND c) 0 then s
  else
    let n := prmF f (rCTX_BAND c) 31 16
    let s := if l.idx % n = 0 then bandClose c false s else s
    let s :=
      if (pframe s c).band.active then s
      else
        let sem_ := prmF f (rCTX_BAND_SEM c) 25 16
        let empty := decide ((sem s sem_).count = 0)
        let s := if empty then bump (rCTX_CNT c 5) 1 (pipeFlag c gBAND_DROP s) else semTake sem_ s
        let b := (pframe s c).band
        let s := if empty ∧ !b.e55 then raiseE 55 3 s else s
        setPframe c { pframe s c with band := { b with
          active := true, dropped := empty, index := l.idx / n, first := l.idx, lines := 0, malformed := false,
          poison := false, e55 := b.e55 || empty } } s
    let pf := pframe s c
    let b := pf.band
    let s := setPframe c { pf with band := { b with
      lines := b.lines + 1, malformed := b.malformed || l.short || l.long, poison := b.poison || l.poison } } s
    if b.dropped then s
    else
      let st := mvStride f c
      let a := bandSlotAddr f c (pctx s c).bandSlot + 64
      forAll (upto planes.length) (fun q s =>
        devPut (pipeAgent s c) (a + (q * n + (l.idx - b.first)) * st) (padLine (planes.getD q [])) l.poison s) s

/-- The machine-vision output takes a line: the ring and the bands (R148, R150). -/
def mvLine (c : Nat) (l : Line) (y : List Nat) (s : State) : State :=
  let pf := pframe s c
  if !pf.out2.on then s
  else
    let fmt := prmF pf.info (rCTX_OUT_CFG c 2) 10 8
    let src := if mvPlanes pf.info c = 3 then l.planes else [y]
    let planes := src.map (fun r => r.flatMap (mvBytes fmt))
    let s := outLine c 2 planes s
    if nbit (pframe s c).flags (gOUT_FULL + 2) then s else bandLine c l planes s

/-- The raw output takes a row (R149). -/
def rawOut (c : Nat) (l : Line) (s : State) : State := outLine c 3 [(p0 l).flatMap (leBytes 2)] s

/-! ### Lines through the taps -/

/-- A line is kept for the statistics unit or the extractor at its tap (R158, R159). -/
def measLine (c t : Nat) (l : Line) (s : State) : State :=
  let pf := pframe s c
  let f := pf.info
  let st := prmB f (rSTAT_CFG c) 0 && decide ((statTap pf c).1 = t)
  let px := decide (t = 0) && prmB f (rPX_CFG c) 0
  if st || px then
    setPframe c { pf with statRows := if st then pf.statRows ++ [l] else pf.statRows,
                          pxRows := if px then pf.pxRows ++ [l] else pf.pxRows } s
  else s

/-- A line at T4: statistics, display, colour conversion, coding and machine vision. -/
def emit4 (c : Nat) (l : Line) (s : State) : State :=
  let f := (pframe s c).info
  let s := measLine c 4 l s
  let s := dispLine c l s
  let ycc := cscRow f c l
  mvLine c l (p0 ycc) (codingLine c ycc.planes s)

/-- The stages between T3 and T4. -/
def stage4 (c : Nat) (l : Line) (s : State) : State :=
  let pf := pframe s c
  emit4 c (if spliced pf c 4 then l else toneRow pf.info c l) s

/-- A poisoned line marks its frame (R154). -/
def notePoison (c : Nat) (l : Line) (s : State) : State := if l.poison then pipeFlag c gPOISONED s else s

/-- The Sector engine is handed a line or a marker of a splice (R142). -/
def splicePush (c : Nat) (x : PipeItem) (s : State) : State :=
  { s with spliceTurn := s.spliceTurn + 1, spliceq := tput [] s.spliceq c (tget [] s.spliceq c ++ [(s.spliceTurn, x)]) }

/-- A line at tap `t`: measurement, and the hand-over where the splice leaves the pipe (R140 to R142). Answers the lines
that go on down the pipe: none where the Sector engine replaces the stages. -/
def atTap (c t : Nat) (l : Line) (s : State) : State × List Line :=
  let s := notePoison c l (if t = 4 then s else measLine c t l s)
  let pf := pframe s c
  if pf.splice ∧ splOut pf.info c = t then
    let s := splicePush c (.line l) (setPframe c { pf with sent := pf.sent + 1 } s)
    if splTee pf.info c then (s, [l]) else (s, [])
  else (s, [l])

/-- Lines from T3 on. -/
def from3 (c : Nat) (l : Line) (s : State) : State :=
  let r := atTap c 3 l s
  forAll r.2 (fun l s =>
    let pf := pframe s c
    let l := if spliced pf c 4 then l else toneRow pf.info c l
    let q := atTap c 4 l s
    forAll q.2 (emit4 c) q.1) r.1

/-- The demosaic stage and the colour matrix take a row, or the frame's end. -/
def stage3 (c : Nat) (x : Option Line) (s : State) : State :=
  let pf := pframe s c
  let mono := isMono pf.info c
  let r := vstage mono s.free 2 (dmsRow pf.info c) x pf.dms
  let s := setPframe c { pf with dms := r.2 } (if x.isNone then useRowFree mono pf.dms s else s)
  forAll (r.1.map (ccmRow pf.info c)) (from3 c) s

/-- Lines from T2 on. -/
def from2 (c : Nat) (l : Line) (s : State) : State :=
  let r := atTap c 2 l s
  forAll r.2 (fun l s => stage3 c (some l) s) r.1

/-- The reference samples of a row (R134). -/
def refAddr (f : FrameInfo) (c y : Nat) : Nat := prmAddr f (rCTX_TNR_REF_LO c) + y * ((f.width * 2 + 63) / 64 * 64)

/-- Does temporal noise reduction run in the frame: an area frame, its bit clear, and no splice in its place (R126, R134,
R140)? -/
def tnrOn (pf : PipeFrame) (c : Nat) : Bool := pf.info.area && !prmB pf.info (rCTX_BYPASS c) 3 && !spliced pf c 2

/-- Temporal noise reduction of one row: reads the reference, writes the new one (R134). -/
def tnrRow (c : Nat) (l : Line) (s : State) : Line × State :=
  let pf := pframe s c
  let f := pf.info
  if !tnrOn pf c then (l, s)
  else
    let a := refAddr f c l.idx
    let g := pipeAgent s c
    let px := p0 l
    let rd_ := if pf.refOk then devRead g a (f.width * 2) s else ({}, s)
    let s := rd_.2
    let m := prm f (rCTX_TNR_MOT c)
    let amax := prmF f (rCTX_TNR c) 7 0
    let ref (x : Nat) : Option Nat := if pf.refOk ∧ !rd_.1.err then some (leAt (2 * x) 2 rd_.1.data) else none
    let out := (upto px.length).map (fun x => tnrPixel amax (fld m 15 0) (fld m 31 16) (px.getD x 0) (ref x))
    let bs := out.flatMap (leBytes 2)
    let s :=
      if nbit (pframe s c).flags gSTAGE_DROP then s
      else if stageFits s c bs.length then devPut g a bs false (stageTake c bs.length s)
      else stageDrop c s
    ({ l with planes := [out], poison := l.poison || rd_.1.poison }, s)

/-- Lines from T1 on: temporal noise reduction, shading, white balance. -/
def from1 (c : Nat) (l : Line) (s : State) : State :=
  let r := atTap c 1 l s
  forAll r.2 (fun l s =>
    let q := tnrRow c l s
    from2 c (shadeRow (pframe q.2 c).info c q.1) q.2) r.1

/-- Spatial noise reduction takes a row, or the frame's end. -/
def stage1 (c : Nat) (x : Option Line) (s : State) : State :=
  let pf := pframe s c
  let mono := isMono pf.info c
  let r := vstage mono s.free 2 (snrRow pf.info c) x pf.snr
  let s := setPframe c { pf with snr := r.2 } (if x.isNone then useRowFree mono pf.snr s else s)
  forAll r.1 (from1 c) s

/-- Lines from T0 on. -/
def from0 (c : Nat) (l : Line) (s : State) : State :=
  let f := (pframe s c).info
  let s := if prmB f (rCTX_OUT_CFG c 3) 12 then rawOut c l s else s
  let r := atTap c 0 l s
  forAll r.2 (fun l s => stage1 c (some l) s) r.1

/-- Input format, black level and defect correction take a row, or the frame's end. -/
def stage0 (c : Nat) (x : Option Line) (s : State) : State :=
  let pf := pframe s c
  let f := pf.info
  let mono := isMono f c
  let x := x.map (formatRow f)
  let s := match x with
    | some l => if prmB f (rCTX_OUT_CFG c 3) 12 then s else rawOut c l s
    | none => s
  let pf := pframe s c
  let r := vstage mono s.free (if mono then 1 else 2) (dpcRow pf c) (x.map (blackRow f c)) pf.dpc
  let s := if x.isNone then useRowFree mono pf.dpc s else s
  let dyn := r.1.foldl (fun a o => a + o.2.1) 0
  let sta := r.1.foldl (fun a o => a + o.2.2) 0
  let s := setPframe c { pf with dpc := r.2, defects := pf.defects + dyn + sta } s
  let s := bump (rCTX_CNT c 2) dyn (bump (rCTX_CNT c 3) sta s)
  forAll (r.1.map Prod.fst) (from0 c) s

/-- A line that returns from the Sector engine goes on at RET_TAP (R140, R142). -/
def returnAt (c : Nat) (l : Line) (s : State) : State :=
  let s := notePoison c l s
  let t := splRet (pframe s c).info c
  -- the measurement units see the returned samples
  let s := if t = 4 then s else measLine c t l s
  match t with
  | 1 =>
    let q := tnrRow c l s
    from2 c (shadeRow (pframe q.2 c).info c q.1) q.2
  | 2 => stage3 c (some l) s
  | 3 => stage4 c l s
  | _ => emit4 c l s

/-- The frame's end goes through the stages up to tap `t`, emptying each window (R128, R142). -/
def flushTo (c t : Nat) (s : State) : State :=
  let s := stage0 c none s
  let s := if 1 ≤ t then stage1 c none s else s
  if 3 ≤ t then stage3 c none s else s

/-- The frame's end goes through the stages after the return tap. -/
def flushAfter (c t : Nat) (s : State) : State := if t ≤ 2 then stage3 c none s else s

/-! ### Frames in a pipe -/

/-- The static defect list is read once per frame: columns, pixels, and entries ignored (R132). -/
def dpcParse (f : FrameInfo) (l : List Byte) : Nat → Nat → Bool → Nat × Nat → List Nat × List (Nat × Nat) × Nat
  | 0, _, _, _ => ([], [], 0)
  | k + 1, i, px, last =>
    let e := leAt (4 * i) 4 l
    let col := nfld e 13 0
    let row := nfld e 29 14
    if nbit e 30 then
      if px ∨ f.width ≤ col then
        let t := dpcParse f l k (i + 1) px last
        (t.1, t.2.1, t.2.2 + 1)
      else
        let t := dpcParse f l k (i + 1) px last
        (col :: t.1, t.2.1, t.2.2)
    else if !f.area then dpcParse f l k (i + 1) true last
    else if f.width ≤ col ∨ f.height ≤ row ∨ (px ∧ ¬ (last.1 < row ∨ (last.1 = row ∧ last.2 < col))) then
      let t := dpcParse f l k (i + 1) px last
      (t.1, t.2.1, t.2.2 + 1)
    else
      let t := dpcParse f l k (i + 1) true (row, col)
      (t.1, (row, col) :: t.2.1, t.2.2)

/-- Are all clusters that serve a context's splice ready to take its lines: D2 in RUN, each available, its chain fitting
(R143, R193)? `fit` is the chain check, given by the Sector engine's registers. -/
def clustersReady (s : State) (c : Nat) : Bool :=
  let m := nfld (route s c) 11 8
  nbit (route s c) 7 && decide (m ≠ 0) && domOk s 2 &&
    (upto 4).all (fun k => !nbit m k || (rdB s (rSC_STATUS k) 3 && !rdB s (rSC_STATUS k) 4))

/-- A frame's marker reaches the pipe (R129, R143, R144, R153). `chainFits` says whether the context's chain fits its
splice (R193). -/
def beginFrame (c : Nat) (f : FrameInfo) (chainFits : Bool) (s : State) : State :=
  let bad := setInvalid s c f
  let want := splEn f c && !bad
  let ready := clustersReady s c && chainFits
  let x := pctx s c
  let lostNow := want && !ready
  let s := if lostNow ∧ !x.spliceLost then raiseE 53 3 (bump (rCTX_CNT c 6) 1 s) else s
  let fall := lostNow && splFallback f c
  let dead := bad || (lostNow && !splFallback f c)
  let refOk := decide (x.ref = some (f.width, f.height))
  let s := wrB (rCTX_STATUS c) 2 bad (wrB (rCTX_STATUS c) 3 fall (setCtxState c 2 s))
  let s := if bad then raiseE 57 3 s else s
  let on (o : Nat) : Bool := prmB f (rCTX_OUT_CFG c o) 0
  -- a frame starts at WRITTEN rounded up to 4 KiB
  let s := forAll (upto 4) (fun o s =>
    if on o ∧ !dead then
      wr64 (rCTX_OUT_WRITTEN_LO c o) ((rd64 s (rCTX_OUT_WRITTEN_LO c o) + 4095) / 4096 * 4096) s
    else s) s
  let ost (o : Nat) : OutSt := { on := on o, dead := dead, start := rd64 s (rCTX_OUT_WRITTEN_LO c o) }
  let pf : PipeFrame := {
    info := f,
    flags := (if bad then 2 ^ gCFG_INVALID else 0) ||| (if lostNow ∧ !fall then 2 ^ gSPLICE_LOST else 0)
      ||| (if fall then 2 ^ gFALLBACK else 0),
    whole := dead, splice := want && ready, refOk := refOk,
    out0 := ost 0, out1 := ost 1, out2 := ost 2, out3 := ost 3 }
  let pf := { pf with moved := (statTap pf c).2,
                      flags := pf.flags ||| (if tnrOn pf c ∧ !refOk ∧ !dead then 2 ^ gTNR_NOREF else 0) }
  let s := setPctx c { pctx s c with frame := some pf, spliceLost := lostNow } s
  let s := if pf.splice then splicePush c (.start f) s else s
  if !dead ∧ prmB f (rCTX_DPC c) 1 ∧ !prmB f (rCTX_BYPASS c) 1 then
    let n := min 16384 (prmF f (rCTX_DPC_LIST_HI c) 30 16)
    let a := (prmF f (rCTX_DPC_LIST_LO c) 31 2 * 4) + 2 ^ 32 * prmF f (rCTX_DPC_LIST_HI c) 15 0
    let r := devRead (pipeAgent s c) a (n * 4) s
    let e := dpcParse f r.1.data (if r.1.err then 0 else n) 0 false (0, 0)
    bump (rCTX_CNT c 8) e.2.2 (setPframe c { pframe r.2 c with badCols := e.1, badPix := e.2.1 } r.2)
  else s

/-- The context's frame record (R155), the measurement units' records due, and the end of the frame. -/
def closeCtx (c : Nat) (s : State) : State :=
  let pf := pframe s c
  let f := pf.info
  -- luma of an odd line count is made even by repeating the last line (R147)
  let s := if pf.chroma.isEmpty then s else codingLine c pf.chroma s
  let s := bandClose c true s
  let pf := pframe s c
  let off (o : Nat) : Nat := if (outSt pf o).on then (outSt pf o).start % outSize f c o else 0xFFFFFFFF
  let n (o : Nat) : Nat := satN 16 (outSt pf o).lines
  let q := rdn s (rCTX_FR_NEXT c)
  let s := wrWords (rCTX_REC c ((q % 64) * 16))
    [q, c + pf.portFlags * 0x10000, pf.flags + f.width % 65536 * 0x10000, f.frame, f.dtime % 2 ^ 32, f.dtime / 2 ^ 32,
      off 0, off 1, off 2, off 3, n 0 + n 1 * 0x10000, n 2 + n 3 * 0x10000,
      satN 16 pf.linesIn + pf.band.count % 65536 * 0x10000, pf.defects % 2 ^ 32, 0, 0] s
  let s := bump (rCTX_CNT c 0) 1 (wrn (rCTX_FR_NEXT c) (q + 1) s)
  let cut := nbit pf.flags gTRUNCATED
  let x := pctx s c
  let mf (rows : List Line) (sp : Bool) : MeasFrame :=
    { info := f, rows := rows, px := pf.pxRows, truncated := cut, poisoned := rows.any (fun l => l.poison) || pf.pxRows.any (fun l => l.poison), spliced := sp,
      invalid := nbit pf.flags gCFG_INVALID }
  let s := setPctx c { x with
    frame := none,
    ref := if tnrOn pf c ∧ !cut ∧ !pf.whole then some (f.width, f.height) else none,
    statDue := if prmB f (rSTAT_CFG c) 0 then x.statDue ++ [mf pf.statRows pf.moved] else x.statDue,
    pxDue := if prmB f (rPX_CFG c) 0 then x.pxDue ++ [mf [] false] else x.pxDue } s
  let s := wrB (rCTX_STATUS c) 3 false (setCtxState c (if ctxOn s c then 1 else 0) s)
  if ctxKind s c = 2 then wrB (rCTX_M2M_GO c) 0 false s else s

/-- The splice of a context is lost: the remainder of the frame is dropped on every output, and the frame closes (R143, R196). Its
record carries the FLAGS of the port's record, so that a live frame whose end marker is still to come is recorded with it; a
memory-to-memory frame has no further lines on their way (R155). -/
def loseSplice (c : Nat) (s : State) : State :=
  let s := { s with spliceq := tput [] s.spliceq c [], secCtx := tput {} s.secCtx c {} }
  match (pctx s c).frame with
  | none => s
  | some pf =>
    if !pf.splice then s
    else
      let pf := (upto 4).foldl (fun pf o => setOutSt o { outSt pf o with dead := true } pf) { pf with chroma := [] }
      let s := pipeFlag c gTRUNCATED (pipeFlag c gSPLICE_LOST (setPframe c { pf with splice := false, lost := true, whole := true } s))
      let s := raiseE 53 3 (bump (rCTX_CNT c 6) 1 (bandClose c true s))
      let s := setPctx c { pctx s c with spliceLost := true, m2m := none } s
      if pf.ended || decide (ctxKind s c = 2) then closeCtx c s else setCtxState c 3 s

/-! ### The order of lines (R124) -/

/-- The line that a context has ready for its pipe, past a start marker. -/
def readyLine (s : State) (c : Nat) : Bool :=
  match (pctx s c).frame, pipeQueue s c with
  | some pf, .line _ :: _ => !pf.ended
  | none, .start _ :: .line _ :: _ => true
  | _, _ => false

/-- Has a memory-to-memory context a line to start? -/
def readyM2m (s : State) (c : Nat) : Bool := decide (ctxKind s c = 2) && (pctx s c).m2m.isSome

/-- Among contexts of pipe `p` that satisfy `ok`, the one that has waited longest since its last start (R124). -/
def longest (s : State) (p : Nat) (ok : Nat → Bool) : Option Nat :=
  (upto 16).foldl (fun best c =>
    if ctxKind s c ≠ 0 ∧ ctxPipe s c = p ∧ ok c then
      match best with
      | none => some c
      | some b => if (pctx s c).lastStart < (pctx s b).lastStart then some c else best
    else best) none

/-- A line of a context starts: counters, turn order, cycles of the first stage (R123, R156). -/
def startLine (c : Nat) (s : State) : State :=
  let p := ctxPipe s c
  let n := tget 0 s.pipeTurn p + 1
  let s := { s with pipeTurn := tput 0 s.pipeTurn p n }
  let s := setPctx c { pctx s c with lastStart := n } s
  let pf := pframe s c
  bump (rCTX_CNT c 1) 1 (bumpW (rPIPE_BUSY p) ((pf.info.width + 1) / 2) (setPframe c { pf with linesIn := pf.linesIn + 1 } s))

/-- One line of the frame goes through the pipe; a frame that is dropped whole only takes it off the queue. -/
def pipeLine (c : Nat) (l : Line) (s : State) : State :=
  let s := startLine c s
  if (pframe s c).whole then s else stage0 c (some l) s

/-- A source line of a memory-to-memory frame is read (R125). -/
def m2mRead (c y : Nat) (s : State) : Line × State :=
  let f := (pframe s c).info
  let b := if f.bits = 8 then 1 else 2
  let st := (f.width * b + 63) / 64 * 64
  let r := devRead (pipeAgent s c) (prmAddr f (rCTX_M2M_SRC_LO c) / 64 * 64 + y * st) (f.width * b) s
  ({ planes := [(upto f.width).map (fun x => leAt (b * x) b r.1.data % 2 ^ f.bits)], idx := y,
     poison := r.1.poison || r.1.err }, r.2)

end Sys2Proof.Machine
end

