-- ==== Sys2Proof/Machine/Meas.lean ====
section
/-! DEFINITION. The measurement units (chapter 7): height profiles, frame statistics, the zero-height table and its records. -/

namespace Sys2Proof.Machine

open Sys2Proof

/-! ### The height-profile extractor (R160) -/

/-- What the extractor finds in one column. -/
structure Column where
  valid : Bool := false
  pos : Nat := 0
  width : Nat := 0
  peak : Nat := 0
  second : Nat := 0
  wide : Bool := false
  saturated : Bool := false
  multi : Bool := false
deriving DecidableEq, Repr

/-- The number of leading elements of a list that are at least `t`. -/
def runLen (t : Nat) : List Nat → Nat
  | [] => 0
  | x :: l => if t ≤ x then runLen t l + 1 else 0

/-- The largest element of a list, 0 for none. -/
def maxOf (l : List Nat) : Nat := l.foldl max 0

/-- One column's samples, by rising row, under the thresholds of PX_CFG and PX_THR (R160). -/
def columnOf (thr level maxWidth : Nat) (x : List Nat) : Column :=
  let m := maxOf x
  if m < thr ∨ x.isEmpty then { peak := m }
  else
    let rm := x.findIdx (fun v => decide (v = m))
    let t := max 1 (rnd (m * level : Nat) 8).toNat
    let ra := rm - runLen t ((x.take rm).reverse)
    let rb := rm + runLen t (x.drop (rm + 1))
    let ins := (upto (rb + 1 - ra)).map (fun k => (ra + k, x.getD (ra + k) 0 + 1 - t))
    let sw := ins.foldl (fun a q => a + q.2) 0
    let srw := ins.foldl (fun a q => a + q.1 * q.2) 0
    let second := max (maxOf (x.take ra)) (maxOf (x.drop (rb + 1)))
    { valid := true, pos := rndDiv (256 * srw) sw, width := min 255 (rb + 1 - ra), peak := m, second := second,
      wide := decide (maxWidth < rb + 1 - ra), saturated := decide (m = 65535), multi := decide (t ≤ second) }

/-- The columns of a frame. -/
def columnsOf (f : FrameInfo) (c : Nat) (rows : List Line) : List Column :=
  let k := prm f (rPX_CFG c)
  let thr := prmF f (rPX_THR c) 15 0
  let ps := rows.map p0
  (upto f.width).map (fun x => columnOf thr (fld k 23 16) (fld k 15 8) (ps.map (fun r => r.getD x 0)))

/-- One 8-byte entry of a profile record (R161). -/
def columnBytes (q : Column) : List Byte :=
  leBytes 8 (q.pos % 2 ^ 20 + q.width * 2 ^ 20 + b2n q.valid * 2 ^ 28 + b2n q.wide * 2 ^ 29 + b2n q.saturated * 2 ^ 30
    + b2n q.multi * 2 ^ 31 + q.peak * 2 ^ 32 + q.second * 2 ^ 48)

/-! ### The zero-height table (R167 to R171) -/

/-- ZERO_VALID. -/
def zeroValid (s : State) (c : Nat) : Bool := rdB s (rMEAS_STATUS c) 1

/-- An object column (R160). -/
def isObject (thr z : Nat) (q : Column) : Bool := q.valid && decide (z ≠ zUnknown) && decide (thr < dist q.pos z)

/-- The columns of a frame with their entries of Z. -/
def withZ (s : State) (c : Nat) (cols : List Column) : List (Nat × Column × Nat) :=
  (upto cols.length).map (fun i => (i, cols.getD i {}, zAt s c i))

/-- UPDATES of the calibration record. -/
def calUpdates (s : State) (c : Nat) : Nat := rdn s (rCAL_REC c 4)

/-- KNOTS, WIDTH and DTIME are rewritten, UPDATES last; the record is one of kind 1, and its
unlisted bytes are 0 (R170; log entry 15). -/
def writeKnots (c width updates : Nat) (s : State) : State :=
  let s := wrn (rCAL_REC c 0) 1 (wrn (rCAL_REC c 1) (width % 65536) s)
  let s := wr64 (rCAL_REC c 2) (dtime s) s
  let s := forAll [5, 6, 7] (fun i s => wrn (rCAL_REC c i) 0 s) s
  let s := forAll (upto 248) (fun i s =>
    wrn (rCAL_REC c (8 + i)) (if i < 129 then zAt s c (i * (width - 1) / 128) else 0) s) s
  wrn (rCAL_REC c 4) updates s

/-- An empty-belt frame is folded into Z (R167). -/
def calibrate (c : Nat) (f : FrameInfo) (cols : List Column) (s : State) : State :=
  let step := prmF f (rPX_CAL c) 15 0
  let alpha := prmF f (rPX_CFG c) 31 24
  let zs := withZ s c cols
  let known := zs.filter (fun q => q.2.1.valid && decide (q.2.2 ≠ zUnknown))
  let fits := known.filter (fun q => decide (dist q.2.1.pos q.2.2 ≤ step))
  let rejected := known.length - fits.length
  let nvalid := (cols.filter (fun q => q.valid)).length
  let s := forAll fits (fun q s =>
    wrF (rMEAS_Z c q.1) 19 0 ((q.2.2 : Int) + rnd (((q.2.1.pos : Int) - q.2.2) * alpha) 8).toNat s) s
  let s := bump (rMEAS_CNT c 6) rejected (bump (rMEAS_CNT c 5) 1 s)
  let s := writeKnots c f.width (calUpdates s c + 1) s
  let x := pctx s c
  if nvalid < 2 * rejected then
    let n := x.drift + 1
    let s := if 16 ≤ n ∧ !x.e60 then raiseE 60 3 s else s
    setPctx c { pctx s c with drift := n, e60 := x.e60 || decide (16 ≤ n) } s
  else setPctx c { x with drift := 0, e60 := false } s

/-- A frame seeds Z (R168). -/
def seedZ (c : Nat) (f : FrameInfo) (cols : List Column) (s : State) : State :=
  let s := forAll (upto 2048) (fun i s =>
    let q := cols.getD i {}
    wrF (rMEAS_Z c i) 19 0 (if q.valid then q.pos else zUnknown) s) s
  let s := wrB (rMEAS_STATUS c) 1 true (wrB (rPX_CAL_CTRL c) 0 false s)
  writeKnots c f.width (calUpdates s c) s

/-- D3 leaves reset: every CAL_REC is loaded from the Persistent Record, and every Z is unknown until a served context loads it
(R171; log entry 15). -/
def calLoad (s : State) : State :=
  measRefresh (forAll (upto 16) (fun c s =>
    let rec_ := tget [] s.prec.cal c
    let s := forAll (upto 256) (fun i s => wrn (rCAL_REC c i) (leAt (4 * i) 4 rec_) s) s
    let s := zClear c s
    setPctx c { pctx s c with calDue := true } s) s)

/-! ### Profile records (R161 to R163) -/

/-- The measurement units' agent: they reach memory through the FABRIC port, in class CAPTURE (R281, R392). -/
def measAgent : Agent := { port := 12, cls := 0, who := none }

/-- The profile summary of columns: valid, object, minimum, maximum and mean position (R164). -/
def pxSummary (s : State) (c : Nat) (f : FrameInfo) (cols : List Column) : List Nat :=
  let thr := prmF f (rPX_THR c) 31 16
  let v := (cols.filter (fun q => q.valid)).map (fun q => q.pos)
  let obj := ((withZ s c cols).filter (fun q => isObject thr q.2.2 q.2.1)).length
  let lo := v.foldl min (v.headD 0)
  [v.length, obj, lo, maxOf v, rndDiv (v.foldl (· + ·) 0) v.length]

/-- PROFILE_RECORD_WRITE (R162, R163, R167, R168): the record of the oldest frame due; `drained` bytes have left the staging
ring since. -/
def execProfileRecordWrite (c : Fin 16) (drained : Nat) (s : State) : Host.Outcome State Fault Refusal :=
  if !domRun s 3 then .next s else
  let s := stageDrain (ctxPipe s c) drained s
  match (pctx s c).pxDue with
  | [] => .next s
  | m :: rest =>
    let s := setPctx c { pctx s c with pxDue := rest } s
    if !m.info.served then .next (bump (rMEAS_CNT c 4) 1 s)
    else
      let f := m.info
      let cols := columnsOf f c m.px
      let sum := pxSummary s c f cols
      let s := setPctx c { pctx s c with pxSum := some (f.frame, sum) } s
      let nvalid := sum.getD 0 0
      let nobj := sum.getD 1 0
      let unknown := !zeroValid s c
      let cal := prm f (rPX_CAL c)
      let clean := !m.truncated && !m.poisoned && decide (fld cal 31 16 ≤ nvalid)
      let qualifies := prmB f (rPX_CFG c) 1 && !unknown && clean && decide (nobj = 0)
      let seed := rdB s (rPX_CAL_CTRL c) 0 && clean
      let s := onlyIf seed (seedZ c f cols) (onlyIf qualifies (calibrate c f cols) s)
      let ring := prm f (rPX_RING c)
      let size := 64 + 8 * f.width
      let stride := (size + 63) / 64 * 64
      let base := prmAddr f (rPX_BASE_LO c) / 64 * 64
      let q := rdn s (rPX_NEXT c)
      let a := base + (q % 2 ^ (min 8 (fld ring 3 0))) * stride
      let full := bit ring 4 && decide ((sem s (fld ring 25 16)).count = 0)
      let late := decide (regionOf a = .dram) && !ringFits s c size
      if full || late then
        let s := bump (rMEAS_CNT c 3) 1 s
        let s := if (pctx s c).pxDropping then s else raiseE 58 3 s
        .next (setPctx c { pctx s c with pxDropping := true } s)
      else
        let s := onlyIf (bit ring 4) (semTake (fld ring 25 16)) s
        let fl := b2n m.truncated + 2 * b2n m.poisoned + 4 * b2n qualifies + 8 * b2n unknown + 16 * b2n qualifies
        let enc := f.enc.getD (prmF f (rPX_CFG c) 3 2) 0
        let h := leBytes 4 q ++ leBytes 1 c ++ leBytes 1 0 ++ leBytes 2 fl ++ leBytes 4 f.frame ++ leBytes 4 enc
          ++ leBytes 8 f.dtime ++ leBytes 2 f.width ++ leBytes 2 m.px.length ++ leBytes 2 nvalid ++ leBytes 2 nobj
          ++ leBytes 4 (calUpdates s c) ++ zeros 28
        let s := if regionOf a = .dram then ringTake c size s else s
        let s := devPut measAgent a (h ++ cols.flatMap columnBytes) false s
        let s := bump (rMEAS_CNT c 2) 1 (wrn (rPX_NEXT c) (q + 1) s)
        let s := setPctx c { pctx s c with pxDropping := false } s
        .next (onlyIf (bit ring 4) (semRelease (prmF f (rPX_SEM c) 9 0) 1) s)

/-! ### Statistics (R164 to R166) -/

/-- Luma of a pixel of a line (R164). -/
def lumaAt (l : Line) (x : Nat) : Nat :=
  if l.planes.length = 3 then
    (rnd (1225 * (l.planes.getD 0 []).getD x 0 + 2404 * (l.planes.getD 1 []).getD x 0 + 467 * (l.planes.getD 2 []).getD x 0
      : Nat) 12).toNat
  else (p0 l).getD x 0

/-- Luma of a whole line. -/
def lumaRow (l : Line) : List Nat := (upto (p0 l).length).map (lumaAt l)

/-- A sum saturated to 32 bits. -/
def measSat (n : Nat) : Nat := satN 32 n

/-- The histogram of 256 bins. -/
def histogram (ls : List (List Nat)) : List Nat :=
  (upto 256).map (fun b => measSat (ls.foldl (fun a r => a + (r.filter (fun v => decide (v / 256 = b))).length) 0))

/-- The zone grid in force: X0, Y0, ZONE_W, ZONE_H. -/
structure Grid where
  x0 : Nat
  y0 : Nat
  w : Nat
  h : Nat
deriving DecidableEq, Repr

/-- Rows and columns of zone `z`. -/
def zoneRows (g : Grid) (z : Nat) : List Nat := (upto g.h).map (fun k => g.y0 + (z / 32) * g.h + k)
def zoneCols (g : Grid) (z : Nat) : List Nat := (upto g.w).map (fun k => g.x0 + (z % 32) * g.w + k)

/-- The sum of `f row column` over the pixels of a zone that the frame delivered. -/
def zoneSum (g : Grid) (rows : List Line) (width z : Nat) (f : Nat → Line → Nat → Nat) : Nat :=
  measSat ((zoneRows g z).foldl (fun a v =>
    match rows[v]? with
    | none => a
    | some l => (zoneCols g z).foldl (fun a u => if u < width then a + f v l u else a) a) 0)

/-- The contribution of a pixel to the three sums of its zone (R164). -/
def zoneTerm (mono : Bool) (phase q v : Nat) (l : Line) (u : Nat) : Nat :=
  if l.planes.length = 3 then (l.planes.getD q []).getD u 0 / 16
  else
    let x := (p0 l).getD u 0 / 16
    if mono then (if q = 0 then x else 0)
    else
      let k := cfaColour phase (bayerPos v u)
      if (q = 0 ∧ k = 0) ∨ (q = 1 ∧ (k = 1 ∨ k = 2)) ∨ (q = 2 ∧ k = 3) then x else 0

/-- The contribution of a pixel to the sharpness of its zone (R164). -/
def sharpTerm (mono : Bool) (phase width v : Nat) (l : Line) (u : Nat) : Nat :=
  let bayer := !mono && decide (l.planes.length ≠ 3)
  let d := if bayer then 2 else 1
  let k := cfaColour phase (bayerPos v u)
  if u < d ∨ width ≤ u + d ∨ (bayer ∧ k ≠ 1 ∧ k ≠ 2) then 0
  else ((lumaAt l (u - d) : Int) - 2 * lumaAt l u + lumaAt l (u + d)).natAbs / 16

/-- The reference profile of 256 bins over the first lines (R164). -/
def refProfile (width : Nat) (ls : List (List Nat)) : List Nat :=
  (upto 256).map (fun b =>
    let lo := b * width / 256
    let hi := (b + 1) * width / 256
    measSat (ls.foldl (fun a r => ((r.drop lo).take (hi - lo)).foldl (fun a v => a + v / 16) a) 0))

/-- Bytes of 32-bit words. -/
def words (l : List Nat) : List Byte := l.flatMap (leBytes 4)

/-- The record of a frame (R165, R166). -/
def statRecord (s : State) (c : Nat) (seq : Nat) (m : MeasFrame) : List Byte :=
  let f := m.info
  let k := prm f (rSTAT_CFG c)
  let z := prm f (rSTAT_ZONE c)
  let o := prm f (rSTAT_ORIGIN c)
  let g : Grid := { x0 := fld o 13 0, y0 := fld o 29 16, w := fld z 9 0, h := fld z 26 16 }
  let bad := m.invalid || statBad k z (prm f (rCTX_SPLICE c))
  let rows := if bad then [] else m.rows
  let g : Grid := if bad then { g with w := 0, h := 0 } else g
  let mono := isMono f c
  let ph := prmF f (rCTX_CFG c) 3 2
  let ls := rows.map lumaRow
  let refLines := max 1 (fld k 23 16)
  let n := rows.length
  let fl := b2n m.truncated + 2 * b2n m.spliced + 4 * b2n m.poisoned
    + 8 * b2n (m.truncated && decide (n ≤ g.y0 + 31 * g.h)) + 16 * b2n bad + 32 * b2n (decide (n < refLines))
  let sum := if !m.info.served ∨ bad then [] else
    match (pctx s c).pxSum with
    | some (fr, q) => if fr = f.frame then q else pxSummary s c f (columnsOf f c m.px)
    | none => pxSummary s c f (columnsOf f c m.px)
  let pix := ls.foldl (fun a r => a + r.length) 0
  let clipped := ls.foldl (fun a r => a + (r.filter (fun v => decide (v = 65535))).length) 0
  leBytes 4 seq ++ leBytes 1 c ++ leBytes 1 (fld k 2 1) ++ leBytes 2 fl ++ leBytes 4 f.frame ++ leBytes 4 pix
    ++ leBytes 8 f.dtime ++ leBytes 4 n ++ leBytes 4 clipped ++ leBytes 2 (sum.getD 0 0) ++ leBytes 2 (sum.getD 1 0)
    ++ leBytes 4 (sum.getD 2 0) ++ leBytes 4 (sum.getD 3 0) ++ leBytes 4 (sum.getD 4 0) ++ zeros 16
    ++ words (histogram ls)
    ++ words ((upto 1024).flatMap (fun z => (upto 3).map (fun q => zoneSum g rows f.width z (zoneTerm mono ph q))))
    ++ words ((upto 1024).map (fun z => zoneSum g rows f.width z (sharpTerm mono ph f.width)))
    ++ words (if bit k 3 then refProfile f.width (ls.take refLines) else List.replicate 256 0)

/-- STAT_RECORD_WRITE (R165): the record of the oldest frame due goes into its slot, or is lost to a staging overflow. -/
def execStatRecordWrite (c : Fin 16) (drained : Nat) (s : State) : Host.Outcome State Fault Refusal :=
  if !domRun s 3 then .next s else
  let s := stageDrain (ctxPipe s c) drained s
  match (pctx s c).statDue with
  | [] => .next s
  | m :: rest =>
    let s := setPctx c { pctx s c with statDue := rest } s
    let f := m.info
    let q := rdn s (rSTAT_NEXT c)
    let a := prmAddr f (rSTAT_BASE_LO c) / 64 * 64 + (q % 2 ^ (min 8 (prmF f (rSTAT_SLOTS c) 3 0))) * 0x4840
    let s := wrn (rSTAT_NEXT c) (q + 1) s
    if regionOf a = .dram ∧ !ringFits s c 0x4840 then .next (bump (rMEAS_CNT c 1) 1 s)
    else
      let b := statRecord s c q m
      let s := if regionOf a = .dram then ringTake c 0x4840 s else s
      .next (bump (rMEAS_CNT c 0) 1 (devPut measAgent a b false s))

/-! ### Commands of PX_CAL_CTRL (R168, R173) -/

/-- The effect of a write of PX_CAL_CTRL: SEED arms a seed; FORGET makes every entry unknown. -/
def calCtrlEffect (c : Nat) (v : Word) (s : State) : State × Bool :=
  let s := onlyIf (bit v 0) (wrB (rPX_CAL_CTRL c) 0 true) s
  if bit v 1 then
    (zClear c s, true)
  else (s, true)

/-- CAL_SEED (R168): a write of 1 to SEED. -/
def execCalSeed (ifc : Iface) (c : Fin 16) (s : State) : Host.Outcome State Fault Refusal :=
  .next (gatedWrite ifc (rPX_CAL_CTRL c) 1 (calCtrlEffect c 1) s)

/-- CAL_FORGET (R173): a write of 1 to FORGET. -/
def execCalForget (ifc : Iface) (c : Fin 16) (s : State) : Host.Outcome State Fault Refusal :=
  .next (gatedWrite ifc (rPX_CAL_CTRL c) 2 (calCtrlEffect c 2) s)

end Sys2Proof.Machine
end

