-- ==== Sys2Proof/Machine/Crc.lean ====
section
/-! DEFINITION. The CRC-32C of R37, the configurable CRC of a check unit (R470), and SHA-256 (R37). -/

namespace Sys2Proof.Machine

open Sys2Proof

/-- One bit step of the reflected CRC-32C register (R37: reflected polynomial 0x82F6_3B78). -/
def crcBit (c : Word) : Word := if c.getLsbD 0 then (c >>> 1) ^^^ 0x82F63B78#32 else c >>> 1
/-- One byte step of CRC-32C. -/
def crcByte (c : Word) (b : Byte) : Word :=
  let x := c ^^^ b.zeroExtend 32
  crcBit (crcBit (crcBit (crcBit (crcBit (crcBit (crcBit (crcBit x)))))))
/-- The CRC-32C of a byte list (R37). -/
def crc32c (bs : List Byte) : Nat := ((bs.foldl crcByte 0xFFFFFFFF#32) ^^^ 0xFFFFFFFF#32).toNat

/-- The lowest `n` bits of a number in reverse order. -/
def bitRev (n v : Nat) : Nat := (List.range n).foldl (fun a i => if v.testBit i then a + 2 ^ (n - 1 - i) else a) 0
/-- One bit step of a non-reflected CRC register of width `w`. -/
def crcGenBit (w poly c : Nat) : Nat :=
  if c.testBit (w - 1) then ((2 * c) % 2 ^ w) ^^^ poly else (2 * c) % 2 ^ w
/-- The CRC of a byte list with WIDTH, POLY, INIT, XOROUT, REFIN and REFOUT (R470). -/
def crcGen (w poly init xorout : Nat) (refin refout : Bool) (bs : List Byte) : Nat :=
  let m := 2 ^ w
  let r := bs.foldl (fun c b =>
    let v := if refin then bitRev 8 b.toNat else b.toNat
    (List.range 8).foldl (fun c _ => crcGenBit w (poly % m) c) (c ^^^ ((v * 2 ^ (w - 8)) % m))) (init % m)
  (if refout then bitRev w r else r) ^^^ (xorout % m)

/-- The round constants of SHA-256. -/
def shaK : List Word :=
  [0x428a2f98#32, 0x71374491#32, 0xb5c0fbcf#32, 0xe9b5dba5#32, 0x3956c25b#32, 0x59f111f1#32, 0x923f82a4#32, 0xab1c5ed5#32,
   0xd807aa98#32, 0x12835b01#32, 0x243185be#32, 0x550c7dc3#32, 0x72be5d74#32, 0x80deb1fe#32, 0x9bdc06a7#32, 0xc19bf174#32,
   0xe49b69c1#32, 0xefbe4786#32, 0x0fc19dc6#32, 0x240ca1cc#32, 0x2de92c6f#32, 0x4a7484aa#32, 0x5cb0a9dc#32, 0x76f988da#32,
   0x983e5152#32, 0xa831c66d#32, 0xb00327c8#32, 0xbf597fc7#32, 0xc6e00bf3#32, 0xd5a79147#32, 0x06ca6351#32, 0x14292967#32]
  ++ [0x27b70a85#32, 0x2e1b2138#32, 0x4d2c6dfc#32, 0x53380d13#32, 0x650a7354#32, 0x766a0abb#32, 0x81c2c92e#32, 0x92722c85#32,
   0xa2bfe8a1#32, 0xa81a664b#32, 0xc24b8b70#32, 0xc76c51a3#32, 0xd192e819#32, 0xd6990624#32, 0xf40e3585#32, 0x106aa070#32,
   0x19a4c116#32, 0x1e376c08#32, 0x2748774c#32, 0x34b0bcb5#32, 0x391c0cb3#32, 0x4ed8aa4a#32, 0x5b9cca4f#32, 0x682e6ff3#32,
   0x748f82ee#32, 0x78a5636f#32, 0x84c87814#32, 0x8cc70208#32, 0x90befffa#32, 0xa4506ceb#32, 0xbef9a3f7#32, 0xc67178f2#32]

/-- The initial hash value of SHA-256. -/
def shaInit : List Word :=
  [0x6a09e667#32, 0xbb67ae85#32, 0x3c6ef372#32, 0xa54ff53a#32, 0x510e527f#32, 0x9b05688c#32, 0x1f83d9ab#32, 0x5be0cd19#32]

/-- Rotation to the right. -/
def rotr (x : Word) (n : Nat) : Word := (x >>> n) ||| (x <<< (32 - n))
/-- A word of a list, 0 beyond its end. -/
def nthW (l : List Word) (i : Nat) : Word := (l.drop i).headD 0

/-- The message schedule, newest word first: from the 16 words of a block to 64 words. -/
def shaExpand : Nat → List Word → List Word
  | 0, w => w
  | n + 1, w =>
    let w2 := nthW w 1
    let w15 := nthW w 14
    let s0 := rotr w15 7 ^^^ rotr w15 18 ^^^ (w15 >>> 3)
    let s1 := rotr w2 17 ^^^ rotr w2 19 ^^^ (w2 >>> 10)
    shaExpand n ((nthW w 15 + s0 + nthW w 6 + s1) :: w)

/-- One round on the eight working variables. -/
def shaRound (v : List Word) (kw : Word) : List Word :=
  match v with
  | [a, b, c, d, e, f, g, h] =>
    let t1 := h + (rotr e 6 ^^^ rotr e 11 ^^^ rotr e 25) + ((e &&& f) ^^^ (~~~ e &&& g)) + kw
    let t2 := (rotr a 2 ^^^ rotr a 13 ^^^ rotr a 22) + ((a &&& b) ^^^ (a &&& c) ^^^ (b &&& c))
    [t1 + t2, a, b, c, d + t1, e, f, g]
  | _ => v

/-- A big-endian word from four bytes. -/
def beWord (l : List Byte) : Word := BitVec.ofNat 32 (l.foldl (fun a b => a * 256 + b.toNat) 0)
/-- The first `n` groups of four bytes as big-endian words. -/
def beWords : Nat → List Byte → List Word
  | 0, _ => []
  | n + 1, l => beWord (l.take 4) :: beWords n (l.drop 4)

/-- One block of 64 bytes is folded into the hash value. -/
def shaBlock (h : List Word) (blk : List Byte) : List Word :=
  let w := (shaExpand 48 (beWords 16 blk).reverse).reverse
  let v := (List.zipWith (· + ·) shaK w).foldl shaRound h
  List.zipWith (· + ·) h v

/-- The blocks of a padded message, `n` of them. -/
def shaBlocks : Nat → List Word → List Byte → List Word
  | 0, h, _ => h
  | n + 1, h, l => shaBlocks n (shaBlock h (l.take 64)) (l.drop 64)

/-- Big-endian bytes of a number, `n` of them. -/
def beBytes (n v : Nat) : List Byte := (leBytes n v).reverse

/-- The SHA-256 digest of a byte list, in the byte order SHA-256 produces (R37). -/
def sha256 (m : List Byte) : List Byte :=
  let z := (119 - m.length % 64) % 64
  let p := m ++ (0x80#8 :: List.replicate z 0) ++ beBytes 8 (m.length * 8)
  (shaBlocks (p.length / 64) shaInit p).foldr (fun w a => beBytes 4 w.toNat ++ a) []

end Sys2Proof.Machine
end

