-- ==== Sys2Proof/Machine/Flash.lean ====
section
/-! DEFINITION. The SPI NOR controller (R48, R95) and the Persistent Record: its layout (R96), reading it at power-on (R97),
writing it (R98, R99) and the reset-window history (R100). -/

namespace Sys2Proof.Machine

open Sys2Proof

/-! ### The flash array -/

/-- Size of the flash in bytes: 512 Mbit, the least that R44 allows (log entry 6). -/
def flashSize : Nat := 0x4000000
/-- One byte of the flash. -/
def flashByte (s : State) (a : Nat) : Byte := tget 0xFF#8 s.flash a
/-- `n` bytes of the flash. -/
def flashBytes (s : State) : Nat → Nat → List Byte
  | _, 0 => []
  | a, n + 1 => flashByte s a :: flashBytes s (a + 1) n
/-- The bytes of slot `k` as far as the TOTAL_LENGTH of its header reaches, at least its header and at most its 16 MiB (R37, R44). -/
def slotBytes (s : State) (k : Nat) : List Byte :=
  flashBytes s (k * 0x1000000) (min 0x1000000 (max 64 (ofLe (flashBytes s (k * 0x1000000 + 8) 4))))
/-- One byte of the flash takes a value. -/
def setFlash (a : Nat) (b : Byte) (s : State) : State := { s with flash := tput 0xFF#8 s.flash a b }
/-- Bytes are programmed: programming clears bits and sets none (log entry 7). -/
def programFlash : Nat → List Byte → State → State
  | _, [], s => s
  | a, b :: t, s => programFlash (a + 1) t (setFlash a (flashByte s a &&& b) s)
/-- A range is erased to 0xFF. -/
def eraseFlash (a n : Nat) (s : State) : State := { s with flash := tclear a (a + n) s.flash }
/-- Base of Persistent Record bank `b` (R44). -/
def precBase (b : Nat) : Nat := if b = 0 then 0x2000000 else 0x2010000

/-! ### The Persistent Record (R96) -/

/-- Bytes of the register words from an offset, `n` words. -/
def wordBytes (s : State) : Nat → Nat → List Byte
  | _, 0 => []
  | off, n + 1 => leBytes 4 (rdn s off) ++ wordBytes s (off + 4) n

/-- Sequence of the oldest journal entry present (R77). -/
def jnlOldest (s : State) : Nat :=
  let next := rdn s rJNL_NEXT_SEQ
  let first := rdn s rJNL_FIRST_SEQ
  if (next + 2 ^ 32 - first) % 2 ^ 32 ≤ 4096 then first else (next + 2 ^ 32 - 4096) % 2 ^ 32
/-- The journal tail: up to 256 of the newest entries, oldest first, then slots of 0x00 (R77). -/
def jnlTail (s : State) : List Byte :=
  let next := rdn s rJNL_NEXT_SEQ
  let n := min 256 ((next + 2 ^ 32 - jnlOldest s) % 2 ^ 32)
  padTo 8192 (((upto n).map (fun k =>
    wordBytes s (rJNL_WORD (((next + 2 ^ 32 - n + k) % 4096) * 8)) 8)).flatten)

/-- The reset-window history region: four times for D0 to D6, newest first, seven totals, 4 bytes of 0 (R96). -/
def histBytes (p : Prec) : List Byte :=
  ((upto 7).map (fun d => padTo 32 (((tget [] p.hist d).take 4).flatMap (leBytes 8)))).flatten
    ++ ((upto 7).map (fun d => leBytes 4 (tget 0 p.total d))).flatten ++ zeros 4

/-- Bytes 0x0040 to 0xFFFF of a record (R96). -/
def precBody (p : Prec) (repairs : List (List Byte)) (jnl : List Byte) : List Byte :=
  histBytes p
    ++ (BitVec.ofNat 8 (b2n p.latched) :: zeros 7 ++ leBytes 8 p.latchTime ++ leBytes 8 p.latchSerial ++ zeros 40)
    ++ zeros 128
    ++ padTo 1024 repairs.flatten ++ zeros 512
    ++ ((upto 16).map (fun c => padTo 1024 (tget [] p.cal c))).flatten
    ++ padTo 32768 p.qtab ++ padTo 8192 jnl ++ zeros 6144

/-- A whole record: header with SEQUENCE and CRC, then the body (R96). -/
def precImage (seq : Nat) (body : List Byte) : List Byte :=
  let h := leBytes 4 0x52505646 ++ leBytes 4 1 ++ leBytes 4 seq ++ zeros 48
  h ++ leBytes 4 (crc32c (h ++ body)) ++ body

/-- Is a bank valid: MAGIC, VERSION and CRC (R97)? -/
def precValid (b : List Byte) : Bool :=
  decide (leAt 0 4 b = 0x52505646) && decide (leAt 4 4 b = 1) && decide (leAt 0x3C 4 b = crc32c (b.take 0x3C ++ b.drop 0x40))

/-- Sequence `a` is newer than `b` (R45). -/
def seqNewer (a b : Nat) : Bool :=
  let d := (a + 2 ^ 32 - b % 2 ^ 32) % 2 ^ 32
  decide (1 ≤ d ∧ d ≤ 0x7FFFFFFF)

/-- The sequence of the newest journal entry that a record holds, if it holds one (R77). -/
def jnlNewestIn (jnl : List Byte) : Option Nat :=
  (upto 256).foldl (fun r k => if leAt (k * 32 + 4) 1 jnl = 0 then r else some (leAt (k * 32) 4 jnl)) none

/-- The Persistent Record read from a valid bank; the reset history starts empty at power-on, the totals go on (R97, R100). -/
def precParse (b : List Byte) : Prec :=
  { seq := leAt 8 4 b
    total := (upto 7).foldl (fun t d => tput 0 t d (leAt (0x40 + 224 + 4 * d) 4 b)) []
    latched := decide (leAt 0x140 1 b ≠ 0)
    latchTime := leAt 0x148 8 b
    latchSerial := leAt 0x150 8 b
    repairs := ((upto 64).map (fun k => slice (0x200 + 16 * k) 16 b)).filter (fun e => decide (leAt 0 1 e ≠ 0))
    cal := (upto 16).foldl (fun t c => tput [] t c (slice (0x800 + 1024 * c) 1024 b)) []
    qtab := slice 0x4800 32768 b
    jnlNewest := jnlNewestIn (slice 0xC800 8192 b)
    jnl := slice 0xC800 8192 b }

/-- The Persistent Record at power-on: the newer valid bank, bank 0 on a tie, or the defaults with E40 (R97, R45). The
out-of-service latch found set is copied to FLT_OOS_STATUS (R503). -/
def precLoad (s : State) : State :=
  let b0 := flashBytes s (precBase 0) 0x10000
  let b1 := flashBytes s (precBase 1) 0x10000
  let v0 := precValid b0
  let v1 := precValid b1
  let use1 := v1 && (!v0 || seqNewer (leAt 8 4 b1) (leAt 8 4 b0))
  let s := { s with prec := if use1 then precParse b1 else if v0 then precParse b0 else {} }
  let s := wrB rPREC_STATUS 1 (!v0 && !v1) (wrB rPREC_STATUS 0 use1 s)
  let s := onlyIf (!v0 && !v1) (raiseE 40 7) s
  let s := wrF rFLT_REPAIR_CTRL 14 8 s.prec.repairs.length s
  let s := wrB rFLT_OOS_STATUS 1 s.prec.latched (wrB rFLT_OOS_STATUS 0 s.prec.latched s)
  match s.prec.jnlNewest with
  | some n => wrn rJNL_FIRST_SEQ (n + 1) (wrn rJNL_NEXT_SEQ (n + 1) s)
  | none => s

/-- A flash operation of the host or a Persistent Record write holds the controller (R48). -/
def precBusy (s : State) : Bool := s.prec.writing.isSome
def flashBusy (s : State) : Bool := match s.flashOp with | some o => !o.waiting | none => false

/-- The calibration and table regions that a routine write takes from the engines' registers, calibration records of D3 and
the staging area of D1: a domain that does not answer leaves the contents of the previous record (R99, R170, R275). -/
def precRefresh (s : State) : Prec :=
  let p := s.prec
  { p with
    cal := if domOk s 3 then (upto 16).foldl (fun t c => tput [] t c (wordBytes s (rCAL_REC c 0) 256)) p.cal else p.cal
    qtab := if domOk s 1 then wordBytes s (rQOUT_STAGE 0) 8192 else p.qtab }

/-- A write of the record `new` starts: the bank not in use is erased and programmed with SEQUENCE plus 1 (R98). The
calibration and the tables of the bank in use stay the device's until the new bank has passed its check. -/
def precStart (new : Prec) (s : State) : State :=
  let bank := 1 - rdF s rPREC_STATUS 0 0
  let p := s.prec
  let reps := match p.adding with | some e => p.repairs ++ [e] | none => p.repairs
  let jnl := if rdn s rJNL_NEXT_SEQ = rdn s rJNL_FIRST_SEQ then p.jnl else jnlTail s
  let img := precImage ((p.seq + 1) % 2 ^ 32) (precBody new reps jnl)
  let s := eraseFlash (precBase bank) 0x10000 s
  let s := wrB rPREC_CTRL 0 false (wrB rPREC_STATUS 2 true s)
  { s with prec := { p with writing := some (bank, img), jnl := jnl, pendingNow := false, addingInWrite := p.adding.isSome } }

/-- A routine write starts: its contents are refreshed, and the schedule counts from now (R99). -/
def precStartRoutine (s : State) : State :=
  precStart (precRefresh s) { s with prec := { s.prec with pendingRoutine := false, lastRoutine := s.clock.aon } }

/-- An immediate write starts now, or when the operation in progress ends (R99, R48); it carries the calibration and the
tables of the record in use. -/
def precNow (s : State) : State :=
  if precBusy s || flashBusy s then { s with prec := { s.prec with pendingNow := true } } else precStart s.prec s

/-- The writes that wait start, once the controller is free: an immediate one, then a routine one (R48, R99). -/
def precResume (s : State) : State :=
  if precBusy s || flashBusy s then s
  else if s.prec.pendingRoutine then
    precStartRoutine s
  else if s.prec.pendingNow then precStart s.prec s
  else s

/-- A reset of domain d is recorded; does it reach the limit of R100, four within 600 s, three for D0? The history change
starts an immediate write (R99). -/
def recordReset (d : Nat) (s : State) : State × Bool :=
  let h := (s.clock.aon :: tget [] s.prec.hist d).take 4
  let p := { s.prec with hist := tput [] s.prec.hist d h, total := tput 0 s.prec.total d ((tget 0 s.prec.total d + 1) % 2 ^ 32) }
  let s := { s with prec := p }
  let n := (h.filter (fun t => decide (s.clock.aon ≤ t + 600 * aonS))).length
  (s, decide ((if d = 0 then 3 else 4) ≤ n))

/-! ### The SPI NOR controller (R95) -/

/-- The bytes that an operation touches: the block for an erase, LEN bytes otherwise (LEN 0 is 4,096). -/
def flashSpan (op addr len : Nat) : Nat × Nat :=
  if op = 3 then (addr / 0x1000 * 0x1000, 0x1000)
  else if op = 4 then (addr / 0x10000 * 0x10000, 0x10000)
  else (addr, if len = 0 then 4096 else len)

/-- Is an operation refused (R95)? -/
def flashRefused (op addr len : Nat) : Bool :=
  let sp := flashSpan op addr len
  decide (5 ≤ op) || decide (op ≤ 2 ∧ 4096 < sp.2) || decide (flashSize < sp.1 + sp.2)
/-- Does an erase or a program touch the Persistent Record banks (R48)? -/
def flashProtected (op addr len : Nat) : Bool :=
  let sp := flashSpan op addr len
  decide (2 ≤ op) && decide (sp.1 ≤ 0x201FFFF ∧ 0x2000000 < sp.1 + sp.2)

/-- The effect of a write to FLASH_CMD: ignored while GO reads 1; with GO it starts the operation or sets ERR; a refusal
under R48 also gives an error response (R95). -/
def flashCmdEffect (i : Iface) (v : Word) (s : State) : State × Bool :=
  if rdB s rFLASH_CMD 16 then (s, false)
  else
    let r := plainEffect i rFLASH_CMD (v &&& ~~~ (w32 0x10000)) .none s
    let s := r.1
    let op := fld v 2 0
    let len := fld v 15 3
    let addr := rdn s rFLASH_ADDR
    if !bit v 16 ∨ op = 0 then (s, true)
    else if flashRefused op addr len then (wrB rFLASH_CMD 18 true s, true)
    else if flashProtected op addr len then (answerErr 0 (wrB rFLASH_CMD 18 true s), true)
    else (wrB rFLASH_CMD 16 true { s with flashOp := some { op := op, addr := addr, len := len, waiting := precBusy s } }, true)

/-- The effect of a write to FLASH_ADDR or to the buffer: ignored while GO reads 1 (R95). -/
def flashGuarded (i : Iface) (off : Nat) (v : Word) (co : Coincident) (s : State) : State × Bool :=
  if rdB s rFLASH_CMD 16 then (s, false) else plainEffect i off v co s

/-- Buffer bytes from the front, `n` of them. -/
def flashBufBytes (s : State) (n : Nat) : List Byte := (wordBytes s (rFLASH_BUF 0) ((n + 3) / 4)).take n

/-- Words of the buffer take the bytes of a read; the bytes beyond it stay. -/
def loadFlashBuf (bs : List Byte) (s : State) : State :=
  let all := bs ++ (flashBufBytes s 4096).drop bs.length
  wrWords (rFLASH_BUF 0) ((upto 1024).map (fun k => leAt (4 * k) 4 all)) s

/-- What an operation does to the buffer or to the flash (R95). -/
def flashPerform (o : FlashOp) (s : State) : State :=
  let sp := flashSpan o.op o.addr o.len
  if o.op = 1 then loadFlashBuf (flashBytes s sp.1 sp.2) s
  else if o.op = 2 then programFlash sp.1 (flashBufBytes s sp.2) s
  else eraseFlash sp.1 sp.2 s

/-! ### Meanings -/

/-- The FLASH_CMD word of an operation. -/
def flashCmd (op : Nat) (len : BitVec 13) : Word := w32 (op + len.toNat * 8 + 0x10000)

/-- FLASH_READ (R95). -/
def execFlashRead (ifc : Iface) (len : BitVec 13) (s : State) : Host.Outcome State Fault Refusal :=
  .next (gatedWrite ifc rFLASH_CMD (flashCmd 1 len) (flashCmdEffect ifc (flashCmd 1 len)) s)
/-- FLASH_PROGRAM (R95, R48). -/
def execFlashProgram (ifc : Iface) (len : BitVec 13) (s : State) : Host.Outcome State Fault Refusal :=
  .next (gatedWrite ifc rFLASH_CMD (flashCmd 2 len) (flashCmdEffect ifc (flashCmd 2 len)) s)
/-- FLASH_ERASE_4K (R95, R48). -/
def execFlashErase4k (ifc : Iface) (s : State) : Host.Outcome State Fault Refusal :=
  .next (gatedWrite ifc rFLASH_CMD (flashCmd 3 0) (flashCmdEffect ifc (flashCmd 3 0)) s)
/-- FLASH_ERASE_64K (R95, R48). -/
def execFlashErase64k (ifc : Iface) (s : State) : Host.Outcome State Fault Refusal :=
  .next (gatedWrite ifc rFLASH_CMD (flashCmd 4 0) (flashCmdEffect ifc (flashCmd 4 0)) s)

/-- FLASH_OP_COMPLETE (R95): the operation takes effect and GO clears; on a failure ERR is set, and `left` says what the
failing bytes of the flash hold. A Persistent Record write that waited starts (R48). -/
def execFlashOpComplete (ok : Bool) (left : List (BitVec 26 × Byte)) (s : State) : Host.Outcome State Fault Refusal :=
  match s.flashOp with
  | none => .next s
  | some o =>
    if o.waiting then .next s
    else
      let sp := flashSpan o.op o.addr o.len
      let s := flashPerform o s
      let s := if ok then s
        else
          let s := onlyIf (decide (o.op ≠ 1)) (forAll left (fun p s =>
            if sp.1 ≤ p.1.toNat ∧ p.1.toNat < sp.1 + sp.2 then setFlash p.1.toNat p.2 s else s)) s
          wrB rFLASH_CMD 18 true s
      .next (precResume (wrB rFLASH_CMD 16 false { s with flashOp := none }))

/-- The effect of a write to PREC_CTRL: INTERVAL is stored; WRITE_NOW starts an immediate write or waits (R99). -/
def precCtrlEffect (i : Iface) (v : Word) (s : State) : State × Bool :=
  let r := plainEffect i rPREC_CTRL v .none s
  (onlyIf (bit v 0) precNow r.1, r.2)

/-- PREC_WRITE_NOW (R99). -/
def execPrecWriteNow (ifc : Iface) (s : State) : Host.Outcome State Fault Refusal :=
  let v := setBit (rd s rPREC_CTRL) 0 true
  .next (gatedWrite ifc rPREC_CTRL v (precCtrlEffect ifc v) s)

/-- PREC_ROUTINE_TIMER (R99): a routine write falls due; it starts, or waits for the operation in progress. -/
def execPrecRoutineTimer (s : State) : Host.Outcome State Fault Refusal :=
  if precBusy s || flashBusy s then .next { s with prec := { s.prec with pendingRoutine := true } }
  else .next (precStartRoutine s)

/-- PREC_WRITE_COMPLETE (R98): the bank holds what was programmed, but for the bytes in `bad`; a read-back that passes its
check puts the bank in use, one that fails raises E41 and leaves the previous bank in use. An add reports its outcome
(R505), and what waited for the controller starts. -/
def execPrecWriteComplete (bad : List (BitVec 16 × Byte)) (s : State) : Host.Outcome State Fault Refusal :=
  match s.prec.writing with
  | none => .next s
  | some (bank, img) =>
    let s := programFlash (precBase bank) img s
    let s := forAll bad (fun p s => setFlash (precBase bank + p.1.toNat) p.2 s) s
    let ok := precValid (flashBytes s (precBase bank) 0x10000)
    let p := s.prec
    let added := p.addingInWrite
    let reps := if ok ∧ added then (match p.adding with | some e => p.repairs ++ [e] | none => p.repairs) else p.repairs
    let inUse := if ok then precParse img else p
    let p := { p with writing := none, seq := if ok then (p.seq + 1) % 2 ^ 32 else p.seq, repairs := reps,
                      cal := inUse.cal, qtab := inUse.qtab,
                      adding := if added then none else p.adding, addingInWrite := false }
    let s := wrB rPREC_STATUS 2 false (wrB rPREC_STATUS 3 (!ok) { s with prec := p })
    let s := if ok then bump rPREC_WRITES 1 (wrF rPREC_STATUS 0 0 bank s) else raiseE 41 7 s
    let s := onlyIf added (fun s => wrF rFLT_REPAIR_CTRL 14 8 reps.length
      (wrF rFLT_REPAIR_CTRL 4 2 (if ok then 1 else 4) (wrF rFLT_REPAIR_CTRL 1 0 0 s))) s
    let s := match s.flashOp with
      | some o => { s with flashOp := some { o with waiting := false } }
      | none => s
    .next (precResume s)

end Sys2Proof.Machine
end

