-- ==== Sys2Proof/Machine/Repair.lean ====
section
/-! DEFINITION. Repair entries (R504), the groups of spares (R175, R211, R212, R292), what is available under them (R34), and
what the registers show of it. -/

namespace Sys2Proof.Machine

open Sys2Proof

/-! ### Entries (R504) -/

def repKind (e : List Byte) : Nat := leAt 0 1 e
def repUnit (e : List Byte) : Nat := leAt 1 1 e
def repIndex (e : List Byte) : Nat := leAt 2 2 e
def repRow (e : List Byte) : Nat := leAt 4 4 e

/-- Does an entry that is not empty name a unit that exists: a valid KIND, and an index, sub-bank and row in range (R292,
R504)? UNIT and ROW are 0 for the kinds that do not use them (log entry 36). -/
def repValid (e : List Byte) : Bool :=
  let i := repIndex e
  let sub := repRow e % 256
  let row := repRow e / 256
  let plain := decide (repUnit e = 0 ∧ repRow e = 0)
  match repKind e with
  | 1 => plain && decide (i < 272)
  | 2 => plain && decide (i < 544)
  | 3 => plain && decide (i < 16)
  | 4 => decide (repUnit e < 4 ∧ repRow e = 0 ∧ i < 132)
  | 5 => plain && decide (i < 18)
  | 6 => match repUnit e with
    | 0 => decide (i < 32 ∧ sub < 32 ∧ row < 512)
    | 1 => decide (i < 64 ∧ sub < 16 ∧ row < 1024)
    | 2 => decide (i < 32 ∧ sub < 1 ∧ row < 128)
    | _ => false
  | _ => false

/-- Does an entry name the spare of a group: the last of every 17 Lens rows or columns and of every 33 Sector columns? -/
def repSpare (e : List Byte) : Bool :=
  match repKind e with
  | 1 => decide (repIndex e % 17 = 16)
  | 2 => decide (repIndex e % 17 = 16)
  | 4 => decide (repIndex e % 33 = 32)
  | _ => false

/-- The entries of a section's or a record's bytes. -/
def repChunks : Nat → List Byte → List (List Byte)
  | 0, _ => []
  | k + 1, b => if b.length < 16 then [] else b.take 16 :: repChunks k (b.drop 16)

/-- Is the Repair section refused: its length, an entry that names nothing, or a spare that a fuse marks bad (R43, R504)? -/
def repairBad (fuses : List (List Byte)) (p : List Byte) : Bool :=
  decide (p.length % 16 ≠ 0 ∨ 1024 < p.length) ||
    (repChunks 64 p).any (fun e => decide (repKind e ≠ 0) &&
      (!repValid e || (repSpare e && fuses.any (fun f =>
        decide (repKind f = repKind e ∧ repIndex f = repIndex e ∧ (repKind e ≠ 4 ∨ repUnit f = repUnit e))))))

/-! ### Availability (R34) -/

/-- The distinct numbers of a list. -/
def distinct : List Nat → List Nat
  | [] => []
  | x :: t => if t.contains x then distinct t else x :: distinct t

/-- The distinct indices that entries of a KIND and unit mark failed. -/
def failedIdx (k u : Nat) (es : List (List Byte)) : List Nat :=
  distinct ((es.filter (fun e => repValid e && decide (repKind e = k ∧ (k ≠ 4 ∨ repUnit e = u)))).map repIndex)

/-- Does some group of `per` neighbours hold two failures? -/
def groupSpent (per : Nat) (idx : List Nat) : Bool :=
  idx.any (fun i => decide (2 ≤ (idx.filter (fun j => decide (j / per = i / per))).length))

/-- Does a sub-bank of bank `b` of memory `m` hold more failed rows than spares (R292)? -/
def bankSpent (m b : Nat) (es : List (List Byte)) : Bool :=
  let rows := distinct ((es.filter (fun e => repValid e && decide (repKind e = 6 ∧ repUnit e = m ∧ repIndex e = b))).map repRow)
  let spare := if m = 0 then 10 else if m = 1 then 20 else 3
  rows.any (fun r => decide (spare < (rows.filter (fun q => decide (q % 256 = r % 256))).length))

/-- What is available under a set of repair entries: masks of the Sector clusters and cores that are bad and of the banks that
are unavailable, and whether the Lens and its side rows are whole. -/
structure Avail where
  sectorBad : Nat := 0
  lanBad : Nat := 0
  lensOk : Bool := true
  outlierOk : Bool := true
  wm : Nat := 0
  am : Nat := 0
  ps : Nat := 0
deriving DecidableEq, Repr

/-- The availability that entries give (R34, R175, R212, R292). -/
def availOf (es : List (List Byte)) : Avail :=
  { sectorBad := maskOf 4 (fun c => groupSpent 33 (failedIdx 4 c es))
    lanBad := (failedIdx 5 0 es).foldl (fun m i => m + 2 ^ i) 0
    lensOk := !(groupSpent 17 (failedIdx 1 0 es) || groupSpent 17 (failedIdx 2 0 es))
    outlierOk := (failedIdx 3 0 es).isEmpty
    wm := maskOf 32 (fun b => bankSpent 0 b es)
    am := maskOf 64 (fun b => bankSpent 1 b es)
    ps := maskOf 32 (fun b => bankSpent 2 b es) }

/-- The entries in force in order: fuses, the Repair section of an image, field entries (R34, R52). -/
def repairEntries (s : State) (section1 : List Byte) : List (List Byte) :=
  s.fuses.entries ++ repChunks 64 section1 ++ s.prec.repairs

/-- The repair state in force, as the registers hold it (R55, R72). -/
def availNowOf (s : State) : Avail :=
  { sectorBad := 15 - rdF s rDEV_CAP0 3 0
    lanBad := rdF s rDEV_CAP2 17 0
    lensOk := rdB s rDEV_CAP0 4
    outlierOk := rdB s rLENS_STATUS 0
    wm := rdn s rDEV_BANK_WM
    am := rd64 s rDEV_BANK_AM_LO
    ps := rdn s rDEV_BANK_PS }

/-- The repair state by which an APPLY judges an image: the state in force, and the entries of the image's own Repair section
(R43, R55; log entry 36). -/
def applyAvail (s : State) (section1 : List Byte) : Avail :=
  let a := availNowOf s
  let b := availOf (s.fuses.entries ++ repChunks 64 section1)
  { sectorBad := a.sectorBad ||| b.sectorBad, lanBad := a.lanBad ||| b.lanBad
    lensOk := a.lensOk && b.lensOk, outlierOk := a.outlierOk && b.outlierOk
    wm := a.wm ||| b.wm, am := a.am ||| b.am, ps := a.ps ||| b.ps }

/-- The fields whose reset value is `fuse`, of the structures in domain `d`, show what `a` leaves available (R67, R72, R209, R246). -/
def showRepair (d : Nat) (a : Avail) (s : State) : State :=
  match d with
  | 0 => wr64 rDEV_BANK_AM_LO a.am (wrn rDEV_BANK_PS a.ps (wrn rDEV_BANK_WM a.wm s))
  | 1 => wrB rLENS_STATUS 0 a.outlierOk (wrB rDEV_CAP0 4 a.lensOk s)
  | 2 =>
    let ok := 15 - a.sectorBad
    forAll (upto 4) (fun c s => wrB (rSC_STATUS c) 3 (nbit ok c) s)
      (wrF rSEC_STATUS 3 0 ok (wrF rDEV_CAP0 3 0 ok s))
  | 4 => wrn rDEV_CAP1 (rdn s rDEV_CAP1 - (rdn s rDEV_CAP1 &&& a.lanBad)) (wrn rDEV_CAP2 a.lanBad s)
  | _ => s

/-- The fields whose reset value is `fuse` as D0 leaves reset, before an image is in force: the fused entries, then the field
entries of the Persistent Record (R67, R72). -/
def fuseFields (s : State) : State :=
  let a := availOf (repairEntries s [])
  forAll [0, 1, 2, 4] (fun d s => showRepair d a s) s

/-- Domain `d` leaves reset with the repair map of `es` applied (R34): availability appears in the registers, and a Lens
whose spares are exhausted takes D1 out of service with E1, cause 3 (R212, R491), until a power cycle (R501). -/
def applyRepair (d : Nat) (es : List (List Byte)) (s : State) : State :=
  let a := availOf es
  let s := showRepair d a s
  if d = 1 ∧ (!a.lensOk || s.fault.repairOos) then
    raiseFatal 1 3 (wrB (rFLT_DOM 1) 5 true (wrF (rFLT_DOM 1) 1 0 3 { s with fault := { s.fault with repairOos := true } }))
  else s

end Sys2Proof.Machine
end

