-- ==== Sys2Proof/Machine/Sector.lean ====
section
/-! DEFINITION. The Sector engine (chapter 8): programs and their checks (R178 to R193), line-synchronous execution of live
and memory chains (R184 to R198), program banks and the swap (R200 to R203), errors and poison (R205, R206). -/

namespace Sys2Proof.Machine

open Sys2Proof

/-! ### Program banks -/

/-- Byte `off` of bank `b` of cluster `c`. -/
def secByte (s : State) (c b off : Nat) : Byte := tget 0 s.secBank ((c * 2 + b) * 196608 + off)
/-- Bytes of a bank. -/
def secBytes (s : State) (c b off n : Nat) : List Byte := (upto n).map (fun k => secByte s c b (off + k))
/-- A little-endian number in a bank. -/
def secNum (s : State) (c b : Nat) : Nat → Nat → Nat := fun off n => ofLe (secBytes s c b off n)
/-- LENGTH of a bank; 0: the bank is empty (R201). -/
def secLen (s : State) (c b : Nat) : Nat := secNum s c b 8 4
/-- The bank in force, or being swapped in. -/
def secActive (s : State) (c : Nat) : Nat := b2n (rdB s (rSC_STATUS c) 0)
/-- The cluster is available: present, and not stopped by its bank (R175, R206). -/
def secAvail (s : State) (c : Nat) : Bool := rdB s (rSC_STATUS c) 3 && !rdB s (rSC_STATUS c) 4

def secCl (s : State) (c : Nat) : SecCl := tget {} s.secCl c
def setSecCl (c : Nat) (x : SecCl) (s : State) : State := { s with secCl := tput {} s.secCl c x }
def secCtx (s : State) (x : Nat) : SecCtx := tget {} s.secCtx x
def setSecCtx (x : Nat) (v : SecCtx) (s : State) : State := { s with secCtx := tput {} s.secCtx x v }

/-! ### Programs (R178 to R182) -/

/-- A layer record (R180). -/
structure SLayer where
  cin : Nat
  cout : Nat
  k : Nat
  sx : Bool
  sy : Bool
  dil : Nat
  src : Nat
  resSrc : Nat
  resEn : Bool
  shuffle : Bool
  act : Nat
  out : Nat
  otype : Nat
  up : Bool
  shift : Nat
  resShift : Nat
  zp : Int
  qmin : Int
  qmax : Int
  param : Nat
  weight : Nat
  pwl : Nat
deriving DecidableEq, Repr

/-- Layer record `l` of a bank. -/
def secLayer (g : Nat → Nat → Nat) (l : Nat) : SLayer :=
  let o := 0x40 + l * 0x20
  let a := g o 4
  let b := g (o + 4) 4
  { cin := nfld a 4 0 + 1, cout := nfld a 9 5 + 1, k := 2 * nfld a 11 10 + 1, sx := nbit a 12, sy := nbit a 13,
    dil := if nbit a 14 then 2 else 1, src := nfld a 20 16, resSrc := nfld a 25 21, resEn := nbit a 26,
    shuffle := nbit a 27, act := nfld b 1 0, out := nfld b 3 2, otype := nfld b 5 4, up := nbit b 6,
    shift := nfld b 13 8, resShift := nfld b 18 14, zp := sext 32 (g (o + 8) 4), qmin := sext 32 (g (o + 12) 4),
    qmax := sext 32 (g (o + 16) 4), param := g (o + 20) 4, weight := g (o + 24) 4, pwl := g (o + 28) 4 }

/-- A chain entry (R179). -/
structure SChain where
  entry : Nat
  memory : Bool
  inMode : Nat
  bayer : Bool
  /-- Stripe width S. -/
  width : Nat
  zp : Int
deriving DecidableEq, Repr

/-- Chain entry `h` of a bank. -/
def secChain (g : Nat → Nat → Nat) (h : Nat) : SChain :=
  let a := g (0x10 + 8 * h) 4
  let z := g (0x14 + 8 * h) 1
  let m := nfld a 7 6
  { entry := nfld a 4 0, memory := nbit a 5, inMode := m, bayer := nbit a 8, width := nfld a 18 12 * 16,
    zp := if m = 1 then sext 8 z else (z : Int) }

/-- WIDE16 input. -/
def SChain.wide (h : SChain) : Bool := decide (h.inMode = 3)

/-- Where a layer lies: the resolution ratios of its input and its output (R182), the latency of its input and output in
half lines (R184), SX2 layers on its path, the reach (R185), its entry layer, and whether every ratio so far is legal. -/
structure LGeo where
  rxi : Nat := 1
  ryi : Nat := 1
  rxo : Nat := 1
  ryo : Nat := 1
  latIn : Nat := 0
  latOut : Nat := 0
  sxs : Nat := 0
  root : Nat := 0
  ok : Bool := true
  /-- Source layers on the way to the entry. -/
  anc : List Nat := []
deriving DecidableEq, Repr

/-- Rows of latency of a layer's window, without the shuffle term: ((k − 1)/2 × d + σ). -/
def SLayer.lead (x : SLayer) : Nat := (x.k - 1) / 2 * x.dil + b2n x.sy

/-- The places of layers 0 to n − 1, in order. -/
def secGeo (g : Nat → Nat → Nat) : Nat → List LGeo
  | 0 => []
  | n + 1 =>
    let l := secGeo g n
    let x := secLayer g n
    let p : LGeo := if x.src < n then l.getD x.src {} else { root := n }
    let rx := p.rxo * (if x.sx then 2 else 1)
    let ry := p.ryo * (if x.sy then 2 else 1)
    let h := x.shuffle
    l ++ [{ rxi := p.rxo, ryi := p.ryo, rxo := if h then max 1 (rx / 2) else rx, ryo := if h then max 1 (ry / 2) else ry,
            latIn := p.latOut, latOut := p.latOut + 2 * x.lead * p.ryo + b2n h * p.ryo, sxs := p.sxs + b2n x.sx,
            root := if x.src < n then p.root else n, ok := p.ok && !(h && decide (rx < 2 ∨ ry < 2)),
            anc := if x.src < n then x.src :: p.anc else [] }]

/-- Channels that a layer emits (R181). -/
def SLayer.emits (x : SLayer) : Nat := if x.shuffle then x.cout / 4 else x.cout
/-- Bytes of a value of a layer's output. -/
def SLayer.obytes (x : SLayer) : Nat := if x.otype = 0 then 1 else 2

/-- A program as read from a bank. -/
structure SProg where
  n : Nat
  layers : List SLayer
  geo : List LGeo
  chains : List SChain
deriving DecidableEq, Repr

/-- The program of a bank. -/
def secProg (g : Nat → Nat → Nat) : SProg :=
  let n := min 24 (g 4 1)
  { n := n, layers := (upto n).map (secLayer g), geo := secGeo g n, chains := (upto (min 4 (g 5 1))).map (secChain g) }

def SProg.layer (p : SProg) (l : Nat) : SLayer := p.layers.getD l (secLayer (fun _ _ => 0) 0)
def SProg.at_ (p : SProg) (l : Nat) : LGeo := p.geo.getD l {}
def SProg.chain (p : SProg) (h : Nat) : SChain := p.chains.getD h (secChain (fun _ _ => 0) 0)
/-- The layers of chain `h`, in table order. -/
def SProg.of (p : SProg) (h : Nat) : List Nat := (upto p.n).filter (fun l => decide ((p.at_ l).root = (p.chain h).entry))
/-- The output layer of a kind of chain `h`: 1 RETURN, 2 ACTMEM. -/
def SProg.outOf (p : SProg) (h kind : Nat) : Option Nat := (p.of h).find? (fun l => decide ((p.layer l).out = kind))

/-- 2^s of R183: s is the largest number of SX2 layers on a path of the chain. -/
def SProg.grain (p : SProg) (h : Nat) : Nat := 2 ^ ((p.of h).foldl (fun m l => max m (p.at_ l).sxs) 0)
/-- The halo H of chain `h` (R185). -/
def SProg.halo (p : SProg) (h : Nat) : Nat :=
  let r := (p.of h).foldl (fun a l => a + ((p.layer l).k - 1) / 2 * (p.layer l).dil * (p.at_ l).rxi) 0
  (r + p.grain h - 1) / p.grain h * p.grain h

/-! ### Validity (R183) -/

/-- The range of an output type (R249). -/
def otypeRange (t : Nat) : Int × Int := if t = 0 then (-128, 255) else if t = 1 then (-32768, 65535) else (0, 65535)
/-- Its span: what QMAX − QMIN must not exceed (R249). -/
def otypeSpan (t : Nat) : Int := if t = 0 then 255 else 65535

/-- Does a layer record break R183? -/
def secLayerBad (g : Nat → Nat → Nat) (p : SProg) (len l : Nat) : Bool :=
  let x := p.layer l
  let o := 0x40 + l * 0x20
  let a := g o 4
  let b := g (o + 4) 4
  let e := p.at_ l
  let r := otypeRange x.otype
  let h := p.chains.find? (fun h => decide (h.entry = e.root))
  let isEntry := decide (x.src = 31)
  nbit a 15 || decide (nfld a 31 28 ≠ 0) || nbit b 7 || decide (nfld b 31 19 ≠ 0)
  || decide (x.src ≠ 31 ∧ l ≤ x.src) || decide (x.act = 3) || decide (x.out = 3) || decide (x.otype = 3)
  || decide (x.zp < r.1 ∨ r.2 < x.zp ∨ x.qmin < r.1 ∨ r.2 < x.qmin ∨ x.qmax < x.qmin ∨ r.2 < x.qmax)
  || decide (otypeSpan x.otype < x.qmax - x.qmin)
  || decide (x.param % 8 ≠ 0 ∨ x.weight % 8 ≠ 0 ∨ x.pwl % 8 ≠ 0) || (decide (x.act ≠ 2) && decide (x.pwl ≠ 0))
  || decide (len < x.param + 8 * x.cout ∨ len < x.weight + x.cout * x.k * x.k * x.cin)
  || (decide (x.act = 2) && (decide (len < x.pwl + 2064) || !pwlOk (fun f n => g (x.pwl + f) n)))
  || h.isNone || !((upto p.n).any (fun m => (decide (m = l) || (p.at_ m).anc.contains l) && decide ((p.layer m).out ≠ 0)))
  || decide (7 < (x.k - 1) * x.dil + 1) || !e.ok
  || (isEntry && (match h with | some h => h.wide | none => false) && decide (16 < x.cin))
  || (x.shuffle && decide (x.cout % 4 ≠ 0))
  || (x.resEn && (!e.anc.contains x.resSrc || decide ((p.layer x.resSrc).emits ≠ x.cout)
      || decide ((p.at_ x.resSrc).rxo ≠ e.rxi * (if x.sx then 2 else 1) ∨ (p.at_ x.resSrc).ryo ≠ e.ryi * (if x.sy then 2 else 1))))
  || decide ((x.out = 1 ∧ x.otype ≠ 2) ∨ (x.otype = 2 ∧ x.out ≠ 1))
  || (decide (x.out = 1) && ((match h with | some h => h.memory | none => false) || decide (e.rxo ≠ 1 ∨ e.ryo ≠ 1)))

/-- Does a chain entry break R183? -/
def secChainBad (g : Nat → Nat → Nat) (p : SProg) (h : Nat) : Bool :=
  let c := p.chain h
  let a := g (0x10 + 8 * h) 4
  let b := g (0x14 + 8 * h) 4
  let outs (k : Nat) : Nat := ((p.of h).filter (fun l => decide ((p.layer l).out = k))).length
  decide (nfld a 11 9 ≠ 0 ∨ nfld a 31 19 ≠ 0 ∨ b / 256 ≠ 0)
  || (if c.memory then decide (c.inMode = 2) else decide (c.inMode < 2))
  || decide (c.width < 64 ∨ 1024 < c.width) || decide (p.n ≤ c.entry) || decide ((p.layer c.entry).src ≠ 31)
  || ((upto h).any (fun k => decide ((p.chain k).entry = c.entry)))
  || decide (outs 1 + outs 2 = 0 ∨ 1 < outs 1 ∨ 1 < outs 2)
  || decide (c.width % p.grain h ≠ 0 ∨ 16 < p.halo h)

/-- The refuse reason of R201 for a bank's contents by themselves: 2 magic, length or CRC; 3 a field; 0 none. -/
def secBad (bytes : List Byte) (g : Nat → Nat → Nat) : Nat :=
  let len := g 8 4
  if g 0 4 ≠ 0x52504353 ∨ len < 0x340 ∨ 196608 < len ∨ len % 8 ≠ 0
      ∨ crc32c ((bytes.take 0x3C) ++ (bytes.take len).drop 0x40) ≠ g 0x3C 4 then 2
  else
    let p := secProg g
    if g 4 1 < 1 ∨ 24 < g 4 1 ∨ g 5 1 < 1 ∨ 4 < g 5 1 ∨ g 6 2 ≠ 0 ∨ g 0xC 4 ≠ 0 ∨ g 0x30 12 ≠ 0
        ∨ (upto 4).any (fun h => decide (g 5 1 ≤ h ∧ g (0x10 + 8 * h) 8 ≠ 0))
        ∨ (upto 24).any (fun l => decide (g 4 1 ≤ l ∧ g (0x40 + 32 * l) 32 ≠ 0))
        ∨ (upto p.n).any (secLayerBad g p len) ∨ (upto p.chains.length).any (secChainBad g p) then 3
    else 0

/-! ### Line state (R190 to R192) -/

/-- row(w, C, b) of R191. -/
def secRow (w c b : Nat) : Nat := (w * c * b + 63) / 64 * 64

/-- Bytes of a sample of a layer's input. -/
def SProg.inBytes (p : SProg) (h l : Nat) : Nat :=
  let x := p.layer l
  if x.src = 31 then (if (p.chain h).wide then 2 else 1) else (p.layer x.src).obytes

/-- The line state of one stripe of chain `h` (R191). -/
def SProg.lineState (p : SProg) (h : Nat) : Nat :=
  let c := p.chain h
  let w0 := c.width + 2 * p.halo h
  (p.of h).foldl (fun a l =>
    let x := p.layer l
    let e := p.at_ l
    let n := (x.k - 1) * x.dil + b2n x.sy
    let a := a + n * secRow (w0 / e.rxi) x.cin (p.inBytes h l)
    let r := p.at_ x.resSrc
    let a := if x.resEn then
        a + ((e.latOut - r.latOut) + 2 * r.ryo - 1) / (2 * r.ryo) * secRow (w0 / r.rxo) (p.layer x.resSrc).emits 1 else a
    let a := if x.shuffle then a + secRow (w0 / e.rxo) x.emits x.obytes else a
    if x.out = 0 then a else a + 2 * secRow (c.width / e.rxo) x.emits x.obytes) 0

/-- SEC_CTX_MAP: the clusters of a context, its chain, and whether the routes bind it (R209). -/
def mapClusters (s : State) (x : Nat) : Nat := rdF s (rSEC_CTX_MAP x) 3 0
def mapChain (s : State) (x : Nat) : Nat := rdF s (rSEC_CTX_MAP x) 5 4
/-- Does cluster `c` serve context `x`? -/
def serves (s : State) (c x : Nat) : Bool := rdB s (rSEC_CTX_MAP x) 6 && nbit (mapClusters s x) c

/-- The columns of a context's frames. -/
def secWidth (s : State) (x : Nat) : Nat :=
  match (tget [] s.spliceq x) with
  | (_, .start f) :: _ => f.width
  | _ => (ctxSize s x).1

/-- The stripes of context `x` that cluster `c` holds under a stripe width: from, up to (R190). -/
def secShare (s : State) (c x width : Nat) : Nat × Nat :=
  let m := popcnt 4 (mapClusters s x)
  let j := popcnt c (mapClusters s x)
  let n := if width = 0 then 0 else (secWidth s x + width - 1) / width
  if m = 0 then (0, 0) else (j * n / m, (j + 1) * n / m)

/-- The stripes that cluster `c` holds of context `x` with a program. -/
def secHeld (s : State) (p : SProg) (c x : Nat) : List Nat :=
  if serves s c x ∧ mapChain s x < p.chains.length then
    let r := secShare s c x (p.chain (mapChain s x)).width
    (upto (r.2 - r.1)).map (fun k => r.1 + k)
  else []

/-- Line state of cluster `c`: a term for every context it serves, and one for every memory chain (R192). With `old` the
larger of both programs counts for each, as in a restructuring swap. -/
def secLineState (s : State) (c : Nat) (p : SProg) (old : Option SProg) : Nat :=
  let ctx (p : SProg) (x : Nat) : Nat := (secHeld s p c x).length * p.lineState (mapChain s x)
  let mem (p : SProg) (h : Nat) : Nat := if h < p.chains.length ∧ (p.chain h).memory then p.lineState h else 0
  let or_ (f : SProg → Nat) : Nat := match old with | none => f p | some q => max (f p) (f q)
  (upto 16).foldl (fun a x => a + or_ (fun q => ctx q x)) 0 + (upto 4).foldl (fun a h => a + or_ (fun q => mem q h)) 0

/-! ### Fit to the routes (R193) -/

/-- Samples per pixel at a tap: one at T0 to T2, three at T3 and T4 (R141). -/
def tapSamples (t : Nat) : Nat := if t ≤ 2 then 1 else 3

/-- Does chain `h` of a program fit a splice with the given CTX_SPLICE (R193)? -/
def secFits (p : SProg) (h : Nat) (k : Word) : Bool :=
  let c := p.chain h
  let ret := fld k 6 4
  decide (h < p.chains.length) && !c.memory && decide ((p.layer c.entry).cin = tapSamples (fld k 3 1)) &&
    (match p.outOf h 1 with
     | none => decide (ret = 7)
     | some l => decide (ret ≠ 7) && decide ((p.layer l).emits = if ret = 2 ∧ bit k 7 then 3 else tapSamples ret))

/-- Does a program fit every context routed to cluster `c`? A context whose splice is off has no tap to fit. -/
def secFitsAll (s : State) (c : Nat) (p : SProg) : Bool :=
  (upto 16).all (fun x => !serves s c x ||
    (decide (mapChain s x < p.chains.length) && !(p.chain (mapChain s x)).memory &&
      (let k := rd s (rCTX_SPLICE x + 0x8000)
       !bit k 0 || secFits p (mapChain s x) k))) &&
  decide ((upto 16).foldl (fun a x => a + (secHeld s p c x).length) 0 ≤ 64)

/-- Do the chains of the clusters that serve context `x` fit its splice, with one stripe width (R143, R193)? -/
def chainFits (s : State) (x : Nat) (k : Word) : Bool :=
  let cs := (upto 4).filter (serves s · x)
  let pr (c : Nat) : SProg := secProg (secNum s c (secActive s c))
  !cs.isEmpty && cs.all (fun c => decide (secLen s c (secActive s c) ≠ 0) && secFits (pr c) (mapChain s x) k) &&
    cs.all (fun c => decide (((pr c).chain (mapChain s x)).width = ((pr (cs.headD 0)).chain (mapChain s x)).width))

/-! ### The status registers -/

/-- SC_STATUS, SC_LB_ACTIVE and SEC_STATUS follow the cluster. -/
def secRefresh (c : Nat) (s : State) : State :=
  let b := secActive s c
  let p := secProg (secNum s c b)
  let sw := (secCl s c).swap
  let old := match sw with | none => 0 | some w => w.left.length + w.memLeft.length + b2n w.memRun
  let held := (upto 16).foldl (fun a x => a + (secHeld s p c x).length) 0
  let st := setBit (rd s (rSC_STATUS c)) 1 sw.isSome
  let st := setBit st 2 (match sw with | none => false | some w => w.restruct)
  let st := setBit st 5 (decide (secLen s c b = 0))
  let st := setFld (setFld st 15 8 (min 255 old)) 22 16 held
  let s := wr (rSC_STATUS c) st s
  wrB rSEC_STATUS (4 + c) sw.isSome (wrn (rSC_LB_ACTIVE c) (if secLen s c b = 0 then 0 else secLineState s c p none) s)
/-- The same of every cluster, after a change of the routes or of a frame width. -/
def secRefreshAll (s : State) : State := forAll (upto 4) secRefresh s

/-- SC_MJ_STATUS follows the queue (R198). -/
def secMjStatus (c : Nat) (waiting : Bool) (s : State) : State :=
  let k := secCl s c
  let w := setFld (rd s (rSC_MJ_STATUS c)) 4 0 k.queue.length
  wr (rSC_MJ_STATUS c) (setBit (setBit w 5 k.run.isSome) 6 waiting) s

/-! ### The swap (R201, R202) -/

/-- The swap ends when the last stripe has moved. -/
def secSwapEnd (c : Nat) (s : State) : State :=
  match (secCl s c).swap with
  | some w =>
    if w.left.isEmpty ∧ w.memLeft.isEmpty ∧ !w.memRun then
      secRefresh c (wrB (rSC_PROG_CTRL c) 4 true (setSecCl c { secCl s c with swap := none } s))
    else secRefresh c s
  | none => s

/-- Stripes that satisfy a condition move to the new bank. -/
def secMove (c : Nat) (f : Nat × Nat → Bool) (s : State) : State :=
  match (secCl s c).swap with
  | some w => secSwapEnd c (setSecCl c { secCl s c with swap := some { w with left := w.left.filter (fun x => !f x) } } s)
  | none => s

/-- The running memory job's stripe has moved, or is gone. -/
def secMemMove (c : Nat) (s : State) : State :=
  match (secCl s c).swap with
  | some w => secSwapEnd c (setSecCl c { secCl s c with swap := some { w with memRun := false } } s)
  | none => s
/-- A job of memory chain `h` starts: the chain moves, where a restructuring swap has left it behind (R202). -/
def secChainMove (c h : Nat) (s : State) : State :=
  match (secCl s c).swap with
  | some w => secSwapEnd c (setSecCl c { secCl s c with swap := some { w with memLeft := w.memLeft.filter (fun k => decide (k ≠ h)) } } s)
  | none => s

/-- Is the swap of cluster `c` a compatible one? -/
def secCompat (s : State) (c : Nat) : Bool := match (secCl s c).swap with | some w => !w.restruct | none => false

/-- The bank that a stripe of a live chain runs from. -/
def secBankOf (s : State) (c x i : Nat) : Nat :=
  let a := secActive s c
  match (secCl s c).swap with
  | some w => if w.left.contains (x, i) then 1 - a else a
  | none => a

/-- The check of R201: a refuse reason, or 0. Reads of the bank may find an uncorrectable word, which counts as BANK_ERR on
the target. -/
def secCheck (s : State) (c : Nat) (bad : Bool) : Nat :=
  let t := 1 - secActive s c
  let g := secNum s c t
  if (secCl s c).swap.isSome then 1
  else if !rdB s (rSC_STATUS c) 3 ∨ bad then 5
  else if secLen s c t = 0 then 7
  else
    let b := secBad (secBytes s c t 0 (min 196608 (secLen s c t))) g
    if b ≠ 0 then b
    else if !secFitsAll s c (secProg g) then 6
    else 0

/-- Does a bank hold a word that a DMA chain wrote with the uncorrectable pattern (R391)? -/
def secMarked (s : State) (c b : Nat) : Bool :=
  s.secPois.any (fun x => decide ((c * 2 + b) * 49152 ≤ x.1 ∧ x.1 < (c * 2 + b + 1) * 49152))

/-- Are two banks compatible (R201)? -/
def secSame (a b : Nat → Nat → Nat) : Bool :=
  decide (a 4 2 = b 4 2) && (upto 4).all (fun h => decide (a (0x10 + 8 * h) 8 = b (0x10 + 8 * h) 8)) &&
    (upto 24).all (fun l => decide (a (0x40 + 32 * l) 4 = b (0x40 + 32 * l) 4))

/-- Source 19, a refusal or a bank event of the Sector engine: events 64 to 67, 69 and 70 (R320, R338). -/
def secSignal (s : State) : State := assertRouted rLCL_ROUTE0 24 19 s

/-- COMMIT is refused (R201). -/
def secRefuse (c why : Nat) (s : State) : State :=
  secSignal <| raiseE 65 2 (wrF (rSC_PROG_CTRL c) 11 8 why (wrB (rSC_PROG_CTRL c) 3 true s))

/-- The memory chains that a restructuring swap moves at their next job start: those of the new program that are memory chains of
the old one too (R202). -/
def secMemChains (old new : SProg) : List Nat :=
  (upto 4).filter (fun h => decide (h < old.chains.length ∧ h < new.chains.length) && (old.chain h).memory && (new.chain h).memory)

/-- COMMIT of cluster `c`: the check, then the swap begins or the program is refused (R201, R206). -/
def secCommit (c : Nat) (bad : Bool) (s : State) : State :=
  let s := wrB (rSC_PROG_CTRL c) 1 false (setSecCl c { secCl s c with e64 := false } s)
  let why := secCheck s c (bad || secMarked s c (1 - secActive s c))
  let a := secActive s c
  let g := secNum s c (1 - a)
  let old := secNum s c a
  let same := secSame g old
  let p := secProg g
  let lines := secLineState s c p (if same ∨ secLen s c a = 0 then none else some (secProg old))
  -- line state that the 22 bits of SC_LB_CHECKED cannot hold shows as a free value (log entry 49)
  let s := if why = 0 ∨ why = 6 then
      (if lines < 2 ^ 22 then wrn (rSC_LB_CHECKED c) lines s
       else let f := takeFree s; wrn (rSC_LB_CHECKED c) (f.1.toNat % 2 ^ 22) f.2)
    else s
  let why := if why = 0 ∧ 2031616 < lines then 4 else why
  if why ≠ 0 then secRefuse c why s
  else
    let held := (upto 16).flatMap (fun x => (secHeld s (secProg old) c x).map (fun i => (x, i)))
    let held := if secLen s c a = 0 then [] else held
    let s := wrF (rSC_PROG_CTRL c) 11 8 0 (wrB (rSC_STATUS c) 0 (decide (a = 0)) (wrB (rSC_STATUS c) 4 false s))
    let mem := if same ∨ secLen s c a = 0 then [] else secMemChains (secProg old) p
    let runs := match (secCl s c).run with | some r => !mem.contains r.mj.chain | none => false
    secSwapEnd c (setSecCl c { secCl s c with
      swap := some { restruct := !same, left := held, memLeft := mem, memRun := runs, began := s.clock.aon } } s)

/-! ### Rows of a stripe -/

/-- What one stripe of a chain runs under. -/
structure SEnv where
  g : Nat → Nat → Nat
  p : SProg
  h : Nat
  /-- Stripe number, its first column, width of the frame. -/
  x0 : Nat
  w : Nat
  /-- Input rows above row 0, and rows from row 0 on, once the end of the frame is known (R187, R197). -/
  top : Nat
  rows : Option Nat
  /-- Rows that produce output, once known. -/
  outRows : Option Nat
  free : Nat

/-- Key of row `y` of layer `l` (31: the chain input) in a stripe. -/
def secKey (l : Nat) (y : Int) : Nat := l * 2 ^ 24 + (y + 64).toNat

/-- First and last row of the frame at a row ratio (R187). -/
def SEnv.lo (e : SEnv) (r : Nat) : Int := -((e.top / r : Nat) : Int)
def SEnv.hi (e : SEnv) (r : Nat) : Option Int := e.rows.map (fun n => ((n : Int) - 1) / (r : Nat))

/-- The row of a layer's source that stands for row `y`, with edge replication (R187). -/
def SEnv.rowIn (e : SEnv) (l : Nat) (y : Int) : Int :=
  let src := (e.p.layer l).src
  let q := e.p.at_ l
  let input := decide (src = 31)
  let mono := !(input && (e.p.chain e.h).bayer)
  let lo : Int := if !input ∧ (e.p.layer src).shuffle then 2 * e.lo (2 * q.ryi) else e.lo q.ryi
  let hi : Int := (e.hi q.ryi).getD (max y lo)
  if y < lo ∨ hi < y then
    match edgeIx mono (hi - lo + 1).toNat (y - lo) with | some k => lo + k | none => y
  else y

/-- The value of channel `ch` of a source at row `y`, column `x`, with edge replication (R187). Beyond the stripe's extent,
and for a channel that the source lacks, the value is free (R186; log entry 1). -/
def SEnv.at_ (e : SEnv) (st : Stripe) (l ch : Nat) (y x : Int) : Int :=
  let src := (e.p.layer l).src
  let c := e.p.chain e.h
  let q := e.p.at_ l
  let wr := (e.w + q.rxi - 1) / q.rxi
  let input := decide (src = 31)
  let mono := !(input && c.bayer)
  let y' := e.rowIn l y
  let xc : Int := match edgeIx mono wr x with | some k => k | none => x
  let ext := (c.width + 2 * e.p.halo e.h) / q.rxi
  let xl := xc - (((e.x0 : Int) - e.p.halo e.h) / (q.rxi : Nat))
  let row := tget {} st.rows (secKey src y')
  if 0 ≤ xl ∧ xl < ext ∧ ch < row.ch.length then
    let v := (row.ch.getD ch []).getD xl.toNat 0
    if !input then v - (e.p.layer src).zp
    else match c.inMode with
      | 2 => v / 256 - c.zp
      | 3 => (v / 256 - c.zp) * 256 + v % 256
      | _ => v - c.zp
  else sext 9 (Config.freeWord (e.free + ((l * 32 + ch) * 2 ^ 20 + (y + 64).toNat) * 2 ^ 12 + (x + 2048).toNat)).toNat

/-- Is row `y` of a layer's source poisoned? -/
def SEnv.bad (e : SEnv) (st : Stripe) (l : Nat) (y : Int) : Bool :=
  let src := (e.p.layer l).src
  let y' := e.rowIn l y
  (tget {} st.rows (secKey src y')).poison

/-- One output element (R177): the value, and which clamps counted. -/
def secElem (e : SEnv) (st : Stripe) (l o : Nat) (ops : List Int) (j px : Int) : Int × List Nat :=
  let x := e.p.layer l
  let n := ops.length
  let w (i : Nat) : Int := sext 8 (e.g (x.weight + o * n + i) 1)
  let acc := sat32 ((upto n).foldl (fun a i => a + ops.getD i 0 * w i) 0)
  let a := acc.1 + sext 32 (e.g (x.param + 4 * o) 4)
  let a := if x.resEn then
      let r := e.p.layer x.resSrc
      let q := e.p.at_ x.resSrc
      let xl := px - (((e.x0 : Int) - e.p.halo e.h) / (q.rxo : Nat))
      let v := ((tget {} st.rows (secKey x.resSrc j)).ch.getD o []).getD xl.toNat 0
      a + (v - r.zp) * ((2 ^ x.resShift : Nat) : Int)
    else a
  let y := rshift x.up (a * sext 32 (e.g (x.param + 4 * x.cout + 4 * o) 4)) x.shift
  let q := clampC x.qmin x.qmax (y + x.zp)
  let v := match x.act with
    | 1 => max q.1 x.zp
    | 2 => clampI x.qmin x.qmax (pwlAt x.up (fun f n => e.g (x.pwl + f) n) q.1)
    | _ => q.1
  (v, [acc.2, q.2])

/-- Computed row `j` of layer `l`: its channels over the extent, its poison, and the clamps counted (high, low). -/
def secLayerRow (e : SEnv) (st : Stripe) (l : Nat) (j : Int) : SRow × Nat × Nat :=
  let x := e.p.layer l
  let q := e.p.at_ l
  let ox : Nat := if x.sx then 2 else 1
  let oy : Nat := if x.sy then 2 else 1
  let r := (x.k - 1) / 2
  let n := ((e.p.chain e.h).width + 2 * e.p.halo e.h) / (q.rxi * ox)
  let first : Int := ((e.x0 : Int) - e.p.halo e.h) / ((q.rxi * ox : Nat) : Int)
  let pos := (upto n).map (fun i =>
    let px := first + i
    let ops := (upto x.k).flatMap (fun ky => (upto x.k).flatMap (fun kx => (upto x.cin).map (fun ch =>
      e.at_ st l ch (j * oy + ((ky : Int) - r) * x.dil) (px * ox + ((kx : Int) - r) * x.dil))))
    (upto x.cout).map (fun o => secElem e st l o ops j px))
  let cnt (k : Nat) : Nat := pos.foldl (fun a p => p.foldl (fun a v => a + (v.2.filter (· = k)).length) a) 0
  let poison := (upto x.k).any (fun ky => e.bad st l (j * oy + ((ky : Int) - r) * x.dil)) ||
    (x.resEn && (tget {} st.rows (secKey x.resSrc j)).poison)
  ({ ch := (upto x.cout).map (fun o => pos.map (fun p => (p.getD o (0, [])).1)), poison := poison }, cnt 1, cnt 2)

/-- Row of sub-position `dy` that a shuffle layer emits (R181). -/
def secShuffle (r : SRow) (dy : Nat) : SRow :=
  { r with ch := (upto (r.ch.length / 4)).map (fun c =>
      let a := r.ch.getD (4 * c + 2 * dy) []
      let b := r.ch.getD (4 * c + 2 * dy + 1) []
      (upto a.length).flatMap (fun i => [a.getD i 0, b.getD i 0])) }

/-- The row of a ratio and a latency, in half lines, that falls due at chain row `u`; none where none does (R184). -/
def secDue (ratio lat : Nat) (u : Int) : Option Int :=
  let n := 2 * u - lat
  let j := n / ((2 * ratio : Nat) : Int)
  if n - 2 * ratio * j ≤ 1 then some j else none

/-- Is row `y` within the rows of a frame at a ratio? -/
def SEnv.inRows (e : SEnv) (r : Nat) (y : Int) : Bool :=
  decide (e.lo r ≤ y) && (match e.hi r with | some m => decide (y ≤ m) | none => true)

/-- What a unit did: the stripe, cycles, clamps high and low, and rows of the outputs: (layer, row). -/
structure SUnit where
  st : Stripe
  cycles : Nat := 0
  high : Nat := 0
  low : Nat := 0
  outs : List (Nat × Int) := []
deriving DecidableEq, Repr

/-- One layer in a unit: it computes its row if one is due, and an output layer emits its row if one is due (R184, R188). -/
def secLayerStep (e : SEnv) (u : Int) (a : SUnit) (l : Nat) : SUnit :=
  let x := e.p.layer l
  let q := e.p.at_ l
  let ratio := q.ryi * (if x.sy then 2 else 1)
  let a := match secDue ratio (q.latIn + 2 * x.lead * q.ryi) u with
    | none => a
    | some j =>
      if !e.inRows ratio j then a
      else
        let r := secLayerRow e a.st l j
        let n := ((e.p.chain e.h).width + 2 * e.p.halo e.h) / (q.rxi * (if x.sx then 2 else 1))
        let lanes := x.cin * (if x.src = 31 ∧ (e.p.chain e.h).wide then 2 else 1)
        let cost := ((x.k * x.k * lanes + 31) / 32 * x.cout + 127) / 128 * n + 16
        let rows := if x.shuffle then
            tput {} (tput {} a.st.rows (secKey l (2 * j)) (secShuffle r.1 0)) (secKey l (2 * j + 1)) (secShuffle r.1 1)
          else tput {} a.st.rows (secKey l j) r.1
        { a with st := { a.st with rows := rows }, cycles := a.cycles + cost, high := a.high + r.2.1, low := a.low + r.2.2 }
  if x.out = 0 then a
  else match secDue q.ryo q.latOut u with
    | none => a
    | some y =>
      let last : Int := match e.outRows with | some n => ((n : Int) - 1) / (q.ryo : Nat) | none => y
      if 0 ≤ y ∧ y ≤ last then
        { a with outs := a.outs ++ [(l, y)] }
      else a

/-- A unit of a stripe: every layer of the chain, in table order (R188). -/
def secUnit (e : SEnv) (st : Stripe) : SUnit :=
  let a := (e.p.of e.h).foldl (secLayerStep e ((st.t : Int) - e.top)) { st := st }
  { a with st := { a.st with t := a.st.t + 1 } }

/-- The columns of a stripe itself in an output row, cut at the frame's edge (R186, R190). -/
def secOwn (e : SEnv) (st : Stripe) (l : Nat) (y : Int) : SRow :=
  let q := e.p.at_ l
  let r := tget {} st.rows (secKey l y)
  let skip := e.p.halo e.h / q.rxo
  let n := min ((e.p.chain e.h).width / q.rxo) ((e.w + q.rxo - 1) / q.rxo - e.x0 / q.rxo)
  { r with ch := r.ch.map (fun v => (v.drop skip).take n) }

/-- Rows that an output layer has to produce for a number of input rows. -/
def secOutRows (p : SProg) (l rows : Nat) : Nat := (rows + (p.at_ l).ryo - 1) / (p.at_ l).ryo

/-- Has a stripe produced all output rows of a frame of `rows` rows? -/
def secFinished (p : SProg) (h : Nat) (st : Stripe) (rows : Nat) : Bool :=
  (match p.outOf h 1 with | some l => decide (secOutRows p l rows ≤ st.nRet) | none => true) &&
  (match p.outOf h 2 with | some l => decide (secOutRows p l rows ≤ st.nAct) | none => true)

/-- The counters of a unit (R205, R207, R209). -/
def secCount (c : Nat) (a : SUnit) (live : Bool) (stallIn stallOut : Nat) (s : State) : State :=
  let s := bump (rSC_CNT c (if live then 0 else 1)) 1 s
  let s := bumpW (rSC_CNT c 4) stallOut (bumpW (rSC_CNT c 3) stallIn (bumpW (rSC_CNT c 2) a.cycles s))
  bump (rSC_CNT c 6) a.low (bump (rSC_CNT c 5) a.high s)

/-! ### Live frames -/

/-- The frame at the head of a context's hand-over: marker, lines with their order, and the order of the end marker. -/
def secHead (s : State) (x : Nat) : Option (FrameInfo × List (Nat × Line) × Option Nat) :=
  match tget [] s.spliceq x with
  | (_, .start f) :: t =>
    let body := t.takeWhile (fun i => match i.2 with | .line _ => true | _ => false)
    let ls := body.filterMap (fun i => match i.2 with | .line l => some (i.1, l) | _ => none)
    let e := match t.drop body.length with | (n, .stop _) :: _ => some n | _ => none
    some (f, ls, e)
  | _ => none

/-- A frame's start marker reaches the Sector engine: the tee set is latched, stripes of a restructuring swap move, line
state begins empty (R195, R202). -/
def secBegin (x : Nat) (s : State) : State :=
  match secHead s x with
  | none => s
  | some (f, _, _) =>
    if (secCtx s x).begun then s
    else
      let s := forAll (upto 4) (fun c s =>
        if serves s c x ∧ !secCompat s c then secMove c (fun k => decide (k.1 = x)) s else s) s
      let rw := rd s (rSEC_TEE_ROW x)
      let sm := rd s (rSEC_TEE_SEM x)
      let base := rdF s (rSEC_TEE_BASE x) 25 0
      let plane := rdF s (rSEC_TEE_PLANE x) 25 0
      let s := setSecCtx x {
        begun := true, back := (secCtx s x).back, teeBase := base, teeRow := fld rw 15 0, teeRows := max 1 (fld rw 31 16), teePlane := plane,
        teeSem := if bit sm 10 then some (fld sm 9 0) else none, teePer := max 1 (fld sm 31 16), teeOn := splTee f x } s
      forAll ((upto 4).filter (serves s · x)) secRefresh s

/-- The program that a stripe of context `x` on cluster `c` runs. -/
def secProgOf (s : State) (c x i : Nat) : SProg := secProg (secNum s c (secBankOf s c x i))

/-- The bank by which a context's stripes are cut: the old one until they have moved (R202). -/
def secCtxBank (s : State) (c x : Nat) : Nat :=
  match (secCl s c).swap with
  | some w => if w.restruct ∧ w.left.any (fun k => decide (k.1 = x)) then 1 - secActive s c else secActive s c
  | none => secActive s c

/-- The stripes of context `x`: cluster and number, left to right. -/
def secStripes (s : State) (x : Nat) : List (Nat × Nat) :=
  (upto 4).flatMap (fun c => (secHeld s (secProg (secNum s c (secCtxBank s c x))) c x).map (fun i => (c, i)))

/-- A stripe in work. -/
def secStripe (s : State) (x c i : Nat) : Stripe := tget {} (secCtx s x).stripes (c * 1024 + i)
def setSecStripe (x c i : Nat) (st : Stripe) (s : State) : State :=
  let k := secCtx s x
  setSecCtx x { k with stripes := tput {} k.stripes (c * 1024 + i) st } s

/-- When the next unit of a stripe became ready, if it is ready: the order of the line's arrival, or of the end marker for
a draining unit (R188, R189). -/
def secReady (s : State) (x c i : Nat) : Option Nat :=
  if !(secCtx s x).begun then none
  else match secHead s x with
    | none => none
    | some (_, ls, e) =>
      let st := secStripe s x c i
      match ls[st.t]? with
      | some l => some l.1
      | none => match e with
        | none => none
        | some n => if secFinished (secProgOf s c x i) (mapChain s x) st ls.length then none else some n

/-- The live unit that cluster `c` starts: the one that has waited longest, then the lowest context and stripe (R189). -/
def secPick (s : State) (c : Nat) : Option (Nat × Nat) :=
  let all := (upto 16).flatMap (fun x => ((secStripes s x).filter (fun k => decide (k.1 = c))).filterMap (fun k =>
    (secReady s x c k.2).map (fun n => (n, x, k.2))))
  let best := all.foldl (fun (best : Option (Nat × Nat × Nat)) k => match best with
    | none => some k
    | some b => if k.1 < b.1 then some k else best) none
  best.map (fun k => k.2)

/-- The agent of a cluster's port (R281); the Sector engine belongs to class LENS. -/
def secAgent (c : Nat) : Agent := { port := 5 + c, cls := 1, who := none }

/-- Is the tee ring refused: outside the banks of the port, or not aligned (R195)? -/
def teeRefused (s : State) (x c ch width b : Nat) : Bool :=
  let k := secCtx s x
  let n := (ch - 1) * k.teePlane + (k.teeRows - 1) * k.teeRow + width * b
  decide (k.teeBase % 64 ≠ 0 ∨ k.teeRow % 64 ≠ 0 ∨ k.teePlane % 64 ≠ 0) || decide (0x4000000 < k.teeBase + n)
    || !decodesAll s (amBase + k.teeBase) n || !ownsAll s (5 + c) (amBase + k.teeBase) n

/-- The bytes of a row of values of an output layer. -/
def secRowBytes (b : Nat) (v : List Int) : List Byte := v.flatMap (fun q => leBytes b (wrapN (8 * b) q))

/-- One ACTMEM row of a live chain goes into the tee ring, with RET_TAP TEE (R195, R205). A refusal counts once per frame in
SC_CNT, as WR_REFUSED (log entry 49). -/
def secTee (x c : Nat) (e : SEnv) (st : Stripe) (l : Nat) (y : Int) (s : State) : State :=
  let k := secCtx s x
  if !k.teeOn then s else
  let lay := e.p.layer l
  let b := lay.obytes
  let ro := (e.p.at_ l).rxo
  let r := secOwn e st l y
  if k.teeBad || teeRefused s x c lay.emits ((e.w + ro - 1) / ro) b then
    let s := setSecCtx x { k with teeBad := true, e70 := true } s
    if k.e70 then s else secSignal (raiseE 70 2 (bump (rSC_CNT c 8) 1 s))
  else
    forAll (upto lay.emits) (fun ch s =>
      devPut (secAgent c) (amBase + k.teeBase + ch * k.teePlane + (y.toNat % k.teeRows) * k.teeRow + e.x0 / ro * b)
        (secRowBytes b (r.ch.getD ch [])) r.poison s) s

/-- A release of the tee semaphore (R195). -/
def teeSignal (x : Nat) (s : State) : State :=
  match (secCtx s x).teeSem with
  | some n => if (secCtx s x).teeBad || !(secCtx s x).teeOn then s else semRelease n 1 s
  | none => s

/-- Rows of the tee that every stripe has written are complete: a release after every PER_SIGNAL of them (R195). -/
def teeAdvance (x : Nat) (s : State) : State :=
  let k := secCtx s x
  let n := (secStripes s x).foldl (fun m q => min m (secStripe s x q.1 q.2).nAct) 0x100000
  let n := if n = 0x100000 then 0 else n
  forAll ((upto (n - k.teeDone)).map (fun d => k.teeDone + 1 + d)) (fun r s =>
    if r % k.teePer = 0 then teeSignal x s else s) (setSecCtx x { k with teeDone := max n k.teeDone } s)

/-- The fabric joins the stripes' RETURN rows into whole lines, in order (R194). -/
def secJoin (x : Nat) : Nat → State → State
  | 0, s => s
  | n + 1, s =>
    let qs := secStripes s x
    if qs.isEmpty ∨ qs.any (fun q => (secStripe s x q.1 q.2).outs.isEmpty) then s
    else
      let rs := qs.map (fun q => (secStripe s x q.1 q.2).outs.headD {})
      let k := secCtx s x
      let src := match secHead s x with | some (_, ls, _) => (ls.getD k.joined (0, {})).2 | none => {}
      let ch := (rs.headD {}).ch.length
      let line : Line := { planes := (upto ch).map (fun o => rs.flatMap (fun r => (r.ch.getD o []).map Int.toNat)),
                           idx := k.joined, short := src.short, long := src.long, poison := rs.any (fun r => r.poison) }
      let s := setSecCtx x { k with joined := k.joined + 1, back := k.back ++ [line] } s
      secJoin x n (forAll qs (fun q s =>
        let st := secStripe s x q.1 q.2
        setSecStripe x q.1 q.2 { st with outs := st.outs.drop 1 } s) s)

/-- The head frame of a context has left the engine: its line state is freed, and the next frame begins. -/
def secFrameDone (x : Nat) (s : State) : State :=
  match secHead s x with
  | some (_, ls, some _) =>
    let k := secCtx s x
    if k.begun ∧ (secStripes s x).all (fun q => secFinished (secProgOf s q.1 x q.2) (mapChain s x) (secStripe s x q.1 q.2) ls.length) then
      let s := if k.teeDone % k.teePer ≠ 0 then teeSignal x s else s
      let s := setSecCtx x { back := (secCtx s x).back } s
      { s with spliceq := tput [] s.spliceq x ((tget [] s.spliceq x).drop (ls.length + 2)) }
    else s
  | _ => s

/-- What the engine does of itself when an item has arrived or a unit has ended: frames begin and end. -/
def secPoll (x : Nat) (s : State) : State := secBegin x (secFrameDone x (secBegin x s))

/-- The chain-input row of a line over a stripe's extent (R186, R190); a line of one plane gives it to every channel. -/
def secLineRow (p : SProg) (h x0 w : Nat) (l : Line) : SRow :=
  let c := p.chain h
  let n := c.width + 2 * p.halo h
  { ch := (upto (p.layer c.entry).cin).map (fun ch =>
      let px := l.planes.getD ch (l.planes.headD [])
      (upto n).map (fun i =>
        let col : Int := (x0 : Int) - p.halo h + i
        if 0 ≤ col ∧ col < w then (px.getD col.toNat 0 : Int) else 0)),
    poison := l.poison }

/-- An uncorrectable error in a bank in force stops the cluster (R206). -/
def secBankErr (c : Nat) (s : State) : State :=
  let k := secCl s c
  let js := (match k.run with | some r => [r.mj] | none => []) ++ k.queue
  let ref (m : SecMj) : JobRef := { slot := m.slot, gen := m.gen, jobId := m.jobId }
  let s := wrB (rSC_STATUS c) 4 true (setSecCl c { k with queue := [], run := none } s)
  let s := secSignal (raiseJ 69 2 (js.head?.map ref) 0 s)
  let s := forAll (js.drop 1) (fun m s => reachJob { num := 69, dom := 2, job := some (ref m) } s) s
  let s := secMemMove c (secMjStatus c false s)
  forAll ((upto 16).filter (serves s c)) loseSplice s

/-- A line-buffer parity error on a row that a stripe holds poisons the row (R205). -/
def secParity (c : Nat) (st : Stripe) (k : Nat) (s : State) : Stripe × State :=
  let r := tget {} st.rows k
  if r = {} then (st, s)
  else ({ st with rows := tput {} st.rows k { r with poison := true } }, raiseE 68 2 (bump (rSC_CNT c 7) 1 s))

/-- Values that a unit may have used in place of what the spec leaves open (R186; log entry 1). -/
def secFree (s : State) : State := { s with free := s.free + 2 ^ 45 }

/-- One live unit of a stripe (R188, R194, R195, R202). -/
def secLive (c x i : Nat) (parity : Option (Nat × Nat)) (stallIn stallOut : Nat) (s : State) : State :=
  let s := if secCompat s c then secMove c (fun k => decide (k = (x, i))) s else s
  match secHead s x with
  | none => s
  | some (f, ls, e) =>
    let g := secNum s c (secBankOf s c x i)
    let p := secProg g
    let h := mapChain s x
    let x0 := i * (p.chain h).width
    let st := secStripe s x c i
    let q := match parity with
      | some (l, y) => secParity c st (secKey l y) s
      | none => (st, s)
    let st := q.1
    let s := q.2
    let st := match ls[st.t]? with
      | some l => { st with rows := tput {} st.rows (secKey 31 st.t) (secLineRow p h x0 f.width l.2) }
      | none => st
    let rows := if e.isSome then some ls.length else none
    let env : SEnv := { g := g, p := p, h := h, x0 := x0, w := f.width, top := 0, rows := rows, outRows := rows, free := s.free }
    let a := secUnit env st
    let s := secCount c a true stallIn stallOut (secFree s)
    let s := setSecStripe x c i a.st s
    let s := forAll a.outs (fun o s =>
      let r := secOwn env a.st o.1 o.2
      let s := onlyIf r.poison (bump (rSC_CNT c 11) 1) s
      let st := secStripe s x c i
      if (p.layer o.1).out = 1 then setSecStripe x c i { st with outs := st.outs ++ [r], nRet := st.nRet + 1 } s
      else setSecStripe x c i { st with nAct := st.nAct + 1 } (secTee x c env a.st o.1 o.2 s)) s
    secPoll x (teeAdvance x (secJoin x (ls.length + 1) s))

/-- SECTOR_LIVE_UNIT (R188, R189): cluster `c` runs the ready live unit that has waited longest. `err` is what the bank's
protection finds, `parity` a row in whose line buffer a parity error shows, by layer (31: chain input) and index; the stalls
are cycles spent waiting. -/
def execSectorLiveUnit (c : Fin 4) (err : MemErr) (parity : Option (Fin 32 × BitVec 15)) (stallIn stallOut : BitVec 32)
    (s : State) : Host.Outcome State Fault Refusal :=
  if !domRun s 2 ∨ !secAvail s c then .next s
  else match secPick s c with
    | none => .next s
    | some (x, i) =>
      match err with
      | .uncorrectable => .next (secBankErr c s)
      | _ =>
        let s := onlyIf (err = .corrected) (bump (rSC_CNT c 12) 1) s
        .next (secLive c x i (parity.map (fun q => (q.1.val, q.2.toNat))) stallIn.toNat stallOut.toNat s)

/-! ### Memory jobs (R197 to R199) -/

/-- A memory job descriptor as fields. -/
def secMjParse (a : Nat) (b : List Byte) : SecMj :=
  { at_ := a, chain := leAt 0 1 b % 4, slot := leAt 1 1 b % 16, gen := leAt 2 1 b, waitEn := nbit (leAt 3 1 b) 0,
    signalEn := nbit (leAt 3 1 b) 1, jobId := leAt 4 4 b, width := leAt 8 2 b, height := leAt 0xA 2 b,
    waitSem := leAt 0xC 2 b % 1024, signalSem := leAt 0xE 2 b % 1024, inBase := leAt 0x10 8 b, inRow := leAt 0x18 4 b,
    inPlane := leAt 0x1C 4 b, outBase := leAt 0x20 8 b, outRow := leAt 0x28 4 b, outPlane := leAt 0x2C 4 b,
    top := leAt 0x30 1 b, bottom := leAt 0x31 1 b }

/-- The job of a descriptor. -/
def SecMj.ref (m : SecMj) : JobRef := { slot := m.slot, gen := m.gen, jobId := m.jobId }

/-- Does a descriptor name a chain that may run it (reason 3 of R199)? -/
def secMjChainOk (s : State) (c : Nat) (m : SecMj) : Bool :=
  let b := secActive s c
  let p := secProg (secNum s c b)
  decide (secLen s c b ≠ 0) && decide (m.chain < p.chains.length) && (p.chain m.chain).memory

/-- Is an address a legal base: 64-byte aligned, in an activation bank of the cluster's port (R197)? -/
def secMjBaseOk (s : State) (c a : Nat) : Bool :=
  decide (a < 2 ^ 48) && decide (a % 64 = 0) && decide (regionOf a = .am) && decodes s a && ownsBank s (5 + c) a

/-- The first reason of R199, from 3 on, that a descriptor meets; 0: none. -/
def secMjReason (s : State) (c : Nat) (b : List Byte) : Nat :=
  let m := secMjParse 0 b
  if !secMjChainOk s c m then 3
  else if m.width < 16 ∨ 16384 < m.width ∨ m.height < 1 ∨ 16384 < m.height ∨ 16 < m.top ∨ 16 < m.bottom then 4
  else if !secMjBaseOk s c m.inBase ∨ !secMjBaseOk s c m.outBase ∨ m.inRow % 64 ≠ 0 ∨ m.inPlane % 64 ≠ 0
      ∨ m.outRow % 64 ≠ 0 ∨ m.outPlane % 64 ≠ 0 then 5
  else if 4 ≤ leAt 0 1 b ∨ 16 ≤ leAt 1 1 b ∨ 4 ≤ leAt 3 1 b ∨ 1024 ≤ leAt 0xC 2 b ∨ 1024 ≤ leAt 0xE 2 b
      ∨ leAt 0x32 14 b ≠ 0 then 6
  else 0

/-- A refused memory job (R199). -/
def secMjRefuse (c a why : Nat) (j : Option JobRef) (s : State) : State :=
  let st := setBit (setFld (rd s (rSC_MJ_STATUS c)) 11 8 why) 7 true
  secSignal <| raiseJ 66 2 j a (bump (rSC_CNT c 9) 1 (wr64 (rSC_MJ_ERR_ADDR_LO c) a (wr (rSC_MJ_STATUS c) st s)))

/-- The memory job whose descriptor lies at `a` is queued or refused (R198, R199). A descriptor that is poisoned or not
aligned to 64 bytes cannot be read (log entry 9). -/
def secMjPush (c a : Nat) (s : State) : State :=
  let r := devRead (secAgent c) a 64 s
  let s := r.2
  let bad := r.1.err || r.1.poison || decide (a % 64 ≠ 0)
  let m := secMjParse a r.1.data
  let k := secCl s c
  let why := if 16 ≤ k.queue.length then 1 else if bad then 2 else secMjReason s c r.1.data
  if why ≠ 0 then secMjRefuse c a why (if bad then none else some m.ref) s
  else secMjStatus c (rdB s (rSC_MJ_STATUS c) 6) (setSecCl c { k with queue := k.queue ++ [m] } s)

/-- The effect of a write of SC_MJ_PUSH_HI (R198). -/
def mjPushEffect (i : Iface) (c : Nat) (hi : Word) (s : State) : State × Bool :=
  let r := pairEffect i (rSC_MJ_PUSH_HI c) (latch s i (rSC_MJ_PUSH_LO c)) hi .none s
  (secMjPush c (rd64 r.1 (rSC_MJ_PUSH_LO c) % 2 ^ 48) r.1, r.2)

/-- MJ_PUSH (R198). -/
def execMjPush (ifc : Iface) (c : Fin 4) (hi : Word) (s : State) : Host.Outcome State Fault Refusal :=
  .next (gatedWrite ifc (rSC_MJ_PUSH_HI c) hi (mjPushEffect ifc c hi) s)

/-- MJ_START (R198, R199): the head job takes its count or waits, is checked again, and runs from the bank in force. -/
def execMjStart (c : Fin 4) (s : State) : Host.Outcome State Fault Refusal :=
  let k := secCl s c
  if !domRun s 2 ∨ !secAvail s c then .next s
  else match k.run, k.queue with
    | none, m :: q =>
      if m.waitEn ∧ (sem s m.waitSem).count = 0 then .next (secMjStatus c true s)
      else
        let s := onlyIf m.waitEn (semTake m.waitSem) s
        let s := setSecCl c { k with queue := q } s
        let why := if !secMjChainOk s c m then 3
          else if !secMjBaseOk s c m.inBase ∨ !secMjBaseOk s c m.outBase then 5 else 0
        if why ≠ 0 then .next (secMjStatus c false (secMjRefuse c m.at_ why (some m.ref) s))
        else .next (secMjStatus c false (secChainMove c m.chain
          (setSecCl c { secCl s c with run := some { mj := m, bank := secActive s c } } s)))
    | _, _ => .next s

/-- Input row `y` of a memory job over a stripe's extent, as read through the cluster's port. -/
def secMemRow (c : Nat) (m : SecMj) (p : SProg) (x0 : Nat) (y : Int) (s : State) : SRow × State :=
  let h := p.chain m.chain
  let halo := p.halo m.chain
  let b := if h.wide then 2 else 1
  let lo := x0 - halo
  let hi := min m.width (x0 + h.width + halo)
  let n := h.width + 2 * halo
  (upto (p.layer h.entry).cin).foldl (fun (a : SRow × State) ch =>
    let adr := ((m.inBase + ch * m.inPlane + lo * b : Nat) : Int) + y * (m.inRow : Nat)
    let r := devRead (secAgent c) adr.toNat ((hi - lo) * b) a.2
    let v (i : Nat) : Int :=
      let k := leAt (b * i) b r.1.data
      if h.inMode = 1 then sext 8 k else (k : Int)
    let row := (upto n).map (fun i =>
      let col : Int := (x0 : Int) - halo + i
      if (lo : Int) ≤ col ∧ col < hi then v (col - lo).toNat else 0)
    ({ ch := a.1.ch ++ [row], poison := a.1.poison || r.1.poison || r.1.err }, r.2)) ({}, s)

/-- One output row of a memory job, after the generation check (R198). Answers whether the job goes on. -/
def secMemOut (c : Nat) (m : SecMj) (e : SEnv) (st : Stripe) (l : Nat) (y : Int) (s : State) : State :=
  let b := (e.p.layer l).obytes
  let r := secOwn e st l y
  let s := onlyIf r.poison (bump (rSC_CNT c 11) 1) s
  forAll (upto (e.p.layer l).emits) (fun ch s =>
    devPut (secAgent c) (m.outBase + ch * m.outPlane + y.toNat * m.outRow + e.x0 / (e.p.at_ l).rxo * b)
      (secRowBytes b (r.ch.getD ch [])) r.poison s) s

/-- The running job ends without signal (R198). -/
def secMjDiscard (c : Nat) (s : State) : State :=
  secMemMove c (secMjStatus c false (bump (rSC_CNT c 10) 1 (setSecCl c { secCl s c with run := none } s)))

/-- One memory unit of the job that runs on cluster `c` (R188, R198). -/
def secMemory (c : Nat) (r : SecRun) (parity : Option (Nat × Nat)) (stallIn stallOut : Nat) (s : State) : State :=
  let bank := if secCompat s c then secActive s c else r.bank
  let s := if secCompat s c then secMemMove c s else s
  let m := r.mj
  let g := secNum s c bank
  let p := secProg g
  let w := (p.chain m.chain).width
  let x0 := r.i * w
  let q := match parity with
    | some (l, y) => secParity c r.st (secKey l ((y : Int) - m.top)) s
    | none => (r.st, s)
  let st := q.1
  let s := q.2
  let y : Int := (st.t : Int) - m.top
  let in_ := if y < m.height + m.bottom then
      let a := secMemRow c m p x0 y s
      ({ st with rows := tput {} st.rows (secKey 31 y) a.1 }, a.2)
    else (st, s)
  let st := in_.1
  let s := in_.2
  let env : SEnv := { g := g, p := p, h := m.chain, x0 := x0, w := m.width, top := m.top,
                      rows := some (m.height + m.bottom), outRows := some m.height, free := s.free }
  let a := secUnit env st
  let s := secCount c a false stallIn stallOut (secFree s)
  if !a.outs.isEmpty ∧ !genOk s m.slot m.gen then secMjDiscard c s
  else
    let s := forAll a.outs (fun o s => secMemOut c m env a.st o.1 o.2 s) s
    let st := { a.st with nAct := a.st.nAct + a.outs.length }
    let last := secFinished p m.chain st m.height
    let r' : SecRun :=
      if !last then { r with bank := bank, st := st }
      else if m.width ≤ (r.i + 1) * w then { r with bank := bank, done := true, st := {} }
      else { r with bank := bank, i := r.i + 1, st := {} }
    setSecCl c { secCl s c with run := some r' } s

/-- SECTOR_MEMORY_UNIT (R188, R189): with no live unit ready, cluster `c` runs one input row of one stripe of its job. -/
def execSectorMemoryUnit (c : Fin 4) (err : MemErr) (parity : Option (Fin 32 × BitVec 15)) (stallIn stallOut : BitVec 32)
    (s : State) : Host.Outcome State Fault Refusal :=
  if !domRun s 2 ∨ !secAvail s c ∨ (secPick s c).isSome then .next s
  else match (secCl s c).run with
    | none => .next s
    | some r =>
      if r.done then .next s
      else match err with
        | .uncorrectable => .next (secBankErr c s)
        | _ =>
          let s := onlyIf (err = .corrected) (bump (rSC_CNT c 12) 1) s
          .next (secMemory c r (parity.map (fun q => (q.1.val, q.2.toNat))) stallIn.toNat stallOut.toNat s)

/-- MJ_COMPLETE (R198): the last row's writes are visible and the job signals. -/
def execMjComplete (c : Fin 4) (s : State) : Host.Outcome State Fault Refusal :=
  match (secCl s c).run with
  | none => .next s
  | some r =>
    if !domRun s 2 ∨ !r.done then .next s
    else
      let s := secMemMove c (secMjStatus c false (setSecCl c { secCl s c with run := none } s))
      .next (onlyIf r.mj.signalEn (semRelease r.mj.signalSem 1) s)

/-! ### Registers of the block -/

/-- The effect of a write of SC_PROG_CTRL; COMMIT checks and swaps (R200, R201, R209). -/
def progCtrlEffect (i : Iface) (c : Nat) (v : Word) (err : MemErr) (s : State) : State × Bool :=
  let r := plainEffect i (rSC_PROG_CTRL c) v .none s
  if bit v 1 then
    (secCommit c (decide (err = .uncorrectable)) (onlyIf (err = .corrected) (bump (rSC_CNT c 12) 1) r.1), r.2)
  else r

/-- SECTOR_COMMIT (R201): a write of SC_PROG_CTRL with COMMIT set; `force` is what the bank in force shows when it is read
for the comparison, `target` what the bank under check shows (R206). -/
def execSectorCommit (ifc : Iface) (c : Fin 4) (wsel : Bool) (force target : MemErr) (s : State) :
    Host.Outcome State Fault Refusal :=
  let v := w32 (2 + b2n wsel)
  let s := gatedWrite ifc (rSC_PROG_CTRL c) v (fun s =>
    if domOk s 2 ∧ force = .uncorrectable ∧ secAvail s c then progCtrlEffect ifc c v target (secBankErr c s)
    else progCtrlEffect ifc c v target (onlyIf (force = .corrected) (bump (rSC_CNT c 12) 1) s)) s
  .next s

/-- SWAP_PENDING_TIMEOUT (R202). -/
def execSwapPendingTimeout (c : Fin 4) (s : State) : Host.Outcome State Fault Refusal :=
  match (secCl s c).swap with
  | none => .next s
  | some w =>
    if w.e67 then .next s
    else .next (secSignal <| raiseE 67 2 (setSecCl c { secCl s c with swap := some { w with e67 := true } } s))

/-- The effect of a write in the bank window of cluster `c` at byte `o` (R200). -/
def bankWriteEffect (c o : Nat) (v : Word) (s : State) : State × Bool :=
  let b := b2n (rdB s (rSC_PROG_CTRL c) 0)
  if b = secActive s c ∨ (secCl s c).swap.isSome then
    let k := secCl s c
    let s := bump (rSC_CNT c 8) 1 (wrB (rSC_PROG_CTRL c) 2 true (setSecCl c { k with e64 := true } s))
    (secSignal (if k.e64 then s else raiseE 64 2 s), true)
  else
    let a := (c * 2 + b) * 196608 + o
    ({ s with secBank := (upto 4).foldl (fun t k => tput 0 t (a + k) (BitVec.ofNat 8 (v.toNat / 2 ^ (8 * k)))) s.secBank
              secPois := tput false s.secPois ((c * 2 + b) * 49152 + o / 4) false }, true)

/-- A DMA chain writes bytes, each with its poison, into bank `b` of a cluster, whatever WSEL holds; a poisoned byte leaves its
64-bit word uncorrectable (R389, R391). False where the bank is in force or being swapped in (R200), or D2 is fenced (R66). -/
def bankChainWrite (c b o : Nat) (bs : List (Byte × Bool)) (s : State) : Bool × State :=
  if !domOk s 2 then (false, s)
  else if b = secActive s c ∨ (secCl s c).swap.isSome then
    let k := secCl s c
    let s := bump (rSC_CNT c 8) 1 (wrB (rSC_PROG_CTRL c) 2 true (setSecCl c { k with e64 := true } s))
    (false, secSignal (if k.e64 then s else raiseE 64 2 s))
  else
    let a := (c * 2 + b) * 196608 + o
    let w0 := (c * 2 + b) * 49152
    let n := bs.length
    let bank := ((upto n).zip bs).foldl (fun t x => tput 0 t (a + x.1) x.2.1) s.secBank
    let bad (w : Nat) : Bool := (bs.drop (w * 8 - o)).take (w * 8 + 8 - max o (w * 8)) |>.any (·.2)
    let pois := (upto ((o + n + 7) / 8 - o / 8)).foldl (fun t k =>
      let w := o / 8 + k
      if bad w then tput false (tput false t (w0 + 2 * w) true) (w0 + 2 * w + 1) true
      else (upto 2).foldl (fun t h =>
        if o ≤ w * 8 + 4 * h ∧ w * 8 + 4 * h + 4 ≤ o + n then tput false t (w0 + 2 * w + h) false else t) t) s.secPois
    (true, { s with secBank := bank, secPois := pois })

/-- SECTOR_BANK_WRITE (R200). -/
def execSectorBankWrite (ifc : Iface) (c : Fin 4) (word : Fin 49152) (v : Word) (s : State) :
    Host.Outcome State Fault Refusal :=
  .next (gatedWrite ifc (rSC_BANK c word) v (bankWriteEffect c (4 * word) v) s)

/-! ### The section of the image (R208), and resets (R203) -/

/-- A record of the Sector programs section. -/
structure SecRecord where
  cluster : Nat
  bank : Nat
  flags : Nat
  len : Nat
  spare : Nat
  image : List Byte
deriving DecidableEq, Repr

/-- The records of a payload; none where the last does not fit. -/
def secRecords : Nat → List Byte → Option (List SecRecord)
  | 0, b => if b.isEmpty then some [] else none
  | n + 1, b =>
    if b.isEmpty then some []
    else
      let len := leAt 4 4 b
      let all := 16 + (len + 7) / 8 * 8
      if b.length < all then none
      else (secRecords n (b.drop all)).map (fun t =>
        { cluster := leAt 0 1 b, bank := leAt 1 1 b, flags := leAt 2 2 b, len := len, spare := leAt 8 8 b,
          image := (b.drop 16).take len } :: t)

/-- The contents of a bank as bytes at its place. -/
def secPutBank (c b : Nat) (img : List Byte) (s : State) : State :=
  let a := (c * 2 + b) * 196608
  let t := tclear a (a + 196608) s.secBank
  { s with secBank := ((upto img.length).zip img).foldl (fun t x => tput 0 t (a + x.1) x.2) t
           secPois := tclear ((c * 2 + b) * 49152) ((c * 2 + b + 1) * 49152) s.secPois }

/-- Both banks of every cluster are loaded from the section, with the ACTIVE flags given there, and the engine starts empty
(R203, R208). -/
def secLoad (payload : List Byte) (s : State) : State :=
  let rs := (secRecords 8 payload).getD []
  let s := { s with secBank := [], secPois := [], secCl := [], secCtx := [], spliceq := [] }
  let s := forAll rs (fun r s => secPutBank r.cluster r.bank r.image s) s
  forAll (upto 4) (fun c s =>
    let act : Option Nat := (rs.find? (fun r => decide (r.cluster = c) && nbit r.flags 0)).map (fun r => r.bank)
    let s := wrB (rSC_STATUS c) 0 (decide (act = some 1)) s
    secMjStatus c false (secRefresh c s)) s

/-- Does the section break R208? `s` is the device with the routes and the set-up of the same image in force and the section
loaded. -/
def secImageBad (payload : List Byte) (s : State) : Bool :=
  match secRecords 8 payload with
  | none => true
  | some rs =>
    let acts (c : Nat) : Nat := (rs.filter (fun r => decide (r.cluster = c) && nbit r.flags 0)).length
    rs.any (fun r => decide (3 < r.cluster ∨ 1 < r.bank ∨ 1 < r.flags ∨ r.spare ≠ 0 ∨ leAt 8 4 r.image ≠ r.len)
      || decide (acts r.cluster ≠ 1) || !rdB s (rSC_STATUS r.cluster) 3
      || decide ((rs.filter (fun q => decide (q.cluster = r.cluster ∧ q.bank = r.bank))).length ≠ 1)
      || decide (secBad r.image (fun o n => leAt o n r.image) ≠ 0)
      || !secFitsAll s r.cluster (secProg (fun o n => leAt o n r.image))
      || decide (2031616 < secLineState s r.cluster (secProg (fun o n => leAt o n r.image)) none))

/-- D2 is fenced or reset: its splices are lost, swaps and jobs are gone (R143, R203). -/
def secFenced (s : State) : State :=
  let s := forAll (upto 16) (fun x s => if rdB s (rSEC_CTX_MAP x) 6 then loseSplice x s else s) s
  { s with secCl := [], secCtx := [], spliceq := [] }

end Sys2Proof.Machine
end

