-- ==== Sys2Proof/Machine/Loads.lean ====
section
/-! DEFINITION. How the sections of an image are loaded into the device at step 7 of the boot and at run time (R52, R56): the
plan, the routes, bank ownership, profiles, Keeper programs, Lantern code and context defaults, whose formats are in
R79, R284, R307, R372, R514, R530 and R531. -/

namespace Sys2Proof.Machine

open Sys2Proof

/-- A length rounded up to 8 bytes. -/
def up8 (n : Nat) : Nat := (n + 7) / 8 * 8

/-- A byte list as a table from an address up. -/
def bytesTab : Nat → List Byte → Tab Byte
  | _, [] => []
  | a, b :: t => if b = 0 then bytesTab (a + 1) t else (a, b) :: bytesTab (a + 1) t

/-! ### Power plan (R514, R516) -/

/-- The grade default of the throttle threshold (R516). -/
def defaultTth (s : State) : Int := if s.fuses.grade = 1 then 98 else 88
/-- The grade limit of the junction (R517). -/
def tjLimit (s : State) : Int := if s.fuses.grade = 1 then 105 else 95

/-- PWR_PLAN and the threshold in force take the section (R514, R528). -/
def loadPlan (p : List Byte) (s : State) : State :=
  let hold := leAt 2 2 p
  let t := sext 8 (leAt 7 1 p)
  let th := if t = 0 then defaultTth s else t
  wrF rPWR_THERM 23 16 (wrapN 8 th)
    (wrn rPWR_PLAN (leAt 0 1 p % 16 + 16 * (leAt 1 1 p % 2) + 32 * (leAt 6 1 p % 4) + 0x10000 * (if hold = 0 then 1000 else hold)) s)
/-- DEEP_HOLD in seconds (R514). -/
def deepHold (s : State) : Nat := leAt 4 2 (sec s 2)

/-! ### Routes (R530) -/

/-- The D2 side of the routes: SEC_CTX_MAP. -/
def loadRoutesD2 (s : State) : State :=
  forAll (upto 16) (fun c s =>
    let e := route s c
    wrn (rSEC_CTX_MAP c) (nfld e 11 8 + 16 * nfld e 13 12 + 64 * nfld e 7 7) s) s

/-- The D3 side of the routes: KIND, PIPE_STATUS and PIPE_STAGE. -/
def loadRoutesD3 (s : State) : State :=
  let s := forAll (upto 16) (fun c s =>
    wrF (rCTX_CFG c) 5 4 (ctxKind s c) (wrF (rCTX_CFG c + 0x8000) 5 4 (ctxKind s c) s)) s
  forAll (upto 2) (fun p s =>
    let mine := maskOf 16 (fun c => decide (ctxKind s c ≠ 0 ∧ ctxPipe s c = p))
    let live := maskOf 16 (fun c => decide (ctxKind s c = 1 ∧ ctxPipe s c = p))
    wrn (rPIPE_STAGE p) (leAt (0x84 + 16 * p) 4 (sec s 3)) (wrn (rPIPE_STATUS p) (mine + 0x10000 * live) s)) s

/-! ### Bank ownership (R284, R285) and profiles (R307, R308) -/

/-- SP_OWNER of every bank: the section's ports, and DMA, FABRIC and FILLCOPY; 0 for a bank that is unavailable. -/
def loadOwners (s : State) : State :=
  forAll (upto 128) (fun i s =>
    wrn (rSP_OWNER i) (if bankAvail s i then leAt (4 * i) 4 (sec s 4) % 2048 + 0x3800 else 0) s) s

/-- Profile entry of core `n`. -/
def profile (s : State) (n : Nat) : Nat := leAt (4 * n) 4 (sec s 5)

/-- DEV_CAP1: the cores that the profiles mark active and that are not bad. -/
def loadProfiles (s : State) : State :=
  wrn rDEV_CAP1 (maskOf 18 (fun n => nbit (profile s n) 0 && !rdB s rDEV_CAP2 n)) s

/-! ### Keeper programs (R79, R80) -/

/-- A record of the Keeper programs section. -/
structure KprRec where
  core : Nat
  flags : Nat
  entry : Nat
  codeLen : Nat
  dataLen : Nat
  spare : Nat
  code : List Byte
  data : List Byte
deriving DecidableEq, Repr

/-- The records of the section; none where it ends within one. -/
def kprRecords : Nat → List Byte → Option (List KprRec)
  | 0, b => if b.isEmpty then some [] else none
  | k + 1, b =>
    if b.isEmpty then some []
    else
      let c := leAt 4 4 b
      let d := leAt 8 4 b
      let n := 16 + up8 c + up8 d
      if b.length < n then none
      else (kprRecords k (b.drop n)).map (fun t =>
        { core := leAt 0 1 b, flags := leAt 1 1 b, entry := leAt 2 2 b, codeLen := c, dataLen := d, spare := leAt 12 4 b,
          code := slice 16 c b, data := slice (16 + up8 c) d b } :: t)

/-- Core `k` restarts with what the section holds for it; without a record it runs ROM housekeeping only (R79, R80). -/
def kprCore (rs : List KprRec) (k : Nat) (old : KCore) : KCore :=
  match rs.find? (fun r => decide (r.core = k)) with
  | some r => { prog := bytesTab 0 r.code, data := bytesTab 0 r.data, bits := [], entry := r.entry,
                memstack := nbit r.flags 0, loaded := true, faultIrq := old.faultIrq }
  | none => { faultIrq := old.faultIrq }

/-- KEEPER_RELOAD (R80): both memories and entries are loaded; everything else of the domain stays. -/
def loadKeeper (s : State) : State :=
  let rs := (kprRecords 3 (sec s 6)).getD []
  { s with keeper := { s.keeper with core0 := kprCore rs 0 s.keeper.core0, core1 := kprCore rs 1 s.keeper.core1 } }

/-! ### Lantern boot code (R372, R373) -/

/-- A record of the Lantern boot code section. -/
structure LanRec where
  core : Nat
  spare : Nat
  entry : Nat
  imemLen : Nat
  dmemOff : Nat
  dmemLen : Nat
  imem : List Byte
  dmem : List Byte
deriving DecidableEq, Repr

/-- The records of the section; none where it ends within one. -/
def lanRecords : Nat → List Byte → Option (List LanRec)
  | 0, b => if b.isEmpty then some [] else none
  | k + 1, b =>
    if b.isEmpty then some []
    else
      let i := leAt 4 4 b
      let d := leAt 12 4 b
      let n := 16 + i + up8 d
      if b.length < n then none
      else (lanRecords k (b.drop n)).map (fun t =>
        { core := leAt 0 1 b, spare := leAt 1 1 b, entry := leAt 2 2 b, imemLen := i, dmemOff := leAt 8 4 b, dmemLen := d,
          imem := slice 16 i b, dmem := slice (16 + i) d b } :: t)

/-- The record of core `n`: its own, or the one for every core without its own. -/
def lanRecOf (rs : List LanRec) (n : Nat) : Option LanRec :=
  match rs.find? (fun r => decide (r.core = n)) with
  | some r => some r
  | none => rs.find? (fun r => decide (r.core = 0xFF))

/-- FEAT0 to FEAT3 of core `n` (R371). -/
def lanFeat (s : State) (n : Nat) : Tab Word :=
  let bad := rdF s rDEV_CAP2 17 0
  let act := rdF s rDEV_CAP1 17 0
  let p := profile s n
  let spares := min 2 ((upto 18).filter (fun i => !nbit bad i && !nbit act i)).length
  (upto 4).foldl (fun t i => tput 0 t i (w32 (match i with
    | 0 => n + 32 * nfld p 1 1 + 64 * nfld p 2 2 + 256 * spares + 1024 * min 2 (popcnt 18 bad) + 0xB00000
    | 1 => 0xFFF
    | 2 => 512 + 64 * 0x10000
    | _ => 64 + 8 * 0x100 + 32 * 0x1000 + 64 * 0x40000))) []

/-- Core `n` is loaded: both memories zero but for its record's images, every register 0, A15 at the top, at ENTRY (R373). -/
def loadLantern (rs : List LanRec) (n : Nat) (s : State) : State :=
  match lanRecOf rs n with
  | none => s
  | some r =>
    let p := profile s n
    let b := lanternBase n
    let s := { s with mem := tclear b (b + 0x1000000) s.mem }
    let s := setBytes (b + 0x800000) r.imem (setBytes (b + r.dmemOff) r.dmem s)
    setLan n ({ lan s n with entry := r.entry, vl256 := nbit p 1, rstack := nbit p 2 : Lan }).fresh s

/-- Every active core is loaded, and all start together (R373); of every core the feature registers are fixed (R371). -/
def loadLanterns (s : State) : State :=
  let rs := (lanRecords 20 (sec s 7)).getD []
  forAll (upto 18) (fun n t =>
    let t := setLan n { feat := lanFeat s n, corrected := (lan s n).corrected, posts := (lan s n).posts } t
    if lanternActive t n then loadLantern rs n t else t) { s with lan := [], resv := [] }

/-! ### Context defaults (R531) -/

/-- The writable bits of the register at an offset of a context page; 0 where no register lies. -/
def ctxMask (off : Nat) : Word := match regAt off with | some (r, _) => w32 r.rw | none => 0

/-- Word `k` of context `c`: written as the shadow and as the value in force; fields that the section does not fix stay. -/
def loadCtxWord (c k v : Nat) (s : State) : State :=
  let off := rCTX_CFG c + 4 * k
  let m := ctxMask off
  let put (o : Nat) (s : State) : State := wr o ((rd s o &&& ~~~ m) ||| (w32 v &&& m)) s
  if m = 0 then s else put (off + 0x8000) (put off s)

/-- The tables of a context page take their reset values (R531). -/
def clearCtxTables (c : Nat) (s : State) : State :=
  let b := rCTX_CFG c
  { s with regs := tclear (b + 0x1000) (b + 0x5000) (tclear (b + 0x9000) (b + 0xD000) s.regs) }

/-- The word that context `c` gets for page offset 4k: the section's, or without a section the reset value, in which the image
fields are 0 (R67, R531). -/
def ctxDefault (s : State) (c k : Nat) : Nat :=
  if (sec s 8).isEmpty then (resetVal (rCTX_CFG c + 4 * k)).toNat else leAt (c * 0x100 + 4 * k) 4 (sec s 8)
/-- VP_ADMIT of port `n`; 0 without a section. -/
def portDefault (s : State) (n : Nat) : Nat := if (sec s 8).isEmpty then 0 else leAt (0x1000 + 4 * n) 4 (sec s 8)

/-- The context parameters of every context and VP_ADMIT of every port take the section (R531). -/
def loadContexts (s : State) : State :=
  let s := forAll (upto 16) (fun c s =>
    ctxRestart c s (clearCtxTables c (forAll (upto 64) (fun k s => loadCtxWord c k (ctxDefault s c k) s) s))) s
  let s := forAll (upto 8) (fun n s => admitApply n (w32 (portDefault s n)) s) s
  measRefresh (forAll (upto 16) ctxRefresh s)

/-! ### External memory and the rest -/

/-- What DEV_CAP0 shows of the LPDDR5X configuration (R72, R403). -/
def loadDramCap (s : State) : State :=
  let p := sec s 12
  wrF rDEV_CAP0 15 8 (leAt 1 1 p) (wrB rDEV_CAP0 5 (nbit (leAt 2 2 p) 0) s)

end Sys2Proof.Machine
end

