-- ==== Sys2Proof/Machine/Image.lean ====
section
/-! DEFINITION. The structure image: its layout (R35 to R38), its verification in order with the result codes (R42, R59) and
the semantic checks of every section (R43, R79, R284, R307, R372, R447, R515, R530, R531). -/

namespace Sys2Proof.Machine

open Sys2Proof

/-! ### Layout (R36) -/

/-- A section record. -/
structure SecRec where
  type : Nat
  flags : Nat
  crc : Nat
  spare : Nat
  /-- The first eight header bytes. -/
  head : List Byte
  payload : List Byte
  pad : List Byte
deriving DecidableEq, Repr

/-- The section records of `b`, `k` of them, if they fill `n` bytes exactly (R36, R37). -/
def walkSecs : Nat → Nat → List Byte → Option (List SecRec)
  | 0, n, _ => if n = 0 then some [] else none
  | k + 1, n, b =>
    let len := leAt 4 4 b
    let sz := 16 + up8 len
    if n < 16 ∨ n < sz then none
    else (walkSecs k (n - sz) (b.drop sz)).map (fun t =>
      { type := leAt 0 2 b, flags := leAt 2 2 b, crc := leAt 8 4 b, spare := leAt 12 4 b, head := b.take 8,
        payload := slice 16 len b, pad := slice (16 + len) (up8 len - len) b } :: t)

/-- A verified image, or where and with which code verification stopped (R42, R59). -/
structure Ver where
  ok : Bool := false
  /-- Result code and FAIL_INDEX. -/
  code : Nat := 1
  idx : Nat := 0
  /-- The semantic checks failed: R43. -/
  semantic : Bool := false
  seq : Nat := 0
  digest : List Byte := []
  /-- Payloads by type, and the types present. -/
  secs : Tab (List Byte) := []
  present : List Nat := []
deriving DecidableEq, Repr

/-- A verification that failed. -/
def verFail (code idx : Nat) : Ver := { code := code, idx := idx }

/-- Step 1 of R42; none where it passes. Bytes that end within the 64-byte header fail here, with 0x3: of a STAGE_LEN below 64
R42 and R59 do not say whether the header or the length fails first, and the model's choice is the header (log entry 85). -/
def headerFail (b : List Byte) : Option Ver :=
  if b.length < 64 ∨ leAt 0 4 b ≠ 0x49535646 ∨ leAt 0x3C 4 b ≠ crc32c (b.take 0x3C) then some (verFail 3 0xFF)
  else if leAt 5 1 b ≠ 1 then some (verFail 4 0xFF)
  else if leAt 6 2 b < 1 ∨ 64 < leAt 6 2 b ∨ (slice 0x2C 16 b).any (fun x => x ≠ 0) then some (verFail 3 0xFF)
  else none

/-- Types 1 to 12 are assigned (R38). -/
def typeAssigned (t : Nat) : Bool := decide (1 ≤ t ∧ t ≤ 12)
/-- The sections that an image must hold (R38). -/
def requiredTypes : List Nat := [2, 3, 4, 5, 7, 10, 12]

/-- Does section `i` of the list fail step 4 of R42 (R36, R38, R39)? R36 wants the word at 0x0C of a section header to be 0, and no
step of R42 lists it: the model's choice is that a nonzero one fails here, with code 0x6 (log entry 85). -/
def sectionFails (l : List SecRec) (i : Nat) (r : SecRec) : Bool :=
  decide (r.type = 0) || (!typeAssigned r.type && !nbit r.flags 0) || decide (r.flags / 2 ≠ 0 ∨ r.spare ≠ 0) ||
    decide (r.crc ≠ crc32c (r.head ++ r.payload)) || r.pad.any (fun x => x ≠ 0) ||
    (l.take i).any (fun q => decide (q.type = r.type))

/-- The first index at which a check of a list fails. -/
def firstBad {α : Type} (f : Nat → α → Bool) : Nat → List α → Option Nat
  | _, [] => none
  | i, x :: t => if f i x then some i else firstBad f (i + 1) t

/-- Payloads by type (R38). -/
def secTab (l : List SecRec) : Tab (List Byte) :=
  l.foldl (fun t r => if typeAssigned r.type then tput [] t r.type r.payload else t) []

/-- Steps 1 to 5 of R42 on the bytes of a source that can hold `cap` bytes; `staged`: STAGE_LEN, where the image is staged. -/
def verifyForm (b : List Byte) (cap : Nat) (staged : Option Nat) : Ver × List SecRec :=
  match headerFail b with
  | some f => (f, [])
  | none =>
    let target := leAt 0x28 4 b
    let total := leAt 8 4 b
    let count := leAt 6 2 b
    if nfld target 15 0 ≠ 0x9640 ∨ 0xB0 < nfld target 23 16 ∨ nfld target 31 24 ≠ 0 then (verFail 4 0xFF, [])
    else if total % 8 ≠ 0 ∨ 0x1000000 < total ∨ cap < total ∨ b.length < total ∨ total < 96 ∨ staged.getD total ≠ total then
      (verFail 5 0xFF, [])
    else match walkSecs count (total - 96) (b.drop 64) with
      | none => (verFail 5 0xFF, [])
      | some l =>
        match firstBad (sectionFails l) 0 l with
        | some i => (verFail 6 i, [])
        | none =>
          if requiredTypes.any (fun t => !(l.map SecRec.type).contains t) then (verFail 6 0xFD, [])
          else
            let digest := slice (total - 32) 32 b
            if digest ≠ sha256 (slice 64 (total - 96) b) then (verFail 7 0xFE, [])
            else ({ ok := true, code := 1, seq := leAt 0xC 4 b, digest := digest, secs := secTab l,
                    present := (l.map SecRec.type).filter typeAssigned }, l)

/-! ### The semantic checks (R43) -/

/-- The clock and power plan (R515). -/
def planBad (s : State) (p : List Byte) : Bool :=
  let hold := leAt 2 2 p
  let t := sext 8 (leAt 7 1 p)
  decide (p.length ≠ 32 ∨ 16 ≤ leAt 0 1 p ∨ 2 ≤ leAt 1 1 p) || (p.drop 8).any (fun x => x ≠ 0) ||
    decide (1 ≤ hold ∧ hold ≤ 49) || decide (2 < leAt 6 1 p) || decide (nbit (leAt 1 1 p) 0 ∧ leAt 0 1 p ≠ 15) ||
    decide (t ≠ 0 ∧ (t < 40 ∨ tjLimit s - 5 < t))

/-- Ports that R281 connects to the memory of bank entry `i`. -/
def portsOfBank (i : Nat) : Nat := if i < 32 then 0x001 else if i < 96 then 0x7EE else 0x010
/-- Is the bank of ownership entry `i` unavailable? -/
def bankGone (a : Avail) (i : Nat) : Bool :=
  if i < 32 then nbit a.wm i else if i < 96 then nbit a.am (i - 32) else nbit a.ps (i - 96)

/-- Scratchpad bank ownership (R284). -/
def ownersBad (a : Avail) (p : List Byte) : Bool :=
  decide (p.length ≠ 512) || (upto 128).any (fun i =>
    let w := leAt (4 * i) 4 p
    let ports := w % 2048
    decide (2 ^ 14 ≤ w) || decide (ports &&& portsOfBank i ≠ ports) || (bankGone a i && decide (ports ≠ 0)))

/-- The stream fabric routes (R530), with the ownership section beside them. -/
def routesBad (a : Avail) (own p : List Byte) : Bool :=
  let e (c : Nat) : Nat := leAt (8 * c) 8 p
  let kind (c : Nat) : Nat := nfld (e c) 1 0
  let pipe (c : Nat) : Nat := nfld (e c) 2 2
  let cnt (f : Nat → Bool) : Nat := ((upto 16).filter f).length
  let off (q : Nat) : Nat := leAt (0x80 + 16 * q) 4 p
  let kib (q : Nat) : Nat := leAt (0x84 + 16 * q) 4 p
  let top (q : Nat) : Nat := off q + kib q * 1024
  decide (p.length ≠ 160) ||
  (upto 16).any (fun c =>
    let sp := nfld (e c) 7 7
    let cl := nfld (e c) 11 8
    decide (kind c = 3 ∨ nbit (e c) 3 ∨ 2 ^ 14 ≤ e c) ||
      decide ((kind c = 0 ∧ (pipe c ≠ 0 ∨ sp ≠ 0)) ∨ (kind c ≠ 1 ∧ nfld (e c) 6 4 ≠ 0) ∨
              (sp = 0 ∧ (cl ≠ 0 ∨ nfld (e c) 13 12 ≠ 0))) ||
      (decide (kind c = 1) && (upto c).any (fun d => decide (kind d = 1 ∧ nfld (e d) 6 4 = nfld (e c) 6 4))) ||
      (decide (sp = 1) && decide (cl = 0 ∨ cl &&& a.sectorBad ≠ 0))) ||
  (upto 2).any (fun q => decide (4 < cnt (fun c => decide (kind c = 1 ∧ pipe c = q)))) ||
  decide (8 < cnt (fun c => decide (kind c = 2))) ||
  (upto 2).any (fun q =>
    decide (2 ^ 26 ≤ off q ∨ off q % 4096 ≠ 0 ∨ leAt (0x88 + 16 * q) 8 p ≠ 0 ∨ kib q % 4 ≠ 0 ∨ 16384 < kib q) ||
      (decide (kib q = 0) && (upto 16).any (fun c => decide (kind c ≠ 0 ∧ pipe c = q))) ||
      (decide (kib q ≠ 0) && (decide (0x4000000 < top q) ||
        ((upto 64).any (fun b => decide (b * 0x100000 < top q ∧ off q < (b + 1) * 0x100000) &&
          (nbit a.am b || !nbit (leAt (4 * (32 + b)) 4 own) (9 + q))))))) ||
  decide (kib 0 ≠ 0 ∧ kib 1 ≠ 0 ∧ off 0 < top 1 ∧ off 1 < top 0)

/-- Core profiles (R43, R307). -/
def profilesBad (a : Avail) (p : List Byte) : Bool :=
  let w (n : Nat) : Nat := leAt (4 * n) 4 p
  decide (p.length ≠ 72) || (upto 18).any (fun n => decide (8 ≤ w n) || (nbit (w n) 0 && nbit a.lanBad n)) ||
    decide (16 < ((upto 18).filter (fun n => nbit (w n) 0)).length)

/-- Keeper programs (R79). -/
def keeperBad (p : List Byte) : Bool :=
  match kprRecords 3 p with
  | none => true
  | some rs =>
    rs.any (fun r => decide (1 < r.core ∨ 2 ≤ r.flags ∨ r.entry % 2 ≠ 0 ∨ r.codeLen < 2 ∨ 65536 < r.codeLen ∨ r.codeLen % 2 ≠ 0 ∨
      32768 < r.dataLen ∨ r.spare ≠ 0) || decide ((rs.filter (fun q => decide (q.core = r.core))).length ≠ 1))

/-- Lantern boot code (R372), with the profiles beside it. -/
def lanternBad (prof p : List Byte) : Bool :=
  match lanRecords 20 p with
  | none => true
  | some rs =>
    let active (n : Nat) : Bool := nbit (leAt (4 * n) 4 prof) 0
    rs.any (fun r =>
      (decide (17 < r.core ∧ r.core ≠ 0xFF) || (decide (r.core ≤ 17) && !active r.core)) ||
      decide ((rs.filter (fun q => decide (q.core = r.core))).length ≠ 1) ||
      decide (r.spare ≠ 0 ∨ r.imemLen < 256 ∨ 65536 < r.imemLen ∨ r.imemLen % 8 ≠ 0 ∨ r.entry % 4 ≠ 0 ∨ r.entry < 0x100 ∨
        r.imemLen < r.entry + 4 ∨ r.dmemOff % 8 ≠ 0 ∨ 524288 < r.dmemOff + r.dmemLen)) ||
    (upto 18).any (fun n => active n && (lanRecOf rs n).isNone)

/-- Context defaults (R531), with the routes beside them. -/
def contextsBad (rt p : List Byte) : Bool :=
  let w (n : Nat) : Nat := leAt (0x1000 + 4 * n) 4 p
  let ctxOf (n : Nat) : Option Nat := (upto 16).find? (fun c => decide (leAt (8 * c) 1 rt % 4 = 1 ∧ nfld (leAt (8 * c) 1 rt) 6 4 = n))
  let rate (k : Nat) : Nat := (upto 8).foldl (fun a n =>
    match ctxOf n with
    | some c => if w n % 4 = 3 ∧ nfld (leAt (8 * c) 1 rt) 2 2 = k then a + nfld (w n) 26 16 else a
    | none => a) 0
  decide (p.length ≠ 4128) ||
  (upto 16).any (fun c => (upto 64).any (fun k =>
    w32 (leAt (c * 0x100 + 4 * k) 4 p) &&& ~~~ ctxMask (rCTX_CFG 0 + 4 * k) ≠ 0)) ||
  (upto 8).any (fun n => w32 (w n) &&& ~~~ w32 0x07FF0007 ≠ 0 || decide (1000 < nfld (w n) 26 16) ||
    ((ctxOf n).isNone && nbit (w n) 1)) ||
  decide (1600 < rate 0 ∨ 1600 < rate 1 ∨ 3200 < rate 0 + rate 1)

/-- An address in IPv4 form (R446). -/
def isV4Form (a : Nat) : Bool := decide (a % 2 ^ 96 = 0xFFFF * 2 ^ 80)

/-- Network identity and group membership (R447). -/
def networkBad (p : List Byte) : Bool :=
  let mode := leAt 0 2 p
  let phy (k : Nat) : Nat := nfld mode (3 + 2 * k) (2 + 2 * k)
  let flags := leAt 0xB 1 p
  let size := leAt 8 1 p
  let own := leAt 9 1 p
  let cfg := leAt 4 4 p
  let there (k : Nat) : Bool := decide (k = 8) || (decide (k < 8) && (decide (k % 4 = 0) || nbit mode (k / 4)))
  let mac (k : Nat) : Nat := leAt (0x20 + 8 * k) 6 p
  let vlan (k : Nat) : Nat := leAt (0x26 + 8 * k) 2 p
  let addr (k : Nat) : Nat := leAt (0x70 + 16 * k) 16 p
  let mAddr (m : Nat) : Nat := leAt (0x120 + 24 * m) 16 p
  let mMac (m : Nat) : Nat := leAt (0x130 + 24 * m) 6 p
  let gif := leAt 0x10 1 p
  let pif := leAt 0x11 1 p
  decide (p.length ≠ 480 ∨ 64 ≤ mode ∨ phy 0 = 3 ∨ phy 1 = 3 ∨ nfld flags 1 0 = 3 ∨ 32 ≤ flags) ||
  decide (leAt 0x12 14 p ≠ 0 ∨ leAt 0x68 8 p ≠ 0 ∨ leAt 0x109 23 p ≠ 0) ||
  decide ((phy 0 = 2 ∧ nbit mode 0) ∨ (phy 1 = 2 ∧ nbit mode 1)) ||
  decide (size < 1 ∨ 8 < size ∨ size ≤ own ∨ (1 < size ∧ cfg = 0) ∨ (size = 1 ∧ cfg ≠ 0)) ||
  decide (8 ≤ gif ∨ 8 ≤ pif) || !there gif || !there pif ||
  (upto 9).any (fun k =>
    if there k then
      decide (mac k = 0 ∨ nbit (mac k) 0) || decide ((if isV4Form (addr k) then 32 else 128) < leAt (0x100 + k) 1 p) ||
        decide (nbit (vlan k) 15 ∧ (nfld (vlan k) 11 0 = 0 ∨ nfld (vlan k) 11 0 = 4095))
    else decide (mac k ≠ 0 ∨ vlan k ≠ 0 ∨ addr k ≠ 0 ∨ leAt (0x100 + k) 1 p ≠ 0)) ||
  (upto 8).any (fun m =>
    if m < size then decide (leAt (0x136 + 24 * m) 2 p ≠ 0) || (upto m).any (fun j => decide (mAddr j = mAddr m))
    else decide (leAt (0x120 + 24 * m) 24 p ≠ 0)) ||
  decide (mAddr own ≠ addr gif ∨ mMac own ≠ mac gif)

/-! ### Whole verification -/

/-- The registers of the blocks of domain `d` take their reset values, and the latches of its 64-bit registers clear (R64,
R67). What the FAULT block holds in AON stays (R507). -/
def keptInAon (off : Nat) : Bool :=
  decide (off = rFLT_FATAL_NEXT ∨ off = rFLT_HELD_LOST ∨ off = rFLT_CNT 4 ∨ off = rFLT_OOS_STATUS ∨
    (rFLT_FATAL_WORD 0 ≤ off ∧ off < rFLT_FATAL_WORD 128))
def resetRegs (d : Nat) (s : State) : State :=
  { s with
    regs := s.regs.filter (fun e => decide (blockDom (e.1 / 0x100000) ≠ some d) || keptInAon e.1)
    latches := s.latches.filter (fun e => decide (blockDom (e.1 % 2 ^ 28 / 0x100000) ≠ some d)) }

/-- The device as the Sector programs will find it: the routes and context defaults of the same image, and the clusters that
are available (R193, R208). D3 starts afresh where the routes change. -/
def trialState (a : Avail) (secs : Tab (List Byte)) (s : State) : State :=
  let fresh := decide (sec s 3 ≠ tget [] secs 3)
  let ctx := fresh || decide (sec s 8 ≠ tget [] secs 8)
  let t := if fresh then resetRegs 3 s else s
  let t := { t with boot := { t.boot with secs := secs } }
  let t := loadRoutesD2 (loadRoutesD3 (onlyIf ctx loadContexts t))
  forAll (upto 4) (fun c s => wr (rSC_STATUS c) (if nbit a.sectorBad c then 0 else 8) s) t

/-- Does the section of a type break a semantic rule (R43)? -/
def semanticFails (a : Avail) (s : State) (secs : Tab (List Byte)) (t : Nat) : Bool :=
  let p := tget [] secs t
  match t with
  | 1 => repairBad s.fuses.entries p
  | 2 => planBad s p
  | 3 => routesBad a (tget [] secs 4) p
  | 4 => ownersBad a p
  | 5 => profilesBad a p
  | 6 => keeperBad p
  | 7 => lanternBad (tget [] secs 5) p
  | 8 => contextsBad (tget [] secs 3) p
  | 9 => regulBad p
  | 10 => networkBad p
  | 11 => secImageBad p (trialState a secs s)
  | 12 => ddrBad p
  | _ => false

/-- The whole of R42: `avail` gives the repair state for an image's Repair section. Where several semantic checks fail, R42 does
not order them: the model's choice is to report the first section in image order that fails one (log entry 85). -/
def verifyImage (avail : List Byte → Avail) (s : State) (b : List Byte) (cap : Nat) (staged : Option Nat) : Ver :=
  let r := verifyForm b cap staged
  if !r.1.ok then r.1
  else match firstBad (fun _ x => semanticFails (avail (tget [] r.1.secs 1)) s r.1.secs x.type) 0 r.2 with
    | some i => { verFail 8 i with semantic := true }
    | none => r.1

/-- The repair state with which an image is judged at boot: fuses, its Repair section, field entries (R34, R52). -/
def bootAvail (s : State) (section1 : List Byte) : Avail := availOf (repairEntries s section1)

end Sys2Proof.Machine
end

