-- ==== Sys2Proof/Machine/HostWin.lean ====
section
/-! DEFINITION. The host window as the device uses it (R422, R423, R428, R429): posted writes and reads, split at the payload
and request sizes and at 4 KiB of host addresses; and the check units that build and check check blocks (R467 to R470). -/

namespace Sys2Proof.Machine

open Sys2Proof

/-- Can the endpoint issue requests: the link is up, the function is not in D3hot, and bus mastering is on (R429, R436)? -/
def hostUp (s : State) : Bool := pcieUp s && s.pcie.busMaster

/-- The host bus address of an offset in the host window (R428, R438). -/
def hostAddr (s : State) (off : Nat) : Nat := (rd64 s rPCIE_HW_BASE_LO / 4096 * 4096 + off) % 2 ^ 64

/-- A span cut so that no piece is longer than `m` or crosses a 4 KiB boundary of host addresses. -/
def cutSpan (m : Nat) : Nat → Nat → Nat → List (Nat × Nat)
  | 0, _, _ => []
  | k + 1, off, len =>
    if len = 0 then []
    else
      let n := min (min m len) (4096 - off % 4096)
      (off, n) :: cutSpan m k (off + n) (len - n)

/-- A posted write to the host window; one that cannot be sent because the link is down is discarded (R429). -/
def hostWrite (a : Nat) (bs : List Byte) (s : State) : State :=
  if hostUp s then
    forAll (cutSpan (max 1 s.pcie.mps) bs.length (a - hostBase) bs.length) (fun p s =>
      { s with pcie := { s.pcie with out := .write (hostAddr s p.1) (slice (p.1 + hostBase - a) p.2 bs) false :: s.pcie.out } }) s
  else s

/-- The lowest of the 10-bit tags that no read holds (R422). -/
def freeTag (s : State) : Nat :=
  ((upto 1024).find? (fun t => !(s.pcie.reads ++ s.pcie.wait).any (fun r => decide (r.tag = t)))).getD 0

/-- A read request goes out. -/
def sendRead (r : PcieRead) (s : State) : State :=
  { s with pcie := { s.pcie with reads := s.pcie.reads ++ [r]
                                 out := .read r.tag (hostAddr s r.off) r.len :: s.pcie.out } }

/-- A read request goes out, or waits while 256 are outstanding (R422). -/
def issueRead (r : PcieRead) (s : State) : State :=
  if s.pcie.reads.length < 256 then sendRead r s else { s with pcie := { s.pcie with wait := s.pcie.wait ++ [r] } }

/-- A device read of spans of the host window begins; false where the link is down (R429). -/
def hostRead (req : PcieReq) (spans : List (Nat × Nat)) (s : State) : Bool × State :=
  if hostUp s then
    match spans.flatMap (fun p => cutSpan (max 1 s.pcie.mrrs) p.2 (p.1 - hostBase) p.2) with
    | [] => (true, s)
    | p :: t => (true, issueRead { req := req, tag := freeTag s, off := p.1, len := p.2, rest := t } s)
  else (false, s)

/-- Reads whose requester no longer wants their data: responses that still come are dropped, and each tag is held until then
(R381, R386). -/
def dropReadsOf (p : PcieReq → Bool) (s : State) : State :=
  { s with pcie := { s.pcie with
      reads := s.pcie.reads.map (fun r => if p r.req then { r with req := .gone, rest := [] } else r)
      wait := s.pcie.wait.filter (fun r => !p r.req) } }
/-- A DMA channel and a Lantern core as requesters. -/
def chReq (c : Nat) : PcieReq := .dma (Fin.ofNat 32 c)
def lanReq (n : Nat) : PcieReq := .lantern (Fin.ofNat 18 n)
/-- The reads of one requester. -/
def dropReads (req : PcieReq) (s : State) : State := dropReadsOf (fun q => decide (q = req)) s

/-! ### Check units (R467 to R470) -/

/-- The CRC of unit `u` (R470). -/
def cuCrc (s : State) (u : Nat) (bs : List Byte) : Nat :=
  let w := rdF s (rCU_CFG u) 5 0
  crcGen (if 8 ≤ w ∧ w ≤ 32 then w else 32) (rdn s (rCU_POLY u)) (rdn s (rCU_INIT u)) (rdn s (rCU_XOROUT u))
    (rdB s (rCU_CFG u) 6) (rdB s (rCU_CFG u) 7) bs

/-- The enabled entry of a data ID (R468). -/
def cuEntry (s : State) (u id : Nat) : Option Nat :=
  (upto 16).find? (fun e => rdB s (rCU_ENT_ID u e) 16 && decide (rdF s (rCU_ENT_ID u e) 15 0 = id))

/-- A check block is built for data: none where no entry is enabled (R468). -/
def cuBuild (u id : Nat) (bs : List Byte) (s : State) : Option (List Byte) × State :=
  match cuEntry s u id with
  | none => (none, bump (rCU_CNT u 4) 1 s)
  | some e =>
    let al := (rdF s (rCU_ENT_ALIVE u e) 15 0 + 1) % 65536
    let h := leBytes 2 id ++ leBytes 2 al ++ leBytes 2 bs.length ++ leBytes 2 0
    let s := bumpW (rCU_CNT u 0) 1 (wrF (rCU_ENT_ALIVE u e) 15 0 al s)
    (some (h ++ leBytes 4 (cuCrc s u (bs ++ h))), s)

/-- How a check ends (R469). -/
inductive CuResult where
  | good | repeated | failed
deriving DecidableEq, Repr

/-- A check of data against its block (R469). `id`: a data ID that the block must carry, if one is prescribed. -/
def cuCheck (u : Nat) (id : Option Nat) (bs blk : List Byte) (s : State) : CuResult × State :=
  let s := bumpW (rCU_CNT u 1) 1 s
  let bid := leAt 0 2 blk
  let al := leAt 2 2 blk
  if leAt 4 2 blk ≠ bs.length then (.failed, bump (rCU_CNT u 2) 1 s)
  else if leAt 8 4 blk ≠ cuCrc s u (bs ++ blk.take 8) then (.failed, bump (rCU_CNT u 3) 1 s)
  else match (if id.getD bid = bid then cuEntry s u bid else none) with
    | none => (.failed, bump (rCU_CNT u 4) 1 s)
    | some e =>
      let d := (al + 65536 - rdF s (rCU_ENT_ALIVE u e) 31 16) % 65536
      let seen := rdB s (rCU_ENT_ID u e) 17
      let take (s : State) : State := wrB (rCU_ENT_ID u e) 17 true (wrF (rCU_ENT_ALIVE u e) 31 16 al s)
      if !seen ∨ d = 1 then (.good, take s)
      else if 2 ≤ d ∧ d ≤ 32768 then (.good, bump (rCU_CNT u 6) (d - 1) (take s))
      else (.repeated, bump (rCU_CNT u 5) 1 s)

end Sys2Proof.Machine
end

