-- ==== Sys2Proof/Machine/Scratch.lean ====
section
/-! DEFINITION. The scratchpad block (chapter 11): port accesses, the fill and copy engine (R293 to R298), the hardware
semaphores (R299 to R301) and the check of a remote write against its credit window (R303, R304). -/

namespace Sys2Proof.Machine

open Sys2Proof

/-! ### Port accesses -/

/-- Which memory a port of R281 reaches, and whether it reads and writes. -/
def portReaches (p a : Nat) (wr : Bool) : Bool :=
  match p with
  | 0 => !wr && decide (memNo a = some 0)
  | 1 => !wr && decide (memNo a = some 1)
  | 2 => !wr && decide (memNo a = some 1)
  | 3 => wr && decide (memNo a = some 1)
  | 4 => decide (memNo a = some 2)
  | 11 | 12 | 13 => (memNo a).isSome
  | _ => decide (memNo a = some 1)

/-- The agent behind a port, for decode errors (R490): the DMA has number 6; the class plays no part here. -/
def portAgent (p : Nat) : Agent := { port := p, cls := 3, who := if p = 11 then some 6 else none }

/-- SPAD_READ (R280): a read through a port; the answer holds the bytes in words, and an error response where an address is
not decoded. -/
def execSpadRead (port : Fin 14) (addr : BitVec 48) (len : BitVec 12) (err : MemErr) (s : State) :
    Host.Outcome State Fault Refusal :=
  let a := addr.toNat
  let n := len.toNat
  if !decodesAll s a n then .next (answerErr ((n + 3) / 4) (agentDecodeErr (portAgent port) a s))
  else if !portReaches port a false then .next (answerErr ((n + 3) / 4) s)
  else
    let r := portRead port a n err s
    let data := (upto ((n + 3) / 4)).map (fun k => w32 (leAt (4 * k) 4 r.1.data))
    .next { r.2 with resp := { data, poison := r.1.poison } }

/-- SPAD_WRITE (R283): a write through a port. -/
def execSpadWrite (port : Fin 14) (addr : BitVec 48) (data : List Byte) (poison : Bool) (err : MemErr) (s : State) :
    Host.Outcome State Fault Refusal :=
  let a := addr.toNat
  if !decodesAll s a data.length then .next (answerErr 0 (agentDecodeErr (portAgent port) a s))
  else if !portReaches port a true then .next (answerErr 0 s)
  else
    let r := portWrite port a data poison err s
    .next (if r.1 then answer [] r.2 else answerErr 0 r.2)

/-! ### Fill and copy -/

/-- The fill and copy engine's agent: port 13; requests that R392 does not list draw as BEST_EFFORT (log entry 8). -/
def fcAgent : Agent := { port := 13, cls := 3, who := none }

/-- Base and size of memory 0, 1 or 2 (R279). -/
def memBase (m : Nat) : Nat := if m = 0 then wmBase else if m = 1 then amBase else psBase
def memSize (m : Nat) : Nat := if m = 0 then 0x2000000 else if m = 1 then 0x4000000 else 0x800000

/-- Bytes from the first to the last of a region of rows (R295). -/
def extent (width height stride : Nat) : Nat := (height - 1) * stride + width

/-- Do two byte ranges overlap? -/
def overlap (a la b lb : Nat) : Bool := decide (a < b + lb ∧ b < a + la)

/-- The class of a copy (R296): 0 DISJOINT, 1 LINEAR, 2 DIAGONAL; none where no order exists. The strides of a command of one
dimension are 0, so its overlapping copy is DIAGONAL (log entry 54). -/
def fcClass (c : FcCmd) : Option Nat :=
  let d : Int := (c.dst : Int) - c.src
  if d = 0 then some 0
  else if !overlap c.src (extent c.width c.height c.srcStride) c.dst (extent c.width c.height c.dstStride) then some 0
  else if c.srcStride = c.dstStride then
    if d.natAbs % c.srcStride = 0 ∨ d.natAbs + c.width ≤ c.srcStride then some 1 else some 2
  else if (d ≤ 0 ∧ c.dstStride ≤ c.srcStride) ∨ (0 ≤ d ∧ c.srcStride ≤ c.dstStride) then some 2
  else none

/-- A descriptor of R293 as fields. -/
def fcParse (b : List Byte) : FcCmd :=
  let ctrl := leAt 0 1 b
  let m := nfld ctrl 3 2
  { copy := decide (nfld ctrl 1 0 = 1), mem := m, noGen := nbit ctrl 5, waitEn := nbit ctrl 6, signalEn := nbit ctrl 7,
    slot := leAt 1 1 b % 16, gen := leAt 2 1 b, jobId := leAt 4 4 b, waitSem := leAt 8 2 b % 1024,
    signalSem := leAt 10 2 b % 1024, pattern := leAt 0xC 4 b, src := memBase m + leAt 0x10 4 b, dst := memBase m + leAt 0x14 4 b,
    width := leAt 0x18 4 b, height := leAt 0x1C 4 b, srcStride := leAt 0x20 4 b, dstStride := leAt 0x24 4 b }

/-- The first reason of R295 for which a descriptor is refused; 0: accepted. -/
def fcReason (s : State) (b : List Byte) : Nat :=
  let ctrl := leAt 0 1 b
  let c := fcParse b
  let two := nbit ctrl 4
  let off := leAt 0x14 4 b
  let so := leAt 0x10 4 b
  if 2 ≤ nfld ctrl 1 0 ∨ c.mem = 3 ∨ leAt 1 1 b ≥ 16 ∨ leAt 3 1 b ≠ 0 ∨ leAt 8 2 b ≥ 1024 ∨ leAt 0xA 2 b ≥ 1024
      ∨ (c.copy ∧ c.pattern ≠ 0) ∨ so ≥ 0x4000000 ∨ off ≥ 0x4000000 ∨ (¬ c.copy ∧ so ≠ 0)
      ∨ (¬ (c.copy ∧ two) ∧ c.srcStride ≠ 0) ∨ (¬ two ∧ c.dstStride ≠ 0) ∨ leAt 0x28 24 b ≠ 0 then 3
  else if c.width < 4 ∨ 67108864 < c.width ∨ (if two then c.height < 1 ∨ 65535 < c.height else c.height ≠ 1)
      ∨ so % 4 ≠ 0 ∨ off % 4 ≠ 0 ∨ c.width % 4 ≠ 0 ∨ c.srcStride % 4 ≠ 0 ∨ c.dstStride % 4 ≠ 0
      ∨ (two ∧ (c.dstStride < c.width ∨ (c.copy ∧ c.srcStride < c.width))) then 4
  else if memSize c.mem < off + extent c.width c.height c.dstStride
      ∨ !decodesAll s c.dst (extent c.width c.height c.dstStride)
      ∨ (c.copy ∧ (memSize c.mem < so + extent c.width c.height c.srcStride
        ∨ !decodesAll s c.src (extent c.width c.height c.srcStride))) then 5
  else if c.copy ∧ fcClass c = none then 6
  else if c.copy ∧ fcClass c = some 2 ∧ 4096 < c.width then 7
  else 0

/-- SP_STATUS shows the engine. -/
def fcStatus (waiting : Bool) (s : State) : State :=
  wrB rSP_STATUS 6 waiting (wrF rSP_STATUS 5 1 s.fc.queue.length (wrB rSP_STATUS 0 s.fc.running.isSome s))

/-- A refused command (R295). -/
def fcRefuse (a reason : Nat) (j : Option JobRef) (s : State) : State :=
  assertRouted rLCL_ROUTE1 0 20 <| raiseJ 86 0 j a (bump (rSP_CNT 7) 1 (wr64 rSP_FC_ERR_ADDR_LO a (wrF rSP_FC_REFUSE 7 4 reason (wrB rSP_FC_REFUSE 0 true s))))

/-- A descriptor's job, unless NO_GEN leaves it without one (R491). -/
def fcJob (b : List Byte) : Option JobRef :=
  let c := fcParse b
  if c.noGen then none else some { slot := c.slot, gen := c.gen, jobId := c.jobId }

/-- The command whose descriptor lies at `a` is pushed or refused (R294, R295). A descriptor that is poisoned or not aligned
to 64 bytes cannot be read (log entry 9). It is read for a push to a full queue too: E86 names its job. -/
def fcPush (a : Nat) (s : State) : State :=
  let r := devRead fcAgent a 64 s
  let s := r.2
  let bad := r.1.err || r.1.poison || decide (a % 64 ≠ 0)
  let j := if bad then none else fcJob r.1.data
  let why := if 16 ≤ s.fc.queue.length then 1 else if bad then 2 else fcReason s r.1.data
  if why ≠ 0 then fcRefuse a why j s
  else fcStatus (rdB s rSP_STATUS 6) { s with fc := { s.fc with queue := s.fc.queue ++ [fcParse r.1.data] } }

/-- The effect of a write of SP_FC_PUSH_HI: the pair takes the address and the command is pushed (R294). -/
def fcPushEffect (i : Iface) (hi : Word) (s : State) : State × Bool :=
  let r := pairEffect i rSP_FC_PUSH_HI (latch s i rSP_FC_PUSH_LO) hi .none s
  (fcPush (rd64 r.1 rSP_FC_PUSH_LO % 2 ^ 48) r.1, r.2)

/-- FC_PUSH (R294). -/
def execFcPush (ifc : Iface) (hi : Word) (s : State) : Host.Outcome State Fault Refusal :=
  .next (gatedWrite ifc rSP_FC_PUSH_HI hi (fcPushEffect ifc hi) s)

/-- The bytes of a fill from a 4-byte-aligned offset on (R293). -/
def fillBytes (pat n : Nat) : List Byte := (List.replicate (n / 4) (leBytes 4 pat)).flatten

/-- A write of the engine, unit by unit: each unit takes the poison state of the source bytes that reach it (R298). -/
def fcStore (a : Nat) (bs : List Byte) (dirty : Nat → Nat → Bool) (clearPs : Bool) (s : State) : State :=
  let n := bs.length
  -- marks are judged on the source as it stands before the write
  let marks := (unitsOf s a n).map (fun u =>
    let lo := max u.1 a
    let hi := min (u.1 + u.2) (a + n)
    (u, dirty (lo - a) (hi - lo)))
  let r := portWrite 13 a bs false .none s
  forAll (if r.1 then marks else []) (fun m s =>
    let u := m.1
    if m.2 then setPoison u.1 true s
    else if clearPs ∧ memNo a = some 2 then setPoison u.1 false s
    else s) r.2

/-- Row `k` in the engine's order: descending for a copy whose destination lies above an overlapping source, and for one in
place whose rows move apart, so that the result is that of a source read whole (R296). -/
def fcRowIx (c : FcCmd) (k : Nat) : Nat :=
  if c.copy ∧ ((fcClass c ≠ some 0 ∧ c.src < c.dst) ∨ (c.src = c.dst ∧ c.srcStride < c.dstStride)) then c.height - 1 - k
  else k

/-- One row is written (R296 to R298). -/
def fcRow (c : FcCmd) (k : Nat) (s : State) : State :=
  let i := fcRowIx c k
  let d := c.dst + i * c.dstStride
  if c.copy then
    let a := c.src + i * c.srcStride
    let r := portRead 13 a c.width .none s
    fcStore d r.1.data (fun o n => poisonedIn s (a + o) n) false r.2
  else fcStore d (fillBytes c.pattern c.width) (fun _ _ => false) true s

/-- Does the generation check let the next row through (R294)? -/
def fcGenOk (s : State) (c : FcCmd) : Bool := c.noGen || genOk s c.slot c.gen

/-- The command that runs ends without signalling (R294). -/
def fcDiscard (s : State) : State :=
  fcStatus false (bump (rSP_CNT 8) 1 { s with fc := { s.fc with running := none, rows := 0 } })

/-- Up to `n` further rows of the command that runs, with the generation check before each. -/
def fcRows : Nat → State → State
  | 0, s => s
  | n + 1, s =>
    match s.fc.running with
    | none => s
    | some c =>
      if c.height ≤ s.fc.rows then s
      else if !fcGenOk s c then fcDiscard s
      else
        let s := fcRow c s.fc.rows s
        fcRows n { s with fc := { s.fc with rows := s.fc.rows + 1 } }

/-- FC_START (R294, R296): the head command takes its count or waits, is classed, and writes its first `rows` rows before
the next command arrives. -/
def execFcStart (rows : Nat) (s : State) : Host.Outcome State Fault Refusal :=
  match s.fc.running, s.fc.queue with
  | none, c :: q =>
    if c.waitEn ∧ (sem s c.waitSem).count = 0 then .next (fcStatus true s)
    else
      let s := onlyIf c.waitEn (semTake c.waitSem) s
      let s := { s with fc := { queue := q, running := some c, rows := 0 } }
      let s := onlyIf c.copy (wrF rSP_STATUS 9 8 ((fcClass c).getD 0)) s
      let s := fcStatus false s
      .next (if fcGenOk s c then fcRows (min rows c.height) s else fcDiscard s)
  | _, _ => .next s

/-- FC_DONE (R294): the rows left are written and, when the last write has been accepted, the command signals. -/
def execFcDone (s : State) : Host.Outcome State Fault Refusal :=
  match s.fc.running with
  | none => .next s
  | some c =>
    let s := fcRows c.height s
    match s.fc.running with
    | none => .next s
    | some c =>
      let s := fcStatus false (bump (rSP_CNT 6) 1 { s with fc := { s.fc with running := none, rows := 0 } })
      .next (onlyIf c.signalEn (semRelease c.signalSem 1) s)

/-! ### Semaphores -/

/-- SEM_COUNT_WRITE (R299): a write of COUNT loads the count. -/
def execSemCountWrite (n : Fin 1024) (v : Word) (s : State) : Host.Outcome State Fault Refusal :=
  .next (answer [] (semLoad n (fld v 15 0) s))

/-- SEM_RELEASE (R299). -/
def execSemRelease (n : Fin 1024) (v : Word) (s : State) : Host.Outcome State Fault Refusal :=
  .next (answer [] (semRelease n (fld v 15 0) s))

/-- SEM_TAKE (R299): returns the count before the access and takes one when it was above 0. -/
def execSemTake (n : Fin 1024) (s : State) : Host.Outcome State Fault Refusal :=
  .next (answer [w32 (sem s n).count] (semTake n s))

/-- SEM_CFG_WRITE (R299). -/
def execSemCfgWrite (n : Fin 1024) (v : Word) (s : State) : Host.Outcome State Fault Refusal :=
  .next (answer [] (setSem n { sem s n with notify := fld v 4 0, notifyEn := bit v 5 } (unreserve (semBase + n * 64) 64 s)))

/-! ### Credit windows (R303 to R305) -/

/-- Is window `w` open (R306)? -/
def crwOpen (s : State) (w : Nat) : Bool :=
  let c := rd s (rCRW_CFG w)
  let n := rdF s (rCRW_SIZE w) 15 0
  bit c 0 && decide (fld c 2 1 ≠ 3) && decide (1 ≤ n ∧ n ≤ 16384)

/-- The first byte of a window, as an offset, and its length. -/
def crwRange (s : State) (w : Nat) : Nat × Nat :=
  (rdF s (rCRW_BASE w) 25 12 * 4096, rdF s (rCRW_SIZE w) 15 0 * 4096)

/-- Credits that a remote write of `len` bytes needs (R303). -/
def crwNeed (len : Nat) : Nat := (len + 4095) / 4096

/-- The first check of R304 that a remote write of member `peer` fails; 0: it passes. `off` is the offset in the memory of
the window. -/
def crwReason (s : State) (w peer off len : Nat) : Nat :=
  let c := rd s (rCRW_CFG w)
  let r := crwRange s w
  if 64 ≤ w ∨ !crwOpen s w then 1
  else if !bit c 7 ∧ fld c 6 4 ≠ peer then 2
  else if off < r.1 ∨ r.1 + r.2 < off + len then 3
  else if rdF s (rCRW_CREDITS w) 15 0 < crwNeed len then 4
  else if bit c 3 ∧ !genOk s (fld c 11 8) (fld c 19 12) then 5
  else 0

end Sys2Proof.Machine
end

