-- ==== Sys2Proof/Machine/Net.lean ====
section
/-! DEFINITION. The network domain (chapter 17), sending side: interfaces (R439 to R442), CTP messages and associations
(R448 to R452), the send ring (R455, R456), remote writes that wait for credit (R460), beacons (R462, R463), and the states
of the group logic (R471 to R476). -/

namespace Sys2Proof.Machine

open Sys2Proof

/-! ### The network section (R446) and the interfaces -/

/-- UDP port of CTP. -/
def ctpPort (s : State) : Nat := let p := leAt 2 2 (netSec s); if p = 0 then 47600 else p
def groupCfgId (s : State) : Nat := leAt 4 4 (netSec s)
/-- GROUP_SIZE; a device without the section stands alone. -/
def groupSize (s : State) : Nat := if (netSec s).length = 480 then min 8 (leAt 8 1 (netSec s)) else 1
def ownMember (s : State) : Nat := leAt 9 1 (netSec s)
def ptpDomain (s : State) : Nat := leAt 0xA 1 (netSec s)
def netFlags (s : State) : Nat := leAt 0xB 1 (netSec s)
def fwVersion (s : State) : Nat := leAt 0xC 4 (netSec s)
def groupIf (s : State) : Nat := leAt 0x10 1 (netSec s)
def ptpIf (s : State) : Nat := leAt 0x11 1 (netSec s)
def ifMac (s : State) (k : Nat) : Nat := leAt (0x20 + k * 8) 6 (netSec s)
/-- VID, PCP and TAGGED of an interface. -/
def ifVlan (s : State) (k : Nat) : Nat := leAt (0x26 + k * 8) 2 (netSec s)
def ifAddr (s : State) (k : Nat) : Nat := leAt (0x70 + k * 16) 16 (netSec s)
def memberAddr (s : State) (m : Nat) : Nat := leAt (0x120 + m * 24) 16 (netSec s)
def memberMac (s : State) (m : Nat) : Nat := leAt (0x130 + m * 24) 6 (netSec s)

/-- An address in IPv4 form, ::ffff:a.b.c.d, as a little-endian number. -/
def isV4 (a : Nat) : Bool := decide (a % 2 ^ 96 = 0xFFFF * 2 ^ 80)

/-- The interface carries frames: D5 answers, the interface exists and is enabled, the link is up. -/
def ifUp (s : State) (k : Nat) : Bool :=
  domOk s 5 && ifExists s k && rdB s (ifPage k) 0 && rdB s (ifPage k + 4) 0
/-- The MTU in force (R479). -/
def ifMtu (s : State) (k : Nat) : Nat :=
  let m := rdF s (ifPage k + 4) 29 16
  if 1280 ≤ m ∧ m ≤ 9174 then m else 1500

/-- A frame goes out on an interface that carries frames. -/
def sendFrame (f : NetOut) (s : State) : State :=
  if ifUp s f.ifc then
    let v := ifVlan s f.ifc
    let f := { f with tag := if nbit v 15 then some (v % 4096, nfld v 14 12) else none }
    bumpW (ifPage f.ifc + 0x40) 1 { s with net := { s.net with sent := f :: s.net.sent } }
  else s

/-- The link of an interface falls (R479). -/
def linkFall (k : Nat) (s : State) : State :=
  if rdB s (ifPage k) 0 then raiseE 120 5 (bump (ifPage k + 0x54) 1 (wrn (ifPage k) 0 s)) else s

/-! ### Group members -/

/-- Member `m` as a peer: its address and MAC on GROUP_IF, at the CTP port. -/
def memberPeer (s : State) (m : Nat) : Peer :=
  { ifc := groupIf s, addr := memberAddr s m, port := ctpPort s, mac := memberMac s m }
/-- The other member of the group that a peer is. -/
def peerMember (s : State) (p : Peer) : Option Nat :=
  if groupSize s ≤ 1 ∨ p.ifc ≠ groupIf s then none
  else (upto (groupSize s)).find? (fun m => decide (m ≠ ownMember s ∧ memberAddr s m = p.addr))

/-- GRP_STATUS.STATE (R471). -/
def grpState (s : State) : Nat := rdF s rGRP_STATUS 2 0
/-- DEV_STATE.ROLE of a group state (R471). -/
def grpRole (g : Nat) : Nat := if g = 2 ∨ g = 4 then 2 else if g = 3 then 1 else 0
/-- The group state changes: role, and source 16 of the Lantern that LCL_ROUTE0 names (R338, R471). -/
def setGrpState (g : Nat) (s : State) : State :=
  if grpState s = g then s
  else assertRouted rLCL_ROUTE0 8 16 (wrF rDEV_STATE 6 5 (grpRole g) (wrF rGRP_STATUS 2 0 g s))

def mate (s : State) (m : Nat) : Mate := tget {} s.net.mates m
def setMate (m : Nat) (x : Mate) (s : State) : State := { s with net := { s.net with mates := tput {} s.net.mates m x } }

/-- MEMBERS bit: member m joined (primary), or the primary seen (secondary). -/
def memberBit (s : State) (m : Nat) : Bool := rdB s rGRP_STATUS (8 + m)
/-- Is member `m` joined with this device? -/
def joinedWith (s : State) (m : Nat) : Bool :=
  if grpState s = 3 then decide (m ≠ 0) && memberBit s m else decide (grpState s = 2 ∧ m = 0)
/-- The epoch of the traffic with member `m` (R473): its own at the primary, this device's own at a member. -/
def epochWith (s : State) (m : Nat) : Nat := if ownMember s = 0 then (mate s m).epoch else rdF s rGRP_STATUS 23 16
/-- Is an epoch current for member `m`? At the primary while its bit of MEMBERS is set; at a member, its own epoch with the
primary. -/
def epochCurrent (s : State) (m e : Nat) : Bool :=
  decide (e ≠ 0 ∧ e = epochWith s m) &&
    (if ownMember s = 0 then decide (grpState s = 3 ∧ m ≠ 0) && memberBit s m else decide (m = 0))

/-! ### Messages (R448 to R450) -/

def fACK_REQ : Nat := 1
def fRETX : Nat := 2
def fFIRST : Nat := 4
def fPOISON : Nat := 8
def fUNSURE : Nat := 16
def fDEGRADED : Nat := 32
def fCHECKED : Nat := 64
def fJOB : Nat := 128

/-- Types that R450 lists. -/
def ctpListed (t : Nat) : Bool := decide (1 ≤ t ∧ t ≤ 15)
/-- Reliable types; MSG when ACK_REQ is set (R450). -/
def ctpReliable (m : CtpMsg) : Bool :=
  [3, 4, 5, 7, 8, 10, 12, 14, 15].contains m.type || (decide (m.type = 11) && nbit m.flags 0)

/-- The bytes of a datagram: header, payload, check block. -/
def ctpBytes (m : CtpMsg) : List Byte :=
  leBytes 1 1 ++ leBytes 1 m.type ++ leBytes 2 m.flags ++ leBytes 1 m.member ++ leBytes 1 m.epoch ++ leBytes 1 m.slot ++
  leBytes 1 m.gen ++ leBytes 4 m.seq ++ leBytes 4 m.jobId ++ leBytes 8 m.serial ++ leBytes 2 m.payload.length ++
  leBytes 2 m.channel ++ leBytes 4 0 ++ m.payload ++ m.block

/-- What the sender puts into every message: its index, GROUPED with the epoch as a joined member, its serial,
TIME_UNSURE (R444, R449). -/
def ctpFill (s : State) (p : Peer) (m : CtpMsg) : CtpMsg :=
  let g := match peerMember s p with | some k => if joinedWith s k then some (epochWith s k) else none | none => none
  { m with member := ownMember s + (if g.isSome then 8 else 0), epoch := g.getD 0, serial := s.fuses.serial,
           flags := m.flags + (if timeLocked s ∨ nbit m.flags 4 then 0 else fUNSURE) }

/-- A message goes out now. -/
def ctpTransmit (p : Peer) (m : CtpMsg) (s : State) : State :=
  if ifUp s p.ifc then
    bumpW (rCTP_CNT 0) 1 (sendFrame { ifc := p.ifc, mac := p.mac, addr := p.addr, sport := ctpPort s, dport := p.port,
                                      hops := some (64, 0), data := ctpBytes (ctpFill s p m) } s)
  else s

/-- Does a message wait for the slot after a group wake: a group message other than a beacon (R474, R475)? -/
def ctpHeld (s : State) (p : Peer) (m : CtpMsg) : Bool :=
  (s.net.hold || s.net.skip) && (peerMember s p).isSome && decide (m.type ≠ 1)

/-- A message of send descriptor `d`, if of any, goes out or waits for its slot. -/
def ctpSendFor (d : Option Nat) (p : Peer) (m : CtpMsg) (s : State) : State :=
  if ctpHeld s p m then { s with net := { s.net with waiting := s.net.waiting ++ [(p, m, d)] } } else ctpTransmit p m s
/-- A message of the device's own goes out or waits for its slot. -/
def ctpSend (p : Peer) (m : CtpMsg) (s : State) : State := ctpSendFor none p m s

/-! ### Associations (R451) -/

def assoc (s : State) (k : Nat) : Option Assoc := tget none s.net.assocs k
def setAssoc (k : Nat) (a : Option Assoc) (s : State) : State := { s with net := { s.net with assocs := tput none s.net.assocs k a } }
/-- An entry changes if it is in use. -/
def updAssoc (k : Nat) (f : Assoc → Assoc) (s : State) : State :=
  match assoc s k with | some a => setAssoc k (some (f a)) s | none => s

/-- The entry of a peer. -/
def findAssoc (s : State) (p : Peer) : Option Nat :=
  (upto 64).find? (fun k => match assoc s k with
    | some a => decide (a.peer.ifc = p.ifc ∧ a.peer.addr = p.addr ∧ a.peer.port = p.port)
    | none => false)
/-- The entry that a new association takes: a free one, or the longest idle for 1 s and more without an unacknowledged
message (R451). -/
def roomFor (s : State) : Option Nat :=
  match (upto 64).find? (fun k => (assoc s k).isNone) with
  | some k => some k
  | none =>
    (upto 64).foldl (fun (best : Option Nat) k => match assoc s k with
      | some a =>
        if a.unacked.isEmpty ∧ a.backlog.isEmpty ∧ a.last + aonS ≤ s.clock.aon then
          (match best with
            | none => some k
            | some b => if a.last < ((assoc s b).map Assoc.last).getD 0 then some k else best)
        else best
      | none => best) none

/-- The association of a peer, made where there is none; none where the table is full: ASSOC_FULL, E122 (R451). Its first
transmit sequence is a free value (log entry 1). -/
def useAssoc (p : Peer) (s : State) : Option Nat × State :=
  match findAssoc s p with
  | some k => (some k, updAssoc k (fun a => { a with last := s.clock.aon, peer := { a.peer with mac := p.mac } }) s)
  | none =>
    match roomFor s with
    | some k =>
      let f := takeFree s
      (some k, setAssoc k (some { peer := p, tx := f.1.toNat % 2 ^ 32, last := s.clock.aon })
        { f.2 with limits := tput 0 f.2.limits (12100 + k) 0 })
    | none => (none, limited 12200 aonMs (raiseE 122 5) (bump (rCTP_CNT 13) 1 s))

/-! ### Send descriptors in work (R456) -/

def findDesc (s : State) (n : Nat) : Option TxDesc := s.net.descs.find? (fun d => decide (d.num = n))
def updDesc (n : Nat) (f : TxDesc → TxDesc) (s : State) : State :=
  { s with net := { s.net with descs := s.net.descs.map (fun d => if d.num = n then f d else d) } }
/-- A descriptor's generation is no longer that of its slot (R456, R478). -/
def descStale (s : State) (d : TxDesc) : Bool := !genOk s d.slot d.gen

/-- STATUS bits of R455. -/
def sFAILED : Nat := 4
def sREFUSED : Nat := 8
def sDISCARDED : Nat := 16
def sPOISON : Nat := 32

/-- CTP_TXQ_CONS: the first descriptor of the ring that is not complete (log entry 60). -/
def txCons (s : State) : Nat :=
  match s.net.descs.find? (fun d => d.idx.isSome) with
  | some d => d.idx.getD 0
  | none => s.net.taken

/-- The network engine's accesses to memory: port FABRIC, class BEST_EFFORT (R392); R490 gives it no number. -/
def netAgent : Agent := { port := 12, cls := 3, who := none }

/-- Steps 6 and 7 of R24: the generation advances, then the slot is freed with its retained inputs. -/
def jobRelease (k : Nat) (s : State) : State :=
  if (job s k).state = .sent ∨ (job s k).state = .abandoned then freeSlot k (genAdvance k s) else s

/-- Messages of a descriptor that still wait for an answer or to go out are dropped. -/
def dropDescMsgs (n : Nat) (s : State) : State :=
  forAll (upto 64) (fun k => updAssoc k (fun a =>
    { a with unacked := a.unacked.filter (fun t => decide (t.desc ≠ some n)),
             backlog := a.backlog.filter (fun t => decide (t.desc ≠ some n)) }))
    { s with net := { s.net with waiting := s.net.waiting.filter (fun x => decide (x.2.2 ≠ some n)) } }

/-- A descriptor completes: SEQ and STATUS are written, CTP_TXQ_CONS advances, source 14 is asserted, and the job whose
decision it was commits (R456, R465, R24). -/
def descComplete (n : Nat) (s : State) : State :=
  match findDesc s n with
  | none => s
  | some d =>
    let st := 1 + 2 * b2n (decide (d.mask ≠ 0 ∧ d.acked = d.mask ∧ nfld d.status 4 2 = 0)) + d.status + d.acked * 0x1000
    let s := dropDescMsgs n s
    let s := { s with net := { s.net with descs := s.net.descs.filter (fun x => decide (x.num ≠ n)) } }
    let s := match d.idx with
      | some _ => wrn rCTP_TXQ_CONS (txCons s)
          (devPut netAgent (d.at_ + 0x38) (leBytes 4 (d.seq.getD 0) ++ leBytes 4 st) false s)
      | none => s
    let s := onlyIf d.irq (assertSrc (rdF s rCTP_CFG 4 0) 14) s
    match d.job with | some k => jobRelease k s | none => s

/-- STATUS bits and a REASON join those that a descriptor has; the later REASON holds. -/
def joinStatus (old st : Nat) : Nat := ((old ||| st) % 256) + 256 * (if st / 256 = 0 then old / 256 else st / 256)
/-- A descriptor completes with further STATUS bits. -/
def descEnd (n st : Nat) (s : State) : State :=
  descComplete n (updDesc n (fun d => { d with status := joinStatus d.status st }) s)

/-- One of a descriptor's messages is done with. -/
def descStep (n : Option Nat) (f : TxDesc → TxDesc) (s : State) : State :=
  match n with
  | some n => updDesc n (fun d => f { d with left := d.left - 1 }) s
  | none => s

/-! ### Reliable messages (R452) -/

/-- A reliable message takes the next sequence and goes out, FIRST until the association's first answer. A descriptor whose
generation has passed sends nothing more (R456). -/
def startMsg (k : Nat) (t : TxMsg) (s : State) : State :=
  match assoc s k with
  | none => s
  | some a =>
    let stale := match t.desc with
      | some n => (match findDesc s n with | some d => descStale s d | none => true)
      | none => false
    if stale then (match t.desc with | some n => descEnd n sDISCARDED s | none => s)
    else
      let m := { t.msg with seq := a.tx, flags := t.msg.flags + fACK_REQ + (if a.answered then 0 else fFIRST) }
      let s := setAssoc k (some { a with tx := (a.tx + 1) % 2 ^ 32, last := s.clock.aon,
                                         unacked := a.unacked ++ [{ t with msg := { t.msg with seq := a.tx }, out := !ctpHeld s a.peer m }] }) s
      let s := match t.desc with
        | some n => updDesc n (fun d => { d with seq := d.seq.or (some a.tx) }) s
        | none => s
      ctpSendFor t.desc a.peer m s

/-- Messages that waited for room go out while fewer than 64 are unacknowledged (R451). -/
def drainBacklog (k : Nat) (s : State) : State :=
  match assoc s k with
  | none => s
  | some a =>
    forAll (upto (64 - a.unacked.length)) (fun _ s => match assoc s k with
      | some a => (match a.backlog with
        | t :: r => startMsg k t (setAssoc k (some { a with backlog := r }) s)
        | [] => s)
      | none => s) s

/-- A reliable message is given to its association (R451, R452). -/
def sendReliable (k : Nat) (t : TxMsg) (s : State) : State :=
  match assoc s k with
  | none => s
  | some a =>
    if 64 ≤ a.unacked.length ∨ !a.backlog.isEmpty then setAssoc k (some { a with backlog := a.backlog ++ [t] }) s
    else startMsg k t s

/-- A reliable message of the device's own to a peer; dropped where the table of associations is full. -/
def sendOwn (p : Peer) (m : CtpMsg) (s : State) : State :=
  match useAssoc p s with
  | (some k, s) => sendReliable k { msg := m } s
  | (none, s) => s

/-- The message of sequence `q` that waits for its answer. -/
def findTx (s : State) (k q : Nat) : Option TxMsg :=
  match assoc s k with
  | some a => a.unacked.find? (fun t => decide (t.msg.seq = q))
  | none => none
/-- The message of sequence `q` leaves its window. -/
def removeTx (k q : Nat) (s : State) : State :=
  updAssoc k (fun a => { a with unacked := a.unacked.filter (fun t => decide (t.msg.seq ≠ q)) }) s

/-- A retransmission: RETX set, counted; a descriptor whose generation has passed completes with DISCARDED (R452, R456). -/
def retransmit (k q : Nat) (s : State) : State :=
  match assoc s k, findTx s k q with
  | some a, some t =>
    if 3 ≤ t.retx ∨ !t.out then s
    else
      let stale := match t.desc with
        | some n => (match findDesc s n with | some d => descStale s d | none => true)
        | none => false
      if stale then (match t.desc with | some n => descEnd n sDISCARDED s | none => s)
      else
        let s := updAssoc k (fun a => { a with last := s.clock.aon, unacked := a.unacked.map (fun x =>
          if x.msg.seq = q then { x with retx := x.retx + 1 } else x) }) s
        let m := { t.msg with flags := t.msg.flags + fACK_REQ + fRETX + (if a.answered then 0 else fFIRST) }
        ctpSendFor t.desc a.peer m (bumpW (rCTP_CNT 2) 1 s)
  | _, _ => s

/-- The first transmission of a reliable message has gone out. -/
def markOut (p : Peer) (m : CtpMsg) (s : State) : State :=
  match findAssoc s p with
  | some k => updAssoc k (fun a => { a with unacked := a.unacked.map (fun t =>
      if t.msg.type = m.type ∧ t.msg.seq = m.seq then { t with out := true } else t) }) s
  | none => s

/-- A message that waited for its slot goes out; one of a descriptor whose generation has passed does not (R456, R478). -/
def flushOne (x : Peer × CtpMsg × Option Nat) (s : State) : State :=
  match x.2.2 with
  | none => markOut x.1 x.2.1 (ctpTransmit x.1 x.2.1 s)
  | some n => match findDesc s n with
    | none => s
    | some d => if descStale s d then descEnd n sDISCARDED s else markOut x.1 x.2.1 (ctpTransmit x.1 x.2.1 s)

/-- The messages that waited go out, once nothing holds them. -/
def ctpFlush (s : State) : State :=
  if s.net.hold || s.net.skip then s
  else forAll s.net.waiting flushOne { s with net := { s.net with waiting := [] } }

/-- A message has failed: FAILED, E121 at most once per association per 1 ms; a remote write that failed under R452 sends
WRITE_LOST (R461). -/
def failMsg (k q : Nat) (lost : Bool) (s : State) : State :=
  match findTx s k q with
  | none => s
  | some t =>
    let s := limited (12100 + k) aonMs (raiseE 121 5) (bump (rCTP_CNT 3) 1 (removeTx k q s))
    let s := descStep t.desc (fun d => { d with status := d.status ||| sFAILED }) s
    let s := onlyIf (lost && decide (t.msg.type = 7)) (sendReliable k { msg :=
      { type := 10, channel := t.msg.channel,
        payload := t.msg.payload.take 4 ++ leBytes 4 (t.msg.payload.length - 8) } }) s
    drainBacklog k s

/-- RETRANSMIT_TIMER (R452): 50, 100 or 150 µs have passed without an answer. -/
def execRetransmitTimer (k : Fin 64) (seq : Word) (s : State) : Host.Outcome State Fault Refusal :=
  .next (if domOk s 5 then retransmit k seq.toNat s else s)

/-- DELIVERY_FAILURE (R452): 200 µs have passed, and the third retransmission too, without an answer. -/
def execDeliveryFailure (k : Fin 64) (seq : Word) (s : State) : Host.Outcome State Fault Refusal :=
  .next (match findTx s k seq.toNat with
    | some t => if domOk s 5 ∧ t.retx = 3 then failMsg k seq.toNat true s else s
    | none => s)

/-- The descriptor in work at place `k`, oldest first. -/
def txDescAt (s : State) (k : Nat) : Option TxDesc :=
  match s.net.descs[k]? with
  | some d => findDesc s d.num
  | none => none

/-- DESCRIPTOR_COMPLETE_CTP (R456, R465): every addressed message of a descriptor is answered or has failed. `k`: which of
the descriptors in work, oldest first. -/
def execDescriptorCompleteCtp (k : Fin 4096) (s : State) : Host.Outcome State Fault Refusal :=
  .next (match txDescAt s k with
    | some d => if domOk s 5 ∧ d.left = 0 then descComplete d.num s else s
    | none => s)

/-! ### Taking descriptors (R455, R456) -/

/-- Destination `k` of the CTP registers; none where it is not in use (R481). -/
def ctpDest (s : State) (k : Nat) : Option Peer :=
  let cfg := rd s (rCTP_DEST_CFG k)
  if bit cfg 0 ∧ ifExists s (fld cfg 7 4) then
    let hi := rd s (rCTP_DEST_MAC_HI k)
    some { ifc := fld cfg 7 4, addr := ofLe ((upto 4).flatMap (fun j => leBytes 4 (rdn s (rCTP_DEST_IP k j)))),
           port := if fld hi 31 16 = 0 then ctpPort s else fld hi 31 16,
           mac := rdn s (rCTP_DEST_MAC_LO k) + fld hi 15 0 * 2 ^ 32 }
  else none

/-- The peers that a DEST field addresses, each with its number: its bit in DEST_ACKED. -/
def destsOf (s : State) (group : Bool) (dest : Nat) : List (Peer × Nat) :=
  if group then
    let ms := (upto 8).filter (fun m => joinedWith s m && decide (m ≠ ownMember s ∧ m < groupSize s))
    (if dest = 15 then ms else ms.filter (fun m => decide (m = dest))).map (fun m => (memberPeer s m, m))
  else
    (if dest = 15 then (upto 8).filter (fun k => rdB s (rCTP_DEST_CFG k) 2) else [dest].filter (fun k => decide (k < 8))).filterMap
      (fun k => (ctpDest s k).map (fun p => (p, k)))

/-- The device's data regions, for payloads and rings: the scratchpads, local data memories and DRAM. -/
def isDataAt (s : State) (a len : Nat) : Bool :=
  decodesAll s a len && (match regionOf a with | .wm | .am | .ps | .dram => true | .ldm _ => true
                                               | .lim _ | .sems | .reg | .host | .bad => false)

/-- What step 1 of R456 refuses: a reserved value, a length above 8,192, an address outside the data regions; and a
destination that is not there (log entry 61). -/
def descBad (s : State) (b : List Byte) : Bool :=
  let t := leAt 0 1 b
  let fl := leAt 1 1 b
  let len := leAt 0xC 2 b
  let src := leAt 0x10 8 b
  let dest := leAt 3 1 b
  !([3, 7, 0xB, 0xE].contains t) || decide (32 ≤ fl) || (nbit fl 0 && decide (t ≠ 0xB)) || decide (4 ≤ leAt 2 1 b) ||
  decide (16 ≤ dest) || decide (16 ≤ leAt 4 1 b) || decide (16 ≤ leAt 6 1 b) || decide (64 ≤ leAt 0xE 2 b) ||
  decide (65536 ≤ leAt 0x1C 4 b) || decide (ofLe (slice 0x28 16 b) ≠ 0) || decide (8192 < len) ||
  (decide (t = 7) && decide (len = 0)) || (decide (t = 0xE) && decide (src ≠ 0)) ||
  (decide (t ≠ 0xE ∧ len ≠ 0) && (decide (2 ^ 48 ≤ src) || !isDataAt s src len)) ||
  (decide (dest ≠ 15) && (destsOf s (nbit fl 1) dest).isEmpty)

/-- A message of `len` payload bytes fits the interface's MTU (R442). -/
def fitsMtu (s : State) (p : Peer) (len : Nat) (checked : Bool) : Bool :=
  decide (32 + len + (if checked then 12 else 0) + 8 + (if isV4 p.addr then 20 else 40) ≤ ifMtu s p.ifc)

/-- The number of the next descriptor: no descriptor in work has it. -/
def nextNum (s : State) : Nat := s.net.descs.foldl (fun m d => max m (d.num + 1)) s.net.descNum
/-- A descriptor is in work. -/
def addDesc (d : TxDesc) (s : State) : State :=
  { s with net := { s.net with descs := s.net.descs ++ [d], descNum := d.num + 1 } }

/-- A descriptor is refused (R456): REFUSED with REASON 0xF, E129, SEND_REFUSED. -/
def descRefuse (n : Nat) (s : State) : State :=
  descEnd n (sREFUSED + 0xF00) (raiseE 129 5 (bump (rCTP_CNT 15) 1 s))

/-- A remote write waits behind others to the same peer and window (R460). -/
def othersWait (s : State) (n w : Nat) (p : Peer) : Bool :=
  s.net.descs.any (fun d => decide (d.num ≠ n ∧ d.window = w) && d.waits.any (fun x => decide (x.1 = p)))

/-- One message of a descriptor to one destination: its check block is built, and it goes to its association; a message that
cannot be built or has no association counts as failed (log entry 62). -/
def descSendTo (n : Nat) (p : Peer) (bit : Nat) (m : CtpMsg) (reliable : Bool) (check : Option (Nat × Nat)) (s : State) : State :=
  let fail (s : State) : State := descStep (some n) (fun d => { d with status := d.status ||| sFAILED }) s
  let r : Option CtpMsg × State := match check with
    | none => (some m, s)
    | some (cu, id) =>
      let b := cuBuild cu id m.payload s
      (b.1.map (fun blk => { m with flags := m.flags + fCHECKED, block := blk }), b.2)
  match r.1 with
  | none => fail r.2
  | some m =>
    match useAssoc p r.2 with
    | (none, s) => fail s
    | (some k, s) =>
      if reliable then
        if m.type = 7 ∧ othersWait s n m.channel p then
          updDesc n (fun d => { d with waits := d.waits ++ [(p, bit)], msg := some m }) s
        else sendReliable k { msg := m, desc := some n, dest := bit } s
      else
        let f := takeFree s
        let q := f.1.toNat % 2 ^ 32
        let s := updDesc n (fun d => { d with seq := d.seq.or (some q) }) f.2
        descStep (some n) id (ctpSendFor (some n) p { m with seq := q } s)

/-- DTIME minus 60 µs has come: the group wake asks for the fast domains (R474). -/
def groupWakeAsk (s : State) : State :=
  if s.net.wakeAsked ∨ rd64 s rGRP_WAKE_T_LO = 0 then s
  else wakeRequest (bump (rGRP_CNT 3) 1 { s with net := { s.net with wakeAsked := true } })

/-- A group wake at DTIME T is scheduled; at once when T − 60 µs has passed (R474). -/
def loadWake (t : Nat) (s : State) : State :=
  let s := wr64 rGRP_WAKE_T_LO t { s with net := { s.net with wakeAsked := false } }
  if t < dtime s + 60000 then groupWakeAsk s else s

/-- The JOB_ID of a DECISION payload (R464). -/
def decisionJob (b : List Byte) : Nat := leAt 4 4 b

/-- DEGRADED on decisions outside a complete group (R465). -/
def degradedNow (s : State) : Bool := decide (1 < groupSize s ∧ grpState s ≠ 3)

/-- The job whose decision a descriptor carries: its slot's current job, not handed over yet (R24). -/
def decisionSlot (s : State) (slot gen id : Nat) : Option Nat :=
  let j := job s slot
  if j.gen = gen ∧ j.jobId = id ∧ (j.state = .processing ∨ j.state = .restarting) then some slot else none

/-- The decision of a job is handed to a check unit (R23); the `no read` of an abandoned job leaves it ABANDONED. -/
def handOver (k : Nat) (s : State) : State :=
  let j := job s k
  setJob k { j with state := if j.state = .abandoned then .abandoned else .sent, sentAt := s.clock.aon } s

/-- The descriptor of bytes `b` at ring index `idx` is taken (R456). -/
def takeDesc (idx a : Nat) (b : List Byte) (readable : Bool) (s : State) : State :=
  let n := nextNum s
  let t := leAt 0 1 b
  let fl := leAt 1 1 b
  let len := leAt 0xC 2 b
  let d : TxDesc := { num := n, idx := some idx, at_ := a, type := t, irq := nbit fl 3, slot := leAt 4 1 b % 16, gen := leAt 5 1 b,
                      window := leAt 0xE 2 b }
  let s := addDesc d { s with net := { s.net with taken := (idx + 1) % 2 ^ 32 } }
  if !readable || descBad s b then descRefuse n s
  else
    let r : Rd × State := if t = 0xE ∨ len = 0 then ({}, s) else devRead netAgent (leAt 0x10 8 b) len s
    let s := r.2
    if r.1.err then descRefuse n s
    else
      let dests := destsOf s (nbit fl 1) (leAt 3 1 b)
      let payload := if t = 0xE then slice 0x20 8 b
        else if t = 7 then leBytes 4 (leAt 0x18 4 b) ++ leBytes 4 0 ++ r.1.data else r.1.data
      let checked := decide (t = 3) || nbit fl 2
      if dests.any (fun p => !fitsMtu s p.1 payload.length checked) then descRefuse n s
      else if descStale s d then descEnd n sDISCARDED s
      else
        let tjob := nbit fl 4
        let flags := (if r.1.poison then fPOISON else 0) + (if t = 3 ∧ degradedNow s then fDEGRADED else 0) + (if tjob then fJOB else 0)
        let m : CtpMsg := {
          type := t, channel := (if t = 7 then leAt 0xE 2 b else 0), payload := payload, flags := flags,
          slot := (if tjob then leAt 6 1 b else 0), gen := (if tjob then leAt 7 1 b else 0),
          jobId := (if tjob then leAt 8 4 b else 0) }
        let jb := if t = 3 then decisionSlot s d.slot d.gen (decisionJob payload) else none
        let s := updDesc n (fun d => { d with left := dests.length, mask := dests.foldl (fun x p => x + 2 ^ p.2) 0, job := jb, msg := some m,
                                              status := (if r.1.poison then sPOISON else 0) }) s
        let s := match jb with | some k => handOver k s | none => s
        let s := onlyIf (decide (t = 3)) (fun s => { s with net := { s.net with lastDecided := decisionJob payload } }) s
        let s := onlyIf (decide (t = 0xE ∧ leAt 3 1 b = 15) && nbit fl 1) (loadWake (leAt 0x20 8 b)) s
        forAll dests (fun p s =>
          let id := if t = 3 ∧ !nbit fl 1 then rdF s (rCTP_DEST_CFG p.2) 31 16 else leAt 0x1C 2 b
          descSendTo n p.1 p.2 m (decide (t ≠ 0xB) || nbit fl 0) (if checked then some (leAt 2 1 b % 4, id) else none) s) s

/-- Number of descriptors in the send ring (R481). -/
def txRing (s : State) : Nat := let n := rdF s rCTP_TXQ_SIZE 3 0; 2 ^ (if 4 ≤ n ∧ n ≤ 12 then n else 6)
/-- Address of the descriptor that is taken next. -/
def txHead (s : State) : Nat := rd64 s rCTP_TXQ_BASE_LO / 64 * 64 % 2 ^ 48 + s.net.taken % txRing s * 64

/-- The engine takes the next descriptor of the ring, if it has type `t` or a type that is not listed. -/
def takeNext (t : Nat) (s : State) : State :=
  if domOk s 5 ∧ s.net.taken ≠ rdn s rCTP_TXQ_PROD then
    let a := txHead s
    let inPlace : Bool := match regionOf a with | .am | .dram => decodesAll s a 64 | _ => false
    let ty := (memByte s a).toNat
    if inPlace && decide (ty ≠ t) && [3, 7, 0xB, 0xE].contains ty then s
    else if inPlace then
      let r := devRead netAgent a 64 s
      takeDesc s.net.taken a (padTo 64 r.1.data) (!r.1.err && !r.1.poison) r.2
    else takeDesc s.net.taken a (zeros 64) false s
  else s

/-- SEND_DECISION (R465): the next descriptor is a DECISION. A device latched out of service sends none (R502). -/
def execSendDecision (s : State) : Host.Outcome State Fault Refusal :=
  .next (if deviceOos s then s else takeNext 3 s)
/-- SEND_REMOTE_WRITE (R459). -/
def execSendRemoteWrite (s : State) : Host.Outcome State Fault Refusal := .next (takeNext 7 s)
/-- SEND_MSG (R455). -/
def execSendMsg (s : State) : Host.Outcome State Fault Refusal := .next (takeNext 0xB s)
/-- SEND_WAKE_AT (R474). -/
def execSendWakeAt (s : State) : Host.Outcome State Fault Refusal := .next (takeNext 0xE s)

/-- A decision that the job software sends for slot `k`, to every destination that has DECISION set (R24, R465). -/
def sendJobDecision (k cu : Nat) (payload : List Byte) (s : State) : State :=
  let n := nextNum s
  let dests := destsOf s false 15
  let s := addDesc { num := n, idx := none, type := 3, irq := true, slot := k, gen := (job s k).gen, left := dests.length,
                     mask := dests.foldl (fun x p => x + 2 ^ p.2) 0, job := some k } s
  if !domOk s 5 || deviceOos s then descEnd n sFAILED s
  else if dests.any (fun p => !fitsMtu s p.1 payload.length true) then descRefuse n s
  else
    let s := { s with net := { s.net with lastDecided := decisionJob payload } }
    forAll dests (fun p s => descSendTo n p.1 p.2
      { type := 3, payload := payload, flags := if degradedNow s then fDEGRADED else 0 } true
      (some (cu, rdF s (rCTP_DEST_CFG p.2) 31 16)) s) s

/-! ### Credit (R460) -/

/-- A CREDIT message with the window's credits, to the member that is the window's peer, or to every joined member (R460). -/
def sendCredit (w : Nat) (s : State) : State :=
  let c := rd s (rCRW_CFG w)
  let ms := if bit c 7 then (upto 8).filter (joinedWith s)
    else [fld c 6 4].filter (fun m => decide (1 < groupSize s ∧ m < groupSize s ∧ m ≠ ownMember s))
  if domOk s 5 then
    forAll ms (fun m s => sendOwn (memberPeer s m)
      { type := 8, channel := w, payload := leBytes 2 (rdF s (rCRW_CREDITS w) 15 0) } s) s
  else s

/-- The effect of a write of CRW_GRANT: credits are added, saturating, and an open window sends CREDIT (R306, R460). -/
def crwGrantEffect (w : Nat) (v : Word) (s : State) : State × Bool :=
  let s := wrF (rCRW_CREDITS w) 15 0 (satN 16 (rdF s (rCRW_CREDITS w) 15 0 + fld v 15 0)) s
  (onlyIf (crwOpen s w) (sendCredit w) s, true)

/-- CRW_GRANT (R305, R460). -/
def execCrwGrant (ifc : Iface) (w : Fin 64) (v : Word) (s : State) : Host.Outcome State Fault Refusal :=
  .next (gatedWrite ifc (rCRW_GRANT w) v (crwGrantEffect w v) s)

/-- The remote writes that wait on a window of a peer are sent again with new sequences (R460). -/
def creditArrived (p : Peer) (w : Nat) (s : State) : State :=
  let mine := s.net.descs.filter (fun d => decide (d.window = w) && d.waits.any (fun x => decide (x.1.addr = p.addr ∧ x.1.ifc = p.ifc)))
  forAll mine (fun d s =>
    match d.msg, useAssoc p s with
    | some m, (some k, s) =>
      forAll (d.waits.filter (fun x => decide (x.1.addr = p.addr ∧ x.1.ifc = p.ifc))) (fun x s =>
        sendReliable k { msg := m, desc := some d.num, dest := x.2 } s)
        (updDesc d.num (fun d => { d with waits := d.waits.filter (fun x => decide (¬ (x.1.addr = p.addr ∧ x.1.ifc = p.ifc))) }) s)
    | _, (_, s) => s) s

/-- CREDIT_WAIT_EXPIRY (R460): CREDIT_WAIT has passed without a CREDIT for a waiting remote write. -/
def execCreditWaitExpiry (k : Fin 4096) (s : State) : Host.Outcome State Fault Refusal :=
  .next (match txDescAt s k with
    | some d => if domOk s 5 ∧ !d.waits.isEmpty then descEnd d.num (sREFUSED + 0x400) s else s
    | none => s)

/-! ### Beacons (R462, R463) -/

/-- D1 is out of service (R34). -/
def lensGone (s : State) : Bool := decide (domState s 1 = 3)

/-- The beacon payload for a peer; the echoes and the epoch are those of the member addressed. -/
def beaconPayload (s : State) (m : Option Nat) : List Byte :=
  let state := if deviceOos s then 2 else if isQuiesced s then 1 else 0
  let missing := decide (1 < groupSize s) && (upto (groupSize s)).any (fun m => decide (m ≠ ownMember s) &&
    (if grpState s = 3 then !memberBit s m else decide (grpState s ≠ 2)))
  let fl := b2n (!timeLocked s) + 2 * b2n (lensGone s) + 4 * b2n missing + 8 * b2n (decide (grpState s = 4))
  let e := match m with | some m => mate s m | none => {}
  let ep := match m with | some m => if joinedWith s m then epochWith s m else 0 | none => 0
  leBytes 1 state ++ leBytes 1 (rdF s rDEV_STATE 6 5) ++ leBytes 1 (powerCode s) ++ leBytes 1 fl ++ leBytes 4 (groupCfgId s) ++
  leBytes 8 (dtime s) ++ leBytes 4 s.net.lastDecided ++ leBytes 1 (rdF s rGRP_STATUS 15 8) ++ leBytes 1 ep ++ leBytes 2 0 ++
  leBytes 8 e.tx ++ leBytes 8 e.rx

/-- The broadcast destination of an interface with an address (R462). -/
def broadcastPeer (s : State) (k : Nat) : Option Peer :=
  if !ifExists s k ∨ ifAddr s k = 0 then none
  else if isV4 (ifAddr s k) then
    some { ifc := k, addr := 0xFFFFFFFF * 2 ^ 96 + 0xFFFF * 2 ^ 80, port := ctpPort s, mac := 0xFFFFFFFFFFFF }
  else some { ifc := k, addr := 0xFF + 2 * 2 ^ 8 + 2 ^ 120, port := ctpPort s, mac := ofLe [0x33, 0x33, 0, 0, 0, 1] }

/-- The destinations of a beacon (R462). -/
def beaconPeers (s : State) : List (Peer × Option Nat) :=
  ((upto 8).filter (fun k => rdB s (rCTP_DEST_CFG k) 1)).filterMap (fun k => (ctpDest s k).map (fun p => (p, none))) ++
  (if 1 < groupSize s then ((upto (groupSize s)).filter (fun m => decide (m ≠ ownMember s))).map (fun m => (memberPeer s m, some m))
   else []) ++
  (if deviceOos s then (upto 9).filterMap (fun k => (broadcastPeer s k).map (fun p => (p, none))) else [])

/-- BEACON_TIMER (R462): every 250 µs, once READY or OUT_OF_SERVICE is set and while D5 answers; none with a failed Keeper core
(R34). -/
def execBeaconTimer (s : State) : Host.Outcome State Fault Refusal :=
  if domOk s 5 ∧ s.fuses.keeperBad % 4 = 0 ∧ (isReady s ∨ deviceOos s) then
    let s := { s with net := { s.net with beacons := (s.net.beacons + 1) % 2 ^ 32 } }
    .next (forAll (beaconPeers s) (fun p s =>
      match useAssoc p.1 s with
      | (some _, s) => ctpTransmit p.1 { type := 1, seq := s.net.beacons, payload := beaconPayload s p.2 } s
      | (none, s) => s) s)
  else .next s

/-! ### Group states (R471 to R476) -/

/-- The group logic at READY, after a reset of D5, and after an apply of the network section (R471). -/
def groupEnter (s : State) : State :=
  let s := { s with net := { s.net with joinSent := false } }
  if groupSize s ≤ 1 then setGrpState 0 s else if ownMember s = 0 then setGrpState 3 s else setGrpState 1 s

/-- JOIN to member 0 (R472). -/
def sendJoin (s : State) : State :=
  let dig := (upto 8).flatMap (fun j => leBytes 4 (rdn s (rIMG_DIGEST j)))
  let body := dig ++ leBytes 4 (fwVersion s) ++ leBytes 4 (groupCfgId s) ++ leBytes 1 (ptpDomain s) ++ leBytes 1 (ownMember s)
  sendOwn (memberPeer s 0) { type := 12, payload := body } { s with net := { s.net with joinSent := true } }

/-- JOIN_RETRY (R472): 10 ms without JOIN_RESP, or 1 s after a refusal that is retried. -/
def execJoinRetry (s : State) : Host.Outcome State Fault Refusal :=
  let g := grpState s
  let r := rdF s rGRP_STATUS 7 4
  .next (if domOk s 5 ∧ 1 < groupSize s ∧ ownMember s ≠ 0 ∧
      (((g = 1 ∨ g = 4) ∧ s.net.joinSent) ∨ (g = 5 ∧ (r = 6 ∨ r = 7))) then sendJoin s else s)

/-- The effect of REJOIN: JOIN now from REFUSED or ALONE (R483). -/
def rejoin (s : State) : State :=
  if domOk s 5 ∧ 1 < groupSize s ∧ ownMember s ≠ 0 ∧ (grpState s = 4 ∨ grpState s = 5) then sendJoin s else s
/-- The effect of LEAVE: LEAVE is sent, and the device enters REFUSED with reason 0 (R483). -/
def leaveGroup (s : State) : State :=
  if domOk s 5 ∧ 1 < groupSize s then
    let ms := (upto 8).filter (fun m => decide (m ≠ ownMember s) && (if ownMember s = 0 then memberBit s m else decide (m = 0)))
    let s := forAll ms (fun m s => sendOwn (memberPeer s m) { type := 15, payload := [0] } s) s
    setGrpState 5 (wrF rGRP_STATUS 7 4 0 s)
  else s
/-- The effect of a write of GRP_CTRL. -/
def grpCtrlEffect (v : Word) (s : State) : State × Bool :=
  (onlyIf (bit v 1) leaveGroup (onlyIf (bit v 0) rejoin s), true)
/-- GROUP_REJOIN (R483). -/
def execGroupRejoin (ifc : Iface) (s : State) : Host.Outcome State Fault Refusal :=
  .next (gatedWrite ifc rGRP_CTRL (w32 1) (grpCtrlEffect (w32 1)) s)
/-- GROUP_LEAVE (R483). -/
def execGroupLeave (ifc : Iface) (s : State) : Host.Outcome State Fault Refusal :=
  .next (gatedWrite ifc rGRP_CTRL (w32 2) (grpCtrlEffect (w32 2)) s)

/-- Every message in flight on an association ends as a failure (R476); nothing more is sent on it. -/
def failAll (k : Nat) (s : State) : State :=
  match assoc s k with
  | none => s
  | some a =>
    let s := forAll a.backlog (fun t s => descStep t.desc (fun d => { d with status := d.status ||| sFAILED }) s)
      (updAssoc k (fun a => { a with backlog := [] }) s)
    forAll a.unacked (fun t s => failMsg k t.msg.seq false s) s

/-- PEER_LOSS (R476, R484): no beacon of member m for 1 ms; one that arrives in the cycle of the expiry counts. -/
def execPeerLoss (m : Fin 8) (s : State) : Host.Outcome State Fault Refusal :=
  if !domOk s 5 ∨ groupSize s ≤ 1 ∨ !memberBit s m ∨ s.clock.aon < (mate s m).seen + aonMs then .next s
  else
    let g := grpState s
    let s := wrB rGRP_STATUS (8 + m) false s
    let cut (s : State) : State := match findAssoc s (memberPeer s m) with | some k => failAll k s | none => s
    if g = 3 then .next (raiseE 126 5 (bump (rGRP_CNT 2) 1 (cut s)))
    else if m.val = 0 ∧ (g = 1 ∨ g = 2 ∨ g = 4) then
      .next (raiseE 127 5 (bump (rGRP_CNT 2) 1 (cut (setGrpState 4 { s with net := { s.net with joinSent := false } }))))
    else .next s

/-- GROUP_WAKE_TIMER (R474): T − 60 µs has come. -/
def execGroupWakeTimer (s : State) : Host.Outcome State Fault Refusal :=
  .next (if domOk s 5 ∧ rd64 s rGRP_WAKE_T_LO ≤ dtime s + 60000 then groupWakeAsk s else s)

/-- The clock error that the group wake tests: |θ| against the primary, or |PTP_OFFSET| at the primary (R475). -/
def wakeError (s : State) : Nat :=
  if grpState s = 3 then (sext 32 (rdn s rPTP_OFFSET)).natAbs else (mate s 0).theta.natAbs

/-- GROUP_WAKE_TEST (R475): T has come; messages wait for the slot, and one that is out by more than 20 µs skips it. -/
def execGroupWakeTest (s : State) : Host.Outcome State Fault Refusal :=
  let t := rd64 s rGRP_WAKE_T_LO
  if !domOk s 5 ∨ t = 0 ∨ dtime s < t then .next s
  else
    let s := groupWakeAsk s
    let s := wr64 rGRP_WAKE_T_LO 0 { s with net := { s.net with
      hold := true, wakeAsked := false, slotAt := t + 20000 + 4000 * ownMember s } }
    .next (if 20000 < wakeError s then
        raiseE 128 5 (bump (rGRP_CNT 4) 1 { s with net := { s.net with skip := true } })
      else s)

/-- GROUP_SLOT_OPEN (R474): T + 20 µs + m × 4 µs has come. -/
def execGroupSlotOpen (s : State) : Host.Outcome State Fault Refusal :=
  .next (if domOk s 5 ∧ s.net.hold ∧ s.net.slotAt ≤ dtime s then ctpFlush { s with net := { s.net with hold := false } } else s)

/-- A new clock reading may end a skipped slot (R475). -/
def skipCheck (s : State) : State :=
  if s.net.skip ∧ wakeError s ≤ 20000 then ctpFlush { s with net := { s.net with skip := false } } else s

end Sys2Proof.Machine
end

