-- ==== Sys2Proof/Machine/Dma.lean ====
section
/-! DEFINITION. The DMA engine (chapter 14): descriptors and their checks (R375 to R378, R389), channel states (R379, R381, R383,
R386), the movement of data with check blocks and poison (R388 to R391), and completion (R387). -/

namespace Sys2Proof.Machine

open Sys2Proof

/-! ### Descriptors -/

/-- A descriptor's fields (R375). -/
def dCtrl (d : List Byte) (i : Nat) : Bool := nbit (leAt 0 4 d) i
def dTwoD (d : List Byte) : Bool := dCtrl d 0
def dCheck (d : List Byte) : Bool := dCtrl d 4
def dChain (d : List Byte) : Bool := dCtrl d 6
def dNoGen (d : List Byte) : Bool := dCtrl d 10
def dBuild (d : List Byte) : Bool := nbit (leAt 0x2B 1 d) 2
def dWidth (d : List Byte) : Nat := if dTwoD d then leAt 4 2 d else leAt 4 3 d
def dHeight (d : List Byte) : Nat := if dTwoD d then leAt 6 2 d else 1
def dSrc (d : List Byte) : Nat := leAt 0x10 6 d
def dDst (d : List Byte) : Nat := leAt 0x18 6 d
def dLast (d : List Byte) : Bool := nbit (leAt 0x20 8 d) 0
def dLink (d : List Byte) : Nat := leAt 0x20 6 d / 64 * 64
def dLog2 (d : List Byte) : Nat := leAt 0x28 1 d % 32
def dMask (d : List Byte) : Nat := leAt 0x38 4 d
/-- Length of the destination: with CHECK, 12 bytes more or less (R376). -/
def dDstWidth (d : List Byte) : Nat :=
  if dCheck d then (if dBuild d then dWidth d + 12 else dWidth d - 12) else dWidth d
/-- The job that a descriptor names. -/
def dJob (d : List Byte) : JobRef := { slot := leAt 0x29 1 d % 16, gen := leAt 0x2A 1 d, jobId := leAt 0x2C 4 d }

/-- Cause 4 of R377: does the encoding fail? -/
def dEncBad (d : List Byte) : Bool :=
  let c := leAt 0 4 d
  let l2 := dLog2 d
  let circ := nbit c 1 || nbit c 2
  let len := dWidth d
  decide (c / 2 ^ 12 ≠ 0) ||
  (!dTwoD d && decide (leAt 7 1 d ≠ 0 ∨ leAt 8 4 d ≠ 0 ∨ leAt 0x0C 4 d ≠ 0)) ||
  (dTwoD d && decide (leAt 8 4 d < len ∨ leAt 0x0C 4 d < len)) ||
  decide (leAt 0x16 2 d ≠ 0 ∨ leAt 0x1E 2 d ≠ 0 ∨ leAt 0x26 2 d ≠ 0 ∨ leAt 0x20 1 d / 2 % 32 ≠ 0) ||
  (dChain d && decide (leAt 0x18 8 d / 2 ^ 20 ≠ 0)) ||
  decide (leAt 0x28 1 d / 32 ≠ 0 ∨ leAt 0x29 1 d / 16 ≠ 0 ∨ leAt 0x2B 1 d / 8 ≠ 0) ||
  decide (leAt 0x30 2 d / 1024 ≠ 0 ∨ leAt 0x32 2 d / 1024 ≠ 0 ∨ leAt 0x36 2 d ≠ 0 ∨ dMask d / 2 ^ 22 ≠ 0) ||
  decide ((1 ≤ l2 ∧ l2 ≤ 5) ∨ l2 = 31) || (circ && decide (l2 = 0)) || (!circ && decide (l2 ≠ 0)) ||
  (dCheck d && (dTwoD d || dChain d || circ ||
    (if dBuild d then decide (65535 < len) else decide (len < 13 ∨ 65547 < len)))) ||
  (dChain d && (dTwoD d || circ || decide (dMask d = 0)))

/-- Bytes from the first to the last of a side (R376). -/
def dExtent (d : List Byte) (dst : Bool) : Nat :=
  (dHeight d - 1) * (if dst then leAt 0x0C 4 d else leAt 8 4 d) + (if dst then dDstWidth d else dWidth d)

/-- Does a span lie in one of the channel's declared buffers (R376, R397)? -/
def inBuffers (s : State) (c a len : Nat) : Bool :=
  (upto 4).any (fun k =>
    let b := rd64 s (rCH_BUF_BASE_LO c k) % 2 ^ 48 / 4096 * 4096
    decide (b ≤ a ∧ a + len ≤ b + rdn s (rCH_BUF_SIZE c k) * 4096))

/-- The cause for which a span is no target of the DMA: 0, 6 or 7 (R376). -/
def spanCause (s : State) (c a len : Nat) : Nat :=
  let within (base size : Nat) : Bool := decide (base ≤ a ∧ a + len ≤ base + size)
  let banks : Bool := (upto (len / 2048 + 1)).all (fun k => decide (len ≤ k * 2048) ||
      (match bankEntry (a + k * 2048) with | some i => bankAvail s i | none => false)) &&
    (match bankEntry (a + len - 1) with | some i => bankAvail s i | none => false)
  match regionOf a with
  | .wm => if within wmBase 0x2000000 && banks then 0 else 6
  | .am => if within amBase 0x4000000 && banks then 0 else 6
  | .ps => if within psBase 0x800000 && banks then 0 else 6
  | .ldm n => if !lanternActive s n then 7 else if within (lanternBase n) 0x80000 then 0 else 6
  | .dram => if inBuffers s c a len then 0 else 6
  | .host => if inBuffers s c a len then 0 else 6
  | .reg | .lim _ | .sems | .bad => 7

/-- The cause for which a side of a descriptor is refused, or 0 (R376, R378). -/
def sideCause (s : State) (c : Nat) (d : List Byte) (dst : Bool) : Nat :=
  let a := if dst then dDst d else dSrc d
  let ext := dExtent d dst
  if dCtrl d (if dst then 2 else 1) then
    let n := 2 ^ dLog2 d
    let sc := spanCause s c (a / n * n) n
    if sc = 0 ∧ n < ext then 6 else sc
  else spanCause s c a ext

/-- Members of a chain: Lanterns and clusters (R375). -/
def dCores (d : List Byte) : List Nat := (upto 18).filter (fun n => nbit (dMask d) n)
def dClusters (d : List Byte) : List Nat := (upto 4).filter (fun c => nbit (dMask d) (18 + c))

/-- Does a member of a chain fail R389? -/
def chainBad (s : State) (d : List Byte) : Bool :=
  let top := dDst d % 2 ^ 20 + dWidth d
  (dCores d).any (fun n => !lanternActive s n || decide (524288 < top)) ||
  (dClusters d).any (fun c => !secAvail s c || (secCl s c).swap.isSome || decide (196608 < top))

/-- The cause of a refusal, or 0: the lowest of R377 that applies. -/
def dmaRefusal (s : State) (c : Nat) (d : List Byte) : Nat :=
  if dEncBad d then 4
  else if dWidth d = 0 ∨ dHeight d = 0 then 5
  else
    let a := sideCause s c d false
    let b := if dChain d then 0 else sideCause s c d true
    if a = 6 ∨ b = 6 then 6
    else if a = 7 ∨ b = 7 then 7
    else if dChain d && chainBad s d then 8
    else 0

/-! ### Channels -/

def dmaCh (s : State) (c : Nat) : Dma := tget {} s.dma c
def setDma (c : Nat) (x : Dma) (s : State) : State := { s with dma := tput {} s.dma c x }
/-- CH_STATUS.STATE (R379). -/
def chState (s : State) (c : Nat) : Nat := rdF s (rCH_STATUS c) 2 0
def setChState (c v : Nat) (s : State) : State := wrF (rCH_STATUS c) 2 0 v s
def chDb (s : State) (c : Nat) : Bool := rdB s (rCH_STATUS c) 3
def setChDb (c : Nat) (b : Bool) (s : State) : State := wrB (rCH_STATUS c) 3 b s
def chCur (s : State) (c : Nat) : Nat := rd64 s (rCH_CUR_LO c) % 2 ^ 48
def setChCur (c a : Nat) (s : State) : State := wr64 (rCH_CUR_LO c) (a % 2 ^ 48) s

/-- The channel's agent: port 11, the class of CH_CFG, decode errors under number 6 (R281, R392, R490). -/
def dmaAgent (s : State) (c : Nat) : Agent := { port := 11, cls := rdF s (rCH_CFG c) 8 7, who := some 6 }

/-- The interrupt of a channel (R398). -/
def chIrq (c : Nat) (s : State) : State :=
  let s := onlyIf (rdB s (rCH_CFG c) 5) (assertSrc (rdF s (rCH_CFG c) 4 0) (32 + c)) s
  onlyIf (rdB s (rCH_CFG c) 6) (msixAssert (32 + c)) s

/-- The channel halts (R385): cause, direction, failing address, interrupt, and E100 or E101. CH_CUR names the first
descriptor of a burst. -/
def chHalt (c cause dir : Nat) (addr : Nat) (job : Option JobRef) (s : State) : State :=
  let x := dmaCh s c
  let s := match x.burst.head? with | some b => setChCur c b.1 s | none => s
  let s := dropReads (chReq c) (setDma c { x with phase := .none, waiting := false, got := none, backOk := false } s)
  let s := wrF (rCH_STATUS c) 9 8 dir (wrF (rCH_STATUS c) 7 4 cause (setChState c 6 s))
  let s := wr64 (rCH_ERR_ADDR_LO c) (addr % 2 ^ 48) s
  let s := bump (rCH_CNT c (if cause ≤ 3 then 4 else 5)) 1 (chIrq c s)
  raiseJ (if cause ≤ 3 then 100 else 101) 0 job addr s

/-- The job that a halt names: none with NO_GEN (R385). -/
def haltJob (d : List Byte) : Option JobRef := if dNoGen d then none else some (dJob d)

/-- AT_END: with DB_PEND set, the channel clears it and re-reads the link at once (R383). -/
def chAtEnd (c : Nat) (s : State) : State :=
  let s := setDma c { moved := (dmaCh s c).moved } s
  if chDb s c then setDma c { moved := (dmaCh s c).moved, phase := .reread } (setChState c 1 (setChDb c false s))
  else setChState c 5 s

/-- The channel follows the link it fetched (R381). -/
def followLink (c : Nat) (d : List Byte) (s : State) : State :=
  if dLast d then chAtEnd c s
  else setDma c { moved := (dmaCh s c).moved } (setChState c 1 (setChCur c (dLink d) s))

/-- May a descriptor lie at an address (R375)? -/
def descAt (s : State) (a : Nat) : Bool :=
  decide (a % 64 = 0) && (match regionOf a with
    | .wm | .am | .dram | .host => true
    | .ldm n => lanternActive s n
    | .ps | .reg | .lim _ | .sems | .bad => false)

/-- STATUS written into a descriptor (R387): whether it was accepted. -/
def putStatus (c a v : Nat) (s : State) : Bool × State :=
  if regionOf a = .host then (true, hostWrite (a + 0x3C) (leBytes 4 v) s)
  else devWrite (dmaAgent s c) (a + 0x3C) (leBytes 4 v) false s

/-- STATUS words of a burst that ends without completion, for its descriptors with STATUS_WB; the address of the first that is
refused. -/
def putStatuses (c v : Nat) : List (Nat × List Byte) → State → Option Nat × State
  | [], s => (none, s)
  | (a, d) :: t, s =>
    if dCtrl d 11 then
      let r := putStatus c a v s
      if r.1 then putStatuses c v t r.2 else (some (a + 0x3C), r.2)
    else putStatuses c v t s

/-- The burst ends without completion: by a generation mismatch (R381) or SKIP (R386). `bits`: its STATUS; `k`: its counter. -/
def endBurst (c bits k : Nat) (irq : Bool) (s : State) : State :=
  let x := dmaCh s c
  let r := putStatuses c bits x.burst s
  match r.1, x.burst.getLast? with
  | none, some (a, d) =>
    let s := bump (rCH_CNT c k) x.burst.length r.2
    let s := forAll x.burst (fun b s => onlyIf (irq && dCtrl b.2 9) (chIrq c) s) s
    followLink c d (setChCur c a (dropReads (chReq c) s))
  | some a, some (_, d) => chHalt c 3 2 a (haltJob d) r.2
  | _, none => r.2

/-- Does the generation of the burst still hold (R381)? -/
def burstGenOk (s : State) (x : Dma) : Bool :=
  match x.burst.head? with
  | some (_, d) => dNoGen d || genOk s (dJob d).slot (dJob d).gen
  | none => true

/-- A burst whose generation no longer holds ends at once (R381): STATUS DONE and DISCARDED. -/
def discardBurst (c : Nat) (s : State) : State := endBurst c 0x11 3 false s

/-! ### Spans and data -/

/-- The spans that a side touches in order: rows, cut at the wrap of a circular side (R375, R378). -/
def sideSpans (d : List Byte) (dst : Bool) : List (Nat × Nat) :=
  let a := if dst then dDst d else dSrc d
  let st := if dst then leAt 0x0C 4 d else leAt 8 4 d
  let w := if dst then dDstWidth d else dWidth d
  (upto (dHeight d)).flatMap (fun r =>
    if dCtrl d (if dst then 2 else 1) then
      let n := 2 ^ dLog2 d
      let b := a / n * n
      let o := (a - b + r * st) % n
      if o + w ≤ n then [(b + o, w)] else [(b + o, n - o), (b, w - (n - o))]
    else [(a + r * st, w)])

/-- The spans of a burst: merged descriptors join (R388). -/
def burstSpans (x : Dma) (dst : Bool) : List (Nat × Nat) :=
  match x.burst with
  | [(_, d)] => sideSpans d dst
  | (_, d) :: _ => [(if dst then dDst d else dSrc d, (x.burst.map (fun b => dWidth b.2)).sum)]
  | [] => []

/-- Does the poison unit of a byte read as poisoned (R391)? In DRAM the unit is 64 bytes. -/
def bytePoison (s : State) (a : Nat) : Bool :=
  if regionOf a = .dram then (upto 8).any (fun j => rdB s rDDR_CFG 16 && tget false s.poison (a / 64 * 64 + 8 * j))
  else poisonedAt s a

/-- A span is read: bytes with their poison, or the failing address. -/
def readSpan (c a n : Nat) (s : State) : Option (List (Byte × Bool)) × State :=
  let fl := (upto n).map (fun k => bytePoison s (a + k))
  let r := devRead (dmaAgent s c) a n s
  if r.1.err then (none, r.2) else (some (r.1.data.zip fl), r.2)

/-- Spans are read in order; the address of one that fails. -/
def readSpans (c : Nat) : List (Nat × Nat) → State → (List (Byte × Bool)) × Option Nat × State
  | [], s => ([], none, s)
  | (a, n) :: t, s =>
    match readSpan c a n s with
    | (none, s) => ([], some a, s)
    | (some b, s) => let r := readSpans c t s; (b ++ r.1, r.2.1, r.2.2)

/-- Size of the pieces in which a destination keeps poison marks. -/
def markSize (s : State) (a : Nat) : Nat := match poisonUnit s a, regionOf a with | _, .dram => 0 | some (_, n), _ => n | none, _ => 0

/-- A span of a scratchpad is written piece by piece; the address of a piece that is refused. -/
def writePieces (g : Agent) (u : Nat) : Nat → Nat → List (Byte × Bool) → State → Option Nat × State
  | 0, _, _, s => (none, s)
  | k + 1, a, bs, s =>
    if bs.isEmpty then (none, s)
    else
      let n := u - a % u
      let p := bs.take n
      let r := devWrite g a (p.map (·.1)) (p.any (·.2)) s
      if r.1 then writePieces g u k (a + n) (bs.drop n) r.2 else (some a, r.2)

/-- A span is written (R391): poison marks where the destination can hold them, else E102; the failing address. -/
def writeSpan (c a : Nat) (bs : List (Byte × Bool)) (s : State) : Option Nat × State :=
  let g := dmaAgent s c
  let raw := bs.map (·.1)
  let unmarked (s : State) : State :=
    onlyIf (bs.any (·.2)) (limited (10200 + c) aonMs (raiseE 102 0)) s
  if regionOf a = .host then (none, unmarked (hostWrite a raw s))
  else if markSize s a = 0 then
    let r := devWrite g a raw false s
    if r.1 then (none, unmarked r.2) else (some (if partBad s a raw.length a then a else a + raw.length - 1), r.2)
  else writePieces g (markSize s a) (bs.length + 1) a bs s

/-- Spans are written in order with the data that belongs to them. -/
def writeSpans (c : Nat) : List (Nat × Nat) → List (Byte × Bool) → State → Option Nat × State
  | [], _, s => (none, s)
  | (a, n) :: t, bs, s =>
    let r := writeSpan c a (bs.take n) s
    match r.1 with
    | some x => (some x, r.2)
    | none => writeSpans c t (bs.drop n) r.2

/-- Bytes whose source another byte of the same transfer may have overwritten before it is read: reads may run ahead of writes
or not (R381), so these bytes are free values (log entry 1). A plain transfer that moves downwards has none. -/
def raceFree (x : Dma) (bs : List (Byte × Bool)) (s : State) : List (Byte × Bool) × State :=
  let src := burstSpans x false
  let dst := burstSpans x true
  let hits (a : Nat) : Bool := dst.any (fun p => decide (p.1 ≤ a ∧ a < p.1 + p.2))
  let down : Bool := match src, dst with | [(a, _)], [(b, _)] => decide (b ≤ a) | _, _ => false
  let clash := src.any (fun p => dst.any (fun q => decide (p.1 < q.1 + q.2 ∧ q.1 < p.1 + p.2)))
  if down || !clash then (bs, s)
  else
    let at_ := src.flatMap (fun p => (upto p.2).map (fun k => p.1 + k))
    (((upto bs.length).zip (at_.zip bs)).map (fun y =>
      if hits y.2.1 then (BitVec.ofNat 8 (Config.freeWord (s.free + y.1)).toNat, y.2.2.2) else y.2.2),
      { s with free := s.free + bs.length })

/-- The data passes through a check unit (R390): what the destination receives, and whether the check failed; none where a
build has no entry (R468). -/
def checkData (d : List Byte) (bs : List (Byte × Bool)) (s : State) : Option (List (Byte × Bool)) × Bool × State :=
  let u := leAt 0x2B 1 d % 4
  let id := leAt 0x34 2 d
  let raw := bs.map (·.1)
  if dBuild d then
    let r := cuBuild u id raw s
    match r.1 with
    | some blk => (some (bs ++ blk.map (fun b => (b, false))), false, r.2)
    | none => (none, true, r.2)
  else
    let n := raw.length - 12
    let r := cuCheck u (some id) (raw.take n) (raw.drop n) s
    (some (bs.take n), decide (r.1 ≠ .good), r.2)

/-- The copies of a chain, member by member: clusters with their banks as at the fetch, then Lanterns (R389). The address of a
refused copy is that of the bank window (R200), or in the Lantern's memory. -/
def chainPut (c o : Nat) (bs : List (Byte × Bool)) (cl : List (Nat × Nat)) (cores : List Nat) (s : State) : Option Nat × State :=
  let r := cl.foldl (fun (r : Option Nat × State) k =>
    match r.1 with
    | some _ => r
    | none =>
      let w := bankChainWrite k.1 k.2 o bs r.2
      (if w.1 then none else some (rSC_BANK k.1 0 + o), w.2)) (none, s)
  cores.foldl (fun (r : Option Nat × State) n =>
    match r.1 with
    | some _ => r
    | none => writeSpan c (lanternBase n + o) bs r.2) r

/-- The descriptors of a burst, by their place, whose data carried poison: merged ones have their own share (R388, R391). -/
def burstBads (x : Dma) (bs : List (Byte × Bool)) : List Nat :=
  if x.burst.length ≤ 1 then (if bs.any (·.2) then [0] else [])
  else
    let ws := x.burst.map (fun b => dWidth b.2)
    (upto ws.length).filter (fun i => ((bs.drop (ws.take i).sum).take (ws.getD i 0)).any (·.2))

/-- KIB_MOVED and the poison after data has moved. -/
def countMoved (c : Nat) (bs : List (Byte × Bool)) (s : State) : State :=
  let x := dmaCh s c
  bumpW (rCH_CNT c 1) ((x.moved + bs.length) / 1024)
    (setDma c { x with moved := (x.moved + bs.length) % 1024, bads := burstBads x bs } s)

/-! ### Completion (R387) -/

/-- STATUS bits of the descriptor at place `i` of a burst that completes. -/
def doneBits (x : Dma) (i : Nat) : Nat := 1 + 2 * b2n (x.bads.contains i) + 4 * b2n x.checkFail

/-- Steps 3 to 5 of R387 for the descriptors of a burst from place `i` on, one after another (R388); the address of a status
write that is refused. -/
def completeEach (c : Nat) (x : Dma) : Nat → List (Nat × List Byte) → State → Option Nat × State
  | _, [], s => (none, s)
  | i, (a, d) :: t, s =>
    let w := if dCtrl d 11 then putStatus c a (doneBits x i) s else (true, s)
    if !w.1 then (some (a + 0x3C), w.2)
    else
      let s := onlyIf (x.bads.contains i) (bump (rCH_CNT c 6) 1) w.2
      let s := onlyIf (dCtrl d 8) (semRelease (leAt 0x32 2 d % 1024) 1) s
      completeEach c x (i + 1) t (onlyIf (dCtrl d 9) (chIrq c) (bumpW (rCH_CNT c 0) 1 s))

/-- The burst completes, descriptor by descriptor, and the link of its last is followed. -/
def finishBurst (c : Nat) (s : State) : State :=
  let x := dmaCh s c
  if !burstGenOk s x then discardBurst c s
  else
    let r := completeEach c x 0 x.burst s
    match r.1, x.burst.getLast? with
    | some a, _ => chHalt c 3 2 a ((x.burst.head?).bind (fun b => haltJob b.2)) r.2
    | none, some (a, d) => followLink c d (setChCur c a r.2)
    | none, none => r.2

/-- Step 3 of R387: the status write goes out, if any descriptor asks for it. -/
def startStatus (c : Nat) (s : State) : State :=
  let x := dmaCh s c
  if !burstGenOk s x then discardBurst c s
  else if x.burst.any (fun b => dCtrl b.2 11) then setDma c { x with phase := .statusWb } s
  else finishBurst c s

/-- The last byte that a burst writes. -/
def lastByte (x : Dma) : Nat := match (burstSpans x true).getLast? with | some (a, n) => a + n - 1 | none => 0

/-- Step 2 of R387: the read-back goes out where it is asked for, and always for a destination in the host window. -/
def startReadback (c : Nat) (s : State) : State :=
  let x := dmaCh s c
  match x.burst.head? with
  | none => s
  | some (_, d) =>
    let a := lastByte x
    if dChain d then startStatus c s
    else if regionOf a = .host then
      let r := hostRead (chReq c) [(a / 64 * 64, 64)] s
      if r.1 then setDma c { x with phase := .readback, waiting := true } r.2
      else chHalt c 2 1 (a / 64 * 64) (haltJob d) s
    else if dCtrl d 3 then setDma c { x with phase := .readback, backOk := true } s
    else startStatus c s

/-- The burst's data moves (R381, R389 to R391), `lim` bytes of it at most; the failing address and its direction. -/
def moveData (c : Nat) (err : MemErr) (lim : Option Nat) (s : State) : Option (Nat × Nat) × State :=
  let x := dmaCh s c
  match x.burst.head? with
  | none => (none, s)
  | some (_, d) =>
    let src := burstSpans x false
    let s := memErrEffect 11 (dSrc d) err s
    let rdp : List (Byte × Bool) × Option Nat × State :=
      match x.got with | some b => (b, none, s) | none => readSpans c src s
    match rdp.2.1 with
    | some a => (some (a, 1), rdp.2.2)
    | none =>
      let fr := if dChain d || x.got.isSome then (rdp.1, rdp.2.2) else raceFree x rdp.1 rdp.2.2
      let ck := if dCheck d then checkData d fr.1 fr.2 else (some fr.1, false, fr.2)
      match ck.1 with
      | none =>
        -- a build without an entry: the buffer is not written
        let s := bump (rCH_CNT c 7) 1 (raiseE 104 0 ck.2.2)
        (none, setDma c { dmaCh s c with checkFail := true } s)
      | some bs =>
        let bs := match lim with | some n => bs.take n | none => bs
        let s := onlyIf (ck.2.1 && lim.isNone) (fun s =>
          let s := bump (rCH_CNT c 7) 1 (raiseE 104 0 s)
          setDma c { dmaCh s c with checkFail := true } s) ck.2.2
        let w := if dChain d then chainPut c (dDst d % 2 ^ 20) bs x.banks (dCores d) s
          else writeSpans c (burstSpans x true) bs s
        let s := countMoved c bs w.2
        match w.1 with
        | some a => (some (a, 2), s)
        | none => (none, s)

/-! ### Starting a descriptor -/

/-- XFER begins: a source in the host window is requested (R428, R429). -/
def startXfer (c : Nat) (s : State) : State :=
  let x := dmaCh s c
  if !burstGenOk s x then discardBurst c s
  else
    let s := setChState c 3 s
    let src := burstSpans x false
    match src.head?, x.burst.head? with
    | some (a, _), some (_, d) =>
      if regionOf a = .host then
        let r := hostRead (chReq c) src s
        if r.1 then setDma c { x with waiting := true } r.2 else chHalt c 2 1 a (haltJob d) s
      else s
    | _, _ => s

/-- May a descriptor begin a merged burst or join one (R388)? -/
def mergeable (d : List Byte) : Bool :=
  !dTwoD d && decide (dWidth d < 256) && dCtrl d 5 && !dCtrl d 1 && !dCtrl d 2 && !dCheck d && !dChain d

/-- Does descriptor `d` join a burst of `total` bytes whose last is `p` (R388)? -/
def joins (s : State) (c total : Nat) (p d : List Byte) : Bool :=
  mergeable d && !dCtrl d 7 && decide (dmaRefusal s c d = 0) &&
  decide ((dJob d).slot = (dJob p).slot ∧ (dJob d).gen = (dJob p).gen ∧ dNoGen d = dNoGen p ∧ dCtrl d 3 = dCtrl p 3 ∧
    dSrc d = dSrc p + dWidth p ∧ dDst d = dDst p + dWidth p) && decide (total + dWidth d ≤ 4096)

/-- Descriptors that follow and join the burst, at most `k` of them and 4 KiB in all (R388); and where the next to be looked at
lies, if in the host window. -/
def mergeMore (c : Nat) (s : State) : Nat → Nat → List Byte → List (Nat × List Byte) × Option Nat
  | 0, _, _ => ([], none)
  | k + 1, total, p =>
    let a := dLink p
    if dLast p ∨ !descAt s a ∨ 4096 ≤ total then ([], none)
    else if regionOf a = .host then ([], some a)
    else
      let r := (devRead (dmaAgent s c) a 64 s).1
      if r.err ∨ !joins s c total p r.data then ([], none)
      else
        let m := mergeMore c s k (total + dWidth r.data) r.data
        ((a, r.data) :: m.1, m.2)

/-- The burst is whole: it runs or waits (R381). -/
def beginBurst (c : Nat) (s : State) : State :=
  let x := dmaCh s c
  let s := bump (rCH_CNT c 8) (x.burst.length - 1) s
  match x.burst.head? with
  | some (_, d) => if dCtrl d 7 then setChState c 2 s else startXfer c s
  | none => s

/-- The burst takes the descriptors that follow it, up to 16 in all; one in the host window is asked for (R388). -/
def growBurst (c : Nat) (s : State) : State :=
  let x := dmaCh s c
  let p := ((x.burst.getLast?).map Prod.snd).getD []
  let m := mergeMore c s (16 - x.burst.length) ((x.burst.map (fun b => dWidth b.2)).sum) p
  let s := setDma c { x with burst := x.burst ++ m.1 } s
  match m.2 with
  | none => beginBurst c s
  | some a =>
    let r := hostRead (chReq c) [(a, 64)] s
    if r.1 then setDma c { dmaCh s c with phase := .merge, waiting := true } r.2 else beginBurst c s

/-- A descriptor that was asked for in the host window has come: it joins the burst or not (R388). -/
def mergeHost (c : Nat) (raw : List Byte) (s : State) : State :=
  let x := dmaCh s c
  let s := setDma c { x with phase := .none } s
  match x.burst.getLast? with
  | some (_, p) =>
    if joins s c ((x.burst.map (fun b => dWidth b.2)).sum) p raw then
      growBurst c (setDma c { x with phase := .none, burst := x.burst ++ [(dLink p, raw)] } s)
    else beginBurst c s
  | none => s

/-- A descriptor has been read: it is checked, merged, and runs or waits (R377, R381, R388, R389). -/
def gotDesc (c a : Nat) (d : List Byte) (s : State) : State :=
  let x := dmaCh s c
  let banks := if dChain d then (dClusters d).map (fun k => (k, 1 - secActive s k)) else []
  let x : Dma := { moved := x.moved, burst := [(a, d)], banks := banks }
  let why := dmaRefusal s c d
  if why ≠ 0 then chHalt c why 0 a (haltJob d) (setDma c x s)
  else
    let s := setDma c x s
    if mergeable d then growBurst c s else beginBurst c s

/-- A link word has been read (R383): LAST 1 returns to AT_END, LAST 0 fetches. -/
def gotLink (c : Nat) (w : List Byte) (s : State) : State :=
  let v := leAt 0 8 w
  if nbit v 0 then chAtEnd c s
  else setDma c { moved := (dmaCh s c).moved } (setChState c 1 (setChCur c (v % 2 ^ 48 / 64 * 64) s))

/-- A descriptor or link that cannot be read (R385): cause 1; what was fetched before is no longer at hand. -/
def descError (c a : Nat) (s : State) : State := chHalt c 1 0 a none (setDma c { moved := (dmaCh s c).moved } s)

/-- `n` bytes of a descriptor at CH_CUR are read: at once, or by a request to the host window. A poisoned read is no bus error:
the bytes are used as read (R385). -/
def fetchAt (c a n : Nat) (k : List Byte → State → State) (s : State) : State :=
  if !descAt s (a / 64 * 64) ∨ (n = 64 ∧ a % 64 ≠ 0) then descError c a s
  else if regionOf a = .host then
    let r := hostRead (chReq c) [(a, n)] s
    if r.1 then setDma c { dmaCh s c with waiting := true } r.2 else descError c a s
  else
    let r := devRead (dmaAgent s c) a n s
    if r.1.err then descError c a r.2 else k r.1.data r.2

/-! ### Answers from the host window -/

/-- A read that the channel made of the host window has come back (R429). -/
def dmaHostData (c : Nat) (bs : List (Byte × Bool)) (s : State) : State :=
  let x := dmaCh s c
  if !x.waiting then s
  else
    let raw := bs.map (·.1)
    let s := setDma c { x with waiting := false } s
    match chState s c, x.phase with
    | 1, .reread => gotLink c raw s
    | 1, .merge => mergeHost c raw s
    | 1, _ => gotDesc c (chCur s c) raw s
    | 3, _ => setDma c { x with waiting := false, got := some bs } s
    | _, .readback => setDma c { x with waiting := false, backOk := true } s
    | _, _ => s

/-- A read of the host window has failed (R429): a descriptor or link is cause 1, data or a read-back cause 2; a descriptor that
was to join a burst does not join it. -/
def dmaHostError (c off : Nat) (s : State) : State :=
  let x := dmaCh s c
  if !x.waiting then s
  else if chState s c = 1 ∧ x.phase = .merge then beginBurst c (setDma c { x with waiting := false, phase := .none } s)
  else if chState s c = 1 then descError c (chCur s c) s
  else chHalt c 2 1 (hostBase + off) ((x.burst.head?).bind (fun b => haltJob b.2)) s

/-! ### Commands -/

/-- The effect of a write of CH_HEAD: the pair starts the chain of an IDLE channel (R381). -/
def chHeadEffect (i : Iface) (c : Nat) (lo v : Word) (s : State) : State × Bool :=
  let idle := decide (chState s c = 0)
  let r := pairEffect i (rCH_HEAD_HI c) lo v .none s
  if idle then
    (setDma c { moved := (dmaCh s c).moved } (setChState c 1 (setChCur c (rd64 r.1 (rCH_HEAD_LO c) % 2 ^ 48) r.1)), r.2)
  else r

/-- CHAIN_START (R381): a write of CH_HEAD_HI after CH_HEAD_LO. -/
def execChainStart (ifc : Iface) (c : Fin 32) (hi : Word) (s : State) : Host.Outcome State Fault Refusal :=
  .next (gatedWrite ifc (rCH_HEAD_HI c) hi (chHeadEffect ifc c (latch s ifc (rCH_HEAD_LO c)) hi) s)

/-- DESC_FETCH (R381): the 64 bytes are read in one access; DB_PEND clears in the cycle of issue. -/
def execDescFetch (c : Fin 32) (s : State) : Host.Outcome State Fault Refusal :=
  let x := dmaCh s c
  if chState s c ≠ 1 ∨ x.phase = .reread ∨ x.waiting then .next s
  else .next (fetchAt c (chCur s c) 64 (gotDesc c (chCur s c)) (setChDb c false s))

/-- LINK_REREAD (R383). -/
def execLinkReread (c : Fin 32) (s : State) : Host.Outcome State Fault Refusal :=
  let x := dmaCh s c
  if chState s c ≠ 1 ∨ x.phase ≠ .reread ∨ x.waiting then .next s
  else .next (fetchAt c (chCur s c + 0x20) 8 (gotLink c) s)

/-- DMA_WAIT_TAKE (R381): WAIT_SEM gives a count, or the channel goes on waiting. -/
def execDmaWaitTake (c : Fin 32) (s : State) : Host.Outcome State Fault Refusal :=
  match chState s c, (dmaCh s c).burst.head? with
  | 2, some (_, d) =>
    let n := leAt 0x30 2 d % 1024
    if (sem s n).count = 0 then .next s else .next (startXfer c (semTake n s))
  | _, _ => .next s

/-- A burst whose generation advanced while it moved data: the `n` write bursts of up to 4 KiB that went out before that stay
written, never all of them, and the burst ends (R381). -/
def discardAfter (c n : Nat) (err : MemErr) (s : State) : State :=
  let total := ((burstSpans (dmaCh s c) true).map Prod.snd).sum
  let k := min n ((total - 1) / 4096) * 4096
  discardBurst c (if k = 0 then s else (moveData c err (some k) s).2)

/-- DMA_LAST_WRITE_ACCEPTED (R387): the data has moved, and completion begins. -/
def execDmaLastWriteAccepted (c : Fin 32) (w : LastWrite) (s : State) : Host.Outcome State Fault Refusal :=
  let x := dmaCh s c
  if chState s c ≠ 3 ∨ x.waiting then .next s
  else if !burstGenOk s x then .next (discardAfter c w.early.toNat w.err s)
  else
    let r := moveData c w.err none s
    match r.1 with
    | some (a, dir) => .next (chHalt c (dir + 1) dir a ((x.burst.head?).bind (fun b => haltJob b.2)) r.2)
    | none => .next (startReadback c (setChState c 4 r.2))

/-- DMA_READBACK_RETURN (R387). -/
def execDmaReadbackReturn (c : Fin 32) (s : State) : Host.Outcome State Fault Refusal :=
  let x := dmaCh s c
  if chState s c ≠ 4 ∨ x.phase ≠ .readback ∨ !x.backOk then .next s
  else if regionOf (lastByte x) = .host then .next (startStatus c s)
  else
    let a := lastByte x / 64 * 64
    let r := devRead (dmaAgent s c) a 64 s
    if r.1.err then .next (chHalt c 2 1 a ((x.burst.head?).bind (fun b => haltJob b.2)) r.2)
    else .next (startStatus c r.2)

/-- DMA_STATUS_WB_ACCEPTED (R387). -/
def execDmaStatusWbAccepted (c : Fin 32) (s : State) : Host.Outcome State Fault Refusal :=
  let x := dmaCh s c
  if chState s c ≠ 4 ∨ x.phase ≠ .statusWb then .next s
  else .next (finishBurst c s)

/-- A doorbell (R383): DB_PEND; in AT_END, the re-read of the tail's link. -/
def chDoorbellEffect (c : Nat) (v : Word) (s : State) : State × Bool :=
  if bit v 0 then
    let s := bumpW (rCH_CNT c 9) 1 (setChDb c true s)
    (if chState s c = 5 then chAtEnd c s else s, true)
  else (s, true)

/-- CH_DOORBELL (R383). -/
def execChDoorbell (ifc : Iface) (c : Fin 32) (s : State) : Host.Outcome State Fault Refusal :=
  .next (gatedWrite ifc (rCH_DOORBELL c) 1 (chDoorbellEffect c 1) s)

/-- DMA_BUS_ERROR (R385): a target answers with an error at byte `k` of the transfer; the bytes before it have moved. -/
def execDmaBusError (c : Fin 32) (write : Bool) (k : BitVec 24) (s : State) : Host.Outcome State Fault Refusal :=
  let x := dmaCh s c
  if chState s c ≠ 3 ∨ x.waiting then .next s
  else if !burstGenOk s x then .next (discardAfter c (k.toNat / 4096) .none s)
  else
    let r := moveData c .none (some k.toNat) s
    let sp := burstSpans x write
    let a := (sp.foldl (fun (r : Nat × Option Nat) p =>
      match r.2 with
      | some _ => r
      | none => if k.toNat < r.1 + p.2 then (r.1, some (p.1 + (k.toNat - r.1))) else (r.1 + p.2, none)) (0, none)).2.getD
        ((sp.head?.map (·.1)).getD 0)
    let dir := if write then 2 else 1
    .next (chHalt c (dir + 1) dir a ((x.burst.head?).bind (fun b => haltJob b.2)) r.2)

/-- ABORT (R386): reads outstanding are dropped; the channel waits for its issued writes. -/
def chAbort (c : Nat) (s : State) : State :=
  if chState s c = 0 then s
  else dropReads (chReq c) (setDma c { moved := (dmaCh s c).moved } (setChState c 7 s))

/-- The effect of a write of CH_CMD (R386, R400): ABORT before SKIP before RESUME, and only the first applies. -/
def chCmdEffect (c : Nat) (v : Word) (s : State) : State × Bool :=
  let halted := decide (chState s c = 6)
  if bit v 2 then (chAbort c s, true)
  else if bit v 1 then
    (if !halted then s
     else if rdF s (rCH_STATUS c) 7 4 = 1 ∨ (dmaCh s c).burst.isEmpty then chAbort c s
     else endBurst c 9 2 true s, true)
  else if bit v 0 then
    (if halted then setDma c { moved := (dmaCh s c).moved } (setChState c 1 s) else s, true)
  else (s, true)

/-- DMA_RESUME (R386). -/
def execDmaResume (ifc : Iface) (c : Fin 32) (s : State) : Host.Outcome State Fault Refusal :=
  .next (gatedWrite ifc (rCH_CMD c) 1 (chCmdEffect c 1) s)

/-- DMA_SKIP (R386). -/
def execDmaSkip (ifc : Iface) (c : Fin 32) (s : State) : Host.Outcome State Fault Refusal :=
  .next (gatedWrite ifc (rCH_CMD c) 2 (chCmdEffect c 2) s)

/-- DMA_ABORT (R386). -/
def execDmaAbort (ifc : Iface) (c : Fin 32) (s : State) : Host.Outcome State Fault Refusal :=
  .next (gatedWrite ifc (rCH_CMD c) 4 (chCmdEffect c 4) s)

/-- ABORT_DRAIN_COMPLETE (R379). -/
def execAbortDrainComplete (c : Fin 32) (s : State) : Host.Outcome State Fault Refusal :=
  if chState s c = 7 then .next (setChState c 0 s) else .next s

end Sys2Proof.Machine
end

