-- ==== Sys2Proof/Machine/PcieLink.lean ====
section
/-! DEFINITION. The PCIe link, the configuration space and the completions of outbound reads (R422, R424, R429, R435, R436). -/

namespace Sys2Proof.Machine

open Sys2Proof

/-! ### Outbound reads (R429) -/

/-- What a host window read of Lantern `n` brings: to the long operation that holds the tag. -/
def lanHostData (n tag : Nat) (v : List Byte × Bool) (s : State) : State :=
  setLan n { lan s n with longs := (lan s n).longs.map (fun l =>
    if l.tag = some tag ∧ l.host.isNone then { l with host := some v } else l) } s

/-- An outbound read leaves the list of those that await a completion. -/
def readGone (r : PcieRead) (s : State) : State :=
  { s with pcie := { s.pcie with reads := s.pcie.reads.filter (fun q => decide (q.tag ≠ r.tag)) } }

/-- All the data of a read has come. -/
def readDone (r : PcieRead) (bs : List (Byte × Bool)) (s : State) : State :=
  match r.req with
  | .dma c => dmaHostData c bs (readGone r s)
  | .lantern n => lanHostData n r.tag (bs.map (·.1), !bs.any (·.2)) (readGone r s)
  | .gone => readGone r s

/-- A read fails: a channel halts, a Lantern access gets no data (R429). -/
def readFail (r : PcieRead) (s : State) : State :=
  match r.req with
  | .dma c => dmaHostError c r.off (readGone r s)
  | .lantern n => lanHostData n r.tag ([], false) (readGone r s)
  | .gone => readGone r s

/-- The oldest read that waits goes out, if there is room (R422). -/
def nextRead (s : State) : State :=
  match s.pcie.wait with
  | [] => s
  | r :: t =>
    if s.pcie.reads.length < 256 then
      let s := { s with pcie := { s.pcie with wait := t } }
      if hostUp s then sendRead r s else readFail r s
    else s

/-- PCIE_COMPLETION (R429): data, data with EP set, or an Unsupported Request or Completer Abort for the read that holds the
tag; the next request of the same device read goes out under the same tag. -/
def execPcieCompletion (tag : Fin 1024) (ok : Bool) (data : List Byte) (ep : Bool) (s : State) : Host.Outcome State Fault Refusal :=
  match s.pcie.reads.find? (fun r => decide (r.tag = tag.val)) with
  | none => .next s
  | some r =>
    if !ok then .next (nextRead (readFail r s))
    else
      let got := r.got ++ (padTo r.len data).map (fun b => (b, ep))
      match r.rest with
      | [] => .next (nextRead (readDone r got s))
      | p :: t =>
        if hostUp s then .next (sendRead { r with off := p.1, len := p.2, rest := t, got := got } (readGone r s))
        else .next (nextRead (readFail r s))

/-- PCIE_COMPLETION_TIMEOUT (R429): CPL_TIMEOUTS, E113. -/
def execPcieCompletionTimeout (tag : Fin 1024) (s : State) : Host.Outcome State Fault Refusal :=
  match s.pcie.reads.find? (fun r => decide (r.tag = tag.val)) with
  | none => .next s
  | some r => .next (nextRead (raiseE 113 6 (bump (rPCIE_CNT 1) 1 (readFail r s))))

/-! ### Link (R422, R435) -/

/-- The configuration space takes its defaults, and nothing is outstanding; the registers of the block stay (R435). -/
def cfgDefaults (s : State) : State :=
  { s with pcie := { enabled := s.pcie.enabled, out := s.pcie.out } }

/-- The link goes down: every outstanding read fails; a link that was up counts and raises E112 (R435). -/
def pcieDown (s : State) : State :=
  let up := rdB s rPCIE_LINK 0
  let s := forAll (s.pcie.reads ++ s.pcie.wait) readFail (wrn rPCIE_LINK 0 (cfgDefaults s))
  onlyIf up (fun s => raiseE 112 6 (bump (rPCIE_CNT 0) 1 s)) s

/-- PCIE_LINK_RESET (R435): PERST_N, a hot reset or a link-down. -/
def execPcieLinkReset (s : State) : Host.Outcome State Fault Refusal :=
  .next (if domOk s 6 then pcieDown s else s)

/-- Width of the trained link: 1, 2, 4 or 8 lanes. -/
def laneCount (w : Fin 4) : Nat := 2 ^ w.val

/-- The link is trained (R422). -/
def linkTrained (speed : Fin 5) (width : Fin 4) (s : State) : State :=
  msixRelease (wrn rPCIE_LINK (1 + 2 * (speed.val + 1) + 16 * laneCount width) s)

/-- PCIE_LINK_UP (R422): training ends, where the endpoint is enabled and the link is down. -/
def execPcieLinkUp (speed : Fin 5) (width : Fin 4) (s : State) : Host.Outcome State Fault Refusal :=
  .next (if domOk s 6 && s.pcie.enabled && !rdB s rPCIE_LINK 0 then linkTrained speed width s else s)

/-! ### Configuration space -/

/-- The function changes its power state; out of D3hot it sends what the PBA holds (R431, R436). -/
def setD3hot (d3 : Bool) (s : State) : State := msixRelease (wrB rPCIE_LINK 8 d3 s)

/-- What a configuration request does and answers. What no rule gives is a free value (log entry 1). -/
def cfgRequest (q : CfgReq) (s : State) : State :=
  match q with
  | .readIds => answer [w32 (0x96400000 + s.fuses.vendor)] s
  | .readSubsystem => answer [w32 (s.fuses.subVendor + s.fuses.subId * 2 ^ 16)] s
  | .readClass => let f := takeFree s; answer [w32 (0x12000000 + f.1.toNat % 256)] f.2
  | .readSerial => answer [w32 s.fuses.serial, w32 (s.fuses.serial / 2 ^ 32)] s
  | .readBar b2 =>
    let v := if b2 then s.pcie.bar2 + 0xC else s.pcie.bar0 + 4
    answer [w32 v, w32 (v / 2 ^ 32)] s
  | .writeBar b2 v =>
    answer [] { s with pcie := if b2 then { s.pcie with bar2 := v.toNat / 2 ^ 34 * 2 ^ 34 }
                               else { s.pcie with bar0 := v.toNat / 2 ^ 28 * 2 ^ 28 } }
  | .readCommand => answer [w32 (2 * b2n s.pcie.memEn + 4 * b2n s.pcie.busMaster)] s
  | .writeCommand m b => answer [] (msixRelease { s with pcie := { s.pcie with memEn := m, busMaster := b } })
  | .readControl => answer [w32 s.pcie.mps, w32 s.pcie.mrrs] s
  | .writeControl m r => answer [] { s with pcie := { s.pcie with mps := 128 * 2 ^ m.val, mrrs := 128 * 2 ^ r.val } }
  | .readMsix => answer [w32 (63 + 0x4000 * b2n s.pcie.fmask + 0x8000 * b2n s.pcie.msixEn)] s
  | .writeMsix e m => answer [] (msixRelease { s with pcie := { s.pcie with msixEn := e, fmask := m } })
  | .readPower => answer [w32 (3 * b2n (rdB s rPCIE_LINK 8))] s
  | .writePower d3 => answer [] (setD3hot d3 s)
  | .readOther => let f := takeFree s; answer [f.1.truncate 32] f.2
  | .writeOther => answer [] s

/-- PCIE_CONFIG_REQUEST (R50, R422): answered while the link is up. -/
def execPcieConfigRequest (req : CfgReq) (s : State) : Host.Outcome State Fault Refusal :=
  .next (if domOk s 6 && rdB s rPCIE_LINK 0 then cfgRequest req s else s)

end Sys2Proof.Machine
end

