-- ==== Sys2Proof/Machine/Boot.lean ====
section
/-! DEFINITION. Resets of the domains and the boot sequence (R46, R49 to R52, R67, R493, R497): what a reset leaves, what a
restore loads, the choice of an image, and the commands that boot the device. -/

namespace Sys2Proof.Machine

open Sys2Proof

/-! ### What a reset of one domain leaves (R67, R493) -/

/-- Every descriptor of the network engine ends failed: a reset of D5 takes it away (R456). -/
def netDropAll (s : State) : State := forAll s.net.descs (fun d s => descEnd d.num sFAILED s) s

/-- The units of domain `d`, beside its registers, as a reset leaves them. -/
def resetUnits (d : Nat) (s : State) : State :=
  match d with
  | 1 => lensReset s
  | 2 => { secFenced s with secBank := [], secPois := [] }
  | 3 => { s with frames := [], ports := [], pipeq := [], pctx := [], pipeTurn := [], stage := [], spliceq := [] }
  | 4 =>
    -- posted stores that have issued complete (R335)
    forAll (upto 18) (fun n t =>
      setLan n { feat := (lan s n).feat, corrected := (lan s n).corrected
                 posts := (lan s n).posts.map (fun p => { p with wait := 0, pc := none }) } t)
      (dropReadsOf (fun q => match q with | .lantern _ => true | .dma _ => false | .gone => false) { s with lan := [], resv := [] })
  | 5 => { s with net := { sent := s.net.sent }, clock := { aon := s.clock.aon } }
  | 6 => { s with pcie := { enabled := s.pcie.enabled, out := s.pcie.out } }
  | _ => dropReadsOf (fun q => match q with | .dma _ => true | .lantern _ => false | .gone => false)
      { s with sems := [], fc := {}, dma := [], regul := {}, ddr := {} }

/-- Domain `d` is reset: registers, latches and units. -/
def resetDomain (d : Nat) (s : State) : State := resetRegs d (resetUnits d s)

/-- D1 takes the staged tables, unless its spares are exhausted. -/
def restoreDomain1 (s : State) : State := if rdB s (rFLT_DOM 1) 5 then s else lensStaging s

/-- Domain `d`, 1 to 6, is restored from the image in force, with the repair map applied (R34, R493). A domain whose spares are
exhausted stays out of service. -/
def restoreDomain (d : Nat) (s : State) : State :=
  let s := applyRepair d (repairEntries s (sec s 1)) s
  match d with
  | 1 => restoreDomain1 s
  | 2 => secLoad (sec s 11) (loadRoutesD2 s)
  | 3 => calLoad (loadContexts (loadRoutesD3 s))
  | 4 => loadLanterns (loadProfiles s)
  | 5 => onlyIf (isReady s) groupEnter s
  | _ => s

/-! ### Loading an image (R52, steps 4 to 7) -/

/-- Scratchpads are filled with zero, but for the first `keep` bytes of weight memory (R51, R52). -/
def zeroScratchpads (keep : Nat) (s : State) : State :=
  let lo := wmBase + keep
  { s with mem := tclear lo (psBase + 0x800000) s.mem, poison := tclear lo (psBase + 0x800000) s.poison }

/-- Where the image in force comes from: BOOT_STATUS.SOURCE. -/
def setSource (n : Nat) (s : State) : State := wrF rBOOT_STATUS 1 0 n s

/-- IMG_SEQ and IMG_DIGEST name the image in force (R57, R59). -/
def setImageId (v : Ver) (s : State) : State :=
  wrWords (rIMG_DIGEST 0) ((upto 8).map (fun k => leAt (4 * k) 4 v.digest)) (wrn rIMG_SEQ v.seq s)

/-- A device latched out of service shows it from the moment D0 leaves reset: READY cannot be set (R72, R100). -/
def showOos (s : State) : State :=
  if s.prec.latched then wrB rDEV_STATE 0 false (wrB rDEV_STATE 1 true s) else s
/-- After step 7 it holds D4 in reset (R502). -/
def bootOos (s : State) : State := if s.prec.latched then wrF (rFLT_DOM 4) 1 0 2 (showOos s) else s
/-- K0 runs the boot ROM and no program, and K1 is held in reset, until step 7 (R78). -/
def holdKeepers (s : State) : State :=
  { s with keeper := { s.keeper with core0 := { s.keeper.core0 with loaded := false }
                                     core1 := { s.keeper.core1 with loaded := false, held := true } } }

/-- Steps 4 to 7 of R52 with a verified image: the PLLs, repair maps and zeroed scratchpads, DRAM training, and the sections,
which alone fill the fields whose reset is `image` (R67). A boot whose training fails stops before step 7 (R408). -/
def loadImage (v : Ver) (source keep : Nat) (train : TrainResult) (s : State) : State :=
  let s := { s with boot := { s.boot with secs := v.secs, present := v.present, staged := false } }
  let s := wrn rPWR_PLL 63 s
  let es := repairEntries s (sec s 1)
  let s := zeroScratchpads keep (forAll [0, 1, 2, 4] (fun d s => applyRepair d es s) s)
  let s := ddrTrain train (ddrLoad (sec s 12) s)
  if ddrState s ≠ 2 then ddrUnload { s with boot := { s.boot with phase := .halted, secs := [], present := [] } }
  else
    let s := loadOwners (loadProfiles (loadDramCap (loadPlan (sec s 2) s)))
    let s := secLoad (sec s 11) (loadRoutesD2 s)
    let s := calLoad (loadContexts (loadRoutesD3 s))
    let s := restoreDomain1 (loadKeeper (regulLoad (sec s 9) s))
    let s := setSource source (setImageId v { s with boot := { s.boot with phase := .running } })
    let s := bootOos s
    let s := if domOk s 4 then loadLanterns s else s
    restartIdle { s with power := { s.power with state := .run, step := .none } }

/-- The event of a slot or an image that fails: E33 for a semantic check, else E32 (R46). -/
def raiseImageFail (v : Ver) (s : State) : State := raiseE (if v.semantic then 33 else 32) 7 s
/-- FAIL_INDEX and the result code of slot `k`. -/
def slotResult (k : Nat) (code : Nat) (s : State) : State := wrF rBOOT_STATUS (7 + 4 * k) (4 + 4 * k) code s
def slotFail (k : Nat) (v : Ver) (s : State) : State :=
  raiseImageFail v (wrF rBOOT_STATUS 23 16 v.idx (slotResult k v.code s))

/-! ### The choice of a slot (R46) -/

/-- The header of slot `k`: a read error, or step 1 of R42. R59 gives a flash read error the result 0x9 and does not say where in
a slot it is met: the model's choice is that it strikes the whole slot at its header, so that the header is not valid (R46: no
fallback from or to it) and FAIL_INDEX is 0xFF (log entry 85). -/
def slotHeader (s : State) (bad : Fin 4) (k : Nat) : Option Ver :=
  if nbit bad.val k then some (verFail 9 0xFF) else headerFail (flashBytes s (k * 0x1000000) 64)
/-- The whole of slot `k` (R42). -/
def slotVerify (s : State) (k : Nat) : Ver := verifyImage (bootAvail s) s (slotBytes s k) 0x1000000 none

/-- No image: the loader waits for one over PCIe, or halts (R49). -/
def noImage (s : State) : State :=
  { s with boot := { s.boot with phase := if s.boot.src = 2 then .halted else .waitPcie } }

/-- Boot from the flash slots (R46). -/
def bootFlash (env : BootEnv) (s : State) : State :=
  let h (k : Nat) : Option Ver := slotHeader s env.flashBad k
  let s := forAll [0, 1] (fun k s => match h k with | some v => slotFail k v s | none => s) s
  let seqOf (k : Nat) : Nat := leAt 0xC 4 (flashBytes s (k * 0x1000000) 16)
  let order := match h 0, h 1 with
    | none, none => if seqNewer (seqOf 1) (seqOf 0) then [1, 0] else [0, 1]
    | none, some _ => [0]
    | some _, none => [1]
    | some _, some _ => []
  match order with
  | [] => noImage (raiseE 34 7 s)
  | a :: rest =>
    let v := slotVerify s a
    if v.ok then
      let s := slotResult a 1 (forAll rest (fun b s => slotResult b 2 s) s)
      loadImage v a 0 env.train s
    else
      let s := slotFail a v s
      match rest with
      | [] => noImage (raiseE 34 7 s)
      | b :: _ =>
        let w := slotVerify s b
        if w.ok then loadImage w b 0 env.train (wrB rBOOT_STATUS 2 true (raiseE 35 7 (slotResult b 1 s)))
        else noImage (raiseE 34 7 (slotFail b w s))

/-! ### A reset of D0 (R493, R497) -/

/-- D0 leaves reset: events held meanwhile are raised with DTIME 0 and TIME_UNSURE, the rest is added to EVENTS (R489). -/
def replayHeld (s : State) : State :=
  let held := s.fault.held
  let lost := s.fault.heldLost
  let s := { s with fault := { repairOos := s.fault.repairOos } }
  bumpW (rFLT_CNT 1) lost (forAll held (fun e s => raiseNow e 0 true s) s)

/-- The boot from step 2 on (R49, R52). -/
def bootDevice (env : BootEnv) (s : State) : State :=
  let s := wrF rBOOT_STATUS 13 12 s.boot.src { s with boot := { s.boot with phase := .waitPcie } }
  let s := { s with pcie := { s.pcie with enabled := decide (s.boot.src ≠ 2) } }
  let s := showOos (fuseFields (holdKeepers (replayHeld s)))
  if s.boot.src = 1 then noImage s else bootFlash env s

/-- D0 and with it D1 to D6 are reset; every job ends without a decision (R32, R493). The slots keep their generations. -/
def resetAll (s : State) : State :=
  let gens := (upto 16).foldl (fun t k => tput {} t k ({ gen := (job s k).gen } : Job)) ([] : Tab Job)
  let s := { s with jobs := gens, keeper := { s.keeper with freeSeq := 0 } }
  let s := forAll [4, 6, 5, 1, 2, 3, 0] resetDomain s
  let s := forAll [1, 2, 3, 4, 5, 6] (fun d s => wrB (rRWIN_D d) 3 false s) s
  { s with
    boot := { src := s.boot.src, jnlFirst := s.boot.jnlFirst }
    power := { idleFrom := s.clock.aon, deepFrom := s.clock.aon, level := s.power.level }
    fault := { held := s.fault.held, heldLost := s.fault.heldLost, hot := s.fault.hot, repairOos := s.fault.repairOos } }

/-- The throttle threshold in force, in quarters of a degree; the grade's default before a plan is loaded (R516). -/
def tth4 (s : State) : Int :=
  let t := sext 8 (rdF s rPWR_THERM 23 16)
  4 * (if t = 0 then defaultTth s else t)
/-- TJ, in quarters of a degree. -/
def tj4 (s : State) : Int := sext 12 (rdF s rPWR_THERM 11 0)

/-- The reset of D0: recorded under R100 if it counts, with the latch and E43 at the limit; held while the junction is hot
(R497); then the boot. -/
def resetD0 (counted : Bool) (env : BootEnv) (s : State) : State :=
  let s := bump (rFLT_CNT 4) 1 s
  let r := if counted then recordReset 0 s else (s, false)
  let s := r.1
  let s := if r.2 then
      { s with prec := { s.prec with latched := true, latchTime := dtime s, latchSerial := s.fuses.serial }
               fault := { s.fault with held := s.fault.held ++ [{ num := 43, dom := 7 }] } }
    else s
  let s := wrB rFLT_OOS_STATUS 0 s.prec.latched s
  let s := onlyIf counted precNow s
  let s := resetAll s
  if s.fault.hot ∧ tth4 s ≤ tj4 s then { s with boot := { s.boot with phase := .heldHot } }
  else bootDevice env s

/-- The surroundings of a reset that a write other than the commands of this file causes: training passes, and the flash reads
without error. -/
def calmEnv : BootEnv := { train := .ok }

/-! ### Meanings -/

/-- POWER_ON_RESET (R49, R97): everything but the flash, the fuses, the board's pins and the queue is at its reset value; the
Persistent Record is read, and the device boots. -/
def execPowerOnReset (src : Fin 4) (env : BootEnv) (s : State) : Host.Outcome State Fault Refusal :=
  let t : State := { State.reset with
    pending := s.pending, flash := s.flash, fuses := s.fuses, free := s.free, boot := { src := src.val }
    keeper := { gpioPins := s.keeper.gpioPins, curts := s.keeper.curts } }
  .next (bootDevice env (precLoad t))

/-- Can the device reach READY: not latched out of service, not halted without an image (R49, R408), and with both Keeper cores
working (R34, R78, R502)? A device that waits for an image over PCIe can: no rule names that case (log entry 85). -/
def canReady (s : State) : Bool :=
  !deviceOos s && decide (s.boot.phase ≠ .halted) && decide (s.fuses.keeperBad % 4 = 0)

/-- The effect of a write of DEV_STATE: READY is set where the device can reach it, and the group logic starts (R72, R471). -/
def readyEffect (v : Word) (s : State) : State × Bool :=
  if bit v 0 ∧ !isReady s ∧ canReady s then
    let s := wrB rDEV_STATE 0 true s
    (onlyIf (domOk s 5) groupEnter s, true)
  else (s, true)

/-- READY_SET (R52, R72). -/
def execReadySet (ifc : Iface) (s : State) : Host.Outcome State Fault Refusal :=
  .next (gatedWrite ifc rDEV_STATE (w32 1) (readyEffect (w32 1)) s)

/-- The staged bytes at an address, if they can be read: in DRAM or a scratchpad, 8-byte aligned, not poisoned (R55, R59). -/
def stagedBytes (s : State) (a len : Nat) : Option (List Byte) :=
  let inPlace : Bool := match regionOf a with
    | .wm | .am | .ps | .dram => true
    | .reg | .ldm _ | .lim _ | .sems | .host | .bad => false
  if a % 8 = 0 ∧ inPlace ∧ (decide (len = 0) || decodesAll s a len) ∧ !poisonedIn s a len then some (memBytes s a len) else none

/-- The effect of a write of PCIE_BOOT (R51): GO verifies and loads the image staged in weight memory; a refused one raises E38
and the device waits for a further GO. -/
def pcieBootEffect (v : Word) (env : BootEnv) (s : State) : State × Bool :=
  if bit v 0 ∧ s.boot.phase = .waitPcie then
    let len := rdF s rSTAGE_LEN 24 0
    let r := match stagedBytes s wmBase len with
      | none => verFail 9 0xFF
      | some b => verifyImage (bootAvail s) s b 0x2000000 (some len)
    let s := slotResult 1 r.code (slotResult 0 r.code s)
    if r.ok then (loadImage r 2 len env.train s, true)
    else (raiseE 38 7 (wrF rBOOT_STATUS 23 16 r.idx s), true)
  else (s, true)

/-- PCIE_BOOT_GO (R51). -/
def execPcieBootGo (ifc : Iface) (env : BootEnv) (s : State) : Host.Outcome State Fault Refusal :=
  .next (gatedWrite ifc rPCIE_BOOT (w32 1) (pcieBootEffect (w32 1) env) s)

end Sys2Proof.Machine
end

