-- ==== Sys2Proof/Machine/Fault.lean ====
section
/-! DEFINITION. Fences, resets and recovery of domains (R493 to R497, R501, R508), the out-of-service latch (R503), field
repair entries (R505), the heartbeat (R498), and the sensors: junction temperature (R516, R517), supplies (R520), PLLs
(R522). -/

namespace Sys2Proof.Machine

open Sys2Proof

/-! ### Accessors -/

def fencePhase (s : State) (d : Nat) : FencePhase := tget .none s.fault.fence d
def setFence (d : Nat) (p : FencePhase) (s : State) : State :=
  { s with fault := { s.fault with fence := tput .none s.fault.fence d p } }
/-- FLT_DOMd.STATE takes a value. -/
def setDomState (d v : Nat) (s : State) : State := wrF (rFLT_DOM d) 1 0 v s

/-! ### The fence (R494, R496) -/

/-- The open jobs of a job ID. -/
def jobsOfId (s : State) (id : Nat) : List JobRef :=
  ((upto 16).filter (fun k => jobOpen s k && decide ((job s k).jobId = id))).map
    (fun k => { slot := k, gen := (job s k).gen, jobId := id })

/-- JOB_IDs of the frames that the pipes hold, started or queued; with `spliced`, of those a splice is active in. -/
def frameJobs (s : State) (spliced : Bool) : List Nat :=
  (upto 16).flatMap (fun c =>
    let open_ := match (pctx s c).frame with | some f => if f.splice || !spliced then f.info.job.toList else [] | none => []
    let queued := if spliced then [] else (pipeQueue s c).filterMap (fun x => match x with
      | .start f => f.job | .line _ => none | .stop _ => none)
    open_ ++ queued)

/-- Does a DMA burst move data through the host window? -/
def dmaHosted (x : Dma) : Bool := (burstSpans x false ++ burstSpans x true).any (fun p => decide (regionOf p.1 = .host))

/-- The jobs with work in flight in domain `d` that the domain knows (R26, R496): operations of the Lens; memory jobs of the
Sector engine and the frames it serves; camera segments and frames of D3; decisions and messages of the network engine; and
transfers through the PCIe endpoint. -/
def jobsIn (s : State) (d : Nat) : List JobRef :=
  match d with
  | 1 => s.lens.ops.map (fun o => (lensParse o.desc).ref)
  | 2 => (upto 4).foldl (fun l c =>
      let k := secCl s c
      l ++ (match k.run with | some r => [r.mj.ref] | none => []) ++ k.queue.map SecMj.ref) []
      ++ (frameJobs s true).flatMap (jobsOfId s)
  | 3 => ((upto 8).filterMap (fun t => (trig s t).seg.map Seg.jobId) ++ (upto 8).filterMap (fun p => (port s p).seg.map (fun g => g.2.2))
      ++ frameJobs s false).flatMap (jobsOfId s)
  | 5 => s.net.descs.map (fun t => { slot := t.slot, gen := t.gen, jobId := (job s t.slot).jobId })
  | 6 => (upto 32).flatMap (fun c =>
      let x := dmaCh s c
      match x.burst.head? with
      | some (_, d) => if dmaHosted x && !dNoGen d then [dJob d] else []
      | none => [])
  | _ => []

/-- Does domain `d` hold work of jobs that the job software alone can name: Lanterns, and memory-to-memory frames? -/
def jobsHidden (s : State) (d : Nat) : Bool :=
  match d with
  | 3 => (upto 16).any (fun c => decide (ctxKind s c = 2) && (pctx s c).frame.isSome)
  | 4 => true
  | _ => false

/-- A domain is fenced or reset: its fault reaches the jobs with work in flight in it (R26); those it cannot name are free
values (log entry 89). -/
def reachDomain (d : Nat) (s : State) : State :=
  let h := jobsHidden s d
  onlyIf h reachLantern (forAll (jobsIn s d) reachRef s)

/-- What a domain loses the moment it is fenced (R203, R243). -/
def fenceUnits (d : Nat) (s : State) : State :=
  match d with | 1 => lensFenced s | 2 => secFenced s | _ => s

/-- A domain that failed its retention check holds triggers no longer, once it is fenced (R93, R16). -/
def retentionOver (d : Nat) (s : State) : State :=
  if 1 ≤ d ∧ d ≤ 4 ∧ nbit s.power.failed (d - 1) then
    releaseHeld { s with power := { s.power with failed := s.power.failed - 2 ^ (d - 1) } }
  else s

/-- Step 1 of R494 for domain `d`, 1 to 6. -/
def startFence (d : Nat) (s : State) : State :=
  let s := bump (rFLT_CNT 2) 1 (wrB (rFLT_DOM d) 2 true (setDomState d 1 s))
  let s := raiseE 9 d (setFence d .draining s)
  fenceUnits d (retentionOver d (reachDomain d s))

/-- Step 4 of R494: the domain is reset and the reset recorded; at the limit of R100 it stays out of service, with E42. What
D5 has not sent yet has failed, and a reset of D6 brings down the link (R435, R436). -/
def fenceReset (d : Nat) (s : State) : State :=
  let r := recordReset d (setDomState d 2 s)
  let s := precNow r.1
  let s := if r.2 then
      raiseE 42 d (wrB (rRWIN_D d) 3 true (wrB (rFLT_DOM d) 2 false (setDomState d 3 (setFence d .none s))))
    else setFence d .restoring s
  resetDomain d (onlyIf (decide (d = 6)) pcieDown (onlyIf (decide (d = 5)) netDropAll s))

/-- The PLLs that clock a domain are locked again when it has been restored: a PLL locks within 50 µs (R522). -/
def relock (d : Nat) (s : State) : State :=
  let b := if d ≤ 2 then 0 else if d = 3 then 2 else if d = 4 then 1 else if d = 5 then 5 else 4
  wrB rPWR_PLL b true s

/-- Does the source of the image in force still hold it (R495)? D2 and D4 alone reload from it. -/
def reloadOk (s : State) (d : Nat) : Bool :=
  let want := (upto 8).map (fun k => rdn s (rIMG_DIGEST k))
  let digest (v : Ver) : Bool := v.ok && decide ((upto 8).map (fun k => leAt (4 * k) 4 v.digest) = want)
  if d ≠ 2 ∧ d ≠ 4 then true
  else if !s.boot.staged ∧ rdF s rBOOT_STATUS 1 0 < 2 then
    digest (verifyForm (slotBytes s (rdF s rBOOT_STATUS 1 0)) 0x1000000 none).1
  else
    let len := rdF s rSTAGE_LEN 24 0
    let at_ := rd64 s rSTAGE_ADDR_LO
    match stagedBytes s (if at_ = 0 then wmBase else at_) len with
    | none => false
    | some b => digest (verifyForm b 0x2000000 (some len)).1

/-- Step 5 of R494, which a RESTORE and a DEEP exit run as well: the restore, and a failed reload takes the domain out of
service with its fatal event, cause 4 (R493, R495). Answers whether the domain is in service. -/
def runRestore (d : Nat) (s : State) : State × Bool :=
  if !reloadOk s d then (raiseFatal d 4 (wrB (rFLT_DOM d) 2 false (setDomState d 3 s)), false)
  else
    let s := restoreDomain d (setDomState d 0 (relock d s))
    (wrB (rFLT_DOM d) 2 false s, decide (domState s d = 0))

/-! ### The effect of FLT_DOMd -/

/-- The effect of a write of FLT_DOMd (R494, R497, R501, R508): FENCE wins over RESTORE; a fence of a domain that is FENCED or
RESET, and a RESTORE whose conditions fail, do nothing. -/
def fltDomEffect (i : Iface) (d : Nat) (v : Word) (env : BootEnv) (s : State) : State × Bool :=
  let r := plainEffect i (rFLT_DOM d) (v &&& ~~~ (w32 0xC)) .none s
  let s := r.1
  if d = 0 then (if bit v 2 then resetD0 true env s else s, r.2)
  else if bit v 2 then
    (if domState s d = 1 ∨ domState s d = 2 then s else startFence d s, r.2)
  else if bit v 3 then
    if domState s d = 3 ∧ !rdB s (rFLT_DOM d) 5 ∧ rwinCount s d ≤ 3 then (setFence d .restoring s, r.2) else (s, r.2)
  else (s, r.2)

/-! ### Meanings: fences and resets -/

/-- DOMAIN_FENCE (R494): domain `d` + 1. -/
def execDomainFence (ifc : Iface) (d : Fin 6) (s : State) : Host.Outcome State Fault Refusal :=
  .next (gatedWrite ifc (rFLT_DOM (d.val + 1)) (w32 4) (fltDomEffect ifc (d.val + 1) (w32 4) calmEnv) s)

/-- Has the domain work that it accepted before its fence and that has still to complete (R494, step 2)? -/
def drainOwes (s : State) (d : Nat) : Bool := decide (d = 1) && s.lens.tile.isSome

/-- DRAIN_COMPLETE (R494, step 4): what the domain had accepted is complete. -/
def execDrainComplete (d : Fin 6) (s : State) : Host.Outcome State Fault Refusal :=
  match fencePhase s (d.val + 1) with
  | .draining => .next (if drainOwes s (d.val + 1) then s else fenceReset (d.val + 1) s)
  | .none => .next s
  | .restoring => .next s

/-- DRAIN_TIMEOUT (R494, step 3, then step 4). -/
def execDrainTimeout (d : Fin 6) (s : State) : Host.Outcome State Fault Refusal :=
  match fencePhase s (d.val + 1) with
  | .draining =>
    let s := bump (rFLT_CNT 3) 1 (wrB (rFLT_DOM (d.val + 1)) 4 true s)
    .next (fenceReset (d.val + 1) (raiseE 10 (d.val + 1) s))
  | .none => .next s
  | .restoring => .next s

/-- DOMAIN_RESTORE_COMPLETE (R493, R494 step 5): the domain is in service and E11 is raised, or its reload failed. -/
def execDomainRestoreComplete (d : Fin 6) (s : State) : Host.Outcome State Fault Refusal :=
  let n := d.val + 1
  match fencePhase s n with
  | .restoring =>
    if n = 4 ∧ deviceOos s then .next (wrB (rFLT_DOM 4) 2 false (setDomState 4 2 (setFence 4 .none s)))
    else
      let r := runRestore n (setFence n .none s)
      .next (if r.2 then raiseE 11 n (wrB (rRWIN_D n) 3 false r.1) else r.1)
  | .none => .next s
  | .draining => .next s

/-- DOMAIN_RESTORE (R501). -/
def execDomainRestore (ifc : Iface) (d : Fin 6) (s : State) : Host.Outcome State Fault Refusal :=
  .next (gatedWrite ifc (rFLT_DOM (d.val + 1)) (w32 8) (fltDomEffect ifc (d.val + 1) (w32 8) calmEnv) s)

/-- DEVICE_RESET (R497): FLT_DOM0.FENCE. -/
def execDeviceReset (ifc : Iface) (env : BootEnv) (s : State) : Host.Outcome State Fault Refusal :=
  .next (gatedWrite ifc (rFLT_DOM 0) (w32 4) (fltDomEffect ifc 0 (w32 4) env) s)

/-- DEVICE_FATAL_RESET (R497): the Keeper resets D0 after a device-fatal event raised after READY. -/
def execDeviceFatalReset (env : BootEnv) (s : State) : Host.Outcome State Fault Refusal :=
  .next (if s.fault.fatal then resetD0 true env s else s)

/-- HEARTBEAT_TICK (R498, R528): every 1 ms FLT_HEARTBEAT counts while D0 runs, THROTTLE_MS at level 1 or 2, SLEEP_MS in NAP or
DEEP. -/
def execHeartbeatTick (s : State) : Host.Outcome State Fault Refusal :=
  let s := onlyIf (!d0InReset s) (bumpW rFLT_HEARTBEAT 1) s
  let s := onlyIf (decide (1 ≤ rdF s rPWR_STATUS 9 8)) (bump (rPWR_CNT 4) 1) s
  .next (onlyIf (decide (s.power.state = .nap ∨ s.power.state = .deep)) (bumpW (rPWR_CNT 6) 1) s)

/-! ### The out-of-service latch and repair entries -/

/-- The effect of a write of FLT_OOS_CLEAR_HI with its latch `lo` (R503). -/
def oosClearEffect (lo hi : Word) (env : BootEnv) (s : State) : State × Bool :=
  if lo.toNat + 2 ^ 32 * hi.toNat = s.fuses.serial ∧ rdB s rFLT_OOS_STATUS 1 ∧ rdB s rFLT_OOS_STATUS 0 then
    let s := wrB rFLT_OOS_STATUS 0 false { s with prec := { s.prec with latched := false, latchTime := 0, latchSerial := 0 } }
    -- one reset of D0; with a DEVICE_FATAL event that still awaits its reset, it is the counted one (R503, R508)
    (resetD0 s.fault.fatal env (raiseE 44 7 (precNow s)), true)
  else (wrB rFLT_OOS_STATUS 2 true s, true)

/-- OOS_CLEAR (R503). -/
def execOosClear (ifc : Iface) (hi : Word) (env : BootEnv) (s : State) : Host.Outcome State Fault Refusal :=
  .next (gatedWrite ifc rFLT_OOS_CLEAR_HI hi (oosClearEffect (latch s ifc rFLT_OOS_CLEAR_LO) hi env) s)

/-- The effect of a write of FLT_REPAIR_CTRL (R505): the entry is checked, and appended with an immediate write of the
Persistent Record; while ADD reads 1 a further one is ignored. -/
def repairCtrlEffect (v : Word) (s : State) : State × Bool :=
  if !bit v 0 then (s, true)
  else if rdB s rFLT_REPAIR_CTRL 0 then (s, false)
  else
    let e := wordBytes s (rFLT_REPAIR_ENTRY 0) 4
    if !repValid e then (wrF rFLT_REPAIR_CTRL 4 2 2 s, true)
    else if 64 ≤ s.prec.repairs.length then (wrF rFLT_REPAIR_CTRL 4 2 3 s, true)
    else (precNow { wrF rFLT_REPAIR_CTRL 1 0 3 s with prec := { s.prec with adding := some e } }, true)

/-- REPAIR_ADD (R505). -/
def execRepairAdd (ifc : Iface) (s : State) : Host.Outcome State Fault Refusal :=
  .next (gatedWrite ifc rFLT_REPAIR_CTRL (w32 1) (repairCtrlEffect (w32 1)) s)

/-! ### Sensors -/

/-- The throttle level that follows `lvl` at a reading, with both in quarters of a degree (R516). -/
def nextLevel (lvl : Nat) (th tj : Int) : Nat :=
  match lvl with
  | 0 => if th + 12 ≤ tj then 2 else if th ≤ tj then 1 else 0
  | 1 => if th + 12 ≤ tj then 2 else if tj ≤ th - 12 then 0 else 1
  | _ => if tj ≤ th - 12 then 0 else if tj ≤ th then 1 else 2

/-- A change of the level during a wake takes effect when D1 and D2 reach RUN (R529). -/
def throttleHeld (s : State) : Bool :=
  match s.power.step with | .waking => true | .deepExit => true | .none => false | .napEntry => false | .deepNap => false | .deepStop => false

/-- THERMAL_SAMPLE (R516, R517, R497): TJ changes, the highest one is kept, the throttle level follows with E136 from level 0,
and E137 is raised when TJ reaches the grade's limit. A D0 that is held in reset for heat boots below the threshold. -/
def execThermalSample (tj : BitVec 12) (env : BootEnv) (s : State) : Host.Outcome State Fault Refusal :=
  let old := tj4 s
  let new := sext 12 tj.toNat
  let lvl := nextLevel s.power.level (tth4 s) new
  let up := decide (s.power.level = 0 ∧ 1 ≤ lvl)
  let s := wrF rPWR_THERM 11 0 tj.toNat s
  let s := onlyIf (decide (sext 12 (rdF s rPWR_TJ_MAX 11 0) < new)) (wrF rPWR_TJ_MAX 11 0 tj.toNat) s
  let s := { s with power := { s.power with level := lvl } }
  let s := onlyIf (!throttleHeld s) (wrF rPWR_STATUS 9 8 lvl) s
  let s := onlyIf up (raiseE 136 7) s
  let s := onlyIf (decide (old < 4 * tjLimit s ∧ 4 * tjLimit s ≤ new)) (raiseE 137 7) s
  .next (if s.boot.phase = .heldHot ∧ new < tth4 s then bootDevice env s else s)

/-- SUPPLY_FAULT (R520, R528): bit `n` of PWR_SUPPLY; VDD_AON is not monitored, and a video bank only where it is powered. -/
def execSupplyFault (n : Fin 16) (s : State) : Host.Outcome State Fault Refusal :=
  if n.val = 2 ∨ (8 ≤ n.val ∧ !nbit s.fuses.banks (n.val - 8)) then .next s
  else .next (raiseE 138 7 (bump (rPWR_CNT 5) 1 (wrB rPWR_SUPPLY n true s)))

/-- PLL_LOCK_LOSS (R522): PWR_PLL reports that a PLL has lost lock; outside DEEP each domain it clocks has its fatal event, D0 has
E7. -/
def execPllLockLoss (p : Fin 6) (s : State) : Host.Outcome State Fault Refusal :=
  if !rdB s rPWR_PLL p then .next s
  else if s.power.state = .deep then .next (wrB rPWR_PLL p false s)
  else
    let s := wrB rPWR_PLL p false s
    let e7 := raiseEvt { num := 7, dom := 0, cause := 6 }
    .next (match p.val with
      | 0 => raiseFatal 2 2 (raiseFatal 1 2 s)
      | 1 => e7 (raiseFatal 4 2 s)
      | 2 => raiseFatal 3 2 s
      | 3 => e7 s
      | 4 => raiseFatal 6 2 s
      | _ => raiseFatal 5 2 s)

end Sys2Proof.Machine
end

