-- ==== Sys2Proof/Machine/PowerCtl.lean ====
section
/-! DEFINITION. Power states of the fast domains (R16 to R20, R92, R93, R509 to R513, R529): wake requests, NAP and DEEP. -/

namespace Sys2Proof.Machine

open Sys2Proof

/-! ### Reaching RUN -/

/-- D1 to D4 reach RUN; a domain whose retention check failed has its fatal event with cause 1, and triggers stay held (R93).
Otherwise the starts that were held issue (R16). WAKE_NOW clears, the throttle level of the last reading takes effect, DRAM
that is still in self-refresh leaves it (R412, R512, R529). -/
def reachRun (failed : Nat) (s : State) : State :=
  let s := onlyIf (decide (ddrState s = 4)) fullRetrain s
  let s := { s with power := { s.power with state := .run, step := .none, idleFrom := s.clock.aon, failed := failed, dramUp := false } }
  let s := wrF rPWR_STATUS 9 8 s.power.level (wrB rWAKE_CTRL 1 false s)
  let s := forAll (upto 4) (fun i s => if nbit failed i then raiseFatal (i + 1) 1 s else s) s
  deepPoll (releaseHeld s)

/-! ### Effects of the control registers -/

/-- The effect of a write of WAKE_CTRL (R20, R92): HOLD set or WAKE_NOW requests a wake; HOLD cleared starts the idle hold
anew; WAKE_NOW clears at once where the fast domains are in RUN. -/
def wakeCtrlEffect (v : Word) (s : State) : State × Bool :=
  let old := rdB s rWAKE_CTRL 0
  let s := wrB rWAKE_CTRL 0 (bit v 0) s
  let s := onlyIf (bit v 1) (wrB rWAKE_CTRL 1 true) s
  let s := onlyIf (bit v 1 || (bit v 0 && !old)) wakeRequest s
  let s := onlyIf (decide (s.power.state = .run ∧ s.power.step = .none)) (wrB rWAKE_CTRL 1 false) s
  (onlyIf (old && !bit v 0) restartIdle s, true)

/-- The effect of a write of PWR_CTRL (R512, R513, R529): DEEP_EXIT is a wake request and wins; a DEEP_REQ is ignored without
DEEP_EN, and waits while a window, a segment or a job is open. -/
def pwrCtrlEffect (v : Word) (s : State) : State × Bool :=
  if bit v 1 then (wakeRequest s, true)
  else if bit v 0 ∧ rdB s rPWR_PLAN 4 ∧ s.power.state ≠ .deep then (deepPoll (wrB rPWR_CTRL 0 true s), true)
  else (s, true)

/-! ### Meanings: wakes -/

/-- WAKE_REQUEST (R92). -/
def execWakeRequest (s : State) : Host.Outcome State Fault Refusal := .next (wakeRequest s)

/-- FAST_DOMAINS_RUN (R16, R93): the end of a wake; `failed` names the domains whose retention check fails. -/
def execFastDomainsRun (failed : BitVec 4) (s : State) : Host.Outcome State Fault Refusal :=
  match s.power.step with
  | .waking => .next (reachRun failed.toNat s)
  | .none => .next s
  | .napEntry => .next s
  | .deepNap => .next s
  | .deepStop => .next s
  | .deepExit => .next s

/-- WAKE_HOLD (R20, R92). -/
def execWakeHold (ifc : Iface) (on : Bool) (s : State) : Host.Outcome State Fault Refusal :=
  let v := w32 (b2n on)
  .next (gatedWrite ifc rWAKE_CTRL v (wakeCtrlEffect v) s)

/-- WAKE_NOW (R92): HOLD keeps its value. -/
def execWakeNow (ifc : Iface) (s : State) : Host.Outcome State Fault Refusal :=
  let v := setBit (rd s rWAKE_CTRL) 1 true
  .next (gatedWrite ifc rWAKE_CTRL v (wakeCtrlEffect v) s)

/-! ### Meanings: NAP -/

/-- IDLE_HOLD_EXPIRY (R20, R511): NAP entry begins once the idle hold, in µs of 12.5 AON cycles, has elapsed with every other
condition true. -/
def execIdleHoldExpiry (s : State) : Host.Outcome State Fault Refusal :=
  if s.power.state = .run ∧ s.power.step = .none ∧ !fastBusy s ∧ rdF s rPWR_PLAN 3 0 ≠ 0 ∧
      25 * rdF s rPWR_PLAN 31 16 ≤ 2 * (s.clock.aon - s.power.idleFrom) then .next (setStep .napEntry s)
  else .next s

/-- NAP_ENTRY_COMPLETE (R511, R512): the clocks have stopped. As step 1 of DEEP entry, DRAM then enters self-refresh and the
ARRAY, PIPE and DDR PLLs stop. -/
def execNapEntryComplete (s : State) : Host.Outcome State Fault Refusal :=
  let nap (s : State) : State :=
    onlyIf (nbit (rdF s rPWR_PLAN 3 0) 2) portsNap { s with power := { s.power with state := .nap, step := .none } }
  match s.power.step with
  | .napEntry => .next (nap (bump (rPWR_CNT 0) 1 s))
  | .deepNap => .next (startDeep (nap s))
  | .none => .next s
  | .deepStop => .next s
  | .waking => .next s
  | .deepExit => .next s

/-! ### Meanings: DEEP -/

/-- DEEP_HOLD_EXPIRY (R512): DEEP_HOLD seconds have passed with no window, segment or job open. -/
def execDeepHoldExpiry (s : State) : Host.Outcome State Fault Refusal :=
  if deepHold s ≠ 0 ∧ deepOk s ∧ deepHold s * aonS ≤ s.clock.aon - s.power.deepFrom then .next (startDeep s) else .next s

/-- DEEP_REQUEST (R512). -/
def execDeepRequest (ifc : Iface) (s : State) : Host.Outcome State Fault Refusal :=
  .next (gatedWrite ifc rPWR_CTRL (w32 1) (pwrCtrlEffect (w32 1)) s)

/-- DEEP_ENTRY_COMPLETE (R512, step 4): the switches of D1 to D4 open; what the domains held is lost. -/
def execDeepEntryComplete (s : State) : Host.Outcome State Fault Refusal :=
  match s.power.step with
  | .deepStop =>
    let s := wrB rPWR_CTRL 0 false (bump (rPWR_CNT 3) 1 s)
    let s := forAll [1, 2, 3, 4] resetDomain s
    .next { s with power := { s.power with state := .deep, step := .none } }
  | .none => .next s
  | .napEntry => .next s
  | .deepNap => .next s
  | .waking => .next s
  | .deepExit => .next s

/-- DEEP_EXIT (R513). -/
def execDeepExit (ifc : Iface) (s : State) : Host.Outcome State Fault Refusal :=
  .next (gatedWrite ifc rPWR_CTRL (w32 2) (pwrCtrlEffect (w32 2)) s)

/-- DEEP_EXIT_COMPLETE (R513): the PLLs are locked, DRAM leaves self-refresh, and each of D1 to D4 that is in service is
restored as after a reset, without E9 and without a record under R100. -/
def execDeepExitComplete (s : State) : Host.Outcome State Fault Refusal :=
  match s.power.step with
  | .deepExit =>
    let s := wrn rPWR_PLL 0b111111 s
    let s := onlyIf (decide (ddrState s = 4)) fullRetrain { s with power := { s.power with state := .run } }
    let s := forAll [1, 2, 3, 4] (fun d s => if domState s d = 0 then (runRestore d s).1 else s) s
    .next (reachRun 0 s)
  | .none => .next s
  | .napEntry => .next s
  | .deepNap => .next s
  | .deepStop => .next s
  | .waking => .next s

/-- DEEP_DRAM_IDLE_TIMER (R513): DRAM that a request woke in DEEP re-enters self-refresh, and the DDR PLL stops. -/
def execDeepDramIdleTimer (s : State) : Host.Outcome State Fault Refusal :=
  if s.power.state = .deep ∧ s.power.dramUp then
    .next (wrF rDDR_STATUS 2 0 4 (wrB rPWR_PLL 3 false { s with power := { s.power with dramUp := false } }))
  else .next s

end Sys2Proof.Machine
end

