-- ==== Sys2Proof/Machine/Ptp.lean ====
section
/-! DEFINITION. Links of the interfaces (R439, R479) and IEEE 1588 time (R443 to R445, R480). -/

namespace Sys2Proof.Machine

open Sys2Proof

/-! ### Links -/

/-- ETH_LINK_DOWN (R479): the link of an interface falls. -/
def execEthLinkDown (k : Fin 9) (s : State) : Host.Outcome State Fault Refusal :=
  .next (if domOk s 5 then linkFall k s else s)

/-- SPEED of an interface whose link is up (R440, R479). -/
def ifSpeed (s : State) (k : Nat) : Nat := if k = 8 then 1 else if nbit (leAt 0 2 (netSec s)) (k / 4) then 2 else 3

/-- ETH_LINK_UP (R439): the link comes up; a lane of 25 Gb/s takes the FEC that auto-negotiation settled, an unsplit port
always runs Clause 91, the management port none. -/
def execEthLinkUp (k : Fin 9) (fec : Fin 3) (s : State) : Host.Outcome State Fault Refusal :=
  if domOk s 5 ∧ ifExists s k ∧ rdB s (ifPage k + 4) 0 ∧ !rdB s (ifPage k) 0 then
    let f := match ifSpeed s k with | 1 => 0 | 2 => fec.val | _ => 2
    .next (wrn (ifPage k) (1 + 2 * ifSpeed s k + 8 * f) s)
  else .next s

/-! ### Time -/

/-- The signed offset of a timestamp: at most 8 ns (R443). -/
def stampErr (e : Fin 17) : Int := (e.val : Int) - 8
/-- DTIME as the timestamping unit takes it. -/
def stampAt (s : State) (e : Fin 17) : Int := (dtime s : Int) + stampErr e
/-- A timestamp whose error is a free value (log entry 1). -/
def stampFree (s : State) : Int × State :=
  let f := takeFree s
  ((dtime s : Int) + (f.1.toNat % 17 : Nat) - 8, f.2)

/-- Half of an integer; which way an odd one is rounded the spec does not say (log entry 1). -/
def halfFree (x : Int) (s : State) : Int × State :=
  if x % 2 = 0 then (x / 2, s) else (x / 2 + (b2n (Config.freeBool s.free) : Nat), { s with free := s.free + 1 })

/-- PTP_OFFSET as a signed number. -/
def ptpOffset (s : State) : Int := sext 32 (rdn s rPTP_OFFSET)
def setPtp (f : Ptp → Ptp) (s : State) : State := { s with net := { s.net with ptp := f s.net.ptp } }

/-- LOCKED falls: E124, LOCK_LOSSES (R444). -/
def ptpUnlock (s : State) : State :=
  if rdB s rPTP_STATUS 0 then raiseE 124 5 (bump (rPTP_CNT 3) 1 (wrB rPTP_STATUS 0 false s)) else s

/-- The header of a 1588 message and its body: type, flags, correction in ns, sequence, log interval (IEEE 1588-2019 under
R443; the layout is PRESUMED, log entry 63). -/
def ptpBytes (s : State) (type flags : Nat) (corr : Int) (seq control : Nat) (logIv : Nat) (body : List Byte) : List Byte :=
  let mac := leBytes 6 (ifMac s (ptpIf s))
  [BitVec.ofNat 8 type, 0x12] ++ beBytes 2 (34 + body.length) ++ leBytes 1 (ptpDomain s) ++ [0] ++ beBytes 2 flags ++
  beBytes 8 (wrapN 64 (corr * 65536)) ++ zeros 4 ++ mac.take 3 ++ [0xFF, 0xFE] ++ mac.drop 3 ++ beBytes 2 1 ++ beBytes 2 seq ++
  leBytes 1 control ++ leBytes 1 logIv ++ body
/-- The 10 bytes of a timestamp: seconds and nanoseconds. -/
def ptpStampBytes (t : Nat) : List Byte := beBytes 6 (t / 1000000000) ++ beBytes 4 (t % 1000000000)

/-- A 1588 message goes out on PTP_IF over the transport of the image (R443, R446). -/
def ptpSend (event peer : Bool) (data : List Byte) (s : State) : State :=
  let t := nfld (netFlags s) 1 0
  let port := if event then 319 else 320
  let v4 := if peer then ofLe (zeros 10 ++ [0xFF, 0xFF, 224, 0, 0, 107]) else ofLe (zeros 10 ++ [0xFF, 0xFF, 224, 0, 1, 129])
  let v6 := if peer then ofLe ([0xFF, 2] ++ zeros 13 ++ [0x6B]) else ofLe ([0xFF, 0xE] ++ zeros 12 ++ [1, 0x81])
  let mac := if t = 2 then (if peer then [0x01, 0x80, 0xC2, 0, 0, 0x0E] else [0x01, 0x1B, 0x19, 0, 0, 0])
    else if t = 0 then (if peer then [0x01, 0, 0x5E, 0, 0, 0x6B] else [0x01, 0, 0x5E, 0, 1, 0x81])
    else (if peer then [0x33, 0x33, 0, 0, 0, 0x6B] else [0x33, 0x33, 0, 0, 1, 0x81])
  sendFrame { ifc := ptpIf s, mac := ofLe mac, addr := (if t = 2 then 0 else if t = 0 then v4 else v6),
              sport := (if t = 2 then 0 else port), dport := (if t = 2 then 0 else port), ptp := true, data := data } s

/-- Does the image choose the peer-to-peer mechanism? -/
def ptpP2p (s : State) : Bool := nbit (netFlags s) 2
def ptpOneStep (s : State) : Bool := nbit (netFlags s) 3
/-- The Sync interval as a power of two of seconds (R480), as a byte. -/
def syncLog (s : State) : Nat :=
  let v := sext 4 (rdF s rPTP_CFG 4 1)
  wrapN 8 (if -7 ≤ v ∧ v ≤ 0 then v else -3)
/-- Does the device send Sync (R443, R480)? -/
def ptpMaster (s : State) : Bool := rdB s rPTP_CFG 0 && nbit (netFlags s) 4

/-- The request of the delay mechanism that follows a Sync goes out, and its time is kept. -/
def ptpRequest (s : State) : State :=
  let r := stampFree s
  let q := (r.2.net.ptp.seq + 1) % 65536
  let s := setPtp (fun p => { p with seq := q, req := some (q, r.1) }) r.2
  let data := if ptpP2p s then ptpBytes s 2 0 0 q 5 0x7F (zeros 20) else ptpBytes s 1 0 0 q 1 0x7F (zeros 10)
  ptpSend true (ptpP2p s) data s

/-- A Sync with origin time t1 and correction, received at t2: PTP_OFFSET, the lock, and the next delay request (R443, R444). -/
def ptpSync (t1 corr t2 : Int) (s : State) : State :=
  if !ifUp s (ptpIf s) then s
  else
    let off := sext 64 (wrapN 64 (t2 - t1 - corr)) - (rdn s rPTP_MPD : Int)
    let s := bump (rPTP_CNT 0) 1 s
    let s := wrn rPTP_OFFSET (wrapN 32 (clampI (-2147483648) 2147483647 off)) s
    let s := wrB rPTP_STATUS 1 true s
    let lock := rdF s rPTP_THR 15 0
    let s := onlyIf (decide (rdF s rPTP_THR 31 16 < off.natAbs)) ptpUnlock s
    let g := if off.natAbs < lock then s.net.ptp.good + 1 else 0
    let s := setPtp (fun p => { p with good := g, t1 := t1 + corr, t2 := t2, follow := none }) s
    let s := onlyIf (decide (8 ≤ g)) (wrB rPTP_STATUS 0 true) s
    skipCheck (ptpRequest s)

/-- PTP_MPD takes a mean path delay; a value that is no 32-bit number is stated nowhere (log entry 1). -/
def ptpDelay (x : Int) (s : State) : State :=
  let h := halfFree x s
  let s := bump (rPTP_CNT 2) 1 h.2
  if 0 ≤ h.1 ∧ h.1 < 2 ^ 32 then wrn rPTP_MPD h.1.toNat s
  else let f := takeFree s; wrn rPTP_MPD f.1.toNat f.2

/-- An event message of the delay mechanism, received at `t` (R443): requests are answered with their times, an answer to the
request that is out gives the path delay. -/
def ptpDelayMsg (d : DelayMsg) (t : Int) (s : State) : State :=
  let mine (q : BitVec 16) : Option Int := match s.net.ptp.req with | some (n, t3) => if n = q.toNat then some t3 else none | none => none
  if !ifUp s (ptpIf s) then s
  else match d with
    | .delayReq port q corr =>
      if ptpMaster s ∧ !ptpP2p s then
        let iv := syncLog s
        bump (rPTP_CNT 2) 1 (ptpSend false false
          (ptpBytes s 9 0 (sext 64 corr.toNat) q.toNat 3 iv (ptpStampBytes (wrapN 64 t) ++ beBytes 10 port.toNat)) s)
      else s
    | .pdelayReq port q corr =>
      if ptpP2p s then
        let r := stampFree s
        let c := sext 64 corr.toNat
        let s := bump (rPTP_CNT 2) 1 r.2
        if ptpOneStep s then
          ptpSend true true (ptpBytes s 3 0 (c + (r.1 - t)) q.toNat 5 0x7F (zeros 10 ++ beBytes 10 port.toNat)) s
        else
          ptpSend false true (ptpBytes s 10 0 c q.toNat 5 0x7F (ptpStampBytes (wrapN 64 r.1) ++ beBytes 10 port.toNat))
            (ptpSend true true (ptpBytes s 3 0x200 0 q.toNat 5 0x7F (ptpStampBytes (wrapN 64 t) ++ beBytes 10 port.toNat)) s)
      else s
    | .delayResp q t4 corr =>
      match mine q with
      | some t3 =>
        if ptpP2p s then s
        else
          let p := s.net.ptp
          ptpDelay ((p.t2 - p.t1) + sext 64 (wrapN 64 ((t4.toNat : Int) - t3)) - sext 64 corr.toNat)
            (setPtp (fun p => { p with req := none }) s)
      | none => s
    | .pdelayResp q t2 t3 corr =>
      match mine q with
      | some t1 =>
        if !ptpP2p s then s
        else
          ptpDelay (t - t1 - sext 64 (wrapN 64 ((t3.toNat : Int) - t2.toNat)) - sext 64 corr.toNat)
            (setPtp (fun p => { p with req := none }) s)
      | none => s

/-- PTP_SYNC (R443, R444): a Sync arrives on PTP_IF, its origin time and correction known; `err`: the error of its timestamp. -/
def execPtpSync (t1 corr : BitVec 64) (err : Fin 17) (s : State) : Host.Outcome State Fault Refusal :=
  .next (ptpSync t1.toNat (sext 64 corr.toNat) (stampAt s err) s)

/-- PTP_DELAY_EXCHANGE (R443). -/
def execPtpDelayExchange (d : DelayMsg) (err : Fin 17) (s : State) : Host.Outcome State Fault Refusal :=
  .next (ptpDelayMsg d (stampAt s err) s)

/-- SYNC_SEND_TIMER (R443): the Sync interval passes while MASTER is set. -/
def execSyncSendTimer (err : Fin 17) (s : State) : Host.Outcome State Fault Refusal :=
  if ptpMaster s ∧ ifUp s (ptpIf s) then
    let q := (s.net.ptp.seq + 1) % 65536
    let iv := syncLog s
    let t := wrapN 64 (stampAt s err)
    let s := bump (rPTP_CNT 1) 1 (setPtp (fun p => { p with seq := q }) s)
    .next (if ptpOneStep s then ptpSend true false (ptpBytes s 0 0 0 q 0 iv (ptpStampBytes t)) s
      else ptpSend false false (ptpBytes s 8 0 0 q 2 iv (ptpStampBytes t))
        (ptpSend true false (ptpBytes s 0 0x200 0 q 0 iv (zeros 10)) s))
  else .next s

/-- SYNC_TIMEOUT (R444): no Sync for 4 intervals. -/
def execSyncTimeout (s : State) : Host.Outcome State Fault Refusal :=
  .next (if domOk s 5 then ptpUnlock (setPtp (fun p => { p with good := 0 }) (wrB rPTP_STATUS 1 false s)) else s)

/-- The effect of a write of PTP_STEP_HI: the signed pair is added to DTIME; both read 0 (R480). -/
def ptpStepEffect (i : Iface) (hi : Word) (s : State) : State × Bool :=
  let st := (latch s i rPTP_STEP_LO).toNat + hi.toNat * 2 ^ 32
  ({ s with clock := { s.clock with dtime := (s.clock.dtime + st) % 2 ^ 64 } }, true)

/-- PTP_STEP (R480). -/
def execPtpStep (ifc : Iface) (hi : Word) (s : State) : Host.Outcome State Fault Refusal :=
  .next (gatedWrite ifc rPTP_STEP_HI hi (ptpStepEffect ifc hi) s)

/-- PAIR_LATCH (R445): AON_TIME and DTIME are latched together, and PTP_PAIR_SEQ advances. -/
def execPairLatch (s : State) : Host.Outcome State Fault Refusal :=
  if domOk s 5 then
    let s := setPtp (fun p => { p with pairs := min 2 (p.pairs + 1), prevAon := rd64 s rPTP_PAIR_AON_LO, prevDtime := rd64 s rPTP_PAIR_DTIME_LO }) s
    .next (bumpW rPTP_PAIR_SEQ 1 (wr64 rPTP_PAIR_DTIME_LO (dtime s) (wr64 rPTP_PAIR_AON_LO s.clock.aon s)))
  else .next s

/-- An AON time as DTIME by the two newest pairs (R445); before there are two, and in the rounding of the quotient, the spec
leaves the value open (log entry 1). -/
def aonToDtime (a : Nat) (s : State) : Nat × State :=
  let a1 : Int := rd64 s rPTP_PAIR_AON_LO
  let d1 : Int := rd64 s rPTP_PAIR_DTIME_LO
  let a0 : Int := s.net.ptp.prevAon
  let d0 : Int := s.net.ptp.prevDtime
  if s.net.ptp.pairs < 2 ∨ a1 = a0 then
    let f := takeFree s
    (f.1.toNat, f.2)
  else
    let num := ((a : Int) - a1) * (d1 - d0)
    let den := a1 - a0
    let q := num / den
    let up : Int := if num % den = 0 then 0 else (b2n (Config.freeBool s.free) : Nat)
    (wrapN 64 (d1 + q + up), { s with free := s.free + (if num % den = 0 then 0 else 1) })

end Sys2Proof.Machine
end

