-- ==== Sys2Proof/Machine/Jobs.lean ====
section
/-! DEFINITION. The life of a job after its window (R22 to R33, R464, R477): commit check, decision, restart, abandon. The job
software acts by these commands; its time is the device's. -/

namespace Sys2Proof.Machine

open Sys2Proof

/-! ### The decision (R25, R464) -/

/-- The window of the job of slot `k` is still open. -/
def jobWinOpen (s : State) (k : Nat) : Bool :=
  (upto 4).any (fun w => winOpen s w && decide ((win s w).slot = some k ∧ (win s w).jobId = (job s k).jobId))

/-- Position and AON time of the trailing edge; of a window that is still open they are free values (log entry 1). -/
def jobTrail (k : Nat) (s : State) : (Nat × Nat) × State :=
  if jobWinOpen s k then
    let a := takeFree s
    let b := takeFree a.2
    ((a.1.toNat % 2 ^ 32, b.1.toNat), b.2)
  else
    let t := aonToDtime (job s k).trailing s
    (((job s k).posTrail, t.1), t.2)

/-- The payload of a decision, and the state after the conversion of its times (R445). -/
def decisionPayload (k status flags : Nat) (app : List Byte) (s : State) : List Byte × State :=
  let j := job s k
  let lead := aonToDtime j.aonLead s
  let trail := jobTrail k lead.2
  let fl := b2n j.merged + 2 * b2n (degradedNow s) + flags + 8 * b2n j.restarted + 32 * b2n j.frontTrunc
  let body := app.take 4096
  (leBytes 1 status ++ leBytes 1 fl ++ leBytes 1 j.unit ++ leBytes 1 0 ++ leBytes 4 j.jobId ++ leBytes 4 j.posLead ++
    leBytes 4 trail.1.1 ++ leBytes 8 lead.1 ++ leBytes 8 trail.1.2 ++ leBytes 2 body.length ++ zeros 14 ++ body, trail.2)

/-- The decision of slot `k` is handed to check unit `cu` and sent; from there the job waits for the window of R452, and the
end of its descriptor commits it (R24, steps 4 to 7). -/
def decide_ (k cu status flags : Nat) (app : List Byte) (s : State) : State :=
  let p := decisionPayload k status flags app s
  sendJobDecision k cu p.1 (handOver k p.2)

/-! ### Restart and abandon (R27 to R29) -/

/-- 398 ms in AON cycles: the abandon point counts from the trailing edge (R27). -/
def abandonAfter : Nat := 398 * aonMs

/-- The job of slot `k` is abandoned: its generation advances, E97, and `no read` is sent (R28); it stays ABANDONED until that
has committed (R23). -/
def abandonJob (k cu : Nat) (s : State) : State :=
  let s := genAdvance k s
  let s := setJob k { job s k with state := .abandoned, reached := false, noRead := true } s
  decide_ k cu 0 16 [] (raiseJ 97 4 (some (jobRef s k)) 0 s)

/-- May the job of slot `k` restart now, with an estimate in AON cycles (R27)? While its window is open the trailing edge is
not before now. -/
def mayRestart (s : State) (k estimate : Nat) : Bool :=
  let t0 := if jobWinOpen s k then s.clock.aon else (job s k).trailing
  !(job s k).restarted && decide (s.clock.aon + estimate ≤ t0 + abandonAfter)

/-- A fault reaches the job of slot `k`: it restarts under a new generation with E96, or it is abandoned (R26, R27, R29). -/
def faultJob (k cu estimate : Nat) (s : State) : State :=
  if mayRestart s k estimate then
    let s := genAdvance k s
    let s := setJob k { job s k with reached := false, restarted := true, viewDropped := false, state := .restarting } s
    raiseJ 96 4 (some (jobRef s k)) 0 s
  else abandonJob k cu s

/-- The job is open and its decision is not sent. -/
def jobLive (s : State) (k : Nat) : Bool :=
  match (job s k).state with
  | .capturing => true | .processing => true | .restarting => true
  | .free => false | .cooling => false | .sent => false | .abandoned => false

/-! ### Meanings -/

/-- Is some byte of a buffer marked poisoned? -/
def bufPoisoned (s : State) (b : Buffer) : Bool := poisonedIn s b.addr b.len

/-- JOB_COMMIT (R23, R24, R26, R30, R34, R464, R477): every producer has completed, the cameras of the window among them. Poison
in a result buffer reaches the job;
poison in a retained view drops the view with E99. `read`: the views that remain give a read; without D1 every job is
answered `no read`. -/
def execJobCommit (slot : Fin 16) (results views : List Buffer) (read incomplete : Bool) (app : List Byte) (cu : Fin 4)
    (estimate : Nat) (s : State) : Host.Outcome State Fault Refusal :=
  if !jobLive s slot ∨ (job s slot).state = .capturing ∨ jobWinOpen s slot then .next s
  else if (job s slot).reached ∨ results.any (bufPoisoned s) then .next (faultJob slot cu estimate s)
  else
    let bad := views.filter (bufPoisoned s)
    let s := forAll bad (fun _ s => raiseJ 99 4 (some (jobRef s slot)) 0 s) s
    let s := setJob slot { job s slot with viewDropped := (job s slot).viewDropped || !bad.isEmpty } s
    let status := if !read || lensGone s then 0 else if (job s slot).viewDropped then 2 else 1
    let s := setJob slot { job s slot with noRead := decide (status = 0) } s
    .next (decide_ slot cu status (4 * b2n incomplete) app s)

/-- FAULT_REACHES_JOB (R26, R27, R31): the job software acts on a fault that reached the job of a slot. -/
def execFaultReachesJob (slot : Fin 16) (cu : Fin 4) (estimate : Nat) (s : State) : Host.Outcome State Fault Refusal :=
  if jobLive s slot ∧ (job s slot).reached then .next (faultJob slot cu estimate s) else .next s

/-- ABANDON_POINT_EXPIRY (R28): the job is still uncommitted 398 ms after its trailing edge. -/
def execAbandonPointExpiry (slot : Fin 16) (cu : Fin 4) (s : State) : Host.Outcome State Fault Refusal :=
  if jobLive s slot ∧ !jobWinOpen s slot ∧ (job s slot).trailing + abandonAfter ≤ s.clock.aon then
    .next (abandonJob slot cu s)
  else .next s

end Sys2Proof.Machine
end

