-- ==== Sys2Proof/Machine/LanternAlu.lean ====
section
/-! DEFINITION. The arithmetic of the Lantern instruction set (chapter 13): saturation (R358), the rounding shift (R359), elements
of vectors, scalar operations (R353, R357), fixed point (R360), and floating point (R357). -/

namespace Sys2Proof.Machine

open Sys2Proof

/-- A result in an element of `e` bits: with SAT set, one outside the range becomes the nearest end and sets SATF; with SAT
clear it wraps (R358). -/
def satRes (sat : Bool) (e : Nat) (u : Bool) (x : Int) : Nat × Bool :=
  let lo : Int := if u then 0 else -((2 ^ (e - 1) : Nat) : Int)
  let hi : Int := if u then ((2 ^ e : Nat) : Int) - 1 else ((2 ^ (e - 1) : Nat) : Int) - 1
  let y := clampI lo hi x
  if sat then (wrapN e y, decide (y ≠ x)) else (wrapN e x, false)

/-- The rounding shift of R359: ties to the greater integer, or to the even one. -/
def rsC (v : Int) (n : Nat) (even : Bool) : Int :=
  if n = 0 then v
  else
    let m : Int := ((2 ^ n : Nat) : Int)
    let q := v / m
    let r := v % m
    if 2 * r < m then q
    else if m < 2 * r then q + 1
    else if even ∧ q % 2 = 0 then q else q + 1

/-- An element as a number, signed or unsigned. -/
def elv (u : Bool) (e x : Nat) : Int := if u then (x : Int) else sext e x

/-- `n` elements of `e` bits of a vector, and the vector that elements make. -/
def elems (e n v : Nat) : List Nat := (upto n).map (fun i => v / 2 ^ (e * i) % 2 ^ e)
def packE (e : Nat) : List Nat → Nat
  | [] => 0
  | x :: t => x % 2 ^ e + 2 ^ e * packE e t
/-- Element `i` of a list; 0 beyond its end. -/
def at0 (l : List Nat) (i : Nat) : Nat := l.getD i 0

/-- Results with their saturations, packed; whether any saturated. -/
def packSat (e : Nat) (l : List (Nat × Bool)) : Nat × Bool := (packE e (l.map (·.1)), l.any (·.2))

/-- Bits of a word in reverse order: rev_n of R352. -/
def revBits : Nat → Nat → Nat
  | 0, _ => 0
  | n + 1, v => (v % 2) * 2 ^ n + revBits n (v / 2)

/-! ### Scalar operations (R353, R357) -/

/-- Exact results of the R-format operations 0x00 to 0x0F on 64-bit words: the value and whether saturation applies. -/
def scalarOp (opc : Nat) (a b : Nat) : Int :=
  let x := sext 64 a
  let y := sext 64 b
  let sh := b % 64
  match opc with
  | 0 => x + y
  | 1 => x - y
  | 2 => ((a &&& b : Nat) : Int)
  | 3 => ((a ||| b : Nat) : Int)
  | 4 => ((a ^^^ b : Nat) : Int)
  | 5 => ((a &&& (2 ^ 64 - 1 - b) : Nat) : Int)
  | 6 => x * ((2 ^ sh : Nat) : Int)
  | 7 => ((a / 2 ^ sh : Nat) : Int)
  | 8 => asr x sh
  | 9 => if x ≤ y then x else y
  | 10 => if x ≤ y then y else x
  | 11 => ((min a b : Nat) : Int)
  | 12 => ((max a b : Nat) : Int)
  | 13 => x * y
  | 14 => asr (x * y) 64
  | _ => ((a * b / 2 ^ 64 : Nat) : Int)

/-- Comparisons 0x18 to 0x1D: EQ, NE, LT, LTU, LE, LEU. -/
def scalarCmp (k a b : Nat) : Bool :=
  let x := sext 64 a
  let y := sext 64 b
  match k with
  | 0 => decide (a = b)
  | 1 => decide (a ≠ b)
  | 2 => decide (x < y)
  | 3 => decide (a < b)
  | 4 => decide (x ≤ y)
  | _ => decide (a ≤ b)

/-- DIV, DIVU, REM, REMU with their edge cases (R357). -/
def scalarDiv (k a b : Nat) : Nat :=
  let x := sext 64 a
  let y := sext 64 b
  match k with
  | 0 => if b = 0 then 2 ^ 64 - 1 else wrapN 64 (x.tdiv y)
  | 1 => if b = 0 then 2 ^ 64 - 1 else a / b
  | 2 => if b = 0 then a else wrapN 64 (x.tmod y)
  | _ => if b = 0 then a else a % b

/-! ### Vector integer operations (R355, R356, R360 to R363) -/

/-- VADD, VSUB, VMIN, VMAX, VMUL, VMULH, by element, exact. -/
def vecOp (opc : Nat) (x y : Int) : Int :=
  match opc with
  | 0 => x + y
  | 1 => x - y
  | 5 => if x ≤ y then x else y
  | _ => if x ≤ y then y else x

/-- Elements of two vectors through an operation on numbers, under R358. -/
def vecMap2 (e : Nat) (n : Nat) (u sat : Bool) (f : Int → Int → Int) (a b : Nat) : Nat × Bool :=
  packSat e ((upto n).map (fun i => satRes sat e u (f (elv u e (at0 (elems e n a) i)) (elv u e (at0 (elems e n b) i)))))

/-- VDOT4 of R362 on one lane: the sum of four byte products. -/
def dot4 (sg : Nat) (a b : Nat) : Int :=
  let ua := decide (sg = 1 ∨ sg = 2)
  let ub := decide (sg = 1 ∨ sg = 3)
  (upto 4).foldl (fun t j => t + elv ua 8 (a / 256 ^ j % 256) * elv ub 8 (b / 256 ^ j % 256)) 0

/-! ### Floating point (R357) -/

/-- The word of a result: rounded to nearest even; the payload of a NaN is free (log entry 1). -/
def fpWord (f : FFmt) (fb : Nat) (v : FV) : Nat := f.encode (f.freeNan (Config.freeWord fb).toNat) v

/-- The signed distance of words on the number line, and back. -/
def fpOrd (f : FFmt) (w : Nat) : Int := let m := w % 2 ^ (f.width - 1); if f.sign w then -(m : Int) else m
def fpOfOrd (f : FFmt) (neg : Bool) (k : Int) : Nat :=
  k.natAbs + (if k < 0 ∨ (k = 0 ∧ neg) then 2 ^ (f.width - 1) else 0)

/-- A result within `n` units in the last place of the exact value: which of the words there is a free value (R357, log entry
1). -/
def fpNear (f : FFmt) (n fb : Nat) (v : FV) : Nat :=
  match v with
  | .fin s m e =>
    let w := f.encode 0 v
    let lo : Int := 1 - (f.bias : Int) - f.mb
    let u := if m = 0 then lo else max (e + (Nat.log2 m : Int) - f.mb) lo
    let ok (k : Int) : Bool :=
      match f.decode (fpOfOrd f s k) with
      | .fin s2 m2 e2 =>
        let g := min (min e e2) u
        decide ((fvAt s m e g - fvAt s2 m2 e2 g).natAbs ≤ n * 2 ^ (u - g).toNat)
      | _ => decide (fpOfOrd f s k = w)
    let c := ((upto (2 * n + 1)).map (fun i => fpOrd f w + (i : Int) - n)).filter ok
    fpOfOrd f s (c.getD (Config.freeNat fb % (if c.length = 0 then 1 else c.length)) (fpOrd f w))
  | _ => fpWord f fb v

/-- ln 2 and π/2 × 2^256. -/
def ln2Fix : Int := 80260960185991308862233904206310070533990667611589946606122867505419956976171
def halfPiFix : Int := 181885788445883162140117471388864931326696688664196214979386075558969447233092

/-- Sum of x^k / k! from the running term, in units of 2^-256. -/
def expSeries (x : Int) : Nat → Nat → Int → Int
  | 0, _, _ => 0
  | n + 1, k, t => t + expSeries x n (k + 1) (t * x / 2 ^ 256 / ((k + 1 : Nat) : Int))
/-- Alternating sum with every second term: sine from k = 1, cosine from k = 0. -/
def trigSeries (x2 : Int) : Nat → Nat → Int → Int
  | 0, _, _ => 0
  | n + 1, k, t => t + trigSeries x2 n (k + 2) (-(t * x2 / 2 ^ 256) / (((k + 1) * (k + 2) : Nat) : Int))
/-- Sum of z^(2k+1)/(2k+1). -/
def atanhSeries (z2 : Int) : Nat → Nat → Int → Int
  | 0, _, _ => 0
  | n + 1, k, p => p / ((k : Nat) : Int) + atanhSeries z2 n (k + 2) (p * z2 / 2 ^ 256)

/-- A number of 2^-256 units as a value. -/
def ofFix (x : Int) (e : Int) : FV := fvOf x (e - 256)

/-- 2^x to about 240 bits. -/
def exp2V : FV → FV
  | .nan => .nan
  | .inf s => if s then .fin false 0 0 else .inf false
  | .fin s m e =>
    if m = 0 then .fin false 1 0
    else if 9 < e + (Nat.log2 m : Int) then (if s then .fin false 1 (-600) else .inf false)
    else
      let x := fvAt s m (e + 256) 0
      let i := x / 2 ^ 256
      let f := x % 2 ^ 256
      ofFix (expSeries (f * ln2Fix / 2 ^ 256) 80 0 (2 ^ 256)) i
/-- log2 x to about 240 bits. -/
def log2V : FV → FV
  | .nan => .nan
  | .inf s => if s then .nan else .inf false
  | .fin s m e =>
    if m = 0 then .inf true
    else if s then .nan
    else
      let k := Nat.log2 m
      let y : Int := ((m * 2 ^ 256 / 2 ^ k : Nat) : Int)
      let z := (y - 2 ^ 256) * 2 ^ 256 / (y + 2 ^ 256)
      let ln := 2 * atanhSeries (z * z / 2 ^ 256) 100 1 z
      ofFix ((e + k) * 2 ^ 256 + ln * 2 ^ 256 / ln2Fix) 0
/-- sin x (`q0` 0) or cos x (`q0` 1) in radians; NaN beyond 2^20. -/
def trigV (q0 : Nat) : FV → FV
  | .nan => .nan
  | .inf _ => .nan
  | .fin s m e =>
    if m = 0 then (if q0 = 0 then .fin s 0 0 else .fin false 1 0)
    else if (FV.fin false 1 20).lt (.fin false m e) then .nan
    else
      let x := fvAt s m (e + 256) 0
      let q := (2 * x + halfPiFix) / (2 * halfPiFix)
      let r := x - q * halfPiFix
      let r2 := r * r / 2 ^ 256
      let sn := trigSeries r2 45 1 r
      let cs := trigSeries r2 45 0 (2 ^ 256)
      match ((q + q0) % 4).toNat with
      | 0 => ofFix sn 0
      | 1 => ofFix cs 0
      | 2 => ofFix (-sn) 0
      | _ => ofFix (-cs) 0

/-- The MAC-class FP operations 0x10 to 0x13 on words: FADD, FSUB, FMUL, FMA with its accumulator. -/
def fpMac (f : FFmt) (opc fb acc a b : Nat) : Nat :=
  let x := f.decode a
  let y := f.decode b
  fpWord f fb (match opc with
    | 0x10 => x.add y
    | 0x11 => x.add y.neg
    | 0x12 => x.mul y
    | _ => (f.decode acc).add (x.mul y))

/-- The long FP operations 0x20 to 0x27 (R357). -/
def fpLong (f : FFmt) (opc fb a b : Nat) : Nat :=
  let x := f.decode a
  match opc with
  | 0x20 => fpWord f fb (x.div (f.decode b))
  | 0x21 => fpWord f fb x.sqrt
  | 0x22 => fpNear f 1 fb ((FV.fin false 1 0).div x)
  | 0x23 => fpNear f 1 fb ((FV.fin false 1 0).div x.sqrt)
  | 0x24 => fpNear f 2 fb (exp2V x)
  | 0x25 => fpNear f 2 fb (log2V x)
  | 0x26 => fpNear f 2 fb (trigV 0 x)
  | _ => fpNear f 2 fb (trigV 1 x)

/-- FCMPLT, FCMPLE, FCMPEQ. -/
def fpCmp (f : FFmt) (opc a b : Nat) : Bool :=
  let x := f.decode a
  let y := f.decode b
  match opc with
  | 0x19 => x.lt y
  | 0x1A => x.lt y || x.eq y
  | _ => x.eq y

/-- An integer conversion: nearest, ties to even; the extreme of the range outside it; 0 for NaN. -/
def fpToInt (w : Nat) (v : FV) : Nat :=
  let hi : Int := ((2 ^ (w - 1) : Nat) : Int) - 1
  match v with
  | .nan => 0
  | .inf s => wrapN w (if s then -hi - 1 else hi)
  | .fin s m e => wrapN w (clampI (-hi - 1) hi (fvToInt s m e))

/-- FCVT: types 0 INT32, 1 INT64, 2 FP32, 3 FP64, 4 BF16. Bits [63:32] beside an INT32 result are free (log entry 1). -/
def fpCvt (from_ to_ fb x : Nat) : Nat :=
  let v : FV := match from_ with
    | 0 => fvOf (sext 32 x) 0
    | 1 => fvOf (sext 64 x) 0
    | 2 => fp32.decode (x % 2 ^ 32)
    | 3 => fp64.decode x
    | _ => bf16.decode (x % 2 ^ 16)
  match to_ with
  | 0 => fpToInt 32 v + 2 ^ 32 * ((Config.freeWord (fb + 1)).toNat % 2 ^ 32)
  | 1 => fpToInt 64 v
  | 2 => fpWord fp32 fb v
  | 3 => fpWord fp64 fb v
  | _ => fpWord bf16 fb v

end Sys2Proof.Machine
end

