-- ==== Sys2Proof/Machine/LanternIsa.lean ====
section
/-! DEFINITION. The Lantern instruction set (chapter 13): bundles and syllables (R340 to R343), formats (R348), addressing (R349
to R352), and what each syllable reads, writes and asks for, as a function of the core's state at its issue. -/

namespace Sys2Proof.Machine

open Sys2Proof

/-- A syllable of a bundle: slot 0 S0, 1 S1, 2 M0, 3 M1, 4 V0, 5 V1; its opcode, operand bits and EXT (R341, R342). -/
structure LSyl where
  slot : Nat
  opc : Nat
  w : Nat
  ext : Option Nat := none
deriving DecidableEq, Repr

/-- Can an EXT extend this syllable: formats I, BR, BB, or M in mode ABS, OFF or POST (R342)? -/
def LSyl.canExt (y : LSyl) : Bool :=
  let s := y.slot
  let o := y.opc
  if s = 2 ∨ s = 3 then decide (nfld y.w 21 19 < 3 ∧ o ≠ 0x1E)
  else if s = 5 then [0x0B, 0x11, 0x13, 0x14].contains o
  else if s = 4 then false
  else if 0x10 ≤ o ∧ o ≤ 0x17 ∨ o = 0x21 then true
  else if s = 0 then decide (o = 0x30 ∨ o = 0x31)
  else [0x30, 0x32, 0x33, 0x34, 0x36, 0x37, 0x38, 0x39].contains o

/-- The syllables of a bundle's words, first syllable last; none where the bundle is illegal (R342, R343). -/
def parseSyls : List Nat → List Nat → List LSyl → Option (List LSyl)
  | [], _, acc => some acc
  | w :: t, used, acc =>
    let sl := nfld w 30 28
    if sl = 7 then none
    else if sl = 6 then
      let occ := nfld w 27 25
      match acc with
      | [] => none
      | y :: r =>
        if 5 < occ ∨ used.contains occ ∨ !y.canExt ∨ y.ext.isSome then none
        else parseSyls t (occ :: used) ({ y with ext := some (w % 2 ^ 25) } :: r)
    else if used.contains sl then none
    else parseSyls t (sl :: used) ({ slot := sl, opc := nfld w 27 22, w := w % 2 ^ 22 } :: acc)

/-- The words of a bundle: up to the first STOP, six at most (R340). -/
def takeBundle : Nat → List Nat → List Nat
  | 0, _ => []
  | _, [] => []
  | k + 1, w :: t => if nbit w 31 then [w] else w :: takeBundle k t

/-- A bundle's syllables in their order; none where it is illegal. -/
def bundleOf (ws : List Nat) : Option (List LSyl) :=
  if nbit (ws.getLastD 0) 31 then (parseSyls ws [] []).map List.reverse else none

/-- How control continues. -/
inductive LFlow where
  | next
  /-- A branch that is not taken; one that is. -/
  | stay | go (target : Nat)
  | call (target : Nat) | ret | reti
  | loop (k : Nat) (taken : Bool) (target : Nat)
deriving DecidableEq, Repr

/-- What a syllable does. -/
structure LEff where
  /-- Registers read and named as destinations (R313, R314). -/
  reads : List LReg := []
  dsts : List LReg := []
  /-- Results: register, only its low 64 bits, value, distance (R311). -/
  writes : List (LReg × Bool × Nat × Nat) := []
  /-- A saturation, and the distance at which SATF is set. -/
  sat : Option Nat := none
  mode : Option (Nat × Nat) := none
  long : Option LLong := none
  /-- A local load: register, low, kind, size, offset. -/
  load : Option (LReg × Bool × LKind × Nat × Nat) := none
  /-- A store: local or by window, address, size, value. -/
  store : Option (Bool × Nat × Nat × Nat) := none
  /-- A synchronous source and the data address it latches. -/
  fail : Option (Nat × Option Nat) := none
  flow : LFlow := .next
  /-- Return stack: push this, or pop (R346). -/
  push : Option Nat := none
  pop : Bool := false
  fence : Bool := false
deriving DecidableEq, Repr

/-- A result of a register-only syllable. -/
def effW (d : LReg) (v dist : Nat) (reads : List LReg) : LEff :=
  { reads := reads, dsts := [d], writes := [(d, false, v, dist)] }

/-- The same for Fn, which writes bits [63:0] of Vn. -/
def effF (p v dist : Nat) (reads : List LReg) : LEff :=
  { reads := reads, dsts := [.v p], writes := [(.v p, true, v, dist)] }

/-- With a saturation. -/
def LEff.satIf (x : LEff) (b : Bool) (dist : Nat) : LEff := if b then { x with sat := some dist } else x

/-! ### Immediates (R342, R348) -/

def LSyl.sat (y : LSyl) : Bool := nbit y.w 21
def LSyl.d (y : LSyl) : Nat := nfld y.w 20 16
def LSyl.a (y : LSyl) : Nat := nfld y.w 15 11
def LSyl.b (y : LSyl) : Nat := nfld y.w 10 6
def LSyl.fn (y : LSyl) : Nat := nfld y.w 5 0
/-- The I immediate, unsigned and signed. -/
def LSyl.immU (y : LSyl) : Nat := y.w % 2 ^ 11 + 2 ^ 11 * y.ext.getD 0
def LSyl.imm (y : LSyl) : Int := if y.ext.isSome then sext 36 y.immU else sext 11 y.immU
/-- BR and BB displacements in bytes. -/
def LSyl.disp (y : LSyl) : Int := 4 * (match y.ext with | some h => sext 47 (y.w + 2 ^ 22 * h) | none => sext 22 y.w)
def LSyl.dispB (y : LSyl) : Int :=
  4 * (match y.ext with | some h => sext 37 (y.w % 2 ^ 12 + 2 ^ 12 * h) | none => sext 12 (y.w % 2 ^ 12))
/-- A branch target (R340). -/
def brTo (pc : Nat) (x : Int) : Nat := wrapN 16 ((pc : Int) + x)

/-! ### Scalar slots (R353, R346) -/

/-- MFC of a control register (R346). -/
def evalMfc (l : Lan) (d k : Nat) : Option LEff :=
  let r (v : Nat) (reads : List LReg) : Option LEff := some (effW (.s d) v 1 reads)
  if k = 0 then r l.psw.toNat []
  else if k = 1 then r (l.rrb % 16) []
  else if k < 4 then r (tget 0 l.lc (k - 2)) []
  else if k = 4 then r (tget 0 l.lbase 0) []
  else if k = 5 then r (tget 0 l.ltail 0) []
  else if k = 6 then r (tget 0 l.lbase 1) []
  else if k = 7 then r (tget 0 l.ltail 1) []
  else if k < 12 then r (tget 0 l.wb (k - 8)) []
  else if k = 12 then r l.rstk.length []
  else if k = 13 then some { effW (.s d) (l.rstk.headD 0) 1 [] with dsts := [.s d, .rs], pop := true }
  else if k < 16 then r 0 []
  else if k < 24 then r (tget 0 l.cbb (k - 16)) []
  else if k < 32 then r (tget 0 l.cbl (k - 24)) []
  else if k < 48 then r (l.bvar.toNat / 2 ^ (64 * (k - 32)) % 2 ^ 64) [.bvw (k - 32)]
  else if k < 52 then r (tget 0 l.feat (k - 48)).toNat []
  else r 0 []

/-- MTC of a control register (R346, R347). -/
def evalMtc (l : Lan) (a k : Nat) : Option LEff :=
  let v := l.getS a
  let base : LEff := { reads := [.s a] }
  let w (d : LReg) : Option LEff := some (effW d v 1 [.s a])
  if k = 0 then
    if nbit v 6 ∧ !l.pswBit 6 then none else some { base with mode := some (0, v % 2 ^ 32), dsts := [.cr 0] }
  else if k = 1 ∨ (8 ≤ k ∧ k < 12) ∨ (16 ≤ k ∧ k < 32) then some { base with mode := some (k, v), dsts := [.cr k] }
  else if k < 4 then w (.lc (k - 2))
  else if k = 4 then w (.lbase 0)
  else if k = 5 then w (.ltail 0)
  else if k = 6 then w (.lbase 1)
  else if k = 7 then w (.ltail 1)
  else if k = 12 then some base
  else if k = 13 then
    if !l.rstack then some base
    else if 32 ≤ l.rstk.length then some { base with dsts := [.rs], fail := some (2, none) }
    else some { base with dsts := [.rs], push := some (v % 65536) }
  else if k < 16 then none
  else if k < 48 then w (.bvw (k - 32))
  else if k < 52 then (if l.pswBit 6 then some base else none)
  else none

/-- Opcodes common to S0 and S1 (R353). -/
def evalS (l : Lan) (y : LSyl) : Option LEff :=
  let o := y.opc
  let d := y.d
  let a := l.getS y.a
  let b := l.getS y.b
  let ra := LReg.s y.a
  let rb := LReg.s y.b
  if o ≤ 0x0F then
    if y.sat ∧ !([0, 1, 6, 13].contains o) then none
    else
      let dist := if 13 ≤ o then 2 else 1
      let r := satRes y.sat 64 false (scalarOp o a b)
      some ((effW (.s d) r.1 dist [ra, rb]).satIf r.2 dist)
  else if o ≤ 0x16 then
    -- ADDI, ANDI, ORI, XORI, SHLI, SHRI, SARI
    if y.sat ∧ o ≠ 0x10 ∧ o ≠ 0x14 then none
    else
      let i := wrapN 64 y.imm
      let op := [0, 2, 3, 4, 6, 7, 8].getD (o - 0x10) 0
      let r := satRes y.sat 64 false (scalarOp op a i)
      some ((effW (.s d) r.1 1 [ra]).satIf r.2 1)
  else if o = 0x17 then (if y.sat ∨ y.a ≠ 0 then none else some (effW (.s d) (wrapN 64 y.imm) 1 []))
  else if o ≤ 0x1D then
    let p := nfld y.w 11 7
    let q := nfld y.w 6 2
    if y.w % 4 ≠ 0 then none
    else some (effW (.bv (nfld y.w 21 12)) (b2n (scalarCmp (o - 0x18) (l.getS p) (l.getS q))) 1 [.s p, .s q])
  else if o = 0x28 ∨ o = 0x29 then
    if y.w % 2 ^ 12 ≠ 0 then none else some (effW (.bv (nfld y.w 21 12)) (b2n (decide (o = 0x28))) 1 [])
  else if o = 0x2A then
    let i := nfld y.w 21 12
    let j := nfld y.w 11 2
    let x := l.getBv i
    let z := l.getBv j
    let v := match y.w % 4 with | 0 => x && z | 1 => x || z | 2 => x != z | _ => x && !z
    some (effW (.bv i) (b2n v) 1 [.bv i, .bv j])
  else if o = 0x2B then
    if y.w % 128 ≠ 0 then none
    else some (effW (.s (nfld y.w 11 7)) (b2n (l.getBv (nfld y.w 21 12))) 1 [.bv (nfld y.w 21 12)])
  else if o = 0x2C then
    if y.w % 128 ≠ 0 then none
    else some (effW (.bv (nfld y.w 21 12)) (l.getS (nfld y.w 11 7) % 2) 1 [.s (nfld y.w 11 7)])
  else if y.sat then none
  else match o with
    | 0x20 => if 15 < d ∨ 15 < y.a then none else some (effW (.a d) (addOff (l.getA y.a) (sext 64 b)) 1 [rb])
    | 0x21 => if 15 < d ∨ 15 < y.a then none else some (effW (.a d) (addOff (l.getA y.a) y.imm) 1 [])
    | 0x22 => if 15 < d then none else some (effW (.a d) (a % 2 ^ 24) 1 [ra])
    | 0x23 => if 15 < y.a then none else some (effW (.s d) (l.getA y.a) 1 [])
    | 0x24 =>
      let w := 8 * 2 ^ (y.fn % 4)
      some (effW (.s d) (if nbit y.fn 2 then a % 2 ^ w else wrapN 64 (sext w a)) 1 [ra])
    | 0x25 => some (effW (.s d) (if a = 0 then 64 else 63 - Nat.log2 a) 1 [ra])
    | 0x26 => some (effW (.s d) (popcnt 64 a) 1 [ra])
    | _ => none

/-- A long operation of the divide unit. -/
def unitOp (pc : Nat) (dst : LReg) (low : Bool) (v : Nat) (reads : List LReg) : LEff :=
  { reads := reads, dsts := [dst], long := some { op := .unit v, dst := dst, low := low, pc := pc } }

/-- Slot S0 (R353). -/
def evalS0 (l : Lan) (pc : Nat) (y : LSyl) : Option LEff :=
  let o := y.opc
  if o < 0x30 then evalS l y
  else if y.sat then none
  else if o = 0x30 then (if y.a ≠ 0 ∨ nfld y.w 10 6 ≠ 0 then none else evalMfc l y.d (y.w % 64))
  else if o = 0x31 then (if y.d ≠ 0 ∨ nfld y.w 10 6 ≠ 0 then none else evalMtc l y.a (y.w % 64))
  else if o ≤ 0x35 then
    some (unitOp pc (.s y.d) false (scalarDiv (o - 0x32) (l.getS y.a) (l.getS y.b)) [.s y.a, .s y.b])
  else none

/-- Slot S1 (R353): branches, calls and loops too. `len`: bytes of the bundle. -/
def evalS1 (l : Lan) (pc len : Nat) (y : LSyl) : Option LEff :=
  let o := y.opc
  -- A15 and the return stack are destinations of calls and returns (R333)
  let stk : List LReg := if l.rstack then [.rs] else [.a 15]
  if o < 0x30 then evalS l y
  else match o with
    | 0x30 => some { flow := .go (brTo pc y.disp) }
    | 0x31 => if y.sat ∨ y.d ≠ 0 ∨ y.b ≠ 0 ∨ y.fn ≠ 0 then none
              else some { reads := [.s y.a], flow := .go (l.getS y.a % 65536) }
    | 0x32 | 0x33 =>
      let i := nfld y.w 21 12
      some { reads := [.bv i], flow := if l.getBv i = decide (o = 0x32) then .go (brTo pc y.dispB) else .stay }
    | 0x34 => some { dsts := stk, flow := .call (brTo pc y.disp) }
    | 0x35 => if y.sat then none else some { reads := [.s y.a], dsts := stk, flow := .call (l.getS y.a % 65536) }
    | 0x36 => if y.w ≠ 0 ∨ y.ext.getD 0 ≠ 0 then none else some { dsts := stk, flow := .ret }
    | 0x37 => if y.w ≠ 0 ∨ y.ext.getD 0 ≠ 0 then none else some { flow := .reti }
    | 0x38 =>
      if y.sat ∨ 1 < y.d then none
      else
        let k := y.d
        let base := (pc + len) % 65536
        some { reads := [.s y.a], dsts := [.lc k, .lbase k, .ltail k]
               writes := [(.lc k, false, l.getS y.a % 2 ^ 32, 1), (.lbase k, false, base, 1),
                 (.ltail k, false, (base + 4 * y.immU) % 65536, 1)] }
    | 0x39 =>
      if y.w % 2 ^ 21 ≠ 0 ∨ y.ext.getD 0 ≠ 0 then none
      else
        let k := b2n y.sat
        let c := tget 0 l.lc k - 1
        some { dsts := [.lc k], writes := [(.lc k, false, c, 1)], flow := .loop k (decide (c ≠ 0)) (tget 0 l.lbase k) }
    | _ => none

/-! ### Memory slots (R349 to R352, R354, R367 to R370) -/

/-- The updated address register of POST, CIRC and BREV; none where nothing is updated (R350 to R352). -/
def addrUpdate (l : Lan) (mode a off z : Nat) (post : Int) : Option Nat :=
  let o20 : Nat := a % 2 ^ 20
  let k : Nat := nfld off 9 7
  let i : Int := sext 7 (off % 128) * (z : Int)
  let base : Int := ((tget 0 l.cbb k : Nat) : Int)
  let len : Nat := tget 0 l.cbl k
  let keep (x : Int) : Nat := (a / 2 ^ 20) * 2 ^ 20 + wrapN 20 x
  match mode with
  | 2 => some (addOff a post)
  | 3 => if len = 0 then none else some (keep (base + ((o20 : Int) - base + i) % ((len : Nat) : Int)))
  | 4 =>
    if len ≤ 1 then none
    else
      let n := Nat.log2 len
      let o := (o20 : Int) - base
      let lo := revBits n ((revBits n (wrapN n o) + revBits n (wrapN n i)) % 2 ^ n)
      some (keep (base + (o - (wrapN n o : Nat)) + (lo : Int)))
  | _ => none

/-- Where an effective address leads (R349): local memory, a device address, or nowhere. -/
inductive LWhere where
  | loc (off : Nat) | dev (addr : Nat) | bad
deriving DecidableEq, Repr

def whereTo (l : Lan) (a z : Nat) : LWhere :=
  let sp := a / 2 ^ 20
  if sp = 0 then (if isLocal a z then .loc a else .bad)
  else if 4 ≤ sp ∧ sp < 8 then .dev (tget 0 l.wb (sp - 4) * 2 ^ 20 + a % 2 ^ 20)
  else .bad

/-- Size, kind and class of data register of a load or store (R354): 0 S, 1 V, 2 F. -/
def memSize_ (l : Lan) (o : Nat) : Option (Nat × LKind × Nat) :=
  match o with
  | 0 => some (1, .sx, 0) | 1 => some (1, .zx, 0) | 2 => some (2, .sx, 0) | 3 => some (2, .zx, 0)
  | 4 => some (4, .sx, 0) | 5 => some (4, .zx, 0) | 6 => some (8, .zx, 0)
  | 7 => some (l.vlen / 8, .vec, 1)
  | 8 => some (1, .bcast, 1) | 9 => some (2, .bcast, 1) | 10 => some (4, .bcast, 1) | 11 => some (8, .bcast, 1)
  | 12 => some (4, .fp, 2) | 13 => some (8, .fp, 2)
  | 16 => some (1, .zx, 0) | 17 => some (2, .zx, 0) | 18 => some (4, .zx, 0) | 19 => some (8, .zx, 0)
  | 20 => some (l.vlen / 8, .vec, 1)
  | 21 => some (4, .fp, 2) | 22 => some (8, .fp, 2)
  | 24 => some (4, .sx, 0) | 25 => some (8, .sx, 0) | 26 => some (4, .sx, 0) | 27 => some (8, .sx, 0)
  | 28 => some (4, .sx, 0) | 29 => some (4, .sx, 0)
  | _ => none

/-- The value of a load from its bytes. -/
def loadValue (l : Lan) (k : LKind) (z : Nat) (bs : List Byte) : Nat :=
  let v := ofLe bs
  match k with
  | .sx => wrapN 64 (sext (8 * z) v)
  | .zx | .vec | .fp => v
  | .bcast => packE (8 * z) (List.replicate (l.vlen / (8 * z)) v)

/-- May LR and SC reach the address: scratchpads, DRAM, semaphores (R368)? An undecoded address goes on to its decode error. -/
def lrTarget (a : Nat) : Bool :=
  match regionOf a with
  | .wm | .am | .ps | .dram | .sems | .bad => true
  | .reg | .ldm _ | .lim _ | .host => false

/-- Slots M0 and M1 (R354). -/
def evalM (l : Lan) (pc : Nat) (y : LSyl) : Option LEff :=
  let o := y.opc
  if o = 0x1E then (if y.slot = 2 ∧ y.w = 0 then some { fence := true } else none)
  else if o = 0x1D ∧ y.slot ≠ 2 then none
  else match memSize_ l o with
    | none => none
    | some (z, kind, cls) =>
      let mode := nfld y.w 21 19
      let dn := nfld y.w 18 14
      let an := nfld y.w 13 10
      let off := y.w % 1024
      let ext := y.ext
      let offX : Int := match ext with | some h => sext 35 (off + 1024 * h) | none => sext 10 off
      let absA := off + 1024 * ext.getD 0
      let atomic := decide (0x18 ≤ o)
      let isSc := decide (o = 0x1A ∨ o = 0x1B)
      if 4 < mode then none
      else if atomic ∧ (mode ≠ 1 ∨ ext.getD 0 ≠ 0 ∨ (!isSc ∧ off ≠ 0)) then none
      else
        let areg := l.getA an
        let addr := if mode = 0 then absA else if isSc then areg else if mode = 1 then addOff areg (offX * z) else areg
        let isSt := decide (0x10 ≤ o ∧ o ≤ 0x16)
        let dreg : LReg := if cls = 0 then .s dn else .v (l.phys dn)
        let low := decide (cls = 2)
        let upd : List (LReg × Bool × Nat × Nat) :=
          if mode < 2 then []
          else match addrUpdate l mode areg off z (offX * z) with | some v => [(.a an, false, v, 1)] | none => []
        let updD : List LReg := if mode < 2 then [] else [.a an]
        let dsts := (if isSt then [] else if isSc then [.bv off] else [dreg]) ++ updD
        let reads := if isSt ∨ isSc then [dreg] else []
        let base : LEff := { reads := reads, dsts := dsts }
        let bad (src a : Nat) : Option LEff := some { base with fail := some (src, some a) }
        let data := if cls = 0 then l.getS dn else l.getV (l.phys dn)
        if 0xFFFFFF < addr then bad 6 (addr % 2 ^ 48)
        else
          let wh := whereTo l addr z
          let da := match wh with | .dev x => x | .loc _ => addr | .bad => addr
          if atomic ∧ addr % z ≠ 0 then bad 5 da
          else match wh with
            | .bad => bad 6 addr
            | .loc a =>
              if atomic then bad 6 addr
              else if isSt then some { base with writes := upd, store := some (true, a, z, data % 2 ^ (8 * z)) }
              else some { base with writes := upd, load := some (dreg, low, kind, z, a) }
            | .dev a =>
              if isSt then some { base with writes := upd, store := some (false, a, z, data % 2 ^ (8 * z)) }
              else
                let op : LLongOp :=
                  if o < 0x18 then .load kind else if o < 0x1A then .lr else if isSc then .sc (data % 2 ^ (8 * z))
                  else if o = 0x1C then .tas else .swait
                let okT : Bool :=
                  if o < 0x18 then true
                  else if o < 0x1C then lrTarget a
                  else decide ((regionOf a = .sems ∧ a % 64 = 0x10) ∨ regionOf a = .bad)
                if !okT then bad 6 a
                else some { base with
                  writes := upd
                  long := some { op := op, dst := if isSc then .bv off else dreg, low := low, addr := a, z := z, pc := pc } }

/-! ### Vector slots (R355, R356, R360 to R364) -/

/-- The value of an accumulator or a delay line: from the V0 syllable of the bundle before, if that wrote the register (R364). -/
def Lan.fwdV (l : Lan) (p : Nat) : Nat :=
  let ws := l.writes.filter (fun w => decide (w.dst = .v p))
  if l.v0At = l.n ∧ l.n ≠ 0 ∧ l.v0w.contains p then
    let due : Nat := ws.foldl (fun a w => if w.at_ + 1 = l.n then max a w.due else a) 0
    ((upto 5).foldl (fun (x : Lan) k =>
      (ws.filter (fun w => decide (w.due = l.n + k ∧ w.due ≤ due) )).foldl (fun x w => x.put w.dst w.low w.val) x) l).getV p
  else l.getV p

/-- A whole vector result. -/
def effV (p v dist : Nat) (reads : List LReg) : LEff := effW (.v p) v dist reads

/-- An FP operation over every element, or on bits [63:0]; FP32 results set [63:32] to 0 (R344, R355). -/
def fpApply (l : Lan) (fn : Nat) (f : Nat → Nat → Nat → Nat → Nat) (fb acc a b : Nat) : Nat :=
  let e := if nbit fn 0 then 64 else 32
  if nbit fn 1 then
    let n := l.vlen / e
    let xs := elems e n acc
    let ys := elems e n a
    let zs := elems e n b
    packE e ((upto n).map (fun i => f (fb + i) (at0 xs i) (at0 ys i) (at0 zs i)))
  else f fb (acc % 2 ^ e) (a % 2 ^ e) (b % 2 ^ e)

/-- Slot V0 (R355); `fb`: the first free value of the bundle. -/
def evalV0 (l : Lan) (pc fb : Nat) (y : LSyl) : Option LEff :=
  let o := y.opc
  let fn := y.fn
  let e := 8 * 2 ^ (fn % 4)
  let u := nbit fn 2
  let n := l.vlen / e
  let pd := l.phys y.d
  let pa := l.phys y.a
  let pb := l.phys y.b
  let va := l.getV pa
  let vb := l.getV pb
  let rd3 : List LReg := [.v pa, .v pb]
  if y.sat ∧ !([0, 2, 4, 6, 8].contains o) then none
  else match o with
    | 0 =>
      let r := vecMap2 e n u y.sat (· * ·) va vb
      some ((effV pd r.1 4 rd3).satIf r.2 4)
    | 1 => some (effV pd (vecMap2 e n u false (fun x z => asr (x * z) e) va vb).1 4 rd3)
    | 2 =>
      let acc := elems e n (l.fwdV pd)
      let r := packSat e ((upto n).map (fun i => satRes y.sat e u
        (elv u e (at0 acc i) + elv u e (at0 (elems e n va) i) * elv u e (at0 (elems e n vb) i))))
      some ((effV pd r.1 4 (.v pd :: rd3)).satIf r.2 4)
    | 3 | 4 =>
      if 1 < fn % 4 then none
      else
        let h := b2n (nbit fn 3) * (n / 2)
        let acc := elems (2 * e) (n / 2) (if o = 4 then l.fwdV pd else 0)
        let r := packSat (2 * e) ((upto (n / 2)).map (fun i =>
          let p := elv u e (at0 (elems e n va) (i + h)) * elv u e (at0 (elems e n vb) (i + h))
          if o = 3 then (wrapN (2 * e) p, false) else satRes y.sat (2 * e) u (elv u (2 * e) (at0 acc i) + p)))
        some ((effV pd r.1 4 (if o = 4 then .v pd :: rd3 else rd3)).satIf r.2 4)
    | 5 =>
      if (fn % 4 ≠ 1 ∧ fn % 4 ≠ 2) ∨ u then none
      else
        let r := packSat e ((upto n).map (fun i => satRes true e false
          (rsC (sext e (at0 (elems e n va) i) * sext e (at0 (elems e n vb) i)) (e - 1) (nbit fn 3))))
        some ((effV pd r.1 4 rd3).satIf r.2 4)
    | 6 =>
      let pair := nbit fn 2
      let init := nbit fn 3
      let fromS := nbit fn 4
      if pair ∧ (fromS ∨ y.d % 2 = 1 ∨ y.b % 2 = 1) then none
      else
        let k := l.vlen / 32
        let as_ := elems 32 k va
        let sb := l.getS y.b
        let lane (acc bv : Nat) : Nat × Bool :=
          packSat 32 ((upto k).map (fun i => satRes y.sat 32 false
            ((if init then 0 else sext 32 (at0 (elems 32 k acc) i)) +
              dot4 (fn % 4) (at0 as_ i) (if fromS then sb % 2 ^ 32 else at0 (elems 32 k bv) i))))
        let r := lane (l.fwdV pd) vb
        let rb : List LReg := if fromS then [.v pa, .s y.b] else rd3
        let x := (effV pd r.1 4 (if init then rb else .v pd :: rb)).satIf r.2 4
        if pair then
          let pd1 := l.phys (y.d + 1)
          let pb1 := l.phys (y.b + 1)
          let r1 := lane (l.fwdV pd1) (l.getV pb1)
          let x : LEff := { x with
            reads := LReg.v pb1 :: (if init then x.reads else LReg.v pd1 :: x.reads)
            dsts := [LReg.v pd, LReg.v pd1]
            writes := x.writes ++ [(LReg.v pd1, false, r1.1, 4)] }
          some (x.satIf r1.2 4)
        else some x
    | 8 =>
      if y.d % 2 = 1 ∨ y.a % 2 = 1 ∨ (fn % 4 ≠ 1 ∧ fn % 4 ≠ 2) ∨ nbit fn 5 then none
      else
        let pd1 := l.phys (y.d + 1)
        let pa1 := l.phys (y.a + 1)
        let init := nbit fn 4
        let line := elems e n (l.fwdV pa) ++ elems e n (l.fwdV pa1)
        let acc := elems (2 * e) (n / 2) (l.fwdV pd) ++ elems (2 * e) (n / 2) (l.fwdV pd1)
        let c := elv u e (l.getS y.b % 2 ^ e)
        let r := (upto n).map (fun i =>
          let p0 := elv u e (at0 line i) * c
          let top : Int := ((2 ^ (2 * e - 1) : Nat) : Int) - 1
          let over_ : Bool := nbit fn 3 && !u && decide (top < 2 * p0)
          let p := if nbit fn 3 then (if over_ then top else 2 * p0) else p0
          let q := satRes y.sat (2 * e) u (if init then p else elv u (2 * e) (at0 acc i) + p)
          (q.1, q.2 || over_))
        let v := packSat (2 * e) r
        let nl := packE e (line.tail ++ [0])
        let half := 2 ^ l.vlen
        let rs : List LReg := [.v pa, .v pa1, .s y.b]
        some ({ reads := if init then rs else .v pd :: .v pd1 :: rs
                dsts := [.v pd, .v pd1, .v pa, .v pa1]
                writes := [(.v pd, false, v.1 % half, 4), (.v pd1, false, v.1 / half, 4), (.v pa, false, nl % half, 4),
                  (.v pa1, false, nl / half, 4)] : LEff }.satIf v.2 4)
    | _ =>
      let f := if nbit fn 0 then fp64 else fp32
      if 3 < fn then none
      else if 0x10 ≤ o ∧ o ≤ 0x13 then
        let r := fpApply l fn (fun fb acc a b => fpMac f o fb acc a b) fb (l.fwdV pd) va vb
        let rs := if o = 0x13 then .v pd :: rd3 else rd3
        some (if nbit fn 1 then effV pd r 4 rs else effF pd r 4 rs)
      else if 0x20 ≤ o ∧ o ≤ 0x27 ∧ ¬ (0x24 ≤ o ∧ nbit fn 0) then
        let r := fpApply l fn (fun fb _ a b => fpLong f o fb a b) fb 0 va vb
        some (unitOp pc (.v pd) (!nbit fn 1) r (if o = 0x20 then rd3 else [.v pa]))
      else none

/-- Slot V1 (R356). -/
def evalV1 (l : Lan) (fb : Nat) (y : LSyl) : Option LEff :=
  let o := y.opc
  let fn := y.fn
  let iform := [0x0B, 0x11, 0x13, 0x14].contains o
  let es := if o = 0x0B then nfld y.w 7 6 else if iform then y.w % 4 else fn % 4
  let e := 8 * 2 ^ es
  let u := nbit fn 2
  let n := l.vlen / e
  let pd := l.phys y.d
  let pa := l.phys y.a
  let pb := l.phys y.b
  let va := l.getV pa
  let vb := l.getV pb
  let ea := elems e n va
  let eb := elems e n vb
  let r2 : List LReg := [.v pa, .v pb]
  let ones := 2 ^ e - 1
  if y.sat ∧ !([0, 1, 8].contains o) then none
  else match o with
    | 0 | 1 | 5 | 6 =>
      let r := vecMap2 e n u y.sat (vecOp o) va vb
      some ((effV pd r.1 2 r2).satIf r.2 2)
    | 2 => some (effV pd (va &&& vb) 2 r2)
    | 3 => some (effV pd (va ||| vb) 2 r2)
    | 4 => some (effV pd (va ^^^ vb) 2 r2)
    | 7 => if y.b ≠ 0 then none else some (effV pd (packE e (ea.map (fun x => (elv u e x).natAbs))) 2 [.v pa])
    | 8 | 9 | 10 =>
      let sh := l.getS y.b % 64
      let r := packSat e (ea.map (fun x =>
        if o = 8 then satRes y.sat e u (elv u e x * ((2 ^ sh : Nat) : Int))
        else if o = 9 then (x / 2 ^ sh, false)
        else (wrapN e (asr (sext e x) sh), false)))
      some ((effV pd r.1 2 [.v pa, .s y.b]).satIf r.2 2)
    | 0x0B =>
      let sh := y.w % 64
      let narrow := nbit y.w 8
      let even := nbit y.w 9
      let us := nbit y.w 10
      if narrow ∧ (es = 0 ∨ y.a % 2 = 1) then none
      else if narrow then
        let pa1 := l.phys (y.a + 1)
        let r := packSat (e / 2) ((ea ++ elems e n (l.getV pa1)).map (fun x => satRes true (e / 2) us (rsC (elv us e x) sh even)))
        some ((effV pd r.1 2 [.v pa, .v pa1]).satIf r.2 2)
      else
        let r := packSat e (ea.map (fun x => satRes true e us (rsC (elv us e x) sh even)))
        some ((effV pd r.1 2 [.v pa]).satIf r.2 2)
    | 0x0C | 0x0D | 0x0E =>
      some (effV pd (packE e ((upto n).map (fun i =>
        let x := elv u e (at0 ea i)
        let z := elv u e (at0 eb i)
        if (o = 0x0C ∧ x = z) ∨ (o = 0x0D ∧ z < x) ∨ (o = 0x0E ∧ z ≤ x) then ones else 0))) 2 r2)
    | 0x0F =>
      if 31 < fn then none
      else
        let pm := l.phys fn
        let m := l.getV pm
        some (effV pd ((va &&& m) ||| (vb &&& (2 ^ 512 - 1 - m))) 2 (.v pm :: r2))
    | 0x10 =>
      let pr := ea ++ eb
      some (effV pd (packE e ((elems e n (l.getV pd)).map (fun i => at0 pr (i % (2 * n))))) 2 (.v pd :: r2))
    | 0x11 =>
      -- format I has no field that names Vb: the elements that come from it are free values (log entry 1)
      let k := nfld y.w 8 2 % n
      some (effV pd (packE e ((upto n).map (fun i =>
        if i + k < n then at0 ea (i + k) else (Config.freeWord (fb + i)).toNat))) 2 [.v pa])
    | 0x12 => some (effV pd (packE e (List.replicate n (l.getS y.a))) 2 [.s y.a])
    | 0x13 =>
      let x := at0 ea (nfld y.w 8 2 % n)
      some (effW (.s y.d) (if nbit y.w 9 then x else wrapN 64 (sext e x)) 2 [.v pa])
    | 0x14 =>
      let k := nfld y.w 8 2 % n
      some (effV pd (packE e ((upto n).map (fun i => if i = k then l.getS y.a else at0 (elems e n (l.getV pd)) i))) 2
        [.v pd, .s y.a])
    | 0x15 =>
      let h := b2n (nbit fn 3) * (n / 2)
      some (effV pd (packE (2 * e) ((upto (n / 2)).map (fun i => wrapN (2 * e) (elv u e (at0 ea (i + h)))))) 2 [.v pa])
    | 0x16 =>
      if es < 2 then none
      else some (effW (.s y.d) (wrapN 64 (ea.foldl (fun t x => t + elv u e x) 0)) 4 [.v pa])
    | 0x18 =>
      match fn with
      | 0 => some (effF pd (va % 2 ^ 64) 2 [.v pa])
      | 1 => some (effF pd (l.getS y.a) 2 [.s y.a])
      | 2 => some (effW (.s y.d) (va % 2 ^ 64) 2 [.v pa])
      | _ => none
    | 0x19 | 0x1A | 0x1B =>
      if 3 < fn then none
      else
        let f := if nbit fn 0 then fp64 else fp32
        let w := if nbit fn 0 then 64 else 32
        if nbit fn 1 then
          let r := fpApply l fn (fun _ _ a b => if fpCmp f o a b then 2 ^ w - 1 else 0) 0 0 va vb
          some (effV pd r 2 r2)
        else some (effF pd (if fpCmp f o (va % 2 ^ w) (vb % 2 ^ w) then 2 ^ 64 - 1 else 0) 2 r2)
    | 0x1C =>
      let a := fn % 8
      let b := fn / 8
      if 4 < a ∨ 4 < b ∨ a = b then none else some (effF pd (fpCvt a b fb (va % 2 ^ 64)) 2 [.v pa])
    | _ => none

/-- What a syllable of a bundle at `pc` of `len` bytes does; none where it makes the bundle illegal. -/
def evalSyl (l : Lan) (pc len fb : Nat) (y : LSyl) : Option LEff :=
  match y.slot with
  | 0 => evalS0 l pc y
  | 1 => evalS1 l pc len y
  | 2 | 3 => evalM l pc y
  | 4 => evalV0 l pc fb y
  | _ => evalV1 l (fb + 128) y

/-- All syllables of a bundle, or none. -/
def evalAll (l : Lan) (pc len fb : Nat) : List LSyl → Option (List (LSyl × LEff))
  | [] => some []
  | y :: t => match evalSyl l pc len fb y, evalAll l pc len fb t with
    | some x, some r => some ((y, x) :: r)
    | _, _ => none

/-- Do two syllables of a bundle name one destination (R313)? -/
def anyClash : List (List LReg) → Bool
  | [] => false
  | d :: t => d.any (fun a => t.any (fun e => e.any (regClash a))) || anyClash t

end Sys2Proof.Machine
end

