-- ==== Sys2Proof/Machine/PipeCmd.lean ====
section
/-! DEFINITION. The commands of the image pipes: lines that start, return from a splice and end a frame; memory-to-memory
frames (R124, R125, R142, R143, R155). -/

namespace Sys2Proof.Machine

open Sys2Proof

/-- Bytes that wait in the input FIFO of cluster `k`: for every context that it serves, the columns of the lines that not all
its stripes have taken, at two bytes a sample (R174, R196; log entry 16). -/
def secFifo (s : State) (k : Nat) : Nat :=
  (upto 16).foldl (fun a x =>
    let st := (secStripes s x).filter (fun q => decide (q.1 = k))
    if st.isEmpty then a
    else
      let p := secProg (secNum s k (secCtxBank s k x))
      let cols := min (secWidth s x) (st.length * (p.chain (mapChain s x)).width + 2 * p.halo (mapChain s x))
      let taken := if (secCtx s x).begun then st.foldl (fun m q => min m (secStripe s x q.1 q.2).t) 0x100000 else 0
      let ls := (tget [] s.spliceq x).filterMap (fun i => match i.2 with | .line l => some l.planes.length | _ => none)
      a + ((ls.drop taken).foldl (fun n ch => n + cols * ch * 2) 0)) 0

/-- Does some cluster that serves the context's splice take no more pixels: its FIFO is full (R196)? -/
def secHolds (s : State) (x : Nat) : Bool :=
  (match (pctx s x).frame with | some pf => pf.splice | none => false) &&
    (upto 4).any (fun k => serves s k x && decide (65536 ≤ secFifo s k))

/-- A frame's marker is taken from the queue of a context: the frame begins in the pipe, and in the Sector engine where it
is spliced. -/
def startFrame (c : Nat) (f : FrameInfo) (s : State) : State :=
  secPoll c (beginFrame c f (chainFits s c (prm f (rCTX_SPLICE c))) s)

/-- The FIFO level of a live context's port follows. -/
def pipeFifo (c : Nat) (s : State) : State := if ctxKind s c = 1 then fifoLevel (ctxPort s c) s else s

/-- The ready line of a live context is taken off its queue and goes through the pipe. -/
def takeLine (c : Nat) (s : State) : State :=
  match (pctx s c).frame, pipeQueue s c with
  | some pf, .line l :: t =>
    let s := pipeFifo c (setPipeQueue c t s)
    if pf.lost then s else secPoll c (pipeLine c l s)
  | none, .start f :: .line l :: t =>
    let s := startFrame c f (setPipeQueue c (.line l :: t) s)
    secPoll c (pipeLine c l (pipeFifo c (setPipeQueue c t s)))
  | _, _ => s

/-- The next source line of a memory-to-memory frame goes through the pipe (R125). -/
def takeM2m (c : Nat) (s : State) : State :=
  match (pctx s c).m2m with
  | none => s
  | some y =>
    let r := m2mRead c y s
    let s := setPctx c { pctx r.2 c with m2m := if y + 1 < (pframe s c).info.height then some (y + 1) else none } r.2
    secPoll c (pipeLine c r.1 s)

/-- PIPE_LINE_START (R124): the regulator has drained `drained` bytes of the pipe's staging ring; the pipe starts the ready
line of the live context that has waited longest, or, with none ready, a memory-to-memory line. -/
def execPipeLineStart (p : Fin 2) (drained : Nat) (s : State) : Host.Outcome State Fault Refusal :=
  if !domRun s 3 then .next s
  else
    let s := stageDrain p drained s
    match longest s p (fun c => decide (ctxKind s c = 1) && readyLine s c && !secHolds s c) with
    | some c => .next (takeLine c s)
    | none => match longest s p (fun c => readyM2m s c && !secHolds s c) with
      | some c => .next (takeM2m c s)
      | none => .next s

/-- RETURNED_LINE (R142): the line that the Sector engine returns next is accepted at RET_TAP, in the order sent and with the
width and tag sent; a line that is not `intact`, or breaks the order, loses the splice (R143). -/
def execReturnedLine (c : Fin 16) (intact : Bool) (drained : Nat) (s : State) : Host.Outcome State Fault Refusal :=
  if !domRun s 3 ∨ !domRun s 2 then .next s
  else
    let s := stageDrain (ctxPipe s c) drained s
    match (pctx s c).frame, (secCtx s c).back with
    | some pf, l :: t =>
      if !pf.splice ∨ splTee pf.info c then .next s
      else if !intact ∨ l.idx ≠ pf.returned ∨ l.planes.any (fun v => decide (v.length ≠ pf.info.width)) then
        .next (loseSplice c s)
      else
        let s := setSecCtx c { secCtx s c with back := t } s
        .next (returnAt c l (setPframe c { pf with returned := pf.returned + 1 } s))
    | _, _ => .next s

/-- SPLICE_ACCEPT_TIMEOUT (R143): 1 ms has passed with lines waiting and none accepted. -/
def execSpliceAcceptTimeout (c : Fin 16) (s : State) : Host.Outcome State Fault Refusal :=
  match (pctx s c).frame with
  | some pf =>
    if domRun s 3 ∧ pf.splice ∧ (readyLine s c ∨ readyM2m s c ∨ (tget [] s.spliceq c.val).any (fun i => match i.2 with | .line _ => true | _ => false))
    then .next (loseSplice c s) else .next s
  | none => .next s

/-- The effect of a write of CTX_M2M_GO (R125): with EN in force it starts a frame, unless one is in progress. -/
def m2mGoEffect (c : Nat) (v : Word) (s : State) : State × Bool :=
  if !bit v 0 ∨ (pctx s c).frame.isSome then (s, true)
  else if ctxKind s c ≠ 2 ∨ !ctxOn s c then (s, true)
  else
    let s := { s with frames := tput 0 s.frames c ((tget 0 s.frames c + 1) % 2 ^ 32) }
    let s := ctxBoundary c s
    let z := ctxSize s c
    let bits := match rdF s (rCTX_CFG c + 0x8000) 7 6 with | 0 => 8 | 1 => 10 | 2 => 12 | _ => 16
    let f : FrameInfo := { frame := tget 0 s.frames c, dtime := dtime s, regs := ctxRegs s c, width := z.1, height := z.2,
                           bits := bits, area := true, served := pxServed s c, enc := encSnapshot s }
    let s := startFrame c f (wrB (rCTX_M2M_GO c) 0 true s)
    let bad := nbit (pframe s c).flags gCFG_INVALID
    (setPctx c { pctx s c with m2m := if bad ∨ z.2 = 0 then none else some 0 } s, true)

/-- M2M_GO (R125). -/
def execM2mGo (ifc : Iface) (c : Fin 16) (s : State) : Host.Outcome State Fault Refusal :=
  .next (gatedWrite ifc (rCTX_M2M_GO c) 1 (m2mGoEffect c 1) s)

/-- The frame's outputs close and its record is written, once the last line has left the pipe (R142, R155). -/
def finishFrame (c : Nat) (s : State) : State :=
  let pf := pframe s c
  let s := if pf.splice ∧ !splTee pf.info c ∧ !pf.whole then flushAfter c (splRet pf.info c) s else s
  pipeFifo c (closeCtx c s)

/-- The end marker of a frame has reached the pipe: the stages empty, and the frame closes unless lines are still to return
from its splice (R142). -/
def endFrame (c flags : Nat) (s : State) : State :=
  let s := setPframe c { pframe s c with portFlags := flags } s
  let s := if nbit flags fTRUNCATED then pipeFlag c gTRUNCATED s else s
  let pf := pframe s c
  let back := pf.splice && !splTee pf.info c
  let s := if pf.whole then s else flushTo c (if back then splOut pf.info c else 4) s
  let s := if pf.splice then secPoll c (splicePush c (.stop flags) s) else s
  let pf := pframe s c
  let s := setPframe c { pf with ended := true } s
  if back ∧ pf.returned < pf.sent then s else finishFrame c s

/-- PIPE_FRAME_END (R155): the frame's end marker has been reached, or its last spliced line has returned. -/
def execPipeFrameEnd (c : Fin 16) (drained : Nat) (s : State) : Host.Outcome State Fault Refusal :=
  if !domRun s 3 then .next s
  else
    let s := stageDrain (ctxPipe s c) drained s
    match (pctx s c).frame, pipeQueue s c with
    | some pf, q =>
      if pf.ended then .next (if pf.returned < pf.sent then s else finishFrame c s)
      else if ctxKind s c = 2 then .next (if (pctx s c).m2m.isSome then s else endFrame c 0 s)
      else match q with
        | .stop fl :: t => .next (endFrame c fl (setPipeQueue c t s))
        | _ => .next s
    | none, .start f :: .stop fl :: t => .next (endFrame c fl (startFrame c f (setPipeQueue c t s)))
    | none, _ => .next s

end Sys2Proof.Machine
end

