-- ==== Sys2Proof/Machine/Quiesce.lean ====
section
/-! DEFINITION. Quiesce and the application of a new image at run time (R53 to R58). -/

namespace Sys2Proof.Machine

open Sys2Proof

/-- QUIESCE_STATUS.STATE takes a value. -/
def setQuiesce (n : Nat) (s : State) : State := wrF rQUIESCE_STATUS 2 0 n s

/-- The Keepers issue no triggers: segments close and no start waits (R53). -/
def stopTriggers (s : State) : State :=
  forAll (upto 8) (fun t s => stopSeg t (setTrig t { trig s t with pends := [] } s)) s

/-! ### Refusals of an APPLY (R55, R58) -/

/-- APPLY is refused with a reason and where verification stopped: E36 where the device is not quiesced, else E33. R59 calls
BOOT_STATUS.FAIL_INDEX where "the last failing verification stopped", and does not say whether a verification at APPLY counts: the
model's choice is that it leaves FAIL_INDEX alone, since REFUSE_INDEX reports it (log entry 85). -/
def applyRefuse (reason idx : Nat) (s : State) : State :=
  raiseE (if reason = 1 then 36 else 33) 7
    (wrF rQUIESCE_STATUS 19 12 idx (wrF rQUIESCE_STATUS 11 8 reason (wrB rQUIESCE_STATUS 4 true s)))

/-- The index of the first section that only a reset puts in force and that differs from the image in force (R56). It is what
REFUSE_INDEX shows for reason 4, for which R42 gives no coding: the model's choice (log entry 85). -/
def resetOnlyDiffers (s : State) (l : List SecRec) : Option Nat :=
  firstBad (fun _ r => decide ((r.type = 2 ∨ r.type = 12) ∧ r.payload ≠ sec s r.type)) 0 l

/-- The effect of APPLY (R55, R58): ignored while one applies, refused unless quiesced; the staged image is verified against
the repair state in force, and an acceptable one starts to be applied. -/
def applyEffect (s : State) : State :=
  let st := quiesceState s
  if 4 ≤ st then s
  else if st < 2 then applyRefuse 1 0xFF s
  else
    let len := rdF s rSTAGE_LEN 24 0
    match stagedBytes s (rd64 s rSTAGE_ADDR_LO) len with
    | none => applyRefuse 2 0xFF s
    | some b =>
      let v := verifyImage (applyAvail s) s b 0x2000000 (some len)
      if !v.ok then applyRefuse (if v.code = 4 then 5 else if v.semantic then 3 else 2) v.idx s
      else match resetOnlyDiffers s (verifyForm b 0x2000000 (some len)).2 with
        | some i => applyRefuse 4 i s
        | none =>
          let s := wrB rQUIESCE_CTRL 1 true (setQuiesce 4 s)
          { s with boot := { s.boot with applying := some b, wasForced := decide (st = 3), releaseAfter := false } }

/-! ### The control register (R53, R58) -/

/-- The effect of REQ set or cleared. -/
def reqEffect (on : Bool) (s : State) : State :=
  let old := rdB s rQUIESCE_CTRL 0
  let s := wrB rQUIESCE_CTRL 0 on s
  match quiesceState s with
  | 0 => if on ∧ !old then setQuiesce 1 s else s
  | 4 => { s with boot := { s.boot with releaseAfter := !on } }
  | _ => if on then s else setQuiesce 0 { s with boot := { s.boot with forcing := false } }

/-- The effect of a write of QUIESCE_CTRL: REQ first, then APPLY. -/
def quiesceCtrlEffect (v : Word) (s : State) : State × Bool :=
  (onlyIf (bit v 1) applyEffect (reqEffect (bit v 0) s), true)

/-! ### What an APPLY changes (R56) -/

/-- The domains whose repair entries differ between two Repair sections; scratchpad rows lie in D0 (R493, R504). -/
def repairDomains (a b : List Byte) : List Nat :=
  let ea := repChunks 64 a
  let eb := repChunks 64 b
  let diff := ea.filter (fun e => !eb.contains e) ++ eb.filter (fun e => !ea.contains e)
  [0, 1, 2, 4].filter (fun d => diff.any (fun e =>
    decide ((d = 0 ∧ repKind e = 6) ∨ (d = 1 ∧ 1 ≤ repKind e ∧ repKind e ≤ 3) ∨ (d = 2 ∧ repKind e = 4) ∨
      (d = 4 ∧ repKind e = 5))))

/-- The domains that are reset when the sections of the given types change. -/
def applyResets (repair changed : List Nat) : List Nat :=
  [1, 2, 3, 4, 5].filter (fun d => repair.contains d ||
    (decide (d = 1 ∨ d = 2 ∨ d = 4) && changed.contains 4) || (decide (d = 3) && changed.contains 3) ||
    (decide (d = 4) && (changed.contains 5 || changed.contains 7)) || (decide (d = 5) && changed.contains 10))

/-- A domain in service is reset and restored; the reset counts under R100, and its limit takes the domain out of service. -/
def applyReset (d : Nat) (s : State) : State :=
  if domState s d ≠ 0 then s
  else
    let r := recordReset d (resetDomain d (reachDomain d s))
    let s := precNow r.1
    if r.2 then raiseE 42 d (wrB (rRWIN_D d) 3 true (setDomState d 3 s)) else restoreDomain d s

/-- The sections that change are put in force. -/
def applySections (changed repair : List Nat) (s : State) : State :=
  let has (t : Nat) : Bool := changed.contains t
  let s := onlyIf (has 4) (fun s => forAll (upto 32) chAbort (loadOwners s)) s
  let s := onlyIf (has 6) loadKeeper s
  let s := onlyIf (has 9) (fun s => regulLoad (sec s 9) s) s
  let rs := applyResets repair changed
  let s := forAll rs applyReset s
  let s := onlyIf (has 3 && !rs.contains 2 && domOk s 2) loadRoutesD2 s
  let s := onlyIf (has 11 && !rs.contains 2 && domOk s 2) (fun s => secLoad (sec s 11) s) s
  let s := onlyIf (has 8 && !rs.contains 3 && domOk s 3) loadContexts s
  onlyIf ((has 3 || has 8) && domOk s 2) secRefreshAll s

/-! ### Meanings -/

/-- QUIESCE_REQUEST (R53). -/
def execQuiesceRequest (ifc : Iface) (s : State) : Host.Outcome State Fault Refusal :=
  .next (gatedWrite ifc rQUIESCE_CTRL (w32 1) (quiesceCtrlEffect (w32 1)) s)

/-- QUIESCE_RELEASE (R58). -/
def execQuiesceRelease (ifc : Iface) (s : State) : Host.Outcome State Fault Refusal :=
  .next (gatedWrite ifc rQUIESCE_CTRL (w32 0) (quiesceCtrlEffect (w32 0)) s)

/-- QUIESCED_REACHED (R53): no parcel window and no job is open. -/
def execQuiescedReached (s : State) : Host.Outcome State Fault Refusal :=
  if quiesceState s = 1 ∧ !anyWinOpen s ∧ !anyJobOpen s ∧ !s.boot.forcing then .next (stopTriggers (setQuiesce 2 s)) else .next s

/-- QUIESCE_TIMEOUT (R54): every window closes at once, with its frames marked truncated, and every job that is not sent is
abandoned. -/
def execQuiesceTimeout (cu : Fin 4) (s : State) : Host.Outcome State Fault Refusal :=
  if quiesceState s = 1 ∧ !s.boot.forcing then
    let s := { s with boot := { s.boot with forcing := true } }
    let any := anyWinOpen s
    let s := onlyIf any (forAll (upto 8) (fun p s =>
      if (port s p).opened ∧ vpLine s p then portFlag p fTRUNCATED s else s)) s
    let s := forAll (upto 4) (fun w s => if winOpen s w then closeWin w 4 s else s) s
    let s := forAll (upto 16) (fun k s => if jobLive s k then abandonJob k cu s else s) s
    .next (stopTriggers s)
  else .next s

/-- QUIESCED_FORCED_REACHED (R54): the last job has committed. -/
def execQuiescedForcedReached (s : State) : Host.Outcome State Fault Refusal :=
  if quiesceState s = 1 ∧ s.boot.forcing ∧ !anyJobOpen s then
    .next (raiseE 37 7 (setQuiesce 3 { s with boot := { s.boot with forcing := false } }))
  else .next s

/-- APPLY (R55, R58): REQ keeps its value. -/
def execApply (ifc : Iface) (s : State) : Host.Outcome State Fault Refusal :=
  let v := setBit (rd s rQUIESCE_CTRL) 1 true
  .next (gatedWrite ifc rQUIESCE_CTRL v (quiesceCtrlEffect v) s)

/-- APPLY_COMPLETE (R55 to R58): the sections that differ are in force, IMG_SEQ and IMG_DIGEST name the new image, and the
device stays quiesced, unless REQ was cleared meanwhile. -/
def execApplyComplete (s : State) : Host.Outcome State Fault Refusal :=
  match s.boot.applying with
  | none => .next s
  | some b =>
    let v := (verifyForm b 0x2000000 none).1
    let old := s.boot.secs
    let changed := [1, 3, 4, 5, 6, 7, 8, 9, 10, 11].filter (fun t => decide (tget [] old t ≠ tget [] v.secs t))
    let repair := repairDomains (tget [] old 1) (tget [] v.secs 1)
    let back := if s.boot.releaseAfter then 0 else if s.boot.wasForced then 3 else 2
    let s := setImageId v { s with boot := { s.boot with secs := v.secs, present := v.present, staged := true } }
    -- a changed entry of a scratchpad row resets D0, and with it everything else; the device boots anew (log entry 36)
    if repair.contains 0 then .next (resetD0 true calmEnv s)
    else
      let s := applySections changed repair s
      let s := wrB rQUIESCE_STATUS 3 true (wrB rQUIESCE_CTRL 1 false (setQuiesce back s))
      .next { s with boot := { s.boot with applying := none, wasForced := false, releaseAfter := false } }

end Sys2Proof.Machine
end

