-- ==== Sys2Proof/Machine/RegAccess.lean ====
section
/-! DEFINITION. Register writes of any interface, sent to the effect that the chapter of each register gives; shadow control
(R69 to R71), the peek (R73), the PCIe doorbells (R430, R431), and accesses by bytes (R63). -/

namespace Sys2Proof.Machine

open Sys2Proof

/-! ### Shadow control (R70, R71) -/

/-- The group's owner is stopped: a context that is not enabled, a port that is IDLE; statistics go with their context. -/
def ownerStopped (s : State) : ShadowGroup → Bool
  | .ctx c => !ctxOn s c && decide (ctxState s c ≠ 2)
  | .vport p => decide (portState s p = 0)
  | .meas c => !ctxOn s c && decide (ctxState s c ≠ 2)

/-- What follows from a set that has just been put in force outside a frame. -/
def shadowRefresh (g : ShadowGroup) (s : State) : State :=
  match g with
  | .ctx c => secRefreshAll (measRefresh (ctxRefresh c s))
  | .vport p => secRefreshAll (measRefresh (portRefresh p s))
  | .meas _ => measRefresh s

/-- The effect of a write of SHADOW_CTRL: BLOCKED clears, COMMIT arms the set or applies it at once, CANCEL withdraws it unless
it loses to the boundary. A write of both bits leaves no COMMIT pending. -/
def shadowCtrlEffect (i : Iface) (g : ShadowGroup) (v : Word) (boundary : Bool) (s : State) : State × Bool :=
  let r := plainEffect i (groupCtrl g) (v &&& w32 4) .none s
  let s := r.1
  if bit v 1 then
    (if boundary then shadowRefresh g (shadowBoundary g s) else wrB (groupCtrl g) 0 false s, r.2)
  else if bit v 0 then
    (if ownerStopped s g then shadowRefresh g (shadowApply g s) else wrB (groupCtrl g) 0 true s, r.2)
  else (s, r.2)

/-! ### The peek (R73) -/

/-- The effect of a write of DBG_PEEK_ADDR: ignored while a peek is in progress. -/
def peekEffect (v : Word) (s : State) : State × Bool :=
  if rdB s rDBG_PEEK_STATUS 0 then (s, true)
  else (wrn rDBG_PEEK_STATUS 1 (wr rDBG_PEEK_ADDR (v &&& w32 0x0FFFFFFF) s), true)

/-! ### PCIe doorbells and messages (R430, R431) -/

/-- The effect of a write of PCIE_HDB: bits that are set pend, each write rings and asserts source 17. -/
def hdbEffect (v : Word) (s : State) : State × Bool :=
  if v = 0 then (s, true)
  else
    let s := bumpW (rPCIE_CNT 6) 1 (wr rPCIE_HDB_PEND (rd s rPCIE_HDB_PEND ||| v) s)
    (onlyIf (rdB s rPCIE_HDB_CFG 5) (assertSrc (rdF s rPCIE_HDB_CFG 4 0) 17) s, true)

/-- The effect of a write of PCIE_MSIX_RAISE: each bit 1 to 31 asserts its vector. -/
def msixRaiseEffect (v : Word) (s : State) : State × Bool :=
  (forAll (upto 31) (fun k s => if bit v (k + 1) then msixAssert (k + 1) s else s) s, true)

/-! ### One write of 32 bits -/

/-- The effect of a write of KPR_EXPOSE: only a Keeper sets it; a write of any other interface is accepted and changes nothing
(R87; log entry 87). -/
def exposeEffect (i : Iface) (v : Word) (s : State) : State × Bool :=
  match i with
  | .keeper _ => plainEffect i rKPR_EXPOSE v .none s
  | _ => (s, true)

/-- The effect of a write of `v` at the register `r` (instance `ix`), by the chapter that gives the register one of its own,
else by its access types; `lo`: the interface's latch for a HI half. -/
def ownEffect (i : Iface) (off : Nat) (lo v : Word) (co : Coincident) (r : RegRow) (ix : List Nat) (s : State) : State × Bool :=
    let b := r.base
    let n := ix.headD 0
    if b = rDEV_STATE then readyEffect v s
    else if b = rQUIESCE_CTRL then quiesceCtrlEffect v s
    else if b = rPCIE_BOOT then pcieBootEffect v calmEnv s
    else if b = rDBG_PEEK_ADDR then peekEffect v s
    else if b = rFLT_DOM 0 then fltDomEffect i n v calmEnv s
    else if b = rFLT_OOS_CLEAR_HI then oosClearEffect lo v calmEnv s
    else if b = rFLT_REPAIR_CTRL then repairCtrlEffect v s
    else if b = rPWR_CTRL then pwrCtrlEffect v s
    else if b = rWAKE_CTRL then wakeCtrlEffect v s
    else if b = rKPR_EXPOSE then exposeEffect i v s
    else if b = rENC_POS 0 then encPosEffect i n v co s
    else if b = rCURT_CFG 0 then curtCfgEffect i n v s
    else if b = rFLASH_CMD then flashCmdEffect i v s
    else if b = rFLASH_ADDR ∨ b = rFLASH_BUF 0 then flashGuarded i off v co s
    else if b = rPREC_CTRL then precCtrlEffect i v s
    else if b = rVP_SHADOW_CTRL 0 then shadowCtrlEffect i (.vport (Fin.ofNat 8 n)) v false s
    else if b = rCTX_SHADOW_CTRL 0 then shadowCtrlEffect i (.ctx (Fin.ofNat 16 n)) v false s
    else if b = rMEAS_SHADOW_CTRL 0 then shadowCtrlEffect i (.meas (Fin.ofNat 16 n)) v false s
    else if b = rVP_ADMIT 0 then admitEffect n v s
    else if b = rCTX_M2M_GO 0 then m2mGoEffect n v s
    else if b = rPX_CAL_CTRL 0 then calCtrlEffect n v s
    else if b = rSC_PROG_CTRL 0 then progCtrlEffect i n v .none s
    else if b = rSC_MJ_PUSH_HI 0 then mjPushEffect i n v s
    else if b = rSC_BANK 0 0 then bankWriteEffect n (4 * ix.getLastD 0) v s
    else if b = rLENS_CTRL then lensCtrlEffect i v s
    else if b = rLENS_PUSH_HI then lensPushEffect i v s
    else if b = rSP_FC_PUSH_HI then fcPushEffect i v s
    else if b = rCRW_GRANT 0 then crwGrantEffect n v s
    else if b = rLC_CTRL 0 then lcCtrlEffect n v s
    else if b = rLC_RAISE_HI 0 then lcRaiseEffect n lo v s
    else if b = rCH_HEAD_HI 0 then chHeadEffect i n lo v s
    else if b = rCH_DOORBELL 0 then chDoorbellEffect n v s
    else if b = rCH_CMD 0 then chCmdEffect n v s
    else if b = rPCIE_HDB then hdbEffect v s
    else if b = rPCIE_MSIX_RAISE then msixRaiseEffect v s
    else if b = rMSIX_CTRL 0 then
      let w := plainEffect i off v co s
      (msixRelease w.1, w.2)
    else if b = rPTP_STEP_HI then ptpStepEffect i v s
    else if b = rGRP_CTRL then grpCtrlEffect v s
    else if r.half = 2 then pairEffect i off lo v co s
    else plainEffect i off v co s

/-- The effect of a write of `v` at an assigned offset, with the hardware update of the cycle (R68); ZERO_VALID follows a load of
Z (R168, R172). -/
def writeEffect (i : Iface) (off : Nat) (lo v : Word) (co : Coincident) (s : State) : State × Bool :=
  match regAt off with
  | none => (s, true)
  | some (r, ix) =>
    let e := withUpdate i r off lo v co (fun v s => ownEffect i off lo v co r ix s) s
    (onlyIf (decide (r.base = rMEAS_Z 0 0)) (zStatus (ix.headD 0)) e.1, e.2)

/-- A write of 32 bits by an interface; one that is not aligned is turned away (R63). -/
def busWrite (i : Iface) (off : Nat) (v : Word) (co : Coincident) (s : State) : State :=
  if off % 4 ≠ 0 then answerErr 0 (onlyIf (!quietAt (off / 4 * 4)) (journal i jREFUSED off allOnes v) s)
  else gatedWrite i off v (writeEffect i off (latch s i (off - 4)) v co) s

/-- A read of 32 bits; one that is not aligned has no side effect (R63). -/
def busReadAligned (i : Iface) (off : Nat) (co : Coincident) (s : State) : State :=
  if off % 4 ≠ 0 then answerErr 1 s else busRead i off co s

/-! ### Accesses by bytes (R63) -/

/-- `k` words are read from an offset up, lowest address first; an error of any is an error of the access. -/
def readWords (i : Iface) : Nat → Nat → State → (List Byte × Bool) × State
  | 0, _, s => (([], false), s)
  | k + 1, off, s =>
    let t := busRead i off .none s
    let r := readWords i k (off + 4) t
    ((leBytes 4 (t.resp.data.headD allOnes).toNat ++ r.1.1, t.resp.err || r.1.2), r.2)

/-- `k` words are written. -/
def writeWords (i : Iface) : Nat → Nat → List Byte → State → Bool × State
  | 0, _, _, s => (false, s)
  | k + 1, off, bs, s =>
    let t := busWrite i off (w32 (leAt 0 4 bs)) .none s
    let r := writeWords i k (off + 4) (bs.drop 4) t
    (t.resp.err || r.1, r.2)

/-- A read of `len` bytes: the words that it covers, the lowest address first, and of the last or the only one the bytes
addressed, with the side effect of the whole register. One that is not aligned is answered all ones (R63; log entry 86). -/
def regReadBytes (i : Iface) (off len : Nat) (s : State) : (List Byte × Bool) × State :=
  if len ≤ 1 ∨ (len = 2 ∧ off % 2 = 0) ∨ off % 4 = 0 then
    let r := readWords i ((off % 4 + len + 3) / 4) (off / 4 * 4) s
    ((slice (off % 4) len r.1.1, r.1.2), r.2)
  else ((List.replicate len 0xFF, true), s)

/-- A write of bytes: whole words, or it is discarded with an error, whatever block it names, with one entry for the whole write
(R63, R74; log entry 86). -/
def regWriteBytes (i : Iface) (off : Nat) (bs : List Byte) (s : State) : Bool × State :=
  if off % 4 = 0 ∧ bs.length % 4 = 0 then writeWords i (bs.length / 4) off bs s
  else (true, onlyIf (!quietAt (off / 4 * 4)) (journal i jREFUSED off allOnes (w32 (leAt 0 4 bs))) s)

/-- The journal entries of a write of bytes that is discarded before it reaches a register: one for each word that lies in the
register region (R74). -/
def logDiscarded (i : Iface) (flags : Nat) (off : Nat) (bs : List Byte) (s : State) : State :=
  forAll (upto ((off % 4 + bs.length + 3) / 4)) (fun k s =>
    let o := off / 4 * 4 + 4 * k
    if regionOf o = .reg then logTurned i flags o (w32 (leAt 0 4 (bs.drop (o - off)))) s else s) s

/-! ### Meanings -/

/-- REGISTER_WRITE (R63, R68, R492). -/
def execRegisterWrite (ifc : Iface) (off : BitVec 28) (v : Word) (co : Coincident) (s : State) : Host.Outcome State Fault Refusal :=
  .next (busWrite ifc off.toNat v co (internalErr co s))

/-- READ_CLEAR (R68, R492). -/
def execReadClear (ifc : Iface) (off : BitVec 28) (co : Coincident) (s : State) : Host.Outcome State Fault Refusal :=
  .next (busReadAligned ifc off.toNat co (internalErr co s))

/-- PAIR_LO_READ (R64). -/
def execPairLoRead (ifc : Iface) (off : BitVec 28) (s : State) : Host.Outcome State Fault Refusal :=
  .next (busReadAligned ifc off.toNat .none s)

/-- PAIR_LO_WRITE (R64). -/
def execPairLoWrite (ifc : Iface) (off : BitVec 28) (v : Word) (s : State) : Host.Outcome State Fault Refusal :=
  .next (busWrite ifc off.toNat v .none s)

/-- PAIR_HI_WRITE (R64). -/
def execPairHiWrite (ifc : Iface) (off : BitVec 28) (v : Word) (s : State) : Host.Outcome State Fault Refusal :=
  .next (busWrite ifc off.toNat v .none s)

/-- SHADOW_COMMIT (R71). -/
def execShadowCommit (ifc : Iface) (g : ShadowGroup) (s : State) : Host.Outcome State Fault Refusal :=
  .next (gatedWrite ifc (groupCtrl g) (w32 1) (shadowCtrlEffect ifc g (w32 1) false) s)

/-- SHADOW_CANCEL (R71); `boundary`: the group's boundary falls in the same cycle. -/
def execShadowCancel (ifc : Iface) (g : ShadowGroup) (boundary : Bool) (s : State) : Host.Outcome State Fault Refusal :=
  .next (gatedWrite ifc (groupCtrl g) (w32 2) (shadowCtrlEffect ifc g (w32 2) boundary) s)

/-- DEBUG_PEEK (R73). -/
def execDebugPeek (ifc : Iface) (off : BitVec 28) (s : State) : Host.Outcome State Fault Refusal :=
  .next (gatedWrite ifc rDBG_PEEK_ADDR (w32 off.toNat) (peekEffect (w32 off.toNat)) s)

/-- PEEK_COMPLETE (R73): the value without side effects, or all ones and ERR. -/
def execPeekComplete (s : State) : Host.Outcome State Fault Refusal :=
  if !rdB s rDBG_PEEK_STATUS 0 then .next s
  else
    let off := rdn s rDBG_PEEK_ADDR / 4 * 4
    .next (match gate .jtag false off s with
      | .open => wr rDBG_PEEK_DATA (view s off) (wrn rDBG_PEEK_STATUS 0 s)
      | .decode => wr rDBG_PEEK_DATA allOnes (wrn rDBG_PEEK_STATUS 2 s)
      | .refused => wr rDBG_PEEK_DATA allOnes (wrn rDBG_PEEK_STATUS 2 s))

/-- BAR2_BASE_WRITE (R427): BAR2 accesses after it use the new base. -/
def execBar2BaseWrite (ifc : Iface) (v : Word) (s : State) : Host.Outcome State Fault Refusal :=
  .next (gatedWrite ifc rPCIE_BAR2_BASE v (plainEffect ifc rPCIE_BAR2_BASE v .none) s)

/-- HOST_DOORBELL (R430). -/
def execHostDoorbell (ifc : Iface) (v : Word) (s : State) : Host.Outcome State Fault Refusal :=
  .next (gatedWrite ifc rPCIE_HDB v (hdbEffect v) s)

/-- MSIX_RAISE (R431). -/
def execMsixRaise (ifc : Iface) (v : Word) (s : State) : Host.Outcome State Fault Refusal :=
  .next (gatedWrite ifc rPCIE_MSIX_RAISE v (msixRaiseEffect v) s)

end Sys2Proof.Machine
end

