-- ==== Sys2Proof/Machine/PcieBus.lean ====
section
/-! DEFINITION. Inbound PCIe requests through BAR0 and BAR2 (R424 to R427). -/

namespace Sys2Proof.Machine

open Sys2Proof

/-- Inbound BAR2 traffic: port FABRIC, class BEST_EFFORT, interface 1 of R490 (R425). -/
def pcieAgent : Agent := { port := 12, cls := 3, who := some 1 }

/-- Does a request reach the endpoint: D6 answers and the link is up (R435)? -/
def pcieHears (s : State) : Bool := domOk s 6 && rdB s rPCIE_LINK 0
/-- Does the function claim memory requests: memory space enabled and not in D3hot (R422, R436)? -/
def pcieClaims (s : State) : Bool := s.pcie.memEn && !rdB s rPCIE_LINK 8

/-- An inbound request is treated as an Unsupported Request (R426). -/
def pcieUr (s : State) : State := bump (rPCIE_CNT 4) 1 { s with pcie := { s.pcie with aer := s.pcie.aer + 1 } }

/-- The completion of a read (R426): Unsupported Request on an error response, EP on poisoned data. -/
def pcieComplete (d : Rd) (s : State) : State :=
  let put (o : PcieOut) (s : State) : State := { s with pcie := { s.pcie with out := o :: s.pcie.out } }
  if d.err then put .cplUr (pcieUr s)
  else put (.cpl d.data d.poison) (onlyIf d.poison (bump (rPCIE_CNT 3) 1) s)

/-- The device address of an offset in BAR2 (R424). -/
def bar2Addr (s : State) (off : Nat) : Nat := rdF s rPCIE_BAR2_BASE 17 0 * 2 ^ 30 + off

/-- Does an access through BAR2 touch the register region or the host window? Those are decode errors (R425). -/
def bar2Barred (a len : Nat) : Bool :=
  let bad (x : Nat) : Bool := decide (regionOf x = .reg ∨ regionOf x = .host)
  bad a || bad (a + (len - 1))

/-- A read through BAR2: nothing is taken from a semaphore (R425). -/
def bar2Read (a len : Nat) (s : State) : Rd × State :=
  if bar2Barred a len then ({ err := true }, decodeErr 1 a s)
  else
    let r := devRead pcieAgent a len s
    (r.1, { r.2 with sems := s.sems })

/-- A write through BAR2; one that carries poison is marked where the destination holds marks, and discarded elsewhere (R425,
R426). The journal shows a write that names the register region (R74). Answers whether the response is clean. -/
def bar2Write (a : Nat) (bs : List Byte) (ep : Bool) (s : State) : Bool × State :=
  if bar2Barred a bs.length then (false, logDiscarded .pcie jDECODE a bs (decodeErr 1 a s))
  else if ep ∧ decodesAll s a bs.length ∧ domOk s (regionDom a) ∧ (memNo a).isNone then (true, s)
  else devWrite pcieAgent a bs ep s

/-- PCIE_INBOUND_READ (R425, R426). -/
def execPcieInboundRead (bar2 : Bool) (off : BitVec 34) (len : Fin 4097) (s : State) : Host.Outcome State Fault Refusal :=
  if !pcieHears s then .next s
  else if !pcieClaims s ∨ (!bar2 ∧ 2 ^ 28 < off.toNat + len.val) ∨ 2 ^ 34 < off.toNat + len.val then
    .next (pcieComplete { err := true } s)
  else if bar2 then
    let r := bar2Read (bar2Addr s off.toNat) len s
    .next (pcieComplete r.1 r.2)
  else
    let r := regReadBytes .pcie off.toNat len s
    .next (pcieComplete { data := r.1.1, err := r.1.2 } r.2)

/-- PCIE_INBOUND_WRITE (R425, R426). A write of registers that carries EP is discarded, with entries marked REFUSED (R74; log
entry 86). -/
def execPcieInboundWrite (bar2 : Bool) (off : BitVec 34) (data : List Byte) (ep : Bool) (s : State) :
    Host.Outcome State Fault Refusal :=
  if !pcieHears s then .next s
  else if !pcieClaims s ∨ (!bar2 ∧ 2 ^ 28 < off.toNat + data.length) ∨ 2 ^ 34 < off.toNat + data.length then .next (pcieUr s)
  else
    let s := onlyIf ep (fun s => limited 114 aonMs (raiseE 114 6) (bump (rPCIE_CNT 2) 1 s)) s
    if bar2 then
      let r := bar2Write (bar2Addr s off.toNat) data ep s
      .next (onlyIf (!r.1) pcieUr r.2)
    else if ep then .next (logDiscarded .pcie jREFUSED off.toNat data s)
    else
      let r := regWriteBytes .pcie off.toNat data s
      .next (onlyIf r.1 pcieUr r.2)

end Sys2Proof.Machine
end

