-- ==== Sys2Proof/Machine/LanternExec.lean ====
section
/-! DEFINITION. A Lantern core issues bundles and completes long operations (R310 to R319, R329 to R333, R340, R364 to R370). -/

namespace Sys2Proof.Machine

open Sys2Proof

/-! ### Outside accesses (R315, R317, R349) -/

/-- A core as an agent: port FABRIC, class LANTERN, interface 16 + n of R490. -/
def lanAgent (n : Nat) : Agent := { port := 12, cls := 2, who := some (16 + n) }

/-- The bus interface of a core. -/
def lanIface (n : Nat) : Iface := .lantern (Fin.ofNat 18 n)

/-- A posted store to a device address; answers whether its response is clean. -/
def lanWrite (n a : Nat) (bs : List Byte) (s : State) : Bool × State :=
  if !decodesAll s a bs.length then (false, agentDecodeErr (lanAgent n) a s)
  else match regionOf a with
    | .reg => let r := regWriteBytes (lanIface n) a bs s; (!r.1, r.2)
    | .host => (true, hostWrite a bs s)
    | _ => devWrite (lanAgent n) a bs false s

/-- A long load from a device address other than the host window; `e`: what its protection finds. -/
def lanRead (n a z : Nat) (e : MemErr) (s : State) : Rd × State :=
  if !decodesAll s a z then ({ err := true }, agentDecodeErr (lanAgent n) a s)
  else match regionOf a with
    | .reg => let r := regReadBytes (lanIface n) a z s; ({ data := r.1.1, err := r.1.2 }, r.2)
    | .wm | .am | .ps => if domOk s (regionDom a) then portRead 12 a z e s else ({ err := true }, s)
    | .ldm m | .lim m =>
      if !domOk s 4 then ({ err := true }, s)
      else if e = .uncorrectable then ({ err := true }, outsideBad m a s)
      else devRead (lanAgent n) a z (lanCorrected m e s)
    | _ => devRead (lanAgent n) a z s

/-! ### Fetch (R331, R340) -/

/-- The words of the bundle at `pc` in instruction memory. -/
def imemBundle (s : State) (n pc : Nat) : List Nat :=
  takeBundle 6 ((upto 6).map (fun i => memLe s (lanternBase n + 0x800000 + (pc + 4 * i) % 65536) 4))

/-- The bundle of the loop buffer at `pc`, while the loop runs from it. -/
def bufBundle (l : Lan) (pc : Nat) : Option (List Nat) :=
  if l.lbPhase = .running then (l.lbBody.find? (fun x => decide (x.1 = pc))).map (·.2) else none

/-- The bundle at `pc`. -/
def bundleAt (s : State) (n : Nat) (l : Lan) (pc : Nat) : List Nat := (bufBundle l pc).getD (imemBundle s n pc)

/-- The address after the bundle at `pc`. -/
def bundleEnd (s : State) (n : Nat) (l : Lan) (pc : Nat) : Nat := (pc + 4 * (bundleAt s n l pc).length) % 65536

/-! ### Checks before issue -/

/-- Is this syllable an SWAIT.Y (R354)? -/
def isSwait (y : LSyl) : Bool := decide (y.slot = 2 ∧ y.opc = 0x1D)
/-- Is this a long operation of the divide unit? -/
def isUnit (o : LLong) : Bool := match o.op with | .unit _ => true | _ => false

/-- The rules of a bundle as a whole (R312, R313, R370). -/
def bundleLegal (l : Lan) (ys : List (LSyl × LEff)) : Bool :=
  !anyClash (ys.map (·.2.dsts)) &&
  !(l.inSlot && ys.any (fun x => decide (x.2.flow ≠ .next))) &&
  (!ys.any (fun x => isSwait x.1) || (decide (ys.length = 1) && ys.all (fun x => x.1.ext.isNone) && !l.inSlot))

/-- Does the bundle wait for a pending register, for the divide unit, or for room for its long operations (R314)? -/
def bundleWaits (l : Lan) (es : List LEff) : Bool :=
  let tag (r : LReg) : Bool := l.longs.any (fun o => regClash r o.dst)
  let new := es.filterMap (·.long)
  es.any (fun e => e.reads.any tag || e.dsts.any tag) ||
  (l.longs.any isUnit && new.any isUnit) || decide (new ≠ [] ∧ 8 < l.longs.length + new.length)

/-- Bubbles of split local accesses: none while one M slot is free (R318). -/
def memBubbles (ys : List (LSyl × LEff)) : Nat :=
  let acc (x : LSyl × LEff) : Bool := decide (x.1.slot = 2 ∨ x.1.slot = 3) && !x.2.fence
  let cross (x : LSyl × LEff) : Bool :=
    match x.2.load, x.2.store with
    | some (_, _, _, z, a), _ => decide (64 < a % 64 + z)
    | none, some (true, a, z, _) => decide (64 < a % 64 + z)
    | _, _ => false
  if (ys.filter acc).length = 2 then (ys.filter cross).length else 0

/-! ### Effects of an issued bundle -/

/-- What the protection of local data memory finds under a syllable: nothing where it reads no word there. A store of part of a
word reads that word as well (R316; log entry 59). -/
def errUnder (err0 err1 : MemErr) (x : LSyl × LEff) : MemErr :=
  let reads : Bool := match x.2.load, x.2.store with
    | some _, _ => true
    | none, some (loc, a, z, _) => loc && decide (a % 8 ≠ 0 ∨ z % 8 ≠ 0)
    | none, none => false
  if reads then (if x.1.slot = 2 then err0 else err1) else .none

/-- A local load reads memory as it was before the bundle (R313); an uncorrectable error writes nothing and raises source 1
(R316). -/
def loadEff (s : State) (n : Nat) (l : Lan) (err0 err1 : MemErr) (x : LSyl × LEff) : LEff :=
  let bad := decide (errUnder err0 err1 x = .uncorrectable)
  match x.2.load, x.2.store with
  | some (d, low, k, z, a), _ =>
    if bad then { x.2 with writes := [], fail := some (1, some a) }
    else { x.2 with writes := x.2.writes ++ [(d, low, loadValue l k z (memBytes s (lanternBase n + a) z), 4)] }
  | none, some (_, a, _, _) => if bad then { x.2 with store := none, fail := some (1, some a) } else x.2
  | none, none => x.2

/-- The stores of a bundle to local data memory, in order. -/
def localStores (n : Nat) (es : List LEff) (s : State) : State :=
  forAll es (fun e s => match e.store with
    | some (true, a, z, v) => storeLe (lanternBase n + a) z v s
    | some (false, _, _, _) | none => s) s

/-- A posted store reaches its target; one that fails raises source 6 (R315, R320). -/
def runPost (n : Nat) (p : LPost) (s : State) : State :=
  let w := lanWrite n p.addr (leBytes p.z p.val) s
  match w.1, p.pc with
  | false, some pc => raiseSync n 6 pc (some p.addr) w.2
  | _, _ => w.2

/-- The posted stores that have no earlier access of the core ahead of them complete, in issue order (R65, R315). -/
def flushPosts (n : Nat) (s : State) : State :=
  let due := (lan s n).posts.takeWhile (fun p => decide (p.wait = 0))
  if due.isEmpty then s
  else forAll due (runPost n) (setLan n { lan s n with posts := (lan s n).posts.drop due.length } s)

/-- The stores of a bundle at `pc` through a window are posted: each waits for the long accesses that the core has issued (R65,
R315, R329). -/
def postStores (n pc : Nat) (es : List LEff) (s : State) : State :=
  forAll es (fun e s => match e.store with
    | some (false, a, z, v) =>
      let l := lan s n
      let p : LPost := { addr := a, z := z, val := v, wait := (l.longs.filter (fun o => !isUnit o)).length, pc := some pc }
      flushPosts n (setLan n { l with posts := l.posts ++ [p] } s)
    | some (true, _, _, _) | none => s) s

/-- A long access of the core is over: the posted stores behind it move up. -/
def postsMoveUp (n : Nat) (s : State) : State :=
  let l := lan s n
  if l.posts.isEmpty then s
  else flushPosts n (setLan n { l with posts := l.posts.map (fun p => { p with wait := p.wait - 1 }) } s)

/-- A long operation begins; a load from the host window goes out as a PCIe read (R314, R429). -/
def startLong (n : Nat) (o : LLong) (s : State) : State :=
  let add (o : LLong) (s : State) : State := setLan n { lan s n with longs := (lan s n).longs ++ [o] } s
  let isLoad : Bool := match o.op with | .load _ => true | _ => false
  if isLoad ∧ regionOf o.addr = .host ∧ decodesAll s o.addr o.z then
    let r := hostRead (lanReq n) [(o.addr, o.z)] s
    add { o with tag := some (freeTag s), host := if r.1 then none else some ([], false) } r.2
  else add o s

/-- How a branch continues. -/
structure LJump where
  branch : Bool := true
  target : Option Nat := none
  ret : Option LRet := none
  /-- A new value of A15, of the return stack; a pushed word and its local address. -/
  a15 : Option Nat := none
  rstk : Option (List Nat) := none
  push : Option (Nat × Nat) := none
  fail : Option (Nat × Option Nat) := none
deriving DecidableEq, Repr

/-- The flow of a bundle that ends at `nxt`: calls and returns by the memory stack or the return stack (R333, R366), RETI with
its look for a source that chains (R326). `popErr`: an uncorrectable error under the popped word. -/
def jumpOf (s : State) (n : Nat) (l : Lan) (nxt : Nat) (popErr : MemErr) : LFlow → LJump
  | .next => { branch := false }
  | .stay => {}
  | .go t => { target := some t }
  | .loop _ taken t => { target := if taken then some t else none }
  | .call t =>
    let ra := bundleEnd s n l (bundleEnd s n l nxt)
    let f := addOff (l.getA 15) (-8)
    if l.rstack then { target := some t, rstk := some (ra :: l.rstk) }
    else if isLocal f 8 then { target := some t, a15 := some f, push := some (f, ra) }
    else { fail := some (6, some f) }
  | .ret =>
    let a := l.getA 15
    if l.rstack then { target := some (l.rstk.headD 0), rstk := some l.rstk.tail }
    else if !isLocal a 8 then { fail := some (6, some a) }
    else if popErr = .uncorrectable then { fail := some (1, some a) }
    else { target := some (memLe s (lanternBase n + a) 8 % 65536), a15 := some (addOff a 8) }
  | .reti =>
    let a := l.getA 15
    if isLocal a 64 then { ret := some { frame := a, chain := winner s n (w32 (memLe s (lanternBase n + a + 8) 8)) } }
    else { fail := some (4, some a) }

/-- The loop buffer after a bundle of words `ws` issues (R331, R365): capture begins at the first bundle of a prepared loop, ends
after the delay slots of its own LOOP, and fails on any other taken branch, on a write of PSW, and beyond 64 bundles. A capture
replaces what was kept across an interrupt. -/
def Lan.bufNext (l : Lan) (ws : List Nat) (flow : LFlow) (taken psw : Bool) : Lan :=
  let head : Bool := (upto 2).any (fun k => decide (tget 0 l.lbase k = l.pc ∧ tget 0 l.lc k ≠ 0))
  let l : Lan :=
    if l.pswBit 4 ∧ head ∧ (l.lbPhase = .none ∨ l.lbPhase = .kept ∨ (l.lbPhase = .capturing ∧ l.lbStart ≠ l.pc)) then
      { l with lbPhase := .capturing, lbStart := l.pc, lbBody := [] }
    else l
  let own : Bool := match flow with
    | .loop k _ _ => decide (tget 0 l.ltail k = l.pc ∧ tget 0 l.lbase k = l.lbStart)
    | _ => false
  let grown := l.lbBody ++ [(l.pc, ws)]
  let broken : Bool := (taken && !own) || psw || (own && !taken) || decide (64 < grown.length)
  let off : Lan := { l with lbPhase := .none, lbBody := [] }
  match l.lbPhase with
  | .none | .kept => l
  | .capturing => if broken then off else { l with lbPhase := if own then .ending 2 else .capturing, lbBody := grown }
  | .ending k => if broken then off else { l with lbPhase := if k ≤ 1 then .running else .ending (k - 1), lbBody := grown }
  | .running => if taken ∧ !own then off else l

/-- What a bundle leaves on its way to the registers of the core (R311, R328, R330, R358, R364). -/
def Lan.take (l : Lan) (ys : List (LSyl × LEff)) (j : LJump) (flow : LFlow) : Lan :=
  let es := ys.map (·.2)
  let n := l.n
  let ws := es.flatMap (fun e => e.writes.map (fun w =>
    ({ dst := w.1, low := w.2.1, val := w.2.2.1, at_ := n, due := n + w.2.2.2 } : LWrite)))
  let wa : List LWrite := match j.a15 with | some a => [{ dst := .a 15, val := a, at_ := n, due := n + 1 }] | none => []
  let ms := es.filterMap (fun e => e.mode.map (fun m => ({ cr := some m.1, val := m.2, at_ := n, due := n + 3 } : LMode)))
  let rot : List LMode := match flow with | .loop _ _ _ => [{ cr := none, at_ := n, due := n + 3 }] | _ => []
  let rs := match j.rstk with
    | some r => r
    | none => es.foldl (fun r e => match e.push with
      | some v => v :: r
      | none => if e.pop then r.tail else r) l.rstk
  let v0 := ys.filter (fun x => decide (x.1.slot = 4))
  { l with
    writes := l.writes ++ ws ++ wa
    modes := l.modes ++ ms ++ rot
    sats := l.sats ++ es.filterMap (fun e => e.sat.map (fun d => (n, n + d)))
    modeAt := if ms.isEmpty then l.modeAt else n + 1
    brAt := if j.branch then n + 1 else l.brAt
    target := if j.branch then j.target else l.target
    ret := if j.branch then j.ret else l.ret
    rstk := rs
    fence := es.any (·.fence)
    v0w := if v0.isEmpty then l.v0w else v0.flatMap (fun x => x.2.dsts.filterMap (fun d => match d with | .v p => some p | _ => none))
    v0At := if v0.isEmpty then l.v0At else n + 1 }

/-- The bundle at `pc` is behind: the next one follows it, or stands at the target once the second delay slot has issued (R312);
after those of RETI the frame is read or the handlers chain (R326). -/
def advance (n nxt : Nat) (s : State) : State :=
  let l := lan s n
  let second : Bool := decide (l.brAt ≠ 0 ∧ l.n = l.brAt + 1)
  let on (pc : Nat) : Lan := { l with last := l.pc, pc := pc, n := l.n + 1 }
  if !second then setLan n (on nxt) s
  else match l.ret, l.target with
    | some r, _ => finishReti n r (setLan n { on nxt with ret := none } s)
    | none, some t => let v := bundleAddr t s; setLan n { on v.1 with target := none } v.2
    | none, none => setLan n (on nxt) s

/-- A stall is counted (R314). -/
def stallPend (n : Nat) (s : State) : State := bumpW (rLC_CNT n 1) 1 s

/-- A legal bundle that need not wait issues whole: results and local stores, long operations, the move to the next bundle, the
sources that it raises, and last its posted stores, which may reach the core's own registers. -/
def issueBundle (n : Nat) (ws : List Nat) (ys : List (LSyl × LEff)) (err0 err1 : MemErr) (s : State) : State :=
  let l := lan s n
  let nxt := (l.pc + 4 * ws.length) % 65536
  let flow := ((ys.map (·.2.flow)).find? (fun f => decide (f ≠ .next))).getD .next
  let j := jumpOf s n l nxt (if ys.any (fun x => decide (x.1.slot = 2)) then .none else err0) flow
  let zs := ys.map (fun x => (x.1, loadEff s n l err0 err1 x))
  let es := zs.map (·.2)
  let psw : Bool := es.any (fun e => match e.mode with | some m => decide (m.1 = 0) | none => false)
  let vec : Bool := ys.any (fun x => decide (4 ≤ x.1.slot))
  let s := bumpW (rLC_CNT n 0) 1 (bumpW (rLC_CNT n 2) (memBubbles ys) s)
  let s := onlyIf (bufBundle l l.pc).isSome (bumpW (rLC_CNT n 4) 1) s
  let s := onlyIf vec (fun s => { s with free := s.free + 512 }) s
  let s := forAll ys (fun x => lanCorrected n (errUnder err0 err1 x)) (setLan n ((l.bufNext ws flow j.target.isSome psw).take zs j flow) s)
  let s := localStores n es s
  let s := match j.push with | some p => storeLe (lanternBase n + p.1) 8 p.2 s | none => s
  let s := forAll (es.filterMap (·.long)) (startLong n) s
  let s := advance n nxt s
  postStores n l.pc es (raiseSyncs n l.pc (es.filterMap (·.fail) ++ j.fail.toList) s)

/-- The bundle at the PC, before its checks: BUNDLE_ISSUE once nothing else holds the core. -/
def tryBundle (n : Nat) (ierr err0 err1 : MemErr) (s : State) : State :=
  let l0 := lan s n
  let l := if l0.lbPhase = .running ∧ (bufBundle l0 l0.pc).isNone then { l0 with lbPhase := .none, lbBody := [] } else l0
  let s := setLan n l s
  let ws := bundleAt s n l l.pc
  let nxt := (l.pc + 4 * ws.length) % 65536
  let fetched := (bufBundle l l.pc).isNone
  if ierr = .uncorrectable ∧ fetched then imemHalt n s
  else
    let s := onlyIf fetched (lanCorrected n ierr) s
    let l := lan s n
    let illegal (s : State) : State := raiseSync n 0 l.pc none (advance n nxt s)
    match (bundleOf ws).bind (evalAll l l.pc (4 * ws.length) s.free) with
    | none => illegal s
    | some ys =>
      let es := ys.map (·.2)
      let calls : Bool := es.any (fun e => match e.flow with | .call _ => true | _ => false)
      let rets : Bool := es.any (fun e => decide (e.flow = .ret))
      -- sources 2 and 3 come before the call or return takes effect: it is the next bundle again (R327)
      let again (src : Nat) (s : State) : State := raiseSync n src l.pc none (setLan n { l with n := l.n + 1, last := l.pc } s)
      if !bundleLegal l ys then illegal s
      else if bundleWaits l es then stallPend n s
      else if l.rstack ∧ calls ∧ 32 ≤ l.rstk.length then again 2 s
      else if l.rstack ∧ rets ∧ l.rstk = [] then again 3 s
      else if ys.any (fun y => isSwait y.1) ∧ l.pswBit 6 then lanDouble n s
      else issueBundle n ws ys err0 err1 s

/-- BUNDLE_ISSUE (R310 to R319, R323, R324, R334): nothing issues while an SWAIT.Y is out, while a source is to be accepted at an
interruptible boundary, or while HALT is due there. `ierr`, `err0`, `err1`: what the protection of instruction memory and of
the local data memory under M0 and M1 finds. -/
def execBundleIssue (n : Fin 18) (ierr err0 err1 : MemErr) (s : State) : Host.Outcome State Fault Refusal :=
  let s := flushPosts n s
  if !lanRuns s n then .next s
  else
    let l := (lan s n).landAt (lan s n).n
    let s := setLan n l s
    let w := winner s n l.psw
    let sync : Bool := (w.map (fun x => decide (x < 8))).getD false
    if l.longs.any (fun o => decide (o.op = .swait)) then .next (stallPend n s)
    else if l.interruptible ∧ (sync ∨ (w.isSome ∧ l.seen)) then .next s
    else if rdB s (rLC_CTRL n) 0 ∧ l.interruptible ∧ w.isNone then .next (haltIfDue n s)
    else if l.fence ∧ (l.longs.any (fun o => !isUnit o) ∨ l.posts ≠ []) then .next s
    else
      let s := setLan n { l with seen := w.isSome, fence := false } s
      .next (haltIfDue n (tryBundle n ierr err0 err1 s))

/-! ### Long operations complete (R314, R368 to R370) -/

/-- The access of a long operation and what it brings: a value, or a failure (poisoned data and error responses too). -/
def longAccess (n : Nat) (o : LLong) (e : MemErr) (s : State) : Option Nat × State :=
  let g := o.addr / 64 * 64
  let rd_ (k : LKind) : Option Nat × State :=
    let r := lanRead n o.addr o.z e s
    (if r.1.err ∨ r.1.poison then none else some (loadValue (lan s n) k o.z r.1.data), r.2)
  match o.op with
  | .unit v => (some v, s)
  | .load k => match o.host with
    | some h => (if h.2 then some (loadValue (lan s n) k o.z h.1) else none, s)
    | none => rd_ k
  | .lr =>
    let r := rd_ .sx
    let s := dropResv n r.2
    (r.1, if r.1.isSome then { s with resv := (n, g) :: s.resv } else s)
  | .sc v =>
    if !decodesAll s o.addr o.z then (none, dropResv n (agentDecodeErr (lanAgent n) o.addr s))
    else if s.resv.contains (n, g) then
      let w := lanWrite n o.addr (leBytes o.z v) s
      (if w.1 then some 1 else none, dropResv n w.2)
    else (some 0, dropResv n s)
  | .tas | .swait => rd_ .zx

/-- Does a long operation still wait for its host window data? -/
def hostWaits (o : LLong) : Bool := o.tag.isSome && o.host.isNone

/-- LONG_OP_COMPLETE (R314, R368 to R370): the oldest memory operation, or the oldest of the divide unit, writes its result and
clears its tag; a failure raises source 6, and an SWAIT.Y that finds 0 source 7, with the PC back at it. The posted stores behind
a memory operation follow (R315). `e`: what the protection of the memory it reads finds. -/
def execLongOpComplete (n : Fin 18) (mem : Bool) (err : MemErr) (s : State) : Host.Outcome State Fault Refusal :=
  if !lanternActive s n ∨ !domRun s 4 then .next s
  else match (lan s n).longs.find? (fun o => isUnit o != mem) with
    | none => .next s
    | some o =>
      if hostWaits o then .next s
      else
        let r := longAccess n o err s
        let l := lan r.2 n
        let s := setLan n { l with longs := l.longs.erase o } r.2
        let s := match r.1 with
          | none => raiseSync n 6 o.pc (some o.addr) s
          | some v =>
            if o.op = .swait ∧ v = 0 then raiseSync n 7 o.pc none (setLan n { lan s n with pc := o.pc } s)
            else setLan n ((lan s n).put o.dst o.low v) s
        .next (onlyIf mem (postsMoveUp n) s)

end Sys2Proof.Machine
end

