-- ==== Sys2Proof/Machine/NetRx.lean ====
section
/-! DEFINITION. The receiving side of Cyndasis Transport: checks on arrival (R449, R450, R469, R473), the receive state
(R453), what each message does (R454, R457 to R461, R463, R472 to R474, R483), and answers (R450, R452, R460). -/

namespace Sys2Proof.Machine

open Sys2Proof

/-! ### Messages as they arrive -/

/-- The message of type `t` that a command brings, and its sender. -/
def ctpMsgOf (m : CtpIn) (t : Nat) : CtpMsg :=
  { type := t, flags := m.flags.toNat, member := m.member.toNat, epoch := m.epoch.toNat, slot := m.slot.toNat, gen := m.gen.toNat,
    seq := m.seq.toNat, jobId := m.jobId.toNat, serial := m.serial.toNat, channel := m.channel.toNat, payload := m.payload,
    block := m.block }
def ctpPeerOf (m : CtpIn) : Peer := { ifc := m.ifc, addr := m.addr.toNat, port := m.port.toNat, mac := m.mac.toNat }

/-- GROUPED of a message. -/
def msgGrouped (m : CtpMsg) : Bool := nbit m.member 3
/-- The member that sends a GROUPED message of a current epoch (R459, R473). -/
def msgMember (s : State) (p : Peer) (m : CtpMsg) : Option Nat :=
  let k := m.member % 8
  if msgGrouped m ∧ peerMember s p = some k ∧ epochCurrent s k m.epoch then some k else none

/-- Does a payload have the form that R450 gives its type (log entry 64)? -/
def payloadOk (m : CtpMsg) : Bool :=
  let n := m.payload.length
  (decide (m.block.length = if nbit m.flags 6 then 12 else 0)) &&
  match m.type with
  | 1 => decide (n = 40)
  | 2 => decide (n = 0)
  | 3 => decide (48 ≤ n)
  | 4 => decide (1 ≤ m.channel ∧ m.channel ≤ 32 ∧ n = 4 * m.channel)
  | 5 => decide (1 ≤ m.channel ∧ m.channel ≤ 32 ∧ n = 8 * m.channel)
  | 6 => decide (n = 8 * m.channel)
  | 7 => decide (9 ≤ n ∧ n ≤ 8200)
  | 8 => decide (2 ≤ n)
  | 9 => decide (n = 4)
  | 10 => decide (n = 8)
  | 12 => decide (n = 42)
  | 13 => decide (2 ≤ n)
  | 14 => decide (n = 8)
  | 15 => decide (1 ≤ n)
  | _ => true

/-- Answers are sent to a peer by the message that they answer. -/
def ackOf (m : CtpMsg) : CtpMsg := { type := 2, seq := m.seq }

/-! ### The receive ring (R457) -/

/-- An entry is written into the receive ring; false where it is full. -/
def rxPut (kind ifc flags : Nat) (hdr data : List Byte) (dirty : Bool) (s : State) : Bool × State :=
  let cfg := rd s rCTP_RXQ_CFG
  let ln := fld cfg 3 0
  let lz := fld cfg 7 4
  let n := 2 ^ (if 4 ≤ ln ∧ ln ≤ 12 then ln else 6)
  let z := 2 ^ (if 11 ≤ lz ∧ lz ≤ 14 then lz else 14)
  let q := rdn s rCTP_RXQ_PROD
  if (q + 2 ^ 32 - rdn s rCTP_RXQ_CONS) % 2 ^ 32 = n then (false, bump (rCTP_CNT 14) 1 s)
  else
    let a := rd64 s rCTP_RXQ_BASE_LO / 64 * 64 % 2 ^ 48 + q % n * z
    let body := data.take (z - 64)
    let fl := flags + 2 * b2n (!timeLocked s) + 4 * b2n (decide (body.length < data.length))
    let head := leBytes 4 q ++ leBytes 1 kind ++ leBytes 1 ifc ++ leBytes 2 fl ++ leBytes 8 (dtime s) ++ leBytes 4 body.length ++
      zeros 12 ++ padTo 32 hdr
    let s := if body.isEmpty then s else devPut netAgent (a + 64) body dirty s
    let s := wrn rCTP_RXQ_PROD (q + 1) (devPut netAgent a head false s)
    (true, assertSrc (rdF s rCTP_CFG 4 0) 13 s)

/-! ### What messages do when they are carried out -/

/-- The interface of the journal for accesses from an IF (R440). -/
def ifSource (k : Nat) : Iface := if k = 8 then .mgmt else if 4 ≤ k then .eth1 else .eth0

/-- The accesses of a REG_READ in payload order, and the pairs of the answer (R458). -/
def regReads (i : Iface) : Nat → List Byte → State → List Byte × State
  | 0, _, s => ([], s)
  | k + 1, b, s =>
    let t := busReadAligned i (leAt 0 4 b) .none s
    let r := regReads i k (b.drop 4) t
    (leBytes 4 (b2n t.resp.err) ++ leBytes 4 (if t.resp.err then allOnes else t.resp.data.headD allOnes).toNat ++ r.1, r.2)

/-- The accesses of a REG_WRITE (R458). -/
def regWrites (i : Iface) : Nat → List Byte → State → List Byte × State
  | 0, _, s => ([], s)
  | k + 1, b, s =>
    let off := leAt 0 4 b
    let t := busWrite i off (w32 (leAt 4 4 b)) .none s
    let r := regWrites i k (b.drop 8) t
    (leBytes 4 (b2n t.resp.err) ++ leBytes 4 (if t.resp.err then allOnes else view t off).toNat ++ r.1, r.2)

/-- Device address of the first byte of the memory of window `w` (R306). -/
def crwMemBase (s : State) (w : Nat) : Nat :=
  match rdF s (rCRW_CFG w) 2 1 with | 0 => wmBase | 1 => amBase | _ => psBase

/-- A window releases its semaphore (R304, R461). -/
def crwSignal (w : Nat) (s : State) : State :=
  onlyIf (rdB s (rCRW_CFG w) 30) (semRelease (rdF s (rCRW_CFG w) 29 20) 1) s

/-- A remote write arrives (R304, R459): it is written and acknowledged, or refused with the reason and the credits. -/
def remoteWriteIn (p : Peer) (m : CtpMsg) (s : State) : CtpMsg × State :=
  let w := m.channel
  let off := (crwRange s w).1 + leAt 0 4 m.payload
  let data := m.payload.drop 8
  let reason := if 64 ≤ w ∨ !crwOpen s w then 1 else match msgMember s p m with
    | none => 2
    | some k => crwReason s w k off data.length
  if reason = 0 then
    let s := wrF (rCRW_CREDITS w) 15 0 (rdF s (rCRW_CREDITS w) 15 0 - crwNeed data.length) s
    let s := devPut netAgent (crwMemBase s w + off) data (nbit m.flags 3) s
    (ackOf m, crwSignal w (bump (rSP_CNT 10) 1 (bump (rCRW_USED w) 1 s)))
  else
    let s := onlyIf (decide (w < 64)) (fun s => wrn (rCRW_STATUS w) reason (bump (rCRW_REFUSED w) 1 s)) (bump (rSP_CNT 11) 1 s)
    let s := limited (8500 + min w 64) aonMs (raiseE 85 0) s
    let c := if w < 64 then rdF s (rCRW_CREDITS w) 15 0 else 0
    ({ type := 9, seq := m.seq, channel := w, payload := leBytes 1 reason ++ [0] ++ leBytes 2 c }, s)

/-- A WRITE_LOST that passes checks 1, 2, 3 and 5 of R304 marks its range and releases the semaphore (R461, R478). -/
def writeLostIn (p : Peer) (m : CtpMsg) (s : State) : State :=
  let w := m.channel
  let r := crwRange s w
  let off := r.1 + leAt 0 4 m.payload
  let len := leAt 4 4 m.payload
  let c := rd s (rCRW_CFG w)
  let ok := decide (w < 64) && crwOpen s w && (match msgMember s p m with | some k => bit c 7 || decide (fld c 6 4 = k) | none => false) &&
    decide (off + len ≤ r.1 + r.2) && (!bit c 3 || genOk s (fld c 11 8) (fld c 19 12))
  if ok then
    let a := crwMemBase s w + off
    crwSignal w (onlyIf (decodesAll s a len) (forAll (unitsOf s a len) (fun u s => setPoison u.1 true s)) s)
  else s

/-- A MSG goes to the receive ring, unless its job's generation has passed (R454, R457); false: the ring is full. -/
def msgRx (p : Peer) (m : CtpMsg) (checkOk : Bool) (s : State) : Bool × State :=
  if nbit m.flags 7 ∧ !genOk s (m.slot % 16) m.gen then (true, bump (rCTP_CNT 9) 1 s)
  else
    let r := rxPut 0 p.ifc (b2n (nbit m.flags 3) + 8 * b2n checkOk) ((ctpBytes m).take 32) m.payload (nbit m.flags 3) s
    (r.1, onlyIf (r.1 && rdB s rCTP_CFG 5) wakeRequest r.2)

/-- The first reason of R472 for which the primary refuses a JOIN; 0: it agrees. -/
def joinReason (m : CtpMsg) (s : State) : Nat :=
  let dig := (upto 8).flatMap (fun j => leBytes 4 (rdn s (rIMG_DIGEST j)))
  let k := leAt 41 1 m.payload
  if m.payload.take 32 ≠ dig then 1
  else if leAt 32 4 m.payload ≠ fwVersion s then 2
  else if leAt 36 4 m.payload ≠ groupCfgId s then 3
  else if leAt 40 1 m.payload ≠ ptpDomain s then 4
  else if k = 0 ∨ groupSize s ≤ k ∨ (memberBit s k ∧ (mate s k).serial ≠ m.serial) then 5
  else if grpState s ≠ 3 then 6
  else if 1000 ≤ (mate s k).theta.natAbs ∨ !timeLocked s ∨ nbit m.flags 4 then 7
  else 0

/-- A JOIN at the receiver: an accepted member gets the next epoch (R472, R473). -/
def joinRx (m : CtpMsg) (s : State) : CtpMsg × State :=
  let k := leAt 41 1 m.payload
  let r := joinReason m s
  if r = 0 then
    let x := mate s k
    let e := if x.epoch = 255 then 1 else x.epoch + 1
    let s := wrB rGRP_STATUS (8 + k) true (setMate k { x with epoch := e, serial := m.serial } s)
    ({ type := 13, seq := m.seq, payload := leBytes 1 0 ++ leBytes 1 e }, bump (rGRP_CNT 0) 1 s)
  else ({ type := 13, seq := m.seq, payload := leBytes 1 r ++ leBytes 1 0 }, bump (rGRP_CNT 1) 1 s)

/-- A LEAVE at the primary (R483). -/
def leaveRx (p : Peer) (s : State) : State :=
  match peerMember s p with
  | some k => onlyIf (decide (grpState s = 3)) (wrB rGRP_STATUS (8 + k) false) s
  | none => s

/-- A reliable message is carried out; its answer. Type 0 stands for a message whose check block was a repeat: it is dropped
and acknowledged (R469). -/
def carryOut (p : Peer) (h : HeldMsg) (s : State) : CtpMsg × State :=
  let m := h.msg
  match m.type with
  | 4 =>
    let r := regReads (ifSource p.ifc) m.channel m.payload s
    ({ type := 6, seq := m.seq, channel := m.channel, payload := r.1 }, r.2)
  | 5 =>
    let r := regWrites (ifSource p.ifc) m.channel m.payload s
    ({ type := 6, seq := m.seq, channel := m.channel, payload := r.1 }, r.2)
  | 7 => remoteWriteIn p m s
  | 8 => (ackOf m, creditArrived p m.channel s)
  | 10 => (ackOf m, writeLostIn p m s)
  | 11 => (ackOf m, (msgRx p m h.checkOk s).2)
  | 12 => joinRx m s
  | 14 => (ackOf m, loadWake (leAt 0 8 m.payload) s)
  | 15 => (ackOf m, leaveRx p s)
  | _ => (ackOf m, s)

/-! ### The receive state of an association (R453) -/

def rxOf (s : State) (k : Nat) : Option RxState := match assoc s k with | some a => a.rx | none => none
def updRx (k : Nat) (f : RxState → RxState) (s : State) : State := updAssoc k (fun a => { a with rx := a.rx.map f }) s

/-- An answer is stored, the latest 64, and sent. -/
def sendAnswer (k : Nat) (p : Peer) (q : Nat) (m : CtpMsg) (s : State) : State :=
  ctpSend p m (updRx k (fun x => { x with answers := ((q, m) :: x.answers.filter (fun y => decide (y.1 ≠ q))).take 64 }) s)

/-- Is a message of a type answered as soon as it is held: with ACK, whatever it does? -/
def ackOnHold (t : Nat) : Bool := !([4, 5, 7, 12].contains t)

/-- The message that is next is carried out, RX_NEXT advances, and it is answered unless that was done when it was held. -/
def carryNext (k : Nat) (p : Peer) (h : HeldMsg) (s : State) : State :=
  let r := carryOut p h s
  let s := updRx k (fun x => { x with next := (h.msg.seq + 1) % 2 ^ 32 }) r.2
  if h.answered then s else sendAnswer k p h.msg.seq r.1 s

/-- Held messages that have become next are carried out in order. -/
def drainHeld (k : Nat) (p : Peer) : Nat → State → State
  | 0, s => s
  | n + 1, s =>
    match rxOf s k with
    | none => s
    | some x =>
      match x.held.find? (fun h => decide (h.msg.seq = x.next)) with
      | none => s
      | some h => drainHeld k p n (carryNext k p h
          (updRx k (fun x => { x with held := x.held.filter (fun y => decide (y.msg.seq ≠ h.msg.seq)) }) s))

/-- A reliable message meets the receive state. `m.type` 0: its check block was a repeat. -/
def reliableIn (k : Nat) (p : Peer) (m : CtpMsg) (checkOk : Bool) (s : State) : State :=
  let fresh := nbit m.flags 2 && (match rxOf s k with | none => true | some x => decide (x.serial ≠ m.serial))
  let s := onlyIf fresh (updAssoc k (fun a => { a with rx := some { next := m.seq, serial := m.serial } })) s
  match rxOf s k with
  | none => bump (rCTP_CNT 6) 1 s
  | some x =>
    let d := (m.seq + 2 ^ 32 - x.next) % 2 ^ 32
    let h : HeldMsg := { msg := m, answered := false, checkOk := checkOk }
    if d = 0 then
      -- a full ring leaves a MSG to its sender's retries
      if m.type = 11 ∧ !(msgRx p m checkOk s).1 then (msgRx p m checkOk s).2
      else drainHeld k p 64 (carryNext k p h s)
    else if d ≤ 63 then
      let again := x.held.any (fun y => decide (y.msg.seq = m.seq))
      let s := onlyIf (!again) (updRx k (fun x => { x with held := x.held ++ [{ h with answered := ackOnHold m.type }] })) s
      onlyIf (ackOnHold m.type) (sendAnswer k p m.seq (ackOf m)) s
    else if 2 ^ 32 - 64 ≤ d then
      if x.skipped.contains m.seq then bump (rCTP_CNT 8) 1 s
      else match x.answers.find? (fun y => decide (y.1 = m.seq)) with
        | some y => ctpSend p y.2 (bump (rCTP_CNT 5) 1 s)
        | none => bump (rCTP_CNT 6) 1 s
    else bump (rCTP_CNT 6) 1 s

/-! ### Answers (R452, R460, R472) -/

/-- JOIN_RESP at the member (R472). -/
def joinRespIn (m : CtpMsg) (s : State) : State :=
  let r := leAt 0 1 m.payload
  if ownMember s = 0 ∨ groupSize s ≤ 1 then s
  else if r = 0 then setGrpState 2 (wrF rGRP_STATUS 23 16 (leAt 1 1 m.payload) (bump (rGRP_CNT 0) 1 s))
  else raiseE 125 5 (setGrpState 5 (wrF rGRP_STATUS 7 4 (r % 16) (bump (rGRP_CNT 1) 1 s)))

/-- Remote writes to a window that have not gone out yet wait behind the one that was refused for credit (R460). -/
def holdLater (k : Nat) (p : Peer) (w : Nat) (s : State) : State :=
  match assoc s k with
  | none => s
  | some a =>
    let later (t : TxMsg) : Bool := decide (t.msg.type = 7 ∧ t.msg.channel = w)
    forAll (a.backlog.filter later) (fun t s => match t.desc with
        | some n => updDesc n (fun d => { d with waits := d.waits ++ [(p, t.dest)], msg := some t.msg }) s
        | none => s)
      (setAssoc k (some { a with backlog := a.backlog.filter (fun t => !later t) }) s)

/-- An answer ends the retransmission of its message; a late one is discarded. `withCredit`: a CREDIT for the window reached
the sender together with a NO_CREDIT refusal and applies first (R484). -/
def answerIn (k : Nat) (p : Peer) (m : CtpMsg) (withCredit : Bool) (s : State) : State :=
  let s := updAssoc k (fun a => { a with answered := true }) s
  match findTx s k m.seq with
  | none => bump (rCTP_CNT 4) 1 s
  | some t =>
    let s := removeTx k m.seq s
    let reason := leAt 0 1 m.payload
    let s :=
      if m.type = 9 ∧ reason = 4 then
        if withCredit then sendReliable k { t with retx := 0 } s
        else match t.desc with
          | some n => holdLater k p t.msg.channel
              (updDesc n (fun d => { d with waits := d.waits ++ [(p, t.dest)], msg := some { t.msg with seq := 0 } }) s)
          | none => s
      else if m.type = 9 then
        descStep t.desc (fun d => { d with status := joinStatus d.status (sREFUSED + 256 * (reason % 16)) }) s
      else descStep t.desc (fun d => { d with acked := d.acked ||| 2 ^ t.dest }) s
    drainBacklog k (onlyIf (decide (m.type = 13)) (joinRespIn m) s)

/-! ### Beacons (R463, R472, R475) -/

/-- A beacon from a member of the group: its times, its offset and link delay, and a JOIN to a primary that is heard. -/
def beaconIn (p : Peer) (m : CtpMsg) (s : State) : State :=
  match peerMember s p with
  | none => s
  | some k =>
    if m.member % 8 ≠ k then s
    else
      let tx := leAt 8 8 m.payload
      let ex := leAt 0x18 8 m.payload
      let er := leAt 0x20 8 m.payload
      let now := dtime s
      let s := setMate k { mate s k with tx := tx, rx := now, seen := s.clock.aon } s
      let s := if ex = 0 then s
        else
          let a := sext 64 ((er + 2 ^ 64 - ex) % 2 ^ 64)
          let b := sext 64 ((now + 2 ^ 64 - tx) % 2 ^ 64)
          let t := halfFree (a - b) s
          let d := halfFree (a + b) t.2
          let s := setMate k { mate d.2 k with theta := t.1, delay := d.1 } d.2
          if -2147483648 ≤ t.1 ∧ t.1 ≤ 2147483647 then wrn (rGRP_OFFSET k) (wrapN 32 t.1) s
          else
            let f := takeFree s
            wrn (rGRP_OFFSET k) f.1.toNat f.2
      let s := onlyIf (decide (k = 0)) (wrB rGRP_STATUS 8 true) s
      let s := onlyIf (decide (k = 0 ∧ (grpState s = 1 ∨ grpState s = 4)) && !s.net.joinSent) sendJoin s
      skipCheck s

/-! ### Arrival -/

/-- A message arrives: the checks of R449, R450, R473 and R469, then the association and the message's own rules. -/
def ctpArrive (p : Peer) (m : CtpMsg) (withCredit : Bool) (s : State) : State :=
  if !ifUp s p.ifc then s
  else if !ctpListed m.type then bump (rCTP_CNT 12) 1 s
  else if !payloadOk m then bump (rCTP_CNT 11) 1 s
  else
    let s := bumpW (rCTP_CNT 1) 1 s
    if msgGrouped m ∧ m.type ≠ 13 ∧ (msgMember s p m).isNone then bump (rCTP_CNT 10) 1 s
    else
      let u := rdF s rCTP_CFG 7 6
      let c : CuResult × State := if nbit m.flags 6 then cuCheck u none m.payload m.block s else (.good, s)
      let s := c.2
      if c.1 = .failed then
        limited 12300 aonMs (raiseE 123 5) (assertSrc (rdF s (rCU_CFG u) 12 8) 15 s)
      else match useAssoc p s with
        | (none, s) => s
        | (some k, s) =>
          let rep := decide (c.1 = .repeated)
          if m.type = 1 then (if rep then s else beaconIn p m s)
          else if m.type = 2 ∨ m.type = 6 ∨ m.type = 9 ∨ m.type = 13 then (if rep then s else answerIn k p m withCredit s)
          else if m.type = 11 ∧ !nbit m.flags 0 then (if rep then s else (msgRx p m (nbit m.flags 6) s).2)
          else reliableIn k p (if rep then { m with type := 0 } else m) (nbit m.flags 6) s

/-! ### Meanings -/

/-- BEACON (R463). -/
def execBeacon (m : CtpIn) (s : State) : Host.Outcome State Fault Refusal := .next (ctpArrive (ctpPeerOf m) (ctpMsgOf m 1) false s)
/-- ACK (R452). -/
def execAck (m : CtpIn) (s : State) : Host.Outcome State Fault Refusal := .next (ctpArrive (ctpPeerOf m) (ctpMsgOf m 2) false s)
/-- REG_READ (R458). -/
def execRegRead (m : CtpIn) (s : State) : Host.Outcome State Fault Refusal := .next (ctpArrive (ctpPeerOf m) (ctpMsgOf m 4) false s)
/-- REG_WRITE (R458). -/
def execRegWrite (m : CtpIn) (s : State) : Host.Outcome State Fault Refusal := .next (ctpArrive (ctpPeerOf m) (ctpMsgOf m 5) false s)
/-- REMOTE_WRITE (R304, R459). -/
def execRemoteWrite (m : CtpIn) (s : State) : Host.Outcome State Fault Refusal := .next (ctpArrive (ctpPeerOf m) (ctpMsgOf m 7) false s)
/-- CREDIT (R460). -/
def execCredit (m : CtpIn) (s : State) : Host.Outcome State Fault Refusal := .next (ctpArrive (ctpPeerOf m) (ctpMsgOf m 8) false s)
/-- REFUSE (R460, R484). -/
def execRefuse (m : CtpIn) (withCredit : Bool) (s : State) : Host.Outcome State Fault Refusal :=
  .next (ctpArrive (ctpPeerOf m) (ctpMsgOf m 9) withCredit s)
/-- WRITE_LOST (R461). -/
def execWriteLost (m : CtpIn) (s : State) : Host.Outcome State Fault Refusal := .next (ctpArrive (ctpPeerOf m) (ctpMsgOf m 10) false s)
/-- MSG (R454, R457). -/
def execMsg (m : CtpIn) (s : State) : Host.Outcome State Fault Refusal := .next (ctpArrive (ctpPeerOf m) (ctpMsgOf m 11) false s)
/-- JOIN (R472, R473). -/
def execJoin (m : CtpIn) (s : State) : Host.Outcome State Fault Refusal := .next (ctpArrive (ctpPeerOf m) (ctpMsgOf m 12) false s)
/-- JOIN_RESP (R472). -/
def execJoinResp (m : CtpIn) (s : State) : Host.Outcome State Fault Refusal := .next (ctpArrive (ctpPeerOf m) (ctpMsgOf m 13) false s)
/-- WAKE_AT (R474). -/
def execWakeAt (m : CtpIn) (s : State) : Host.Outcome State Fault Refusal := .next (ctpArrive (ctpPeerOf m) (ctpMsgOf m 14) false s)
/-- LEAVE (R483). -/
def execLeave (m : CtpIn) (s : State) : Host.Outcome State Fault Refusal := .next (ctpArrive (ctpPeerOf m) (ctpMsgOf m 15) false s)

/-- GAP_SKIP (R453): held messages have waited 250 µs; RX_NEXT moves past the gap, each missing sequence counts, and what is
next then is carried out. -/
def execGapSkip (k : Fin 64) (s : State) : Host.Outcome State Fault Refusal :=
  match assoc s k, rxOf s k with
  | some a, some x =>
    if !domOk s 5 ∨ x.held.isEmpty then .next s
    else
      let gap := x.held.foldl (fun g h => min g ((h.msg.seq + 2 ^ 32 - x.next) % 2 ^ 32)) 64
      let lost := ((upto gap).map (fun j => (x.next + j) % 2 ^ 32)).reverse
      let s := updRx k (fun x => { x with next := (x.next + gap) % 2 ^ 32, skipped := (lost ++ x.skipped).take 64 }) s
      .next (drainHeld k a.peer 64 (bump (rCTP_CNT 7) gap s))
  | _, _ => .next s

end Sys2Proof.Machine
end

