-- ==== Sys2Proof/Machine/NetFrame.lean ====
section
/-! DEFINITION. Received frames (R441): the checks of an interface, and the routing to the transport, to the PTP unit, and to
the receive ring. -/

namespace Sys2Proof.Machine

open Sys2Proof

/-- A big-endian number of `n` bytes at an offset. -/
def beAt (off n : Nat) (b : List Byte) : Nat := ofLe (slice off n b).reverse

/-! ### Layers of a frame -/

/-- A frame without its FCS, taken apart. -/
structure FrameIn where
  dst : Nat
  src : Nat
  /-- VID of its 802.1Q tag. -/
  vid : Option Nat
  type : Nat
  /-- Where the payload of the frame begins. -/
  at_ : Nat
deriving DecidableEq, Repr

/-- Layer 2. -/
def frameParse (b : List Byte) : FrameIn :=
  let tagged := decide (beAt 12 2 b = 0x8100)
  { dst := leAt 0 6 b, src := leAt 6 6 b, vid := if tagged then some (beAt 14 2 b % 4096) else none,
    type := beAt (if tagged then 16 else 12) 2 b, at_ := if tagged then 18 else 14 }

/-- A UDP datagram: addresses as little-endian numbers of 16 bytes, ports, checksum and what it covers, data. -/
structure UdpIn where
  src : Nat
  dst : Nat
  sport : Nat
  dport : Nat
  csum : Nat
  /-- Pseudo-header. -/
  pseudo : List Byte
  /-- UDP header and data. -/
  whole : List Byte
  data : List Byte
deriving DecidableEq, Repr

/-- The UDP datagram that a frame carries whole, over IPv4 or IPv6. -/
def udpParse (f : FrameIn) (b : List Byte) : Option UdpIn :=
  let o := f.at_
  let mk (src dst : Nat) (addrs : List Byte) (u : List Byte) : Option UdpIn :=
    let len := beAt 4 2 u
    if len < 8 ∨ u.length < len then none
    else
      let w := u.take len
      some { src := src, dst := dst, sport := beAt 0 2 w, dport := beAt 2 2 w, csum := beAt 6 2 w, whole := w, data := w.drop 8,
             pseudo := addrs ++ [0, 17] ++ beBytes 2 len }
  if f.type = 0x0800 ∧ beAt o 1 b / 16 = 4 ∧ beAt (o + 6) 2 b % 0x4000 = 0 ∧ beAt (o + 9) 1 b = 17 then
    let hl := 4 * (beAt o 1 b % 16)
    let ip (at_ : Nat) : Nat := ofLe (zeros 10 ++ [0xFF, 0xFF] ++ slice at_ 4 b)
    if hl < 20 ∨ beAt (o + 2) 2 b < hl then none
    else mk (ip (o + 12)) (ip (o + 16)) (slice (o + 12) 8 b) (slice (o + hl) (beAt (o + 2) 2 b - hl) b)
  else if f.type = 0x86DD ∧ beAt o 1 b / 16 = 6 ∧ beAt (o + 6) 1 b = 17 then
    mk (leAt (o + 8) 16 b) (leAt (o + 24) 16 b) (slice (o + 8) 32 b) (slice (o + 40) (beAt (o + 4) 2 b) b)
  else none

/-- The ones' complement sum of big-endian 16-bit words. -/
def onesSum : Nat → List Byte → Nat
  | 0, _ => 0
  | k + 1, b =>
    let s := beAt 0 2 (padTo 2 (b.take 2)) + onesSum k (b.drop 2)
    s % 65536 + s / 65536

/-- Is the UDP checksum good? One of 0 is absent, which IPv4 alone allows (R439). -/
def udpGood (u : UdpIn) : Bool :=
  let b := u.pseudo ++ u.whole
  if u.csum = 0 then decide (u.pseudo.length = 12) else decide (onesSum (b.length / 2 + 1) b = 65535)

/-- The 1588 multicast MAC addresses of the three transports. -/
def ptpMacs : List Nat :=
  [ofLe [0x01, 0x1B, 0x19, 0, 0, 0], ofLe [0x01, 0x80, 0xC2, 0, 0, 0x0E], ofLe [0x01, 0, 0x5E, 0, 1, 0x81],
   ofLe [0x01, 0, 0x5E, 0, 0, 0x6B], ofLe [0x33, 0x33, 0, 0, 1, 0x81], ofLe [0x33, 0x33, 0, 0, 0, 0x6B]]

/-! ### CTP datagrams (R448, R449) -/

/-- The message of a datagram; none where the header is bad. -/
def ctpParse (b : List Byte) : Option CtpMsg :=
  let len := leAt 0x18 2 b
  let blk := if nbit (leAt 2 2 b) 6 then 12 else 0
  if b.length < 32 ∨ leAt 0 1 b ≠ 1 ∨ b.length ≠ 32 + len + blk then none
  else some { type := leAt 1 1 b, flags := leAt 2 2 b, member := leAt 4 1 b, epoch := leAt 5 1 b, slot := leAt 6 1 b, gen := leAt 7 1 b,
              seq := leAt 8 4 b, jobId := leAt 0xC 4 b, serial := leAt 0x10 8 b, channel := leAt 0x1A 2 b,
              payload := slice 32 len b, block := slice (32 + len) blk b }

/-! ### 1588 messages (R443; the layout is PRESUMED, log entry 63) -/

/-- A timestamp of 10 bytes in ns. -/
def stampOf (b : List Byte) : Int := (beAt 0 6 b * 1000000000 + beAt 6 4 b : Nat)
/-- A correction field in ns; a fraction of a nanosecond is rounded in a way that the spec does not say (log entry 1). -/
def corrOf (b : List Byte) (s : State) : Int × State :=
  let x := sext 64 (beAt 8 8 b)
  if x % 65536 = 0 then (x / 65536, s) else (x / 65536 + (b2n (Config.freeBool s.free) : Nat), { s with free := s.free + 1 })

/-- The port identity of the device. -/
def ownPort (s : State) : List Byte :=
  let mac := leBytes 6 (ifMac s (ptpIf s))
  mac.take 3 ++ [0xFF, 0xFE] ++ mac.drop 3 ++ beBytes 2 1

/-- A 1588 message that arrived at `t` reaches the PTP unit. -/
def ptpMessage (b : List Byte) (t : Int) (s : State) : State :=
  if b.length < 44 ∨ beAt 4 1 b ≠ ptpDomain s then s
  else
    let c := corrOf b s
    let s := c.2
    let q := beAt 30 2 b
    let two := nbit (beAt 6 2 b) 9
    let port : BitVec 80 := BitVec.ofNat 80 (beAt 20 10 b)
    let w64 (x : Int) : BitVec 64 := BitVec.ofNat 64 (wrapN 64 x)
    let body := b.drop 34
    let mine := decide (slice 10 10 body = ownPort s)
    match beAt 0 1 b % 16 with
    | 0 => if two then setPtp (fun p => { p with follow := some (q, t, c.1) }) s else ptpSync (stampOf body) c.1 t s
    | 1 => ptpDelayMsg (.delayReq port (BitVec.ofNat 16 q) (w64 c.1)) t s
    | 2 => ptpDelayMsg (.pdelayReq port (BitVec.ofNat 16 q) (w64 c.1)) t s
    | 3 =>
      if !mine then s
      else if two then setPtp (fun p => { p with presp := some (q, stampOf body, t, c.1) }) s
      else ptpDelayMsg (.pdelayResp (BitVec.ofNat 16 q) 0 0 (w64 c.1)) t s
    | 8 =>
      match s.net.ptp.follow with
      | some (n, t2, corr) => if n = q then ptpSync (stampOf body) (corr + c.1) t2 s else s
      | none => s
    | 9 => if mine then ptpDelayMsg (.delayResp (BitVec.ofNat 16 q) (w64 (stampOf body)) (w64 c.1)) t s else s
    | 10 =>
      match s.net.ptp.presp with
      | some (n, t2, t4, corr) =>
        if n = q ∧ mine then
          ptpDelayMsg (.pdelayResp (BitVec.ofNat 16 q) (w64 t2) (w64 (stampOf body)) (w64 (corr + c.1))) t4
            (setPtp (fun p => { p with presp := none }) s)
        else s
      | none => s
    | _ => s

/-! ### FRAME_RECEIVE -/

/-- A frame that is taken in is routed (R441). -/
def frameRoute (k : Nat) (f : FrameIn) (u : Option UdpIn) (b : List Byte) (t : Int) (s : State) : State :=
  -- a matching tag is stripped (R439)
  let ring (s : State) : State := (rxPut 1 k 0 (zeros 32) (if f.vid.isSome then b.take 12 ++ b.drop 16 else b) false s).2
  match u with
  | some d =>
    if d.dport = ctpPort s ∧ ifAddr s k ≠ 0 ∧ d.dst = ifAddr s k then
      match ctpParse d.data with
      | some m => ctpArrive { ifc := k, addr := d.src, port := d.sport, mac := f.src } m false s
      | none => bump (rCTP_CNT 11) 1 s
    else if d.dport = 319 ∨ d.dport = 320 then ring (onlyIf (decide (k = ptpIf s)) (ptpMessage d.data t) s)
    else ring s
  | none =>
    if f.type = 0x88F7 then ring (onlyIf (decide (k = ptpIf s)) (ptpMessage (b.drop f.at_) t) s) else ring s

/-- FRAME_RECEIVE (R441, R479): `frame` runs from the destination MAC to the end of its data, `fcsOk` says whether its FCS is
good, `err` is the error of its timestamp. -/
def execFrameReceive (k : Fin 9) (fcsOk : Bool) (frame : List Byte) (err : Fin 17) (s : State) : Host.Outcome State Fault Refusal :=
  if !ifUp s k then .next s
  else
    let pg := ifPage k
    let f := frameParse frame
    let tag := ifVlan s k
    if 9216 < frame.length + 4 then .next (bump (pg + 0x5C) 1 s)
    else if !fcsOk then .next (bump (pg + 0x48) 1 s)
    else if f.type = 0x8808 ∧ rdB s (pg + 4) 1 then .next (bump (pg + 0x58) 1 s)
    else if frame.length + 4 < 64 ∨ !(decide (f.dst = ifMac s k ∨ f.dst = 0xFFFFFFFFFFFF) || ptpMacs.contains f.dst) ∨
        f.vid ≠ (if nbit tag 15 then some (tag % 4096) else none) then .next (bump (pg + 0x50) 1 s)
    else
      let u := udpParse f frame
      if (match u with | some d => udpGood d | none => true) = false then .next (bump (pg + 0x4C) 1 s)
      else .next (frameRoute k f u frame (stampAt s err) (bumpW (pg + 0x44) 1 s))

end Sys2Proof.Machine
end

