-- ==== Sys2Proof/Machine/Dispatch.lean ====
section
/-! DEFINITION. What every command does to the device, one arm per row of the operation table. -/

namespace Sys2Proof.Machine

open Sys2Proof

def exec (i : Instr) (s : State) : Host.Outcome State Fault Refusal :=
  match i with
  | .powerOnReset src env => Sys2Proof.Machine.execPowerOnReset src env s
  | .readySet ifc => Sys2Proof.Machine.execReadySet ifc s
  | .pcieBootGo ifc env => Sys2Proof.Machine.execPcieBootGo ifc env s
  | .quiesceRequest ifc => Sys2Proof.Machine.execQuiesceRequest ifc s
  | .quiesceRelease ifc => Sys2Proof.Machine.execQuiesceRelease ifc s
  | .quiescedReached => Sys2Proof.Machine.execQuiescedReached s
  | .quiesceTimeout cu => Sys2Proof.Machine.execQuiesceTimeout cu s
  | .quiescedForcedReached => Sys2Proof.Machine.execQuiescedForcedReached s
  | .apply ifc => Sys2Proof.Machine.execApply ifc s
  | .applyComplete => Sys2Proof.Machine.execApplyComplete s
  | .registerWrite ifc off v co => Sys2Proof.Machine.execRegisterWrite ifc off v co s
  | .readClear ifc off co => Sys2Proof.Machine.execReadClear ifc off co s
  | .pairLoRead ifc off => Sys2Proof.Machine.execPairLoRead ifc off s
  | .pairLoWrite ifc off v => Sys2Proof.Machine.execPairLoWrite ifc off v s
  | .pairHiWrite ifc off v => Sys2Proof.Machine.execPairHiWrite ifc off v s
  | .shadowCommit ifc g => Sys2Proof.Machine.execShadowCommit ifc g s
  | .shadowCancel ifc g boundary => Sys2Proof.Machine.execShadowCancel ifc g boundary s
  | .debugPeek ifc off => Sys2Proof.Machine.execDebugPeek ifc off s
  | .peekComplete => Sys2Proof.Machine.execPeekComplete s
  | .encoderStateChange n ch => Sys2Proof.Machine.execEncoderStateChange n ch s
  | .encPosWrite ifc n v co => Sys2Proof.Machine.execEncPosWrite ifc n v co s
  | .curtainEdgeAccepted n level => Sys2Proof.Machine.execCurtainEdgeAccepted n level s
  | .curtainCfgWrite ifc n v => Sys2Proof.Machine.execCurtainCfgWrite ifc n v s
  | .gapTimeoutExpiry w => Sys2Proof.Machine.execGapTimeoutExpiry w s
  | .lineTrigger t => Sys2Proof.Machine.execLineTrigger t s
  | .triggerHoldRelease t => Sys2Proof.Machine.execTriggerHoldRelease t s
  | .wakeRequest => Sys2Proof.Machine.execWakeRequest s
  | .fastDomainsRun failed => Sys2Proof.Machine.execFastDomainsRun failed s
  | .wakeHold ifc hold => Sys2Proof.Machine.execWakeHold ifc hold s
  | .wakeNow ifc => Sys2Proof.Machine.execWakeNow ifc s
  | .idleHoldExpiry => Sys2Proof.Machine.execIdleHoldExpiry s
  | .napEntryComplete => Sys2Proof.Machine.execNapEntryComplete s
  | .deepHoldExpiry => Sys2Proof.Machine.execDeepHoldExpiry s
  | .deepRequest ifc => Sys2Proof.Machine.execDeepRequest ifc s
  | .deepEntryComplete => Sys2Proof.Machine.execDeepEntryComplete s
  | .deepExit ifc => Sys2Proof.Machine.execDeepExit ifc s
  | .deepExitComplete => Sys2Proof.Machine.execDeepExitComplete s
  | .deepDramIdleTimer => Sys2Proof.Machine.execDeepDramIdleTimer s
  | .slotReuseDelayExpiry slot => Sys2Proof.Machine.execSlotReuseDelayExpiry slot s
  | .jobCommit slot results views read incomplete app cu estimate => Sys2Proof.Machine.execJobCommit slot results views read incomplete app cu estimate s
  | .faultReachesJob slot cu estimate => Sys2Proof.Machine.execFaultReachesJob slot cu estimate s
  | .abandonPointExpiry slot cu => Sys2Proof.Machine.execAbandonPointExpiry slot cu s
  | .flashRead ifc len => Sys2Proof.Machine.execFlashRead ifc len s
  | .flashProgram ifc len => Sys2Proof.Machine.execFlashProgram ifc len s
  | .flashErase4k ifc => Sys2Proof.Machine.execFlashErase4k ifc s
  | .flashErase64k ifc => Sys2Proof.Machine.execFlashErase64k ifc s
  | .flashOpComplete ok left => Sys2Proof.Machine.execFlashOpComplete ok left s
  | .precWriteNow ifc => Sys2Proof.Machine.execPrecWriteNow ifc s
  | .precRoutineTimer => Sys2Proof.Machine.execPrecRoutineTimer s
  | .precWriteComplete bad => Sys2Proof.Machine.execPrecWriteComplete bad s
  | .frameStart p => Sys2Proof.Machine.execFrameStart p s
  | .lineEnd p samples => Sys2Proof.Machine.execLineEnd p samples s
  | .fifoOverflow p samples => Sys2Proof.Machine.execFifoOverflow p samples s
  | .frameEnd p => Sys2Proof.Machine.execFrameEnd p s
  | .lateWindowExpiry p => Sys2Proof.Machine.execLateWindowExpiry p s
  | .pclkLoss p => Sys2Proof.Machine.execPclkLoss p s
  | .syncAuxEdge p rising => Sys2Proof.Machine.execSyncAuxEdge p rising s
  | .vpAdmitWrite ifc p v => Sys2Proof.Machine.execVpAdmitWrite ifc p v s
  | .rateCheckInterval p => Sys2Proof.Machine.execRateCheckInterval p s
  | .pipeLineStart p drained => Sys2Proof.Machine.execPipeLineStart p drained s
  | .returnedLine c intact drained => Sys2Proof.Machine.execReturnedLine c intact drained s
  | .spliceAcceptTimeout c => Sys2Proof.Machine.execSpliceAcceptTimeout c s
  | .m2mGo ifc c => Sys2Proof.Machine.execM2mGo ifc c s
  | .pipeFrameEnd c drained => Sys2Proof.Machine.execPipeFrameEnd c drained s
  | .profileRecordWrite c drained => Sys2Proof.Machine.execProfileRecordWrite c drained s
  | .statRecordWrite c drained => Sys2Proof.Machine.execStatRecordWrite c drained s
  | .calSeed ifc c => Sys2Proof.Machine.execCalSeed ifc c s
  | .calForget ifc c => Sys2Proof.Machine.execCalForget ifc c s
  | .sectorLiveUnit c err parity stallIn stallOut => Sys2Proof.Machine.execSectorLiveUnit c err parity stallIn stallOut s
  | .sectorMemoryUnit c err parity stallIn stallOut => Sys2Proof.Machine.execSectorMemoryUnit c err parity stallIn stallOut s
  | .mjPush ifc c hi => Sys2Proof.Machine.execMjPush ifc c hi s
  | .mjStart c => Sys2Proof.Machine.execMjStart c s
  | .mjComplete c => Sys2Proof.Machine.execMjComplete c s
  | .sectorCommit ifc c wsel force target => Sys2Proof.Machine.execSectorCommit ifc c wsel force target s
  | .swapPendingTimeout c => Sys2Proof.Machine.execSwapPendingTimeout c s
  | .sectorBankWrite ifc c word v => Sys2Proof.Machine.execSectorBankWrite ifc c word v s
  | .lensPush ifc hi => Sys2Proof.Machine.execLensPush ifc hi s
  | .lensAdmit => Sys2Proof.Machine.execLensAdmit s
  | .lensStepCountsTaken => Sys2Proof.Machine.execLensStepCountsTaken s
  | .lensTileBoundary errs feed out wload idle => Sys2Proof.Machine.execLensTileBoundary errs feed out wload idle s
  | .lensRetire slot => Sys2Proof.Machine.execLensRetire slot s
  | .lensHalt ifc => Sys2Proof.Machine.execLensHalt ifc s
  | .lensResume ifc => Sys2Proof.Machine.execLensResume ifc s
  | .spadRead port addr len err => Sys2Proof.Machine.execSpadRead port addr len err s
  | .spadWrite port addr data poison err => Sys2Proof.Machine.execSpadWrite port addr data poison err s
  | .fcPush ifc hi => Sys2Proof.Machine.execFcPush ifc hi s
  | .fcStart rows => Sys2Proof.Machine.execFcStart rows s
  | .fcDone => Sys2Proof.Machine.execFcDone s
  | .semCountWrite n v => Sys2Proof.Machine.execSemCountWrite n v s
  | .semRelease n v => Sys2Proof.Machine.execSemRelease n v s
  | .semTake n => Sys2Proof.Machine.execSemTake n s
  | .semCfgWrite n v => Sys2Proof.Machine.execSemCfgWrite n v s
  | .crwGrant ifc w v => Sys2Proof.Machine.execCrwGrant ifc w v s
  | .bundleIssue n ierr err0 err1 => Sys2Proof.Machine.execBundleIssue n ierr err0 err1 s
  | .longOpComplete n mem err => Sys2Proof.Machine.execLongOpComplete n mem err s
  | .interruptAccept v => Sys2Proof.Machine.execInterruptAccept v s
  | .lanternHalt ifc n => Sys2Proof.Machine.execLanternHalt ifc n s
  | .lanternResume ifc n => Sys2Proof.Machine.execLanternResume ifc n s
  | .lanternCoreReset ifc n halt => Sys2Proof.Machine.execLanternCoreReset ifc n halt s
  | .lcRaise ifc n hi v => Sys2Proof.Machine.execLcRaise ifc n hi v s
  | .externalLocalAccess n off write len x => Sys2Proof.Machine.execExternalLocalAccess n off write len x s
  | .chainStart ifc c hi => Sys2Proof.Machine.execChainStart ifc c hi s
  | .descFetch c => Sys2Proof.Machine.execDescFetch c s
  | .dmaWaitTake c => Sys2Proof.Machine.execDmaWaitTake c s
  | .dmaLastWriteAccepted c w => Sys2Proof.Machine.execDmaLastWriteAccepted c w s
  | .dmaReadbackReturn c => Sys2Proof.Machine.execDmaReadbackReturn c s
  | .dmaStatusWbAccepted c => Sys2Proof.Machine.execDmaStatusWbAccepted c s
  | .chDoorbell ifc c => Sys2Proof.Machine.execChDoorbell ifc c s
  | .linkReread c => Sys2Proof.Machine.execLinkReread c s
  | .dmaBusError c write k => Sys2Proof.Machine.execDmaBusError c write k s
  | .dmaResume ifc c => Sys2Proof.Machine.execDmaResume ifc c s
  | .dmaSkip ifc c => Sys2Proof.Machine.execDmaSkip ifc c s
  | .dmaAbort ifc c => Sys2Proof.Machine.execDmaAbort ifc c s
  | .abortDrainComplete c => Sys2Proof.Machine.execAbortDrainComplete c s
  | .tokenRefill => Sys2Proof.Machine.execTokenRefill s
  | .availReport => Sys2Proof.Machine.execAvailReport s
  | .cutEpisodeEnd => Sys2Proof.Machine.execCutEpisodeEnd s
  | .dramReadRequest cls addr len => Sys2Proof.Machine.execDramReadRequest cls addr len s
  | .dramWriteRequest cls addr data => Sys2Proof.Machine.execDramWriteRequest cls addr data s
  | .dramReadReturn k link ecc waited => Sys2Proof.Machine.execDramReadReturn k link ecc waited s
  | .eccBackgroundInit => Sys2Proof.Machine.execEccBackgroundInit s
  | .patrolRead err => Sys2Proof.Machine.execPatrolRead err s
  | .mr4Poll r0 r1 r2 r3 r4 r5 linkFails => Sys2Proof.Machine.execMr4Poll r0 r1 r2 r3 r4 r5 linkFails s
  | .trackingRead drifted => Sys2Proof.Machine.execTrackingRead drifted s
  | .fullRetrainEnd => Sys2Proof.Machine.execFullRetrainEnd s
  | .channelPowerDown ch => Sys2Proof.Machine.execChannelPowerDown ch s
  | .pcieLinkReset => Sys2Proof.Machine.execPcieLinkReset s
  | .pcieLinkUp speed width => Sys2Proof.Machine.execPcieLinkUp speed width s
  | .pcieConfigRequest req => Sys2Proof.Machine.execPcieConfigRequest req s
  | .pcieInboundRead bar2 off len => Sys2Proof.Machine.execPcieInboundRead bar2 off len s
  | .pcieInboundWrite bar2 off data ep => Sys2Proof.Machine.execPcieInboundWrite bar2 off data ep s
  | .pcieCompletion tag ok data ep => Sys2Proof.Machine.execPcieCompletion tag ok data ep s
  | .pcieCompletionTimeout tag => Sys2Proof.Machine.execPcieCompletionTimeout tag s
  | .bar2BaseWrite ifc v => Sys2Proof.Machine.execBar2BaseWrite ifc v s
  | .hostDoorbell ifc v => Sys2Proof.Machine.execHostDoorbell ifc v s
  | .msixRaise ifc v => Sys2Proof.Machine.execMsixRaise ifc v s
  | .ethLinkDown k => Sys2Proof.Machine.execEthLinkDown k s
  | .ethLinkUp k fec => Sys2Proof.Machine.execEthLinkUp k fec s
  | .frameReceive k fcsOk frame err => Sys2Proof.Machine.execFrameReceive k fcsOk frame err s
  | .ptpSync t1 corr err => Sys2Proof.Machine.execPtpSync t1 corr err s
  | .ptpDelayExchange d err => Sys2Proof.Machine.execPtpDelayExchange d err s
  | .syncSendTimer err => Sys2Proof.Machine.execSyncSendTimer err s
  | .syncTimeout => Sys2Proof.Machine.execSyncTimeout s
  | .ptpStep ifc hi => Sys2Proof.Machine.execPtpStep ifc hi s
  | .pairLatch => Sys2Proof.Machine.execPairLatch s
  | .beacon m => Sys2Proof.Machine.execBeacon m s
  | .ack m => Sys2Proof.Machine.execAck m s
  | .regRead m => Sys2Proof.Machine.execRegRead m s
  | .regWrite m => Sys2Proof.Machine.execRegWrite m s
  | .remoteWrite m => Sys2Proof.Machine.execRemoteWrite m s
  | .credit m => Sys2Proof.Machine.execCredit m s
  | .refuse m withCredit => Sys2Proof.Machine.execRefuse m withCredit s
  | .writeLost m => Sys2Proof.Machine.execWriteLost m s
  | .msg m => Sys2Proof.Machine.execMsg m s
  | .join m => Sys2Proof.Machine.execJoin m s
  | .joinResp m => Sys2Proof.Machine.execJoinResp m s
  | .wakeAt m => Sys2Proof.Machine.execWakeAt m s
  | .leave m => Sys2Proof.Machine.execLeave m s
  | .sendDecision => Sys2Proof.Machine.execSendDecision s
  | .sendRemoteWrite => Sys2Proof.Machine.execSendRemoteWrite s
  | .sendMsg => Sys2Proof.Machine.execSendMsg s
  | .sendWakeAt => Sys2Proof.Machine.execSendWakeAt s
  | .descriptorCompleteCtp k => Sys2Proof.Machine.execDescriptorCompleteCtp k s
  | .retransmitTimer k seq => Sys2Proof.Machine.execRetransmitTimer k seq s
  | .deliveryFailure k seq => Sys2Proof.Machine.execDeliveryFailure k seq s
  | .gapSkip k => Sys2Proof.Machine.execGapSkip k s
  | .creditWaitExpiry k => Sys2Proof.Machine.execCreditWaitExpiry k s
  | .beaconTimer => Sys2Proof.Machine.execBeaconTimer s
  | .peerLoss m => Sys2Proof.Machine.execPeerLoss m s
  | .joinRetry => Sys2Proof.Machine.execJoinRetry s
  | .groupWakeTimer => Sys2Proof.Machine.execGroupWakeTimer s
  | .groupWakeTest => Sys2Proof.Machine.execGroupWakeTest s
  | .groupSlotOpen => Sys2Proof.Machine.execGroupSlotOpen s
  | .groupRejoin ifc => Sys2Proof.Machine.execGroupRejoin ifc s
  | .groupLeave ifc => Sys2Proof.Machine.execGroupLeave ifc s
  | .domainFence ifc d => Sys2Proof.Machine.execDomainFence ifc d s
  | .drainComplete d => Sys2Proof.Machine.execDrainComplete d s
  | .drainTimeout d => Sys2Proof.Machine.execDrainTimeout d s
  | .domainRestoreComplete d => Sys2Proof.Machine.execDomainRestoreComplete d s
  | .domainRestore ifc d => Sys2Proof.Machine.execDomainRestore ifc d s
  | .deviceReset ifc env => Sys2Proof.Machine.execDeviceReset ifc env s
  | .deviceFatalReset env => Sys2Proof.Machine.execDeviceFatalReset env s
  | .heartbeatTick => Sys2Proof.Machine.execHeartbeatTick s
  | .oosClear ifc hi env => Sys2Proof.Machine.execOosClear ifc hi env s
  | .repairAdd ifc => Sys2Proof.Machine.execRepairAdd ifc s
  | .thermalSample tj env => Sys2Proof.Machine.execThermalSample tj env s
  | .supplyFault n => Sys2Proof.Machine.execSupplyFault n s
  | .pllLockLoss p => Sys2Proof.Machine.execPllLockLoss p s
  | .dramWriteBufferFree k w => Sys2Proof.Machine.execDramWriteBufferFree k w s
  | .lensAdmissionLoaded slot => Sys2Proof.Machine.execLensAdmissionLoaded slot s
  | .deferredFullRetrain => Sys2Proof.Machine.execDeferredFullRetrain s

end Sys2Proof.Machine
end

