-- ==== Sys2Proof/Safety.lean ====
section
/-! DEFINITION. The terms in which claims about the device are stated: that a command completes, what it leaves unchanged, and
the canonical form that every step keeps. -/

namespace Sys2Proof.Machine

open Sys2Proof

/-- Command `c` at state `s` is carried out: it answers a next state, of which `P` holds. -/
def Completes (c : Instr) (s : State) (P : State → Prop) : Prop := ∃ t, exec c s = .next t ∧ P t

/-- The parts of the state beside the registers, each under the name of its field. -/
inductive Part where
  | pending | latches | mem | poison | flash | clock | fuses | boot | jobs | keeper | flashOp | prec | power | fault
  | pcie | frames | ports | pipeq | pctx | pipeTurn | stage | spliceq | secBank | secCl | secCtx | spliceTurn | secPois | lens
  | sems | fc | lan | resv | dma | regul | ddrValid | ddr | net | resp | free | limits
deriving DecidableEq, Repr

/-- A part of the state is the same in `t` as in `s`. -/
def Part.same (p : Part) (s t : State) : Prop :=
  match p with
  | .pending => t.pending = s.pending
  | .latches => t.latches = s.latches
  | .mem => t.mem = s.mem
  | .poison => t.poison = s.poison
  | .flash => t.flash = s.flash
  | .clock => t.clock = s.clock
  | .fuses => t.fuses = s.fuses
  | .boot => t.boot = s.boot
  | .jobs => t.jobs = s.jobs
  | .keeper => t.keeper = s.keeper
  | .flashOp => t.flashOp = s.flashOp
  | .prec => t.prec = s.prec
  | .power => t.power = s.power
  | .fault => t.fault = s.fault
  | .pcie => t.pcie = s.pcie
  | .frames => t.frames = s.frames
  | .ports => t.ports = s.ports
  | .pipeq => t.pipeq = s.pipeq
  | .pctx => t.pctx = s.pctx
  | .pipeTurn => t.pipeTurn = s.pipeTurn
  | .stage => t.stage = s.stage
  | .spliceq => t.spliceq = s.spliceq
  | .secBank => t.secBank = s.secBank
  | .secCl => t.secCl = s.secCl
  | .secCtx => t.secCtx = s.secCtx
  | .spliceTurn => t.spliceTurn = s.spliceTurn
  | .secPois => t.secPois = s.secPois
  | .lens => t.lens = s.lens
  | .sems => t.sems = s.sems
  | .fc => t.fc = s.fc
  | .lan => t.lan = s.lan
  | .resv => t.resv = s.resv
  | .dma => t.dma = s.dma
  | .regul => t.regul = s.regul
  | .ddrValid => t.ddrValid = s.ddrValid
  | .ddr => t.ddr = s.ddr
  | .net => t.net = s.net
  | .resp => t.resp = s.resp
  | .free => t.free = s.free
  | .limits => t.limits = s.limits

/-- From `s` to `t` only the parts in `ps` and the registers in `rs` may have changed. -/
def Kept (ps : List Part) (rs : List Nat) (s t : State) : Prop :=
  (∀ p, p ∉ ps → p.same s t) ∧ ∀ o, o ∉ rs → rd t o = rd s o

/-- The registers that the record of a write changes (R74, R75): the journal and DEV_WR_IGNORED. -/
def isLogReg (o : Nat) : Bool :=
  decide (o = rDEV_WR_IGNORED ∨ o = rJNL_NEXT_SEQ ∨ o = rJNL_FIRST_SEQ) ||
  decide (rJNL_WORD 0 ≤ o ∧ o < rJNL_WORD 0 + 0x20000)

/-- From `s` to `t`, a register access by an interface, only the parts in `ps`, the answer, the journal's first-entry mark, the
registers in `rs` and those of the record of a write may have changed. -/
def KeptAccess (ps : List Part) (rs : List Nat) (s t : State) : Prop :=
  (∀ p, p ∉ ps → p ≠ .resp → p ≠ .boot → p.same s t) ∧
  ({ t.boot with jnlFirst := s.boot.jnlFirst } = s.boot ∨ .boot ∈ ps) ∧
  ∀ o, o ∉ rs → isLogReg o = false → rd t o = rd s o

/-- The canonical form of the memory: addresses rise strictly and no entry holds what an unlisted address reads as. -/
def Memory.wf (m : Tab Byte) : Bool := twf (fun _ => (0 : Byte)) m

/-- The canonical form of every memory and of the registers: equal contents are equal data. -/
def State.canonical (s : State) : Prop :=
  Memory.wf s.mem = true ∧ twf (fun _ => (255 : Byte)) s.flash = true ∧ twf resetVal s.regs = true ∧
  twf (fun _ => false) s.poison = true ∧ twf (fun _ => (0 : Byte)) s.secBank = true

end Sys2Proof.Machine
end

