-- ==== Sys2Proof/WellFormed.lean ====
section
/-! DEFINITION. Which commands can occur: the bounds that the spec sets on what the outside world sends and that the operand
types do not express. A command outside them has a meaning in the model all the same. -/

namespace Sys2Proof

/-- Does a request lie within one aligned unit of `u` bytes, and hold at least one byte? -/
def inUnit (u a len : Nat) : Bool := decide (0 < len ∧ a % u + len ≤ u)

/-- A message's check block is absent or holds 12 bytes (R467), and its payload fits LENGTH (R449). -/
def CtpIn.wellFormed (m : CtpIn) : Bool :=
  decide (m.payload.length < 65536 ∧ (m.block.length = 0 ∨ m.block.length = 12))

/-- Can the command occur? -/
def Instr.wellFormed : Instr → Bool
  -- a request covers 1 to 256 bytes of one 256-byte unit (R413)
  | .dramReadRequest _ a len => inUnit 256 a.toNat len.val
  | .dramWriteRequest _ a data => inUnit 256 a.toNat data.bytes.length
  -- a slot moves up to 64 bytes within one aligned unit (R316, R319)
  | .externalLocalAccess _ off (some b) _ _ => inUnit 64 off.toNat b.length
  | .externalLocalAccess _ off none len _ => inUnit 64 off.toNat len.toNat
  -- a scratchpad access holds at least one byte and at most a row (R279)
  | .spadRead _ _ len _ => decide (0 < len.toNat ∧ len.toNat ≤ 2048)
  | .spadWrite _ _ data _ _ => decide (0 < data.length ∧ data.length ≤ 2048)
  -- a TLP holds at least one byte, 4 KiB at most (R425)
  | .pcieInboundRead _ _ len => decide (0 < len.val)
  | .pcieInboundWrite _ _ data _ => decide (0 < data.length ∧ data.length ≤ 4096)
  | .pcieCompletion _ _ data _ => decide (data.length ≤ 4096)
  -- a frame holds at least one byte
  | .frameReceive _ _ frame _ => decide (0 < frame.length)
  -- CTP messages (R449, R467)
  | .beacon m => m.wellFormed
  | .ack m => m.wellFormed
  | .regRead m => m.wellFormed
  | .regWrite m => m.wellFormed
  | .remoteWrite m => m.wellFormed
  | .credit m => m.wellFormed
  | .refuse m _ => m.wellFormed
  | .writeLost m => m.wellFormed
  | .msg m => m.wellFormed
  | .join m => m.wellFormed
  | .joinResp m => m.wellFormed
  | .wakeAt m => m.wellFormed
  | .leave m => m.wellFormed
  | _ => true

end Sys2Proof
end

