-- ==== Sys2Proof/Certificates/Slice0/Obligations.lean ====
section
/-! DEFINITION. What is claimed of the device: completion, results and frames of its commands, the rules of its registers, and
the invariants of its steps. Each is a proposition for the provers. -/

open Sys2Proof Sys2Proof.Machine

/-- The registers whose write has an effect of its own, beside its access types, by the base of their row; the chapters of
their blocks give the effects. -/
def ownEffectBases : List Nat :=
  [rDEV_STATE, rQUIESCE_CTRL, rPCIE_BOOT, rDBG_PEEK_ADDR, rFLT_DOM 0, rFLT_OOS_CLEAR_HI, rFLT_REPAIR_CTRL, rPWR_CTRL,
   rKPR_EXPOSE, rMEAS_Z 0 0, rWAKE_CTRL, rENC_POS 0, rCURT_CFG 0, rFLASH_CMD, rFLASH_ADDR, rFLASH_BUF 0, rPREC_CTRL, rVP_SHADOW_CTRL 0,
   rCTX_SHADOW_CTRL 0, rMEAS_SHADOW_CTRL 0, rVP_ADMIT 0, rCTX_M2M_GO 0, rPX_CAL_CTRL 0, rSC_PROG_CTRL 0, rSC_MJ_PUSH_HI 0,
   rSC_BANK 0 0, rLENS_CTRL, rLENS_PUSH_HI, rSP_FC_PUSH_HI, rCRW_GRANT 0, rLC_CTRL 0, rLC_RAISE_HI 0, rCH_HEAD_HI 0,
   rCH_DOORBELL 0, rCH_CMD 0, rPCIE_HDB, rPCIE_MSIX_RAISE, rMSIX_CTRL 0, rPTP_STEP_HI, rGRP_CTRL]

/-- The reason of R201 for which a COMMIT of cluster `c` is refused, or 0; 4: the line state does not fit. -/
def commitWhy (s : State) (c : Nat) : Nat :=
  let a := secActive s c
  let new := secNum s c (1 - a)
  let old := secNum s c a
  let why := secCheck s c (secMarked s c (1 - a))
  let lines := secLineState s c (secProg new) (if secSame new old = true ∨ secLen s c a = 0 then none else some (secProg old))
  if why = 0 ∧ 2031616 < lines then 4 else why

/-- The status registers that the Lens keeps. -/
def lensRegs : List Nat :=
  rLENS_STATUS :: (upto 8).flatMap (fun k => (upto 4).map (fun j => rLENS_RES_STATE k + 4 * j))

/-- What the admission of an operation reads: its quantisation descriptor, its curve where it has one, and the device then. -/
def admissionReads (s : State) (d : LDesc) : Rd × Rd × State :=
  let r := lensFetch (some d.ref) d.qdesc 128 s
  if (quantParse r.1.data).act = 3 ∧ !r.1.err then
    let p := lensFetch (some d.ref) (quantParse r.1.data).pwl 2064 r.2
    (r.1, p.1, p.2)
  else (r.1, {}, r.2)

/-- The output map that admission reads after them, where the operation splits its outputs (R268). -/
def admissionMap (s : State) (d : LDesc) : Rd :=
  let r := admissionReads s d
  if (quantParse r.1.data).split then
    (lensFetch (some d.ref) (quantParse r.1.data).outMap ((d.nOut + 255) / 256 * 16) r.2.2).1
  else {}

/-- The counters that the cycles up to a tile boundary are charged to (R239, R246). -/
def lensCycleRegs : List Nat := [7, 8, 9, 11, 12, 13, 14].map rLENS_CNT

/-- The rule of R255 that keeps an operation from admission, 1 for what cannot be read; 0: admitted. -/
def admissionWhy (s : State) (d : LDesc) : Nat :=
  let r := admissionReads s d
  if r.1.err ∨ r.1.poison ∨ r.2.1.err ∨ r.2.1.poison then 1 else quantSub r.2.2 d r.1.data r.2.1.data

/-- The registers that MSI-X messages change: MSIX_SENT and the pending bits (R431, R432). -/
def msixRegs : List Nat := [rPCIE_CNT 5, rMSIX_PBA 0, rMSIX_PBA 1]

/-- The outbound read that holds a tag (R422). -/
def readOf (s : State) (tag : Nat) : Option PcieRead := s.pcie.reads.find? (fun r => decide (r.tag = tag))

/-- All that has come of a read with the data of this completion, each byte with its poison (R391, R429). -/
def cameIn (r : PcieRead) (data : List Byte) (ep : Bool) : List (Byte × Bool) := r.got ++ (padTo r.len data).map (fun b => (b, ep))

/-- A core whose long operations of tag `tag` have their answer from the host: bytes, and whether they are good (R429). -/
def hostAnswer (tag : Nat) (v : List Byte × Bool) (l : Lan) : Lan :=
  { l with longs := l.longs.map (fun o => if o.tag = some tag ∧ o.host.isNone then { o with host := some v } else o) }

/-- What a reset of D4 leaves of a core: its features and its count of corrected errors, and the stores that have issued. -/
def lanCleared (l : Lan) : Lan :=
  let posts := l.posts.map (fun p => { p with wait := 0, pc := none })
  { feat := l.feat, corrected := l.corrected, posts := posts }

/-- The receive ring has room for an entry (R457). -/
def ringRoom (s : State) : Prop :=
  (rdn s rCTP_RXQ_PROD + 2 ^ 32 - rdn s rCTP_RXQ_CONS) % 2 ^ 32 ≠
    2 ^ (if 4 ≤ rdF s rCTP_RXQ_CFG 3 0 ∧ rdF s rCTP_RXQ_CFG 3 0 ≤ 12 then rdF s rCTP_RXQ_CFG 3 0 else 6)

/-- The commands that bring a message of Cyndasis Transport, each with its type (R450). -/
def ctpCommands (b : Bool) : List (Nat × (CtpIn → Instr)) :=
  [(1, .beacon), (2, .ack), (4, .regRead), (5, .regWrite), (7, .remoteWrite), (8, .credit), (9, fun m => .refuse m b),
   (10, .writeLost), (11, .msg), (12, .join), (13, .joinResp), (14, .wakeAt), (15, .leave)]

/-- Message `m` of type `t` without a check block passes the checks of its arrival, and comes from the peer of entry `k` of the
associations. -/
def ctpMet (m : CtpIn) (t k : Nat) (a : Assoc) (s : State) : Prop :=
  ifUp s m.ifc = true ∧ payloadOk (ctpMsgOf m t) = true ∧ nbit m.flags.toNat 6 = false ∧
  (t = 12 ∨ t = 13 ∨ msgGrouped (ctpMsgOf m t) = false ∨ (msgMember s (ctpPeerOf m) (ctpMsgOf m t)).isSome = true) ∧
  findAssoc s (ctpPeerOf m) = some k ∧ assoc s k = some a

/-- It is the reliable message that its association expects next, and no later one is held. -/
def ctpNext (m : CtpIn) (t k : Nat) (a : Assoc) (x : RxState) (s : State) : Prop :=
  ctpMet m t k a s ∧ a.rx = some x ∧ x.next = m.seq.toNat ∧ x.serial = m.serial.toNat ∧ x.held = []

/-- The message was carried out in its turn and answered with `ans`, which is kept for repeats. -/
def ctpAnswered (m : CtpIn) (k : Nat) (ans : CtpMsg) (t : State) : Prop :=
  ∃ x, rxOf t k = some x ∧ x.next = (m.seq.toNat + 1) % 2 ^ 32 ∧ x.answers.head? = some (m.seq.toNat, ans)

/-- The state in which a message that has arrived is carried out: it is counted, and its association has heard its peer. -/
def ctpArrived (m : CtpIn) (s : State) : State := (useAssoc (ctpPeerOf m) (bumpW (rCTP_CNT 1) 1 s)).2

/-- The network engine reads `n` bytes at an address without an error and without poison. -/
def cleanRead (s : State) (a n : Nat) : Prop := (devRead netAgent a n s).1 = { data := memBytes s a n }

/-- The next descriptor of the send ring, `b`, has type `t`, is well formed, and addresses the one destination `k`: peer `p`, with
room in its association `j`; no remote write waits for credit. -/
def sendReady (t k j : Nat) (p : Peer) (a : Assoc) (b : List Byte) (s : State) : Prop :=
  domOk s 5 = true ∧ s.net.taken ≠ rdn s rCTP_TXQ_PROD ∧ (regionOf (txHead s) = .am ∨ regionOf (txHead s) = .dram) ∧
  decodesAll s (txHead s) 64 = true ∧ b = memBytes s (txHead s) 64 ∧ cleanRead s (txHead s) 64 ∧ leAt 0 1 b = t ∧
  descBad s b = false ∧ nbit (leAt 1 1 b) 1 = false ∧ leAt 3 1 b = k ∧ k < 8 ∧ ctpDest s k = some p ∧
  genOk s (leAt 4 1 b) (leAt 5 1 b) = true ∧ findAssoc s p = some j ∧ assoc s j = some a ∧ a.backlog = [] ∧ a.unacked.length < 64 ∧
  (t = 0xE ∨ leAt 0xC 2 b = 0 ∨ cleanRead s (leAt 0x10 8 b) (leAt 0xC 2 b)) ∧ (∀ d ∈ s.net.descs, d.waits = [])

/-- The payload that a descriptor sends (R455, R459, R474). -/
def sentPayload (t : Nat) (b : List Byte) (s : State) : List Byte :=
  if t = 0xE then slice 0x20 8 b
  else if t = 7 then leBytes 4 (leAt 0x18 4 b) ++ leBytes 4 0 ++ memBytes s (leAt 0x10 8 b) (leAt 0xC 2 b)
  else memBytes s (leAt 0x10 8 b) (leAt 0xC 2 b)

/-- One reliable message of the descriptor is on its way to destination `k` over association `j`. -/
def sentReliably (t k j : Nat) (a : Assoc) (b : List Byte) (s u : State) : Prop :=
  (∃ c x, assoc u j = some c ∧ c.unacked = a.unacked ++ [x] ∧ x.desc = some (nextNum s) ∧ x.dest = k ∧ x.retx = 0 ∧
    c.tx = (a.tx + 1) % 2 ^ 32 ∧ x.msg.type = t ∧ x.msg.seq = a.tx ∧ x.msg.payload = sentPayload t b s) ∧
  (∃ d, findDesc u (nextNum s) = some d ∧ d.left = 1 ∧ d.mask = 2 ^ k ∧ d.idx = some s.net.taken) ∧
  u.net.taken = (s.net.taken + 1) % 2 ^ 32 ∧ u.mem = s.mem

/-- The commands that take the next descriptor of the send ring, each with its type (R455). -/
def sendCommands : List (Nat × Instr) := [(3, .sendDecision), (7, .sendRemoteWrite), (0xB, .sendMsg), (0xE, .sendWakeAt)]

/-- The resets of domain `d` within the last 600 s, the one that happens now among them, up to 4 (R100). -/
def resetsInWindow (s : State) (d : Nat) : Nat :=
  (((s.clock.aon :: tget [] s.prec.hist d).take 4).filter (fun t => decide (s.clock.aon ≤ t + 600 * aonS))).length

/-- A step takes the command at the front of the queue and runs it with the rest; with nothing waiting AON_TIME counts one cycle (R81; that the idle step is one cycle is the model's choice, log entry 2). -/
def Obligations.StepRunsFrontCommand : Prop :=
  (∀ (c : Instr) (s : State) (rest : List Instr),
    step { s with pending := c :: rest } = exec c { s with pending := rest }) ∧
  (∀ s : State, s.pending = [] → step s = .next (tick s))

/-- No command stops the machine: every command answers a next state, and so does every step -/
def Obligations.EveryCommandCompletes : Prop :=
  (∀ (c : Instr) (s : State), Completes c s (fun _ => True)) ∧
  (∀ s : State, ∃ t, step s = .next t) ∧
  (∀ (k : Nat) (s : State), ∃ t, Host.Core.run Sys2Proof.core k s = .next t)

/-- The invariant of the model: equal contents are equal data, and every step keeps it (the list form is the model's representation of the memories of R10, R44 and R60). -/
def Obligations.StepsKeepCanonicalForm : Prop :=
  ∀ s t : State, s.canonical → step s = .next t → t.canonical

/-- The state after reset is in canonical form, holds no command and reads every register at its reset value -/
def Obligations.ResetIsCanonical : Prop :=
  State.reset.canonical ∧ State.reset.pending = [] ∧ ∀ o, rd State.reset o = resetVal o

/-- No command changes the queue of waiting commands or the fuses -/
def Obligations.CommandsLeaveQueueAndFuses : Prop :=
  ∀ (c : Instr) (s t : State), exec c s = .next t → t.pending = s.pending ∧ t.fuses = s.fuses

/-- REGISTER_WRITE: alignment, gate, unassigned offsets and the access types of R68 -/
def Obligations.PlainRegisterWrite : Prop :=
  (∀ (ifc : Iface) (off : BitVec 28) (v : Word) (co : Coincident) (s : State), off.toNat % 4 ≠ 0 → (∀ u, co ≠ .parity u) →
    Completes (.registerWrite ifc off v co) s fun t => t.resp.err = true ∧ KeptAccess [] [] s t) ∧
  (∀ (ifc : Iface) (off : BitVec 28) (v : Word) (co : Coincident) (s : State), off.toNat % 4 = 0 → (∀ u, co ≠ .parity u) →
    gate ifc true off.toNat s = .refused →
    Completes (.registerWrite ifc off v co) s fun t => t.resp.err = true ∧ KeptAccess [] [] s t) ∧
  (∀ (ifc : Iface) (off : BitVec 28) (v : Word) (co : Coincident) (s : State), off.toNat % 4 = 0 → (∀ u, co ≠ .parity u) →
    gate ifc true off.toNat s = .decode →
    Completes (.registerWrite ifc off v co) s fun t =>
      t.resp.err = true ∧ rdn t (rFLT_CNT 0) = satN 32 (rdn s (rFLT_CNT 0) + 1) ∧ t.mem = s.mem ∧ t.flash = s.flash) ∧
  (∀ (ifc : Iface) (off : BitVec 28) (v : Word) (co : Coincident) (s : State), off.toNat % 4 = 0 → (∀ u, co ≠ .parity u) →
    gate ifc true off.toNat s = .open → regAt off.toNat = none → inForceOf off.toNat = none →
    Completes (.registerWrite ifc off v co) s fun t => t.resp.err = false ∧ KeptAccess [] [] s t) ∧
  (∀ (ifc : Iface) (off : BitVec 28) (v : Word) (co : Coincident) (s : State) (r : RegRow) (ix : List Nat), off.toNat % 4 = 0 → (∀ u, co ≠ .parity u) →
    gate ifc true off.toNat s = .open → regAt off.toNat = some (r, ix) → r.half = 0 → r.base ∉ ownEffectBases →
    shadowCtrlOf off.toNat = none → deadZ s off.toNat = false → deadIf s off.toNat = false → isLogReg off.toNat = false →
    Completes (.registerWrite ifc off v co) s fun t =>
      rd t off.toNat = (writeValue r (cntWraps r ix) (ownerActive ifc r ix s) (rd s off.toNat) v co).1 ∧
      t.resp.err = false ∧ KeptAccess [] [off.toNat] s t) ∧
  (∀ (ifc : Iface) (off : BitVec 28) (v : Word) (s : State), off.toNat = rKPR_EXPOSE → (∀ k, ifc ≠ .keeper k) →
    gate ifc true off.toNat s = .open →
    Completes (.registerWrite ifc off v .none) s fun t => t.resp.err = false ∧ KeptAccess [] [] s t) ∧
  (∀ (k : Fin 2) (off : BitVec 28) (v : Word) (s : State), off.toNat = rKPR_EXPOSE → gate (.keeper k) true off.toNat s = .open →
    Completes (.registerWrite (.keeper k) off v .none) s fun t =>
      (∀ b : Fin 12, bit (rd t rKPR_EXPOSE) b = bit v b) ∧ KeptAccess [] [rKPR_EXPOSE] s t) ∧
  (∀ (ifc : Iface) (off : BitVec 28) (v : Word) (s : State) (c : Fin 16) (i : Fin 2048), off.toNat = rMEAS_Z c i →
    gate ifc true off.toNat s = .open → deadZ s off.toNat = false →
    rdB s (rPX_CFG c + 0x8000) 1 = false → rdB s (rPX_CAL_CTRL c) 0 = false →
    Completes (.registerWrite ifc off v .none) s fun t =>
      zAt t c i = fld v 19 0 ∧ zeroValid t c = (upto 2048).any (fun u => decide (zAt t c u ≠ zUnknown)) ∧
      KeptAccess [] [off.toNat, rMEAS_STATUS c] s t) ∧
  (∀ (ifc : Iface) (off : BitVec 28) (v : Word) (u : Fin 11) (s : State), off.toNat % 4 ≠ 0 →
    (if u.val < 5 then domOk s 0 else domOk s (u.val - 4)) = true → isReady s = true →
    Completes (.registerWrite ifc off v (.parity u)) s fun t =>
      let e := if u.val < 5 then 7 else u.val - 4
      t.resp.err = true ∧ rdn t (rFLT_EVT_CNT e) = satN 32 (rdn s (rFLT_EVT_CNT e) + 1) ∧
      (u.val < 5 → t.fault.fatal = true) ∧ (5 ≤ u.val → t.fault.fatal = s.fault.fatal) ∧
      t.mem = s.mem ∧ t.jobs = s.jobs ∧ t.flash = s.flash)

/-- What a write leaves in RW, RWH, W1C, W1S, CNT and read-only fields, with the coincident hardware update -/
def Obligations.WriteFollowsAccessTypes : Prop :=
  ∀ (r : RegRow) (wraps act : Bool) (old v : Word) (co : Coincident) (k : Fin 32),
    (w32 r.rw &&& w32 r.rwh = 0 ∧ w32 r.rw &&& w32 r.w1c = 0 ∧ w32 r.rw &&& w32 r.w1s = 0 ∧ w32 r.rw &&& w32 r.cnt = 0 ∧
     w32 r.rwh &&& w32 r.w1c = 0 ∧ w32 r.rwh &&& w32 r.w1s = 0 ∧ w32 r.rwh &&& w32 r.cnt = 0 ∧
     w32 r.w1c &&& w32 r.w1s = 0 ∧ w32 r.w1c &&& w32 r.cnt = 0 ∧ w32 r.w1s &&& w32 r.cnt = 0) →
    let w := writeValue r wraps act old v co
    (bit (w32 r.rw) k → bit w.1 k = bit v k) ∧
    (bit (w32 r.w1c) k → bit w.1 k = ((bit old k && !bit v k) || bit (coSets co) k)) ∧
    (bit (w32 r.w1s) k → bit w.1 k = ((bit old k || bit v k) && !bit (coClears co) k)) ∧
    (bit (w32 r.rwh) k → act = false → coValue co = none → bit w.1 k = bit v k) ∧
    (bit (w32 r.rwh) k → (act = true ∨ coValue co ≠ none) → bit w.1 k = bit ((coValue co).getD old) k) ∧
    (!bit (w32 r.rw) k && !bit (w32 r.rwh) k && !bit (w32 r.w1c) k && !bit (w32 r.w1s) k && !bit (w32 r.cnt) k →
      co = .none → bit w.1 k = bit old k) ∧
    (w.2 = true ↔ ¬ (r.rwh ≠ 0 ∧ (act = true ∨ coValue co ≠ none)) ∧ v &&& w32 r.w1s &&& coClears co = 0)

/-- READ_CLEAR, PAIR_LO_READ, PAIR_LO_WRITE and PAIR_HI_WRITE: answers, latches and what stays -/
def Obligations.ReadsAndPairs : Prop :=
  (∀ (ifc : Iface) (off : BitVec 28) (s : State) (r : RegRow) (ix : List Nat), off.toNat % 4 = 0 →
    gate ifc false off.toNat s = .open → halfAt off.toNat = 0 → regAt off.toNat = some (r, ix) → r.rc ≠ 0 →
    Completes (.readClear ifc off .none) s fun t =>
      t.resp = { data := [view s off.toNat], err := false } ∧ rd t off.toNat = rd s off.toNat &&& ~~~ w32 r.rc ∧
      Kept [.resp] [off.toNat] s t) ∧
  (∀ (ifc : Iface) (off : BitVec 28) (s : State), off.toNat % 4 = 0 → gate ifc false off.toNat s = .open →
    halfAt off.toNat = 1 →
    Completes (.pairLoRead ifc off) s fun t =>
      t.resp = { data := [view s off.toNat], err := false } ∧ latch t ifc off.toNat = view s (off.toNat + 4) ∧
      Kept [.resp, .latches] [] s t) ∧
  (∀ (ifc : Iface) (off : BitVec 28) (s : State), 4 ≤ off.toNat → off.toNat % 4 = 0 → gate ifc false off.toNat s = .open →
    halfAt off.toNat = 2 →
    Completes (.pairLoRead ifc off) s fun t =>
      t.resp = { data := [latch s ifc (off.toNat - 4)], err := false } ∧ Kept [.resp] [] s t) ∧
  (∀ (ifc : Iface) (off : BitVec 28) (v : Word) (s : State), off.toNat % 4 = 0 → gate ifc true off.toNat s = .open →
    halfAt off.toNat = 1 →
    Completes (.pairLoWrite ifc off v) s fun t => latch t ifc off.toNat = v ∧ Kept [.resp, .latches] [] s t) ∧
  (∀ (ifc : Iface) (off : BitVec 28) (v : Word) (s : State) (r q : RegRow) (ix jx : List Nat), off.toNat % 4 = 0 → 4 ≤ off.toNat →
    gate ifc true off.toNat s = .open → isLogReg (off.toNat - 4) = false → regAt off.toNat = some (r, ix) → r.half = 2 → r.base ∉ ownEffectBases →
    regAt (off.toNat - 4) = some (q, jx) → shadowCtrlOf off.toNat = none → shadowCtrlOf (off.toNat - 4) = none →
    deadZ s off.toNat = false → deadIf s off.toNat = false → deadZ s (off.toNat - 4) = false →
    deadIf s (off.toNat - 4) = false → q.half = 1 →
    Completes (.pairHiWrite ifc off v) s fun t =>
      rd t off.toNat = (writeValue r (cntWraps r ix) (ownerActive ifc r ix s) (rd s off.toNat) v .none).1 ∧
      rd t (off.toNat - 4) =
        (writeValue q (cntWraps q jx) (ownerActive ifc q jx s) (rd s (off.toNat - 4)) (latch s ifc (off.toNat - 4)) .none).1 ∧
      KeptAccess [] [off.toNat, off.toNat - 4] s t)

/-- SHADOW_COMMIT, SHADOW_CANCEL, DEBUG_PEEK and PEEK_COMPLETE -/
def Obligations.ShadowAndPeek : Prop :=
  (∀ (ifc : Iface) (g : ShadowGroup) (s : State), gate ifc true (groupCtrl g) s = .open → ownerStopped s g = false →
    Completes (.shadowCommit ifc g) s fun t =>
      rdB t (groupCtrl g) 0 = true ∧ KeptAccess [] [groupCtrl g] s t) ∧
  (∀ (ifc : Iface) (p : Fin 8) (s : State), gate ifc true (rVP_SHADOW_CTRL p) s = .open → portState s p = 0 →
    twf resetVal s.regs = true →
    Completes (.shadowCommit ifc (.vport p)) s fun t =>
      rdB t (rVP_SHADOW_CTRL p) 0 = false ∧ vpCfg t p = rd s (rVP_CFG p) ∧ vpSize t p = rd s (rVP_SIZE p) ∧
      rd t (rVP_CFG p) = rd s (rVP_CFG p) ∧ rd t (rVP_SIZE p) = rd s (rVP_SIZE p)) ∧
  (∀ (ifc : Iface) (g : ShadowGroup) (s : State), gate ifc true (groupCtrl g) s = .open →
    Completes (.shadowCancel ifc g false) s fun t =>
      rdB t (groupCtrl g) 0 = false ∧ KeptAccess [] [groupCtrl g] s t) ∧
  (∀ (off : BitVec 28) (s : State), domOk s 0 = true → rdB s rDBG_PEEK_STATUS 0 = false →
    Completes (.debugPeek .jtag off) s fun t =>
      rdn t rDBG_PEEK_ADDR = off.toNat ∧ rdn t rDBG_PEEK_STATUS = 1 ∧ KeptAccess [] [rDBG_PEEK_ADDR, rDBG_PEEK_STATUS] s t) ∧
  (∀ (ifc : Iface) (off : BitVec 28) (s : State), ifc ≠ .jtag →
    Completes (.debugPeek ifc off) s fun t =>
      t.resp.err = true ∧ rd t rDBG_PEEK_ADDR = rd s rDBG_PEEK_ADDR ∧ rd t rDBG_PEEK_STATUS = rd s rDBG_PEEK_STATUS) ∧
  (∀ s : State, rdB s rDBG_PEEK_STATUS 0 = true → gate .jtag false (rdn s rDBG_PEEK_ADDR / 4 * 4) s = .open →
    Completes .peekComplete s fun t =>
      rd t rDBG_PEEK_DATA = view s (rdn s rDBG_PEEK_ADDR / 4 * 4) ∧ rdn t rDBG_PEEK_STATUS = 0 ∧
      Kept [] [rDBG_PEEK_DATA, rDBG_PEEK_STATUS] s t) ∧
  (∀ s : State, rdB s rDBG_PEEK_STATUS 0 = true → gate .jtag false (rdn s rDBG_PEEK_ADDR / 4 * 4) s ≠ .open →
    Completes .peekComplete s fun t =>
      rd t rDBG_PEEK_DATA = w32 0xFFFFFFFF ∧ rdn t rDBG_PEEK_STATUS = 2 ∧ Kept [] [rDBG_PEEK_DATA, rDBG_PEEK_STATUS] s t)

/-- POWER_ON_RESET, READY_SET and PCIE_BOOT_GO. Where READY may be set is partly the model's choice (log entry 85) -/
def Obligations.BootCommands : Prop :=
  (∀ (env : BootEnv) (s : State), Completes (.powerOnReset 1 env) s fun t =>
    t.boot.phase = .waitPcie ∧ t.mem = [] ∧ t.jobs = [] ∧ t.clock.aon = 0 ∧ t.clock.dtime = 0 ∧ isReady t = false ∧
    t.flash = s.flash ∧ t.fuses = s.fuses ∧ t.pending = s.pending) ∧
  (∀ (src : Fin 4) (env : BootEnv) (s : State), src ≠ 1 → slotHeader s env.flashBad 0 ≠ none → slotHeader s env.flashBad 1 ≠ none →
    Completes (.powerOnReset src env) s fun t =>
      t.boot.phase = (if src = 2 then .halted else .waitPcie) ∧ t.mem = [] ∧ t.flash = s.flash ∧ t.fuses = s.fuses) ∧
  (∀ (ifc : Iface) (s : State), gate ifc true rDEV_STATE s = .open → deviceOos s = false → s.boot.phase ≠ .halted →
    s.fuses.keeperBad % 4 = 0 →
    Completes (.readySet ifc) s fun t => isReady t = true ∧ t.mem = s.mem ∧ t.flash = s.flash) ∧
  (∀ (ifc : Iface) (s : State), gate ifc true rDEV_STATE s = .open →
    (deviceOos s = true ∨ s.boot.phase = .halted ∨ s.fuses.keeperBad % 4 ≠ 0 ∨ isReady s = true) →
    Completes (.readySet ifc) s fun t => KeptAccess [] [] s t) ∧
  (∀ (ifc : Iface) (s : State) (b : List Byte), gate ifc true rPCIE_BOOT s = .open → s.boot.phase = .waitPcie →
    stagedBytes s wmBase (rdF s rSTAGE_LEN 24 0) = some b →
    (verifyImage (bootAvail s) s b 0x2000000 (some (rdF s rSTAGE_LEN 24 0))).ok = true →
    Completes (.pcieBootGo ifc { train := .ok }) s fun t =>
      t.boot.phase = .running ∧
      t.boot.secs = (verifyImage (bootAvail s) s b 0x2000000 (some (rdF s rSTAGE_LEN 24 0))).secs ∧
      rdn t rIMG_SEQ = leAt 0xC 4 b ∧ t.flash = s.flash) ∧
  (∀ (ifc : Iface) (env : BootEnv) (s : State), gate ifc true rPCIE_BOOT s = .open → s.boot.phase ≠ .waitPcie →
    Completes (.pcieBootGo ifc env) s fun t => KeptAccess [] [] s t)

/-- QUIESCE_REQUEST, QUIESCE_RELEASE, QUIESCED_REACHED, QUIESCE_TIMEOUT and QUIESCED_FORCED_REACHED -/
def Obligations.QuiesceLifecycle : Prop :=
  (∀ (ifc : Iface) (s : State), gate ifc true rQUIESCE_CTRL s = .open → quiesceState s = 0 → rdB s rQUIESCE_CTRL 0 = false →
    Completes (.quiesceRequest ifc) s fun t =>
      quiesceState t = 1 ∧ rdB t rQUIESCE_CTRL 0 = true ∧ KeptAccess [] [rQUIESCE_CTRL, rQUIESCE_STATUS] s t) ∧
  (∀ (ifc : Iface) (s : State), gate ifc true rQUIESCE_CTRL s = .open → 1 ≤ quiesceState s → quiesceState s ≤ 3 →
    Completes (.quiesceRelease ifc) s fun t =>
      quiesceState t = 0 ∧ rdB t rQUIESCE_CTRL 0 = false ∧ t.boot.forcing = false ∧
      KeptAccess [.boot] [rQUIESCE_CTRL, rQUIESCE_STATUS] s t) ∧
  (∀ (ifc : Iface) (s : State), gate ifc true rQUIESCE_CTRL s = .open → quiesceState s = 4 →
    Completes (.quiesceRelease ifc) s fun t =>
      quiesceState t = 4 ∧ t.boot.releaseAfter = true ∧ KeptAccess [.boot] [rQUIESCE_CTRL] s t) ∧
  (∀ s : State, quiesceState s = 1 → anyWinOpen s = false → anyJobOpen s = false → s.boot.forcing = false →
    Completes .quiescedReached s fun t =>
      quiesceState t = 2 ∧ (∀ k, k < 8 → (trig t k).seg = none ∧ (trig t k).pends = []) ∧ t.mem = s.mem ∧ t.jobs = s.jobs) ∧
  (∀ (cu : Fin 4) (s : State), quiesceState s = 1 → s.boot.forcing = false →
    Completes (.quiesceTimeout cu) s fun t =>
      quiesceState t = 1 ∧ t.boot.forcing = true ∧ (∀ w, w < 4 → winOpen t w = false) ∧ t.mem = s.mem) ∧
  (∀ s : State, quiesceState s = 1 → s.boot.forcing = true → anyJobOpen s = false →
    Completes .quiescedForcedReached s fun t => quiesceState t = 3 ∧ t.boot.forcing = false ∧ t.mem = s.mem)

/-- APPLY and APPLY_COMPLETE -/
def Obligations.ApplyLifecycle : Prop :=
  (∀ (ifc : Iface) (s : State) (b : List Byte), gate ifc true rQUIESCE_CTRL s = .open → 2 ≤ quiesceState s → quiesceState s ≤ 3 →
    rdB s rQUIESCE_CTRL 0 = true → stagedBytes s (rd64 s rSTAGE_ADDR_LO) (rdF s rSTAGE_LEN 24 0) = some b →
    (verifyImage (applyAvail s) s b 0x2000000 (some (rdF s rSTAGE_LEN 24 0))).ok = true →
    resetOnlyDiffers s (verifyForm b 0x2000000 (some (rdF s rSTAGE_LEN 24 0))).2 = none →
    Completes (.apply ifc) s fun t =>
      quiesceState t = 4 ∧ t.boot.applying = some b ∧ rdB t rQUIESCE_CTRL 1 = true ∧ t.boot.secs = s.boot.secs ∧
      KeptAccess [.boot] [rQUIESCE_CTRL, rQUIESCE_STATUS] s t) ∧
  (∀ (ifc : Iface) (s : State), gate ifc true rQUIESCE_CTRL s = .open → quiesceState s < 2 →
    Completes (.apply ifc) s fun t =>
      rdF t rQUIESCE_STATUS 11 8 = 1 ∧ rdF t rQUIESCE_STATUS 19 12 = 0xFF ∧ rdB t rQUIESCE_STATUS 4 = true ∧
      t.boot.applying = s.boot.applying ∧ t.boot.secs = s.boot.secs) ∧
  (∀ (s : State) (b : List Byte), s.boot.applying = some b →
    (repairDomains (tget [] s.boot.secs 1) (tget [] (verifyForm b 0x2000000 none).1.secs 1)).contains 0 = true →
    Completes .applyComplete s fun t => t.boot.applying = none ∧ isReady t = false ∧ ∀ k, k < 16 → (job t k).state = .free) ∧
  (∀ s : State, s.boot.applying = none → Completes .applyComplete s fun t => t = s) ∧
  (∀ (s : State) (b : List Byte), s.boot.applying = some b →
    (repairDomains (tget [] s.boot.secs 1) (tget [] (verifyForm b 0x2000000 none).1.secs 1)).contains 0 = false →
    Completes .applyComplete s fun t =>
      t.boot.applying = none ∧ t.boot.secs = (verifyForm b 0x2000000 none).1.secs ∧ rdB t rQUIESCE_CTRL 1 = false ∧
      quiesceState t = (if s.boot.releaseAfter then 0 else if s.boot.wasForced then 3 else 2))

/-- ENCODER_STATE_CHANGE, ENC_POS_WRITE, CURTAIN_EDGE_ACCEPTED and CURTAIN_CFG_WRITE -/
def Obligations.EncodersAndCurtains : Prop :=
  (∀ (n : Fin 4) (ch : QuadChange) (s : State), rdB s (rENC_CFG n) 0 = true → ch ≠ .both →
    Completes (.encoderStateChange n ch) s fun t =>
      rdn t (rENC_POS n) =
        (if decide (ch = .aLeadsB) != rdB s (rENC_CFG n) 1 then rdn s (rENC_POS n) + 1 else rdn s (rENC_POS n) + 2 ^ 32 - 1) % 2 ^ 32 ∧
      (∀ m : Fin 4, m ≠ n → rd t (rENC_POS m) = rd s (rENC_POS m)) ∧ t.mem = s.mem ∧ t.flash = s.flash) ∧
  (∀ (n : Fin 4) (s : State), rdB s (rENC_CFG n) 0 = true →
    Completes (.encoderStateChange n .both) s fun t =>
      rd t (rENC_POS n) = rd s (rENC_POS n) ∧ rdn t (rENC_ERRCNT n) = satN 32 (rdn s (rENC_ERRCNT n) + 1) ∧ t.mem = s.mem) ∧
  (∀ (n : Fin 4) (ch : QuadChange) (s : State), rdB s (rENC_CFG n) 0 = false →
    Completes (.encoderStateChange n ch) s fun t => t = s) ∧
  (∀ (ifc : Iface) (n : Fin 4) (v : Word) (s : State), gate ifc true (rENC_POS n) s = .open →
    Completes (.encPosWrite ifc n v .none) s fun t => rd t (rENC_POS n) = v ∧ t.mem = s.mem) ∧
  (∀ (n : Fin 8) (level : Bool) (s : State), rdB s (rCURT_CFG n) 0 = true →
    Completes (.curtainEdgeAccepted n level) s fun t =>
      blocked t n = decide (level = rdB s (rCURT_CFG n) 1) ∧ (∀ m : Fin 8, m ≠ n → blocked t m = blocked s m) ∧ t.mem = s.mem) ∧
  (∀ (n : Fin 8) (level : Bool) (s : State), rdB s (rCURT_CFG n) 0 = false →
    Completes (.curtainEdgeAccepted n level) s fun t => Kept [.keeper] [] s t) ∧
  (∀ (ifc : Iface) (n : Fin 8) (v : Word) (s : State), gate ifc true (rCURT_CFG n) s = .open →
    Completes (.curtainCfgWrite ifc n v) s fun t =>
      (bit v 0 = false → blocked t n = false) ∧
      (bit v 0 = true → rdB s (rCURT_CFG n) 0 = false →
        blocked t n = decide ((tget ({} : Curt) s.keeper.curts n).level = bit v 1)) ∧
      KeptAccess [.keeper] [rCURT_CFG n, rCURT_STATE] s t)

/-- GAP_TIMEOUT_EXPIRY, LINE_TRIGGER, TRIGGER_HOLD_RELEASE and SLOT_REUSE_DELAY_EXPIRY -/
def Obligations.WindowsTriggersAndSlots : Prop :=
  (∀ (w : Fin 4) (s : State), winState s w = 2 → (win s w).gapTimeout ≠ 0 → blocked s (win s w).curt = false →
    (win s w).trailAt + 1000 * (win s w).gapTimeout ≤ s.clock.aon →
    Completes (.gapTimeoutExpiry w) s fun t => winState t w = 0 ∧ t.mem = s.mem) ∧
  (∀ (w : Fin 4) (s : State),
    (winState s w ≠ 2 ∨ (win s w).gapTimeout = 0 ∨ blocked s (win s w).curt = true ∨
      s.clock.aon < (win s w).trailAt + 1000 * (win s w).gapTimeout) →
    Completes (.gapTimeoutExpiry w) s fun t => t = s) ∧
  (∀ (k : Fin 8) (s : State) (g : Seg), (trig s k).seg = some g → isDue s g 0 = true → (trig s k).held = false →
    ((trig s k).last = 0 ∨ (trig s k).last + g.minper ≤ s.clock.aon + 1) →
    Completes (.lineTrigger k) s fun t =>
      (trig t k).pulses = (trig s k).pulses + 1 ∧ (trig t k).last = s.clock.aon + 1 ∧ t.mem = s.mem) ∧
  (∀ (k : Fin 8) (s : State) (g : Seg), (trig s k).seg = some g → isDue s g 0 = true → (trig s k).held = false → (trig s k).last ≠ 0 →
    s.clock.aon + 1 < (trig s k).last + g.minper →
    Completes (.lineTrigger k) s fun t =>
      (trig t k).held = true ∧ (trig t k).pulses = (trig s k).pulses ∧ Kept [.keeper] [] s t) ∧
  (∀ (k : Fin 8) (s : State) (g : Seg), (trig s k).seg = some g → isDue s g 1 = true → (trig s k).held = true →
    Completes (.lineTrigger k) s fun t =>
      rdn t (rTRIG_DROPPED k) = satN 32 (rdn s (rTRIG_DROPPED k) + 1) ∧ (trig t k).pulses = (trig s k).pulses ∧ t.mem = s.mem) ∧
  (∀ (k : Fin 8) (s : State),
    ((trig s k).seg = none ∨ ∃ g, (trig s k).seg = some g ∧ isDue s g (if (trig s k).held then 1 else 0) = false) →
    Completes (.lineTrigger k) s fun t => t = s) ∧
  (∀ (k : Fin 8) (s : State), ((trig s k).seg = none ∨ (trig s k).held = false) →
    Completes (.triggerHoldRelease k) s fun t => t = s) ∧
  (∀ (k : Fin 8) (s : State) (g : Seg), (trig s k).seg = some g → (trig s k).held = true →
    (trig s k).last + g.minper ≤ s.clock.aon + 1 →
    Completes (.triggerHoldRelease k) s fun t =>
      (trig t k).held = false ∧ (trig t k).pulses = (trig s k).pulses + 1 ∧ t.mem = s.mem) ∧
  (∀ (k : Fin 16) (s : State), ((job s k).state ≠ .cooling ∨ s.clock.aon < (job s k).freedAt + 20 * aonMs) →
    Completes (.slotReuseDelayExpiry k) s fun t => t = s) ∧
  (∀ (k : Fin 16) (s : State), (job s k).state = .cooling → (job s k).freedAt + 20 * aonMs ≤ s.clock.aon →
    Completes (.slotReuseDelayExpiry k) s fun t =>
      job t k = { job s k with state := .free } ∧ (∀ m : Nat, m ≠ k.val → job t m = job s m) ∧ Kept [.jobs] [] s t)

/-- WAKE_REQUEST, FAST_DOMAINS_RUN, WAKE_HOLD, WAKE_NOW, IDLE_HOLD_EXPIRY and NAP_ENTRY_COMPLETE -/
def Obligations.WakesAndNap : Prop :=
  (∀ s : State, Completes .wakeRequest s fun t =>
    rdn t (rPWR_CNT 1) = satN 32 (rdn s (rPWR_CNT 1) + 1) ∧ rdB t rPWR_CTRL 0 = false ∧
    (s.power.step = .none → s.power.state = .nap → t.power.step = .waking) ∧
    (s.power.step = .none → s.power.state = .deep → t.power.step = .deepExit) ∧
    (s.power.step = .napEntry → t.power.step = .waking ∧ rdn t (rPWR_CNT 2) = satN 32 (rdn s (rPWR_CNT 2) + 1)) ∧
    t.power.state = s.power.state ∧ Kept [.power] [rPWR_CTRL, rPWR_CNT 1, rPWR_CNT 2, rPWR_PLL] s t) ∧
  (∀ (failed : BitVec 4) (s : State), s.power.step = .waking →
    Completes (.fastDomainsRun failed) s fun t =>
      t.power.state = .run ∧ t.power.failed = failed.toNat ∧ rdB t rWAKE_CTRL 1 = false ∧ t.mem = s.mem) ∧
  (∀ (failed : BitVec 4) (s : State), s.power.step = .none → Completes (.fastDomainsRun failed) s fun t => t = s) ∧
  (∀ (ifc : Iface) (on : Bool) (s : State), gate ifc true rWAKE_CTRL s = .open →
    Completes (.wakeHold ifc on) s fun t => rdB t rWAKE_CTRL 0 = on ∧ t.mem = s.mem ∧ t.jobs = s.jobs) ∧
  (∀ (ifc : Iface) (s : State), gate ifc true rWAKE_CTRL s = .open →
    Completes (.wakeNow ifc) s fun t =>
      rdn t (rPWR_CNT 1) = satN 32 (rdn s (rPWR_CNT 1) + 1) ∧ rdB t rWAKE_CTRL 0 = rdB s rWAKE_CTRL 0 ∧
      KeptAccess [.power] [rWAKE_CTRL, rPWR_CTRL, rPWR_CNT 1, rPWR_CNT 2, rPWR_PLL] s t) ∧
  (∀ s : State, s.power.state = .run → s.power.step = .none → fastBusy s = false → rdF s rPWR_PLAN 3 0 ≠ 0 →
    25 * rdF s rPWR_PLAN 31 16 ≤ 2 * (s.clock.aon - s.power.idleFrom) →
    Completes .idleHoldExpiry s fun t => t.power.step = .napEntry ∧ t.power.state = .run ∧ Kept [.power] [] s t) ∧
  (∀ s : State, s.power.state = .run → s.power.step = .none → (fastBusy s = true ∨ rdF s rPWR_PLAN 3 0 = 0) →
    Completes .idleHoldExpiry s fun t => t = s) ∧
  (∀ s : State, s.power.step = .napEntry →
    Completes .napEntryComplete s fun t =>
      t.power.state = .nap ∧ t.power.step = .none ∧ rdn t (rPWR_CNT 0) = satN 32 (rdn s (rPWR_CNT 0) + 1) ∧
      (rdB s rPWR_PLAN 2 = false → Kept [.power] [rPWR_CNT 0] s t) ∧
      ((∀ p, p < 8 → (port s p).extra = []) → t.mem = s.mem))

/-- DEEP_HOLD_EXPIRY, DEEP_REQUEST, DEEP_ENTRY_COMPLETE, DEEP_EXIT, DEEP_EXIT_COMPLETE and DEEP_DRAM_IDLE_TIMER -/
def Obligations.DeepAndBack : Prop :=
  (∀ s : State, deepHold s ≠ 0 → deepOk s = true → deepHold s * aonS ≤ s.clock.aon - s.power.deepFrom → s.power.state = .run →
    s.power.step = .none →
    Completes .deepHoldExpiry s fun t => t.power.step = .deepNap ∧ t.power.state = .run ∧ Kept [.power] [] s t) ∧
  (∀ (ifc : Iface) (s : State), gate ifc true rPWR_CTRL s = .open → deepOk s = true → s.power.state = .run → s.power.step = .none →
    Completes (.deepRequest ifc) s fun t =>
      t.power.step = .deepNap ∧ rdB t rPWR_CTRL 0 = true ∧ KeptAccess [.power] [rPWR_CTRL] s t) ∧
  (∀ (ifc : Iface) (s : State), gate ifc true rPWR_CTRL s = .open → rdB s rPWR_PLAN 4 = true → fastBusy s = true →
    s.power.state ≠ .deep →
    Completes (.deepRequest ifc) s fun t =>
      rdB t rPWR_CTRL 0 = true ∧ KeptAccess [] [rPWR_CTRL] s t) ∧
  (∀ (ifc : Iface) (s : State), gate ifc true rPWR_CTRL s = .open → rdB s rPWR_PLAN 4 = false →
    Completes (.deepRequest ifc) s fun t => KeptAccess [] [] s t) ∧
  (∀ s : State, s.power.step = .deepStop →
    Completes .deepEntryComplete s fun t =>
      t.power.state = .deep ∧ t.power.step = .none ∧ rdn t (rPWR_CNT 3) = satN 32 (rdn s (rPWR_CNT 3) + 1) ∧
      (∀ n, n < 18 → (lan t n).longs = [] ∧ (lan t n).feat = (lan s n).feat) ∧ t.resv = [] ∧ t.ports = [] ∧ t.secBank = [] ∧
      t.jobs = s.jobs ∧ t.flash = s.flash) ∧
  (∀ (ifc : Iface) (s : State), gate ifc true rPWR_CTRL s = .open → s.power.state = .deep → s.power.step = .none →
    Completes (.deepExit ifc) s fun t =>
      t.power.step = .deepExit ∧ rdn t (rPWR_CNT 1) = satN 32 (rdn s (rPWR_CNT 1) + 1) ∧
      KeptAccess [.power] [rPWR_CTRL, rPWR_CNT 1] s t) ∧
  (∀ s : State, s.power.step = .deepExit →
    Completes .deepExitComplete s fun t => t.power.state = .run ∧ t.power.failed = 0 ∧ t.flash = s.flash) ∧
  (∀ s : State, s.power.state = .deep → s.power.dramUp = true →
    Completes .deepDramIdleTimer s fun t =>
      ddrState t = 4 ∧ t.power.dramUp = false ∧ rdB t rPWR_PLL 3 = false ∧ Kept [.power] [rDDR_STATUS, rPWR_PLL] s t)

/-- JOB_COMMIT, FAULT_REACHES_JOB and ABANDON_POINT_EXPIRY -/
def Obligations.JobsEnd : Prop :=
  (∀ (k : Fin 16) (results views : List Buffer) (read incomplete : Bool) (app : List Byte) (cu : Fin 4) (est : Nat) (s : State),
    jobLive s k = true → (job s k).state ≠ .capturing → jobWinOpen s k = false → (job s k).reached = false → results.any (bufPoisoned s) = false →
    Completes (.jobCommit k results views read incomplete app cu est) s fun t =>
      jobLive t k = false ∧ (job t k).jobId = (job s k).jobId ∧ (read = false → (job t k).noRead = true) ∧ t.mem = s.mem) ∧
  (∀ (k : Fin 16) (results views : List Buffer) (read incomplete : Bool) (app : List Byte) (cu : Fin 4) (est : Nat) (s : State),
    (jobLive s k = false ∨ (job s k).state = .capturing ∨ jobWinOpen s k = true) →
    Completes (.jobCommit k results views read incomplete app cu est) s fun t => t = s) ∧
  (∀ (k : Fin 16) (cu : Fin 4) (est : Nat) (s : State), jobLive s k = true → (job s k).reached = true → mayRestart s k est = true →
    Completes (.faultReachesJob k cu est) s fun t =>
      (job t k).state = .restarting ∧ (job t k).gen = ((job s k).gen + 1) % 256 ∧ (job t k).restarted = true ∧
      (job t k).reached = false ∧ t.mem = s.mem) ∧
  (∀ (k : Fin 16) (cu : Fin 4) (est : Nat) (s : State), jobLive s k = true → (job s k).reached = true → mayRestart s k est = false →
    Completes (.faultReachesJob k cu est) s fun t => jobLive t k = false ∧ (job t k).noRead = true ∧ t.mem = s.mem) ∧
  (∀ (k : Fin 16) (cu : Fin 4) (s : State), jobLive s k = true → jobWinOpen s k = false →
    (job s k).trailing + 398 * aonMs ≤ s.clock.aon →
    Completes (.abandonPointExpiry k cu) s fun t => jobLive t k = false ∧ (job t k).noRead = true ∧ t.mem = s.mem)

/-- The SPI NOR controller of R95 and the protection of R48. That a program only clears bits is the model's choice (log entry 7). -/
def Obligations.FlashOperations : Prop :=
  (∀ (ifc : Iface) (len : BitVec 13) (s : State), gate ifc true rFLASH_CMD s = .open → rdB s rFLASH_CMD 16 = false →
    flashRefused 1 (rdn s rFLASH_ADDR) len.toNat = false →
    Completes (.flashRead ifc len) s fun t =>
      t.flashOp = some { op := 1, addr := rdn s rFLASH_ADDR, len := len.toNat, waiting := precBusy s } ∧
      rdB t rFLASH_CMD 16 = true ∧ KeptAccess [.flashOp] [rFLASH_CMD] s t) ∧
  (∀ (ifc : Iface) (len : BitVec 13) (s : State), gate ifc true rFLASH_CMD s = .open → rdB s rFLASH_CMD 16 = false →
    flashRefused 2 (rdn s rFLASH_ADDR) len.toNat = false → flashProtected 2 (rdn s rFLASH_ADDR) len.toNat = false →
    Completes (.flashProgram ifc len) s fun t =>
      t.flashOp = some { op := 2, addr := rdn s rFLASH_ADDR, len := len.toNat, waiting := precBusy s } ∧
      rdB t rFLASH_CMD 16 = true ∧ KeptAccess [.flashOp] [rFLASH_CMD] s t) ∧
  (∀ (ifc : Iface) (s : State), gate ifc true rFLASH_CMD s = .open → rdB s rFLASH_CMD 16 = false →
    flashRefused 3 (rdn s rFLASH_ADDR) 0 = false → flashProtected 3 (rdn s rFLASH_ADDR) 0 = false →
    Completes (.flashErase4k ifc) s fun t =>
      t.flashOp = some { op := 3, addr := rdn s rFLASH_ADDR, len := 0, waiting := precBusy s } ∧
      rdB t rFLASH_CMD 16 = true ∧ KeptAccess [.flashOp] [rFLASH_CMD] s t) ∧
  (∀ (ifc : Iface) (s : State), gate ifc true rFLASH_CMD s = .open → rdB s rFLASH_CMD 16 = false →
    flashRefused 4 (rdn s rFLASH_ADDR) 0 = false → flashProtected 4 (rdn s rFLASH_ADDR) 0 = false →
    Completes (.flashErase64k ifc) s fun t =>
      t.flashOp = some { op := 4, addr := rdn s rFLASH_ADDR, len := 0, waiting := precBusy s } ∧
      rdB t rFLASH_CMD 16 = true ∧ KeptAccess [.flashOp] [rFLASH_CMD] s t) ∧
  (∀ (ifc : Iface) (len : BitVec 13) (s : State), gate ifc true rFLASH_CMD s = .open → rdB s rFLASH_CMD 16 = false →
    flashRefused 1 (rdn s rFLASH_ADDR) len.toNat = true →
    Completes (.flashRead ifc len) s fun t => rdB t rFLASH_CMD 18 = true ∧ KeptAccess [] [rFLASH_CMD] s t) ∧
  (∀ (ifc : Iface) (len : BitVec 13) (s : State), gate ifc true rFLASH_CMD s = .open → rdB s rFLASH_CMD 16 = false →
    flashRefused 2 (rdn s rFLASH_ADDR) len.toNat = false → flashProtected 2 (rdn s rFLASH_ADDR) len.toNat = true →
    Completes (.flashProgram ifc len) s fun t =>
      rdB t rFLASH_CMD 18 = true ∧ t.resp.err = true ∧ KeptAccess [] [rFLASH_CMD] s t) ∧
  (∀ (ifc : Iface) (s : State), gate ifc true rFLASH_CMD s = .open → rdB s rFLASH_CMD 16 = false →
    flashRefused 3 (rdn s rFLASH_ADDR) 0 = false → flashProtected 3 (rdn s rFLASH_ADDR) 0 = true →
    Completes (.flashErase4k ifc) s fun t =>
      rdB t rFLASH_CMD 18 = true ∧ t.resp.err = true ∧ KeptAccess [] [rFLASH_CMD] s t) ∧
  (∀ (ifc : Iface) (len : BitVec 13) (s : State), gate ifc true rFLASH_CMD s = .open → rdB s rFLASH_CMD 16 = true →
    Completes (.flashRead ifc len) s (KeptAccess [] [] s) ∧ Completes (.flashProgram ifc len) s (KeptAccess [] [] s) ∧
    Completes (.flashErase4k ifc) s (KeptAccess [] [] s) ∧ Completes (.flashErase64k ifc) s (KeptAccess [] [] s)) ∧
  (∀ (left : List (BitVec 26 × Byte)) (s : State) (o : FlashOp), s.flashOp = some o → o.waiting = false → o.op = 1 → o.len = 0 →
    s.prec.pendingNow = false → s.prec.pendingRoutine = false →
    Completes (.flashOpComplete true left) s fun t =>
      t.flashOp = none ∧ rdB t rFLASH_CMD 16 = false ∧ flashBufBytes t 4096 = flashBytes s o.addr 4096 ∧
      Kept [.flashOp] (rFLASH_CMD :: (upto 1024).map (fun k => rFLASH_BUF 0 + 4 * k)) s t) ∧
  (∀ (left : List (BitVec 26 × Byte)) (s : State) (o : FlashOp), s.flashOp = some o → o.waiting = false → o.op = 2 →
    s.prec.pendingNow = false → s.prec.pendingRoutine = false →
    Completes (.flashOpComplete true left) s fun t =>
      t.flashOp = none ∧ rdB t rFLASH_CMD 16 = false ∧
      (∀ a, flashByte t a =
        (if o.addr ≤ a ∧ a < o.addr + (flashSpan 2 o.addr o.len).2 then
          flashByte s a &&& (flashBufBytes s (flashSpan 2 o.addr o.len).2).getD (a - o.addr) 0xFF#8
        else flashByte s a)) ∧
      Kept [.flashOp, .flash] [rFLASH_CMD] s t) ∧
  (∀ (left : List (BitVec 26 × Byte)) (s : State) (o : FlashOp), s.flashOp = some o → o.waiting = false → 3 ≤ o.op →
    twf (fun _ => (255 : Byte)) s.flash = true → s.prec.pendingNow = false → s.prec.pendingRoutine = false →
    Completes (.flashOpComplete true left) s fun t =>
      t.flashOp = none ∧ rdB t rFLASH_CMD 16 = false ∧
      (∀ a, flashByte t a =
        (if (flashSpan o.op o.addr o.len).1 ≤ a ∧ a < (flashSpan o.op o.addr o.len).1 + (flashSpan o.op o.addr o.len).2
         then 0xFF#8 else flashByte s a)) ∧
      Kept [.flashOp, .flash] [rFLASH_CMD] s t)

/-- PREC_WRITE_NOW, PREC_ROUTINE_TIMER and PREC_WRITE_COMPLETE -/
def Obligations.PersistentRecordWrites : Prop :=
  (∀ (ifc : Iface) (s : State), gate ifc true rPREC_CTRL s = .open → precBusy s = false → flashBusy s = false →
    twf (fun _ => (255 : Byte)) s.flash = true →
    Completes (.precWriteNow ifc) s fun t =>
      t.prec.writing.map (fun w => w.1) = some (1 - rdF s rPREC_STATUS 0 0) ∧ rdB t rPREC_STATUS 2 = true ∧
      (∀ a, a < precBase (1 - rdF s rPREC_STATUS 0 0) ∨ precBase (1 - rdF s rPREC_STATUS 0 0) + 0x10000 ≤ a →
        flashByte t a = flashByte s a) ∧
      KeptAccess [.prec, .flash] [rPREC_CTRL, rPREC_STATUS] s t) ∧
  (∀ (ifc : Iface) (s : State), gate ifc true rPREC_CTRL s = .open → (precBusy s = true ∨ flashBusy s = true) →
    Completes (.precWriteNow ifc) s fun t => t.prec.pendingNow = true ∧ KeptAccess [.prec] [rPREC_CTRL] s t) ∧
  (∀ s : State, precBusy s = false → flashBusy s = false →
    Completes .precRoutineTimer s fun t =>
      t.prec.writing.isSome = true ∧ t.prec.lastRoutine = s.clock.aon ∧ rdB t rPREC_STATUS 2 = true ∧
      Kept [.prec, .flash] [rPREC_CTRL, rPREC_STATUS] s t) ∧
  (∀ s : State, (precBusy s = true ∨ flashBusy s = true) →
    Completes .precRoutineTimer s fun t => t.prec.pendingRoutine = true ∧ Kept [.prec] [] s t) ∧
  (∀ (s : State) (b : Nat) (img : List Byte), s.prec.writing = some (b, img) → b < 2 → s.prec.addingInWrite = false →
    s.prec.pendingNow = false → s.prec.pendingRoutine = false →
    Completes (.precWriteComplete []) s fun t =>
      let f := programFlash (precBase b) img s
      let ok := precValid (flashBytes f (precBase b) 0x10000)
      t.prec.writing = none ∧ t.flash = f.flash ∧ t.mem = s.mem ∧ rdB t rPREC_STATUS 2 = false ∧ rdB t rPREC_STATUS 3 = !ok ∧
      rdF t rPREC_STATUS 0 0 = (if ok then b else rdF s rPREC_STATUS 0 0) ∧
      t.prec.seq = (if ok then (s.prec.seq + 1) % 2 ^ 32 else s.prec.seq) ∧
      rdn t rPREC_WRITES = (if ok then satN 32 (rdn s rPREC_WRITES + 1) else rdn s rPREC_WRITES))

/-- FRAME_START, FRAME_END, LATE_WINDOW_EXPIRY, FIFO_OVERFLOW and PCLK_LOSS -/
def Obligations.PortFrames : Prop :=
  (∀ (p : Fin 8) (mid : Bool) (s : State), domRun s 3 = true → portState s p = 1 → vpLine s p = false → vpPulse s p = false →
    (port s p).opened = false → rdB s (rVP_ADMIT p) 0 = true → vpInvalid (shadowBoundary (.vport p) s) p = false →
    Completes (.frameStart ⟨p, mid⟩) s fun t =>
      portState t p = 2 ∧ (port t p).opened = true ∧ (port t p).dtime = dtime s ∧ (port t p).lines = 0 ∧ (port t p).got = 0 ∧
      (openSegOf s p = none → (port t p).flags = 0) ∧
      (∀ k w j f seen, openSegOf s p = some ((k, w, j, f), seen) → (port t p).flags = (if f then 2 ^ 8 else 0)) ∧ vpCfg t p = vpCfg (shadowBoundary (.vport p) s) p ∧
      (∀ c, portCtx s p = some c →
        tget 0 t.frames c = (tget 0 s.frames c + 1) % 2 ^ 32 ∧ (port t p).frame = (tget 0 s.frames c + 1) % 2 ^ 32) ∧
      (portCtx s p = none → t.frames = s.frames) ∧ t.mem = s.mem) ∧
  (∀ (p : Fin 8) (mid : Bool) (s : State) (k w j : Nat) (f : Bool), domRun s 3 = true → portState s p = 1 → vpLine s p = true →
    (port s p).opened = false → rdB s (rVP_ADMIT p) 0 = true → vpInvalid (shadowBoundary (.vport p) s) p = false →
    openSegOf s p = some ((k, w, j, f), false) →
    Completes (.frameStart ⟨p, mid⟩) s fun t =>
      portState t p = 2 ∧ (port t p).opened = true ∧ (port t p).dtime = dtime s ∧ (port t p).seg = some (k, w, j) ∧
      (port t p).flags = (if f then 2 ^ 8 else 0) ∧ t.frames = s.frames ∧ t.mem = s.mem) ∧
  (∀ (p : Fin 8) (mid : Bool) (s : State),
    (domRun s 3 = false ∨ portState s p = 0 ∨
      (vpLine s p = true ∧ (openSegOf s p = none ∨ ∃ g, openSegOf s p = some (g, true)))) →
    Completes (.frameStart ⟨p, mid⟩) s fun t => Kept [] [rVP_STATUS p] s t) ∧
  (∀ (p : Fin 8) (s : State), domRun s 3 = true → vpLine s p = false → (port s p).opened = true →
    (vpPulse s p = false ∨ vpHeight s p ≤ (port s p).got) → (port s p).extra = [] →
    Completes (.frameEnd p) s fun t =>
      (port t p).opened = false ∧ portState t p = 1 ∧ rdn t (rVP_CNT p 0) = satN 32 (rdn s (rVP_CNT p 0) + 1) ∧
      rdn t (rVP_FR_NEXT p) = (rdn s (rVP_FR_NEXT p) + 1) % 2 ^ 32 ∧
      rdn t (rVP_REC p (rdn s (rVP_FR_NEXT p) % 64 * 8)) = rdn s (rVP_FR_NEXT p) ∧
      Kept [.ports, .pipeq, .free]
        ([rVP_STATUS p, rVP_FR_NEXT p, rVP_CNT p 0] ++ (upto 8).map (fun k => rVP_REC p (rdn s (rVP_FR_NEXT p) % 64 * 8) + 4 * k)) s t) ∧
  (∀ (p : Fin 8) (s : State),
    (domRun s 3 = false ∨ vpLine s p = true ∨ (port s p).opened = false ∨ (vpPulse s p = true ∧ (port s p).got < vpHeight s p)) →
    Completes (.frameEnd p) s fun t => t = s) ∧
  (∀ (p : Fin 8) (s : State) (k w j : Nat), domRun s 3 = true → vpLine s p = true → (port s p).opened = true →
    (port s p).closing = false → (port s p).seg = some (k, w, j) → (trig s k).seg = none →
    Completes (.lateWindowExpiry ⟨p, true⟩) s fun t => (port t p).closing = true ∧ Kept [.ports] [] s t) ∧
  (∀ (p : Fin 8) (s : State) (k w j : Nat), domRun s 3 = true → vpLine s p = true → (port s p).opened = true →
    (port s p).closing = false → (port s p).seg = some (k, w, j) → (trig s k).seg = none →
    Completes (.lateWindowExpiry ⟨p, false⟩) s fun t =>
      (port t p).opened = false ∧ portState t p = 1 ∧ rdn t (rVP_CNT p 0) = satN 32 (rdn s (rVP_CNT p 0) + 1) ∧
      ((port s p).extra = [] →
        rdn t (rVP_CNT p 6) = satN 32 (rdn s (rVP_CNT p 6) + (segTriggers s p - (port s p).lines)) ∧ t.mem = s.mem) ∧
      ((port s p).lines = segTriggers s p →
        rdn t (rVP_CNT p 5) = satN 32 (rdn s (rVP_CNT p 5) + (port s p).extra.length) ∧ t.mem = s.mem)) ∧
  (∀ (p : Fin 8) (samples : List PixSample) (s : State), domRun s 3 = true → (port s p).opened = true → (port s p).next = none →
    Completes (.fifoOverflow p samples) s fun t =>
      (port t p).opened = false ∧ portState t p = 3 ∧ rdn t (rVP_CNT p 1) = satN 32 (rdn s (rVP_CNT p 1) + 1) ∧
      t.frames = s.frames ∧ (rawOn s p = false → t.mem = s.mem)) ∧
  (∀ (p : Fin 8) (samples : List PixSample) (s : State), (domRun s 3 = false ∨ (port s p).opened = false) →
    Completes (.fifoOverflow p samples) s fun t => t = s) ∧
  (∀ (p : Fin 8) (s : State), domRun s 3 = true → (port s p).opened = true → (port s p).next = none →
    Completes (.pclkLoss p) s fun t =>
      (port t p).opened = false ∧ portState t p = 3 ∧ rdB t (rVP_STATUS p) 4 = false ∧
      rdn t (rVP_CNT p 0) = satN 32 (rdn s (rVP_CNT p 0) + 1) ∧ (((port s p).extra = [] ∨ rawOn s p = false) → t.mem = s.mem)) ∧
  (∀ (p : Fin 8) (s : State), domRun s 3 = true → (port s p).opened = false →
    Completes (.pclkLoss p) s fun t => rdB t (rVP_STATUS p) 4 = false ∧ Kept [] [rVP_STATUS p] s t) ∧
  (∀ (p : Fin 8) (s : State), domRun s 3 = false → Completes (.pclkLoss p) s fun t => t = s)

/-- LINE_END, SYNC_AUX_EDGE, VP_ADMIT_WRITE and RATE_CHECK_INTERVAL -/
def Obligations.PortLinesAndAdmission : Prop :=
  (∀ (p : Fin 8) (samples : List PixSample) (s : State), domRun s 3 = true → portState s p = 2 → vpLine s p = false →
    vpPulse s p = false → (port s p).closing = false → (port s p).seg = none → (port s p).got < vpHeight s p → samples.any (fun x => x.fval != bit (vpCfg s p) 9) = true →
    (acceptedCycles s p samples).length * vpTaps s p = vpWidth s p →
    Completes (.lineEnd p samples) s fun t =>
      (port t p).got = (port s p).got + 1 ∧ (port t p).lines = (port s p).lines + 1 ∧ (port t p).run = 0 ∧
      (port t p).pixels = (port s p).pixels + vpWidth s p ∧ portState t p = 2 ∧
      (∀ c, (port s p).toPipe = some c → pipeQueue t c = pipeQueue s c ++
        [.line { planes := [lineOf s p (acceptedCycles s p samples)], short := false, long := false, idx := (port s p).lines }]) ∧
      (rawOn s p = false → Kept [.ports, .pipeq] [rVP_STATUS p, rVP_FIFO_HWM p] s t)) ∧
  (∀ (p : Fin 8) (samples : List PixSample) (s : State), domRun s 3 = false →
    Completes (.lineEnd p samples) s fun t => t = s) ∧
  (∀ (p : Fin 8) (samples : List PixSample) (s : State), domRun s 3 = true → portState s p = 1 → (port s p).opened = false →
    Completes (.lineEnd p samples) s fun t =>
      rdn t (rVP_CNT p 4) = satN 32 (rdn s (rVP_CNT p 4) + 1) ∧ Kept [] [rVP_CNT p 4, rVP_STATUS p] s t) ∧
  (∀ (p : Fin 8) (rising : Bool) (s : State), domRun s 3 = true → vpInvalid s p = false → rising ≠ bit (vpCfg s p) 14 →
    vpPulse s p = false → (fld (vpCfg s p) 13 12 = 1 ∨ fld (vpCfg s p) 13 12 = 2) →
    Completes (.syncAuxEdge p rising) s fun t =>
      rdn t (rVP_AUX_COUNT p) = (rdn s (rVP_AUX_COUNT p) + 1) % 2 ^ 32 ∧ rd64 t (rVP_AUX_TIME_LO p) = dtime s % 2 ^ 64 ∧
      Kept [] [rVP_AUX_COUNT p, rVP_AUX_TIME_LO p, rVP_AUX_TIME_LO p + 4] s t) ∧
  (∀ (p : Fin 8) (rising : Bool) (s : State), (domRun s 3 = false ∨ vpInvalid s p = true ∨ rising = bit (vpCfg s p) 14) →
    Completes (.syncAuxEdge p rising) s fun t => t = s) ∧
  (∀ (ifc : Iface) (p : Fin 8) (v : Word) (s : State), gate ifc true (rVP_ADMIT p) s = .open → admitted s p v = true →
    Completes (.vpAdmitWrite ifc p v) s fun t =>
      rd t (rVP_ADMIT p) = v &&& w32 0x07FF0007 ∧ (∀ q : Fin 8, q ≠ p → rd t (rVP_ADMIT q) = rd s (rVP_ADMIT q)) ∧
      ((port s p).extra = [] → t.mem = s.mem)) ∧
  (∀ (ifc : Iface) (p : Fin 8) (v : Word) (s : State), gate ifc true (rVP_ADMIT p) s = .open → admitted s p v = false →
    rdB s (rVP_ADMIT p) 0 = false → bit v 0 = true →
    Completes (.vpAdmitWrite ifc p v) s fun t =>
      rd t (rVP_ADMIT p) = rd s (rVP_ADMIT p) ∧ rdB t (rVP_STATUS p) 3 = true ∧ t.ports = s.ports ∧ t.mem = s.mem) ∧
  (∀ (p : Fin 8) (s : State), domRun s 3 = false → Completes (.rateCheckInterval p) s fun t => t = s) ∧
  (∀ (p : Fin 8) (s : State), domRun s 3 = true →
    Completes (.rateCheckInterval p) s fun t =>
      (port t p).pixels = 0 ∧
      rdn t (rVP_CNT p 7) = (if vpInvalid s p = false ∧ rdF s (rVP_ADMIT p) 26 16 * 1000 * 9 < (port s p).pixels * 8
        then satN 32 (rdn s (rVP_CNT p 7) + 1) else rdn s (rVP_CNT p 7)) ∧
      Kept [.ports] [rVP_CNT p 7] s t)

/-- PIPE_LINE_START: the line of the context that has waited longest, a memory-to-memory line, or none -/
def Obligations.PipeLines : Prop :=
  (∀ (p : Fin 2) (drained c : Nat) (s : State) (pf : PipeFrame) (l : Line) (q : List PipeItem), domRun s 3 = true →
    longest s p (fun c => decide (ctxKind s c = 1) && readyLine s c && !secHolds s c) = some c →
    (pctx s c).frame = some pf → pf.lost = true → pipeQueue s c = .line l :: q →
    Completes (.pipeLineStart p drained) s fun t =>
      pipeQueue t c = q ∧ Kept [.stage, .pipeq] [rVP_STATUS (ctxPort s c), rVP_FIFO_HWM (ctxPort s c)] s t) ∧
  (∀ (p : Fin 2) (drained c : Nat) (s : State) (pf : PipeFrame) (l : Line) (q : List PipeItem), domRun s 3 = true →
    longest s p (fun c => decide (ctxKind s c = 1) && readyLine s c && !secHolds s c) = some c →
    (pctx s c).frame = some pf → pf.lost = false → pipeQueue s c = .line l :: q →
    Completes (.pipeLineStart p drained) s fun t =>
      pipeQueue t c = q ∧ rdn t (rCTX_CNT c 1) = satN 32 (rdn s (rCTX_CNT c 1) + 1) ∧
      rdn t (rPIPE_BUSY p) = (rdn s (rPIPE_BUSY p) + (pf.info.width + 1) / 2) % 2 ^ 32 ∧
      tget 0 t.pipeTurn p = tget 0 s.pipeTurn p + 1) ∧
  (∀ (p : Fin 2) (drained c : Nat) (s : State) (f : FrameInfo) (l : Line) (q : List PipeItem), domRun s 3 = true →
    longest s p (fun c => decide (ctxKind s c = 1) && readyLine s c && !secHolds s c) = some c →
    (pctx s c).frame = none → pipeQueue s c = .start f :: .line l :: q →
    Completes (.pipeLineStart p drained) s fun t =>
      pipeQueue t c = q ∧ rdn t (rCTX_CNT c 1) = satN 32 (rdn s (rCTX_CNT c 1) + 1)) ∧
  (∀ (p : Fin 2) (drained c y : Nat) (s : State), domRun s 3 = true →
    longest s p (fun c => decide (ctxKind s c = 1) && readyLine s c && !secHolds s c) = none →
    longest s p (fun c => readyM2m s c && !secHolds s c) = some c → (pctx s c).m2m = some y →
    Completes (.pipeLineStart p drained) s fun t =>
      rdn t (rCTX_CNT c 1) = satN 32 (rdn s (rCTX_CNT c 1) + 1) ∧ tget 0 t.pipeTurn p = tget 0 s.pipeTurn p + 1) ∧
  (∀ (p : Fin 2) (drained : Nat) (s : State), domRun s 3 = true →
    longest s p (fun c => decide (ctxKind s c = 1) && readyLine s c && !secHolds s c) = none →
    longest s p (fun c => readyM2m s c && !secHolds s c) = none →
    Completes (.pipeLineStart p drained) s fun t => Kept [.stage] [] s t) ∧
  (∀ (p : Fin 2) (drained : Nat) (s : State), domRun s 3 = false → Completes (.pipeLineStart p drained) s fun t => t = s)

/-- RETURNED_LINE, SPLICE_ACCEPT_TIMEOUT, M2M_GO and PIPE_FRAME_END -/
def Obligations.PipeSplicesAndFrameEnds : Prop :=
  (∀ (c : Fin 16) (drained : Nat) (s : State) (pf : PipeFrame) (l : Line) (q : List Line), domRun s 3 = true → domRun s 2 = true →
    (pctx s c).frame = some pf → pf.splice = true → splTee pf.info c = false → (secCtx s c).back = l :: q → l.idx = pf.returned →
    l.planes.all (fun v => decide (v.length = pf.info.width)) = true →
    Completes (.returnedLine c true drained) s fun t =>
      (secCtx t c).back = q ∧ (pframe t c).returned = pf.returned + 1) ∧
  (∀ (c : Fin 16) (intact : Bool) (drained : Nat) (s : State) (pf : PipeFrame) (l : Line) (q : List Line), domRun s 3 = true →
    domRun s 2 = true → (pctx s c).frame = some pf → pf.splice = true → splTee pf.info c = false → (secCtx s c).back = l :: q →
    (intact = false ∨ l.idx ≠ pf.returned) →
    Completes (.returnedLine c intact drained) s fun t =>
      (pctx t c).spliceLost = true ∧ rdn t (rCTX_CNT c 6) = satN 32 (rdn s (rCTX_CNT c 6) + 1) ∧
      ((pf.ended = true ∨ ctxKind s c = 2) → (pctx t c).frame = none) ∧
      (pf.ended = false → ctxKind s c ≠ 2 → (pframe t c).lost = true ∧ ctxState t c = 3)) ∧
  (∀ (c : Fin 16) (intact : Bool) (drained : Nat) (s : State), (domRun s 3 = false ∨ domRun s 2 = false) →
    Completes (.returnedLine c intact drained) s fun t => t = s) ∧
  (∀ (c : Fin 16) (s : State) (pf : PipeFrame), domRun s 3 = true → (pctx s c).frame = some pf → pf.splice = true →
    (readyLine s c = true ∨ readyM2m s c = true) →
    Completes (.spliceAcceptTimeout c) s fun t =>
      (pctx t c).spliceLost = true ∧ rdn t (rCTX_CNT c 6) = satN 32 (rdn s (rCTX_CNT c 6) + 1) ∧ tget [] t.spliceq c.val = [] ∧
      ((pf.ended = true ∨ ctxKind s c = 2) → (pctx t c).frame = none) ∧
      (pf.ended = false → ctxKind s c ≠ 2 → (pframe t c).lost = true ∧ ctxState t c = 3)) ∧
  (∀ (c : Fin 16) (s : State), (domRun s 3 = false ∨ ∀ pf, (pctx s c).frame = some pf → pf.splice = false) →
    Completes (.spliceAcceptTimeout c) s fun t => t = s) ∧
  (∀ (ifc : Iface) (c : Fin 16) (s : State), gate ifc true (rCTX_M2M_GO c) s = .open → (pctx s c).frame = none →
    ctxKind s c = 2 → ctxOn s c = true →
    Completes (.m2mGo ifc c) s fun t =>
      tget 0 t.frames c.val = (tget 0 s.frames c.val + 1) % 2 ^ 32 ∧
      (∀ d : Fin 16, d ≠ c → tget 0 t.frames d.val = tget 0 s.frames d.val) ∧ t.mem = s.mem) ∧
  (∀ (ifc : Iface) (c : Fin 16) (s : State), gate ifc true (rCTX_M2M_GO c) s = .open →
    ((pctx s c).frame ≠ none ∨ ctxKind s c ≠ 2 ∨ ctxOn s c = false) →
    Completes (.m2mGo ifc c) s fun t => KeptAccess [] [] s t) ∧
  (∀ (c : Fin 16) (drained fl : Nat) (s : State) (pf : PipeFrame) (q : List PipeItem), domRun s 3 = true →
    (pctx s c).frame = some pf → pf.ended = false → pf.splice = false → ctxKind s c ≠ 2 → pipeQueue s c = .stop fl :: q →
    Completes (.pipeFrameEnd c drained) s fun t =>
      (pctx t c).frame = none ∧ pipeQueue t c = q ∧ rdn t (rCTX_CNT c 0) = satN 32 (rdn s (rCTX_CNT c 0) + 1) ∧
      rdn t (rCTX_FR_NEXT c) = (rdn s (rCTX_FR_NEXT c) + 1) % 2 ^ 32 ∧
      rdn t (rCTX_REC c (rdn s (rCTX_FR_NEXT c) % 64 * 16)) = rdn s (rCTX_FR_NEXT c)) ∧
  (∀ (c : Fin 16) (drained : Nat) (s : State) (pf : PipeFrame), domRun s 3 = true →
    (pctx s c).frame = some pf → pf.ended = true → pf.sent ≤ pf.returned →
    Completes (.pipeFrameEnd c drained) s fun t =>
      (pctx t c).frame = none ∧ rdn t (rCTX_CNT c 0) = satN 32 (rdn s (rCTX_CNT c 0) + 1) ∧
      rdn t (rCTX_FR_NEXT c) = (rdn s (rCTX_FR_NEXT c) + 1) % 2 ^ 32) ∧
  (∀ (c : Fin 16) (drained fl : Nat) (s : State) (f : FrameInfo) (q : List PipeItem), domRun s 3 = true →
    (pctx s c).frame = none → ctxKind s c ≠ 2 → pipeQueue s c = .start f :: .stop fl :: q →
    Completes (.pipeFrameEnd c drained) s fun t =>
      (pctx t c).frame = none ∧ pipeQueue t c = q ∧ rdn t (rCTX_CNT c 0) = satN 32 (rdn s (rCTX_CNT c 0) + 1)) ∧
  (∀ (c : Fin 16) (drained : Nat) (s : State), domRun s 3 = true → (pctx s c).frame = none →
    (∀ f fl q, pipeQueue s c ≠ .start f :: .stop fl :: q) →
    Completes (.pipeFrameEnd c drained) s fun t => Kept [.stage] [] s t) ∧
  (∀ (c : Fin 16) (drained : Nat) (s : State), domRun s 3 = false → Completes (.pipeFrameEnd c drained) s fun t => t = s)

/-- PROFILE_RECORD_WRITE, STAT_RECORD_WRITE, CAL_SEED and CAL_FORGET -/
def Obligations.MeasurementRecords : Prop :=
  (∀ (c : Fin 16) (drained : Nat) (s : State) (m : MeasFrame) (rest : List MeasFrame), domRun s 3 = true → (pctx s c).pxDue = m :: rest →
    m.info.served = true →
    (bit (prm m.info (rPX_RING c)) 4 = true → (sem s (fld (prm m.info (rPX_RING c)) 25 16)).count ≠ 0) →
    (regionOf (prmAddr m.info (rPX_BASE_LO c) / 64 * 64 + rdn s (rPX_NEXT c) % 2 ^ (min 8 (fld (prm m.info (rPX_RING c)) 3 0)) *
        ((64 + 8 * m.info.width + 63) / 64 * 64)) = .dram →
      ringFits (stageDrain (ctxPipe s c) drained s) c (64 + 8 * m.info.width) = true) →
    Completes (.profileRecordWrite c drained) s fun t =>
      rdn t (rPX_NEXT c) = (rdn s (rPX_NEXT c) + 1) % 2 ^ 32 ∧ rdn t (rMEAS_CNT c 2) = satN 32 (rdn s (rMEAS_CNT c 2) + 1) ∧
      (pctx t c).pxDue = rest ∧
      (∀ a base, base = prmAddr m.info (rPX_BASE_LO c) / 64 * 64 +
          rdn s (rPX_NEXT c) % 2 ^ (min 8 (fld (prm m.info (rPX_RING c)) 3 0)) * ((64 + 8 * m.info.width + 63) / 64 * 64) →
        (a < base ∨ base + (64 + 8 * m.info.width) ≤ a) → memByte t a = memByte s a)) ∧
  (∀ (c : Fin 16) (drained : Nat) (s : State) (m : MeasFrame) (rest : List MeasFrame), domRun s 3 = true → (pctx s c).pxDue = m :: rest →
    m.info.served = false →
    Completes (.profileRecordWrite c drained) s fun t =>
      rdn t (rMEAS_CNT c 4) = satN 32 (rdn s (rMEAS_CNT c 4) + 1) ∧ Kept [.stage, .pctx] [rMEAS_CNT c 4] s t) ∧
  (∀ (c : Fin 16) (drained : Nat) (s : State), domRun s 3 = true → (pctx s c).pxDue = [] →
    Completes (.profileRecordWrite c drained) s fun t => Kept [.stage] [] s t) ∧
  (∀ (c : Fin 16) (drained : Nat) (s : State) (m : MeasFrame) (rest : List MeasFrame) (a : Nat), domRun s 3 = true → (pctx s c).statDue = m :: rest →
    a = prmAddr m.info (rSTAT_BASE_LO c) / 64 * 64 +
      rdn s (rSTAT_NEXT c) % 2 ^ (min 8 (prmF m.info (rSTAT_SLOTS c) 3 0)) * 0x4840 →
    (regionOf a = .dram → ringFits (stageDrain (ctxPipe s c) drained s) c 0x4840 = true) →
    Completes (.statRecordWrite c drained) s fun t =>
      rdn t (rSTAT_NEXT c) = (rdn s (rSTAT_NEXT c) + 1) % 2 ^ 32 ∧ rdn t (rMEAS_CNT c 0) = satN 32 (rdn s (rMEAS_CNT c 0) + 1) ∧
      (pctx t c).statDue = rest ∧ ∀ b, (b < a ∨ a + 0x4840 ≤ b) → memByte t b = memByte s b) ∧
  (∀ (c : Fin 16) (drained : Nat) (s : State) (m : MeasFrame) (rest : List MeasFrame) (a : Nat), domRun s 3 = true → (pctx s c).statDue = m :: rest →
    a = prmAddr m.info (rSTAT_BASE_LO c) / 64 * 64 +
      rdn s (rSTAT_NEXT c) % 2 ^ (min 8 (prmF m.info (rSTAT_SLOTS c) 3 0)) * 0x4840 →
    regionOf a = .dram → ringFits (stageDrain (ctxPipe s c) drained s) c 0x4840 = false →
    Completes (.statRecordWrite c drained) s fun t =>
      rdn t (rSTAT_NEXT c) = (rdn s (rSTAT_NEXT c) + 1) % 2 ^ 32 ∧ rdn t (rMEAS_CNT c 1) = satN 32 (rdn s (rMEAS_CNT c 1) + 1) ∧
      Kept [.stage, .pctx] [rSTAT_NEXT c, rMEAS_CNT c 1] s t) ∧
  (∀ (c : Fin 16) (drained : Nat) (s : State), domRun s 3 = true → (pctx s c).statDue = [] →
    Completes (.statRecordWrite c drained) s fun t => Kept [.stage] [] s t) ∧
  (∀ (c : Fin 16) (drained : Nat) (s : State), domRun s 3 = false →
    Completes (.profileRecordWrite c drained) s (fun t => t = s) ∧ Completes (.statRecordWrite c drained) s fun t => t = s) ∧
  (∀ (ifc : Iface) (c : Fin 16) (s : State), gate ifc true (rPX_CAL_CTRL c) s = .open →
    Completes (.calSeed ifc c) s fun t => rdB t (rPX_CAL_CTRL c) 0 = true ∧ KeptAccess [] [rPX_CAL_CTRL c] s t) ∧
  (∀ (ifc : Iface) (c : Fin 16) (s : State), gate ifc true (rPX_CAL_CTRL c) s = .open →
    Completes (.calForget ifc c) s fun t =>
      (∀ i, i < 2048 → zAt t c i = zUnknown) ∧ zeroValid t c = false ∧
      KeptAccess [] (rMEAS_STATUS c :: (upto 2048).map (rMEAS_Z c)) s t)

/-- SECTOR_LIVE_UNIT and SECTOR_MEMORY_UNIT: the unit that runs, its counts, and an uncorrectable bank -/
def Obligations.SectorUnits : Prop :=
  (∀ (c : Fin 4) (err : MemErr) (parity : Option (Fin 32 × BitVec 15)) (si so : BitVec 32) (s : State) (x : Nat × Nat),
    domRun s 2 = true → secAvail s c = true → secPick s c = some x → err ≠ .uncorrectable →
    Completes (.sectorLiveUnit c err parity si so) s fun t =>
      rdn t (rSC_CNT c 0) = satN 32 (rdn s (rSC_CNT c 0) + 1) ∧
      rdn t (rSC_CNT c 3) = (rdn s (rSC_CNT c 3) + si.toNat) % 2 ^ 32 ∧
      rdn t (rSC_CNT c 4) = (rdn s (rSC_CNT c 4) + so.toNat) % 2 ^ 32 ∧ rdn t (rSC_CNT c 1) = rdn s (rSC_CNT c 1)) ∧
  (∀ (c : Fin 4) (parity : Option (Fin 32 × BitVec 15)) (si so : BitVec 32) (s : State) (x : Nat × Nat),
    domRun s 2 = true → secAvail s c = true → secPick s c = some x →
    Completes (.sectorLiveUnit c .uncorrectable parity si so) s fun t =>
      rdB t (rSC_STATUS c) 4 = true ∧ (secCl t c).queue = [] ∧ (secCl t c).run = none) ∧
  (∀ (c : Fin 4) (err : MemErr) (parity : Option (Fin 32 × BitVec 15)) (si so : BitVec 32) (s : State),
    (domRun s 2 = false ∨ secAvail s c = false ∨ secPick s c = none) →
    Completes (.sectorLiveUnit c err parity si so) s fun t => t = s) ∧
  (∀ (c : Fin 4) (err : MemErr) (parity : Option (Fin 32 × BitVec 15)) (si so : BitVec 32) (s : State) (r : SecRun),
    domRun s 2 = true → secAvail s c = true → secPick s c = none → (secCl s c).run = some r → r.done = false →
    err ≠ .uncorrectable →
    Completes (.sectorMemoryUnit c err parity si so) s fun t =>
      rdn t (rSC_CNT c 1) = satN 32 (rdn s (rSC_CNT c 1) + 1) ∧
      rdn t (rSC_CNT c 3) = (rdn s (rSC_CNT c 3) + si.toNat) % 2 ^ 32 ∧
      rdn t (rSC_CNT c 4) = (rdn s (rSC_CNT c 4) + so.toNat) % 2 ^ 32 ∧ rdn t (rSC_CNT c 0) = rdn s (rSC_CNT c 0)) ∧
  (∀ (c : Fin 4) (parity : Option (Fin 32 × BitVec 15)) (si so : BitVec 32) (s : State) (r : SecRun),
    domRun s 2 = true → secAvail s c = true → secPick s c = none → (secCl s c).run = some r → r.done = false →
    Completes (.sectorMemoryUnit c .uncorrectable parity si so) s fun t =>
      rdB t (rSC_STATUS c) 4 = true ∧ (secCl t c).queue = [] ∧ (secCl t c).run = none) ∧
  (∀ (c : Fin 4) (err : MemErr) (parity : Option (Fin 32 × BitVec 15)) (si so : BitVec 32) (s : State), (secCl s c).run = none →
    Completes (.sectorMemoryUnit c err parity si so) s fun t => t = s)

/-- MJ_PUSH, MJ_START and MJ_COMPLETE -/
def Obligations.SectorMemoryJobs : Prop :=
  (∀ (ifc : Iface) (c : Fin 4) (hi : Word) (s : State) (a : Nat), gate ifc true (rSC_MJ_PUSH_HI c) s = .open →
    a = ((latch s ifc (rSC_MJ_PUSH_LO c)).toNat + 2 ^ 32 * hi.toNat) % 2 ^ 48 → (secCl s c).queue.length < 16 →
    (devRead (secAgent c) a 64 s).1.err = false → (devRead (secAgent c) a 64 s).1.poison = false → a % 64 = 0 →
    secMjReason s c (devRead (secAgent c) a 64 s).1.data = 0 →
    Completes (.mjPush ifc c hi) s fun t =>
      (secCl t c).queue = (secCl s c).queue ++ [secMjParse a (devRead (secAgent c) a 64 s).1.data] ∧
      (secCl t c).run = (secCl s c).run ∧ t.mem = s.mem ∧ t.secBank = s.secBank) ∧
  (∀ (ifc : Iface) (c : Fin 4) (hi : Word) (s : State), gate ifc true (rSC_MJ_PUSH_HI c) s = .open →
    16 ≤ (secCl s c).queue.length →
    Completes (.mjPush ifc c hi) s fun t =>
      t.secCl = s.secCl ∧ rdF t (rSC_MJ_STATUS c) 11 8 = 1 ∧ rdB t (rSC_MJ_STATUS c) 7 = true ∧
      rdn t (rSC_CNT c 9) = satN 32 (rdn s (rSC_CNT c 9) + 1) ∧ t.mem = s.mem) ∧
  (∀ (c : Fin 4) (s : State) (m : SecMj) (q : List SecMj), domRun s 2 = true → secAvail s c = true → (secCl s c).run = none →
    (secCl s c).queue = m :: q → (m.waitEn = true → (sem s m.waitSem).count ≠ 0) → secMjChainOk s c m = true →
    secMjBaseOk s c m.inBase = true → secMjBaseOk s c m.outBase = true →
    Completes (.mjStart c) s fun t =>
      (secCl t c).run = some { mj := m, bank := secActive s c } ∧ (secCl t c).queue = q ∧
      (sem t m.waitSem).count = (sem s m.waitSem).count - b2n m.waitEn ∧ (∀ n, n ≠ m.waitSem → sem t n = sem s n) ∧
      t.mem = s.mem ∧ t.secBank = s.secBank ∧
      (∀ w, (secCl t c).swap = some w → ¬ m.chain ∈ w.memLeft) ∧
      ((secCl s c).swap = none → Kept [.secCl, .sems] [rSC_MJ_STATUS c] s t)) ∧
  (∀ (c : Fin 4) (s : State), (domRun s 2 = false ∨ secAvail s c = false ∨ (secCl s c).run.isSome = true ∨ (secCl s c).queue = []) →
    Completes (.mjStart c) s fun t => t = s) ∧
  (∀ (c : Fin 4) (s : State) (m : SecMj) (q : List SecMj), domRun s 2 = true → secAvail s c = true → (secCl s c).run = none →
    (secCl s c).queue = m :: q → m.waitEn = true → (sem s m.waitSem).count = 0 →
    Completes (.mjStart c) s fun t => rdB t (rSC_MJ_STATUS c) 6 = true ∧ Kept [] [rSC_MJ_STATUS c] s t) ∧
  (∀ (c : Fin 4) (s : State) (r : SecRun), domRun s 2 = true → (secCl s c).run = some r → r.done = true →
    Completes (.mjComplete c) s fun t =>
      (secCl t c).run = none ∧ t.mem = s.mem ∧ (r.mj.signalEn = false → t.sems = s.sems) ∧
      (r.mj.signalEn = true → (sem t r.mj.signalSem).count = min 65535 ((sem s r.mj.signalSem).count + 1))) ∧
  (∀ (c : Fin 4) (s : State), (domRun s 2 = false ∨ ∀ r, (secCl s c).run = some r → r.done = false) →
    Completes (.mjComplete c) s fun t => t = s)

/-- SECTOR_COMMIT, SWAP_PENDING_TIMEOUT and SECTOR_BANK_WRITE -/
def Obligations.SectorBanks : Prop :=
  (∀ (ifc : Iface) (c : Fin 4) (wsel : Bool) (force target : MemErr) (s : State), gate ifc true (rSC_PROG_CTRL c) s = .open →
    force ≠ .uncorrectable → target ≠ .uncorrectable → commitWhy s c = 0 →
    Completes (.sectorCommit ifc c wsel force target) s fun t =>
      rdB t (rSC_STATUS c) 0 = !rdB s (rSC_STATUS c) 0 ∧ rdF t (rSC_PROG_CTRL c) 11 8 = 0 ∧ t.secBank = s.secBank ∧ t.mem = s.mem) ∧
  (∀ (ifc : Iface) (c : Fin 4) (wsel : Bool) (force target : MemErr) (s : State), gate ifc true (rSC_PROG_CTRL c) s = .open →
    force ≠ .uncorrectable → target ≠ .uncorrectable → commitWhy s c ≠ 0 →
    Completes (.sectorCommit ifc c wsel force target) s fun t =>
      rdB t (rSC_STATUS c) 0 = rdB s (rSC_STATUS c) 0 ∧ rdB t (rSC_PROG_CTRL c) 3 = true ∧
      rdF t (rSC_PROG_CTRL c) 11 8 = commitWhy s c ∧ (secCl t c).swap = (secCl s c).swap ∧ t.secBank = s.secBank ∧ t.mem = s.mem) ∧
  (∀ (c : Fin 4) (s : State) (w : SecSwap), (secCl s c).swap = some w → w.e67 = false →
    Completes (.swapPendingTimeout c) s fun t =>
      (secCl t c).swap = some { w with e67 := true } ∧ t.secBank = s.secBank ∧ t.mem = s.mem ∧
      (d0InReset s = false → rdn t (rFLT_EVT_CNT 67) = satN 32 (rdn s (rFLT_EVT_CNT 67) + 1))) ∧
  (∀ (c : Fin 4) (s : State), (∀ w, (secCl s c).swap = some w → w.e67 = true) → Completes (.swapPendingTimeout c) s fun t => t = s) ∧
  (∀ (ifc : Iface) (c : Fin 4) (word : Fin 49152) (v : Word) (s : State), gate ifc true (rSC_BANK c word) s = .open →
    b2n (rdB s (rSC_PROG_CTRL c) 0) ≠ secActive s c → (secCl s c).swap = none →
    Completes (.sectorBankWrite ifc c word v) s fun t =>
      secNum t c (b2n (rdB s (rSC_PROG_CTRL c) 0)) (4 * word) 4 = v.toNat ∧
      (∀ k, (k < (c.val * 2 + b2n (rdB s (rSC_PROG_CTRL c) 0)) * 196608 + 4 * word ∨
          (c.val * 2 + b2n (rdB s (rSC_PROG_CTRL c) 0)) * 196608 + 4 * word + 4 ≤ k) →
        tget 0 t.secBank k = tget 0 s.secBank k) ∧
      KeptAccess [.secBank, .secPois] [] s t) ∧
  (∀ (ifc : Iface) (c : Fin 4) (word : Fin 49152) (v : Word) (s : State), gate ifc true (rSC_BANK c word) s = .open →
    (b2n (rdB s (rSC_PROG_CTRL c) 0) = secActive s c ∨ (secCl s c).swap ≠ none) →
    Completes (.sectorBankWrite ifc c word v) s fun t =>
      t.secBank = s.secBank ∧ rdB t (rSC_PROG_CTRL c) 2 = true ∧ rdn t (rSC_CNT c 8) = satN 32 (rdn s (rSC_CNT c 8) + 1) ∧
      t.mem = s.mem)

/-- LENS_PUSH, LENS_ADMIT, LENS_ADMISSION_LOADED and LENS_STEP_COUNTS_TAKEN -/
def Obligations.LensQueue : Prop :=
  (∀ (ifc : Iface) (hi : Word) (s : State) (a : Nat) (r : Rd × State), gate ifc true rLENS_PUSH_HI s = .open →
    a = ((latch s ifc rLENS_PUSH_LO).toNat + 2 ^ 32 * hi.toNat) % 2 ^ 48 → s.lens.ops.length < 32 →
    r = devRead (lensAgent a) a 128 s →
    r.1.err = false → r.1.poison = false → a % 64 = 0 → lensReason s r.1.data = 0 →
    Completes (.lensPush ifc hi) s fun t =>
      t.lens.ops = s.lens.ops ++ [{ seq := s.lens.nextSeq, addr := a, desc := r.1.data }] ∧
      t.lens.nextSeq = s.lens.nextSeq + 1 ∧ rdn t (rLENS_CNT 0) = satN 32 (rdn s (rLENS_CNT 0) + 1) ∧ t.mem = s.mem) ∧
  (∀ (ifc : Iface) (hi : Word) (s : State), gate ifc true rLENS_PUSH_HI s = .open → 32 ≤ s.lens.ops.length →
    Completes (.lensPush ifc hi) s fun t =>
      t.lens = s.lens ∧ rdF t rLENS_REFUSE 7 4 = 1 ∧ rdn t (rLENS_CNT 2) = satN 32 (rdn s (rLENS_CNT 2) + 1) ∧ t.mem = s.mem) ∧
  (∀ (s : State) (o : LensOp) (k : Nat), domRun s 1 = true → (lensRes s).length < 8 →
    lensFirst (s.lens.ops.filter (fun o => decide (o.phase = .queued) && lensAllowed s o)) = some o →
    (upto 8).find? (fun k => (lensAt s k).isNone) = some k → genOk s o.d.slot o.d.gen = true →
    Completes .lensAdmit s fun t =>
      lensAt t k = some { o with slot := some k, phase := .admitting } ∧ t.lens.ops.length = s.lens.ops.length ∧
      Kept [.lens] lensRegs s t) ∧
  (∀ (s : State) (o : LensOp) (k : Nat), domRun s 1 = true → (lensRes s).length < 8 →
    lensFirst (s.lens.ops.filter (fun o => decide (o.phase = .queued) && lensAllowed s o)) = some o →
    (upto 8).find? (fun k => (lensAt s k).isNone) = some k → genOk s o.d.slot o.d.gen = false →
    Completes .lensAdmit s fun t =>
      t.lens.ops = s.lens.ops.filter (fun x => decide (x.seq ≠ o.seq)) ∧
      rdn t (rLENS_CNT 3) = satN 32 (rdn s (rLENS_CNT 3) + 1) ∧ Kept [.lens] (rLENS_CNT 3 :: lensRegs) s t) ∧
  (∀ (slot : Fin 8) (s : State) (o : LensOp), lensAt s slot = some o → o.phase = .admitting → domRun s 1 = true →
    admissionWhy s o.d = 0 →
    Completes (.lensAdmissionLoaded slot) s fun t =>
      lensAt t slot = some { o with
        qd := (admissionReads s o.d).1.data, pwl := (admissionReads s o.d).2.1.data, map := (admissionMap s o.d).data,
        mapBad := (admissionMap s o.d).err || (admissionMap s o.d).poison, phase := .waiting } ∧
      t.mem = s.mem) ∧
  (∀ (slot : Fin 8) (s : State) (o : LensOp), lensAt s slot = some o → o.phase = .admitting → domRun s 1 = true →
    admissionWhy s o.d ≠ 0 →
    Completes (.lensAdmissionLoaded slot) s fun t =>
      t.lens.ops = s.lens.ops.filter (fun x => decide (x.seq ≠ o.seq)) ∧ rdF t rLENS_REFUSE 7 4 = 8 ∧
      rdF t rQOUT_REFUSE 7 4 = admissionWhy s o.d ∧ t.mem = s.mem) ∧
  (∀ (s : State) (o : LensOp), domRun s 1 = true →
    lensFirst (s.lens.ops.filter (fun o => decide (o.phase = .waiting) && lensHave s o)) = some o →
    Completes .lensStepCountsTaken s fun t =>
      t.lens.ops = s.lens.ops.map (fun x => if x.seq = o.seq then { o with phase := .ready } else x) ∧
      (∀ n, (sem t n).count = (sem s n).count - ((lensNeeds o).filter (fun m => decide (m = n))).length) ∧
      Kept [.lens, .sems] lensRegs s t) ∧
  (∀ s : State, domRun s 1 = true →
    lensFirst (s.lens.ops.filter (fun o => decide (o.phase = .waiting) && lensHave s o)) = none →
    Completes .lensStepCountsTaken s fun t => t = s) ∧
  (∀ (slot : Fin 8) (s : State), domRun s 1 = false →
    ∀ c ∈ [Instr.lensAdmit, .lensAdmissionLoaded slot, .lensStepCountsTaken], Completes c s fun t => t = s)

/-- LENS_TILE_BOUNDARY, LENS_RETIRE, LENS_HALT and LENS_RESUME. That a tile takes effect at the boundary that ends it is the model's
choice (log entry 90) -/
def Obligations.LensTilesAndHalt : Prop :=
  (∀ (errs : List (BitVec 48 × MemErr)) (feed out wload : BitVec 32) (idle : List (BitVec 32)) (s : State) (o : LensOp) (sw : Bool),
    domRun s 1 = true → lensDrains s = false → s.lens.tile = none → rdB s rLENS_CTRL 0 = false → lensChoose s = some (o, sw) →
    genOk s o.d.slot o.d.gen = true →
    Completes (.lensTileBoundary errs feed out wload idle) s fun t =>
      t.lens.tile = some o.seq ∧ rdB t rLENS_STATUS 2 = true ∧
      rdn t (rLENS_CNT 4) = (if sw then satN 32 (rdn s (rLENS_CNT 4) + 1) else rdn s (rLENS_CNT 4)) ∧
      rdn t (rLENS_CNT 10) = (if sw then (rdn s (rLENS_CNT 10) + 72) % 2 ^ 32 else rdn s (rLENS_CNT 10)) ∧
      (∃ x ∈ t.lens.ops, x.seq = o.seq ∧ x.phase = .running ∧ x.tiles = o.tiles) ∧
      rd t (rLENS_CNT 5) = rd s (rLENS_CNT 5) ∧ t.mem = s.mem) ∧
  (∀ (errs : List (BitVec 48 × MemErr)) (feed out wload : BitVec 32) (idle : List (BitVec 32)) (s : State) (q : Nat) (o : LensOp),
    domRun s 1 = true → lensDrains s = false → s.lens.tile = some q → s.lens.ops.find? (fun o => decide (o.seq = q)) = some o →
    genOk s o.d.slot o.d.gen = true →
    Completes (.lensTileBoundary errs feed out wload idle) s fun t =>
      rdn t (rLENS_CNT 5) = (rdn s (rLENS_CNT 5) + 1) % 2 ^ 32 ∧ ∃ x ∈ t.lens.ops, x.seq = o.seq ∧ x.tiles = o.tiles + 1) ∧
  (∀ (errs : List (BitVec 48 × MemErr)) (feed out wload : BitVec 32) (idle : List (BitVec 32)) (s : State) (q : Nat) (o : LensOp),
    domRun s 1 = true → lensDrains s = false → s.lens.tile = some q → s.lens.ops.find? (fun o => decide (o.seq = q)) = some o →
    genOk s o.d.slot o.d.gen = false →
    Completes (.lensTileBoundary errs feed out wload idle) s fun t =>
      (∀ x ∈ t.lens.ops, x.seq ≠ o.seq) ∧ rd t (rLENS_CNT 5) = rd s (rLENS_CNT 5) ∧ t.mem = s.mem ∧
      (rdB s rLENS_CTRL 0 = true → t.sems = s.sems ∧ t.lens.ops = s.lens.ops.filter (fun x => decide (x.seq ≠ o.seq)) ∧
        rdn t (rLENS_CNT 3) = satN 32 (rdn s (rLENS_CNT 3) + 1))) ∧
  (∀ (errs : List (BitVec 48 × MemErr)) (feed out wload : BitVec 32) (idle : List (BitVec 32)) (s : State) (o : LensOp) (sw : Bool),
    domRun s 1 = true → lensDrains s = false → s.lens.tile = none → rdB s rLENS_CTRL 0 = false → lensChoose s = some (o, sw) →
    genOk s o.d.slot o.d.gen = false →
    Completes (.lensTileBoundary errs feed out wload idle) s fun t =>
      t.lens.tile = none ∧ (∀ x ∈ t.lens.ops, x.seq ≠ o.seq) ∧
      (sw = false → t.lens.ops = s.lens.ops.filter (fun x => decide (x.seq ≠ o.seq))) ∧
      rdn t (rLENS_CNT 3) = satN 32 (rdn s (rLENS_CNT 3) + 1) ∧ t.mem = s.mem ∧ t.sems = s.sems) ∧
  (∀ (errs : List (BitVec 48 × MemErr)) (feed out wload : BitVec 32) (idle : List (BitVec 32)) (s : State), domRun s 1 = true → lensDrains s = false →
    rdB s rLENS_CTRL 0 = true →
    Completes (.lensTileBoundary errs feed out wload idle) s fun t =>
      rdB t rLENS_STATUS 1 = true ∧ rdB t rLENS_STATUS 2 = false ∧ t.lens.tile = none ∧
      (s.lens.tile = none → t.lens.ops = s.lens.ops ∧ Kept [.lens] (lensCycleRegs ++ lensRegs) s t)) ∧
  (∀ (errs : List (BitVec 48 × MemErr)) (feed out wload : BitVec 32) (idle : List (BitVec 32)) (s : State), domRun s 1 = true → lensDrains s = false →
    s.lens.tile = none → rdB s rLENS_CTRL 0 = false → lensChoose s = none →
    Completes (.lensTileBoundary errs feed out wload idle) s fun t =>
      t.lens.ops = s.lens.ops ∧ Kept [.lens] (lensCycleRegs ++ lensRegs) s t) ∧
  (∀ (errs : List (BitVec 48 × MemErr)) (feed out wload n : BitVec 32) (s : State) (c : Fin 4), domRun s 1 = true → lensDrains s = false →
    s.lens.causes = [c] →
    Completes (.lensTileBoundary errs feed out wload [n]) s fun t =>
      rdn t (rLENS_CNT 7) = (rdn s (rLENS_CNT 7) + feed.toNat) % 2 ^ 32 ∧
      rdn t (rLENS_CNT 8) = (rdn s (rLENS_CNT 8) + out.toNat) % 2 ^ 32 ∧
      rdn t (rLENS_CNT 9) = (rdn s (rLENS_CNT 9) + wload.toNat) % 2 ^ 32 ∧
      rdn t (rLENS_CNT (11 + c.val)) = (rdn s (rLENS_CNT (11 + c.val)) + n.toNat) % 2 ^ 32) ∧
  (∀ (slot : Fin 8) (s : State) (o : LensOp), lensAt s slot = some o → o.phase = .retiring → domRun s 1 = true →
    Completes (.lensRetire slot) s fun t =>
      t.lens.ops = s.lens.ops.filter (fun x => decide (x.seq ≠ o.seq)) ∧
      rdn t (rLENS_CNT 1) = satN 32 (rdn s (rLENS_CNT 1) + 1) ∧
      ((quantParse o.qd).stat = false → t.mem = s.mem ∧ (o.d.sig = false → t.sems = s.sems) ∧
        (o.d.sig = true → (sem t o.d.signal).count = min 65535 ((sem s o.d.signal).count + 1)))) ∧
  (∀ (slot : Fin 8) (s : State), (∀ o, lensAt s slot = some o → o.phase ≠ .retiring) →
    Completes (.lensRetire slot) s fun t => t = s) ∧
  (∀ (errs : List (BitVec 48 × MemErr)) (feed out wload : BitVec 32) (idle : List (BitVec 32)) (slot : Fin 8) (s : State),
    domRun s 1 = false → lensDrains s = false →
    ∀ c ∈ [Instr.lensTileBoundary errs feed out wload idle, .lensRetire slot], Completes c s fun t => t = s) ∧
  (∀ (ifc : Iface) (s : State), gate ifc true rLENS_CTRL s = .open →
    Completes (.lensHalt ifc) s fun t =>
      rdB t rLENS_CTRL 0 = true ∧ (rdB s rLENS_STATUS 2 = false → rdB t rLENS_STATUS 1 = true) ∧
      KeptAccess [] [rLENS_CTRL, rLENS_STATUS] s t) ∧
  (∀ (ifc : Iface) (s : State), gate ifc true rLENS_CTRL s = .open →
    Completes (.lensResume ifc) s fun t =>
      rdB t rLENS_CTRL 0 = false ∧ rdB t rLENS_STATUS 1 = false ∧ KeptAccess [] [rLENS_CTRL, rLENS_STATUS] s t)

/-- SPAD_READ and SPAD_WRITE: data, ownership, poison and undecoded addresses -/
def Obligations.ScratchpadPorts : Prop :=
  (∀ (port : Fin 14) (addr : BitVec 48) (len : BitVec 12) (err : MemErr) (s : State), decodesAll s addr.toNat len.toNat = true →
    portReaches port addr.toNat false = true → ownsAll s port addr.toNat len.toNat = true →
    Completes (.spadRead port addr len err) s fun t =>
      t.resp = { data := (upto ((len.toNat + 3) / 4)).map (fun k => w32 (leAt (4 * k) 4 (memBytes s addr.toNat len.toNat))),
                 err := false, poison := poisonedIn t addr.toNat len.toNat } ∧ t.mem = s.mem ∧
      (err = .none → t.poison = s.poison)) ∧
  (∀ (port : Fin 14) (addr : BitVec 48) (len : BitVec 12) (err : MemErr) (s : State), decodesAll s addr.toNat len.toNat = true →
    portReaches port addr.toNat false = true → ownsAll s port addr.toNat len.toNat = false →
    Completes (.spadRead port addr len err) s fun t =>
      t.resp = { data := List.replicate ((len.toNat + 3) / 4) 0, err := false, poison := true } ∧
      rdn t (rSP_CNT 5) = satN 32 (rdn s (rSP_CNT 5) + 1) ∧ t.mem = s.mem ∧ t.poison = s.poison) ∧
  (∀ (port : Fin 14) (addr : BitVec 48) (len : BitVec 12) (err : MemErr) (s : State), decodesAll s addr.toNat len.toNat = false →
    Completes (.spadRead port addr len err) s fun t =>
      t.resp.err = true ∧ rdn t (rFLT_CNT 0) = satN 32 (rdn s (rFLT_CNT 0) + 1) ∧ t.mem = s.mem ∧ t.poison = s.poison) ∧
  (∀ (port : Fin 14) (addr : BitVec 48) (data : List Byte) (poison : Bool) (s : State), decodesAll s addr.toNat data.length = true →
    portReaches port addr.toNat true = true → ownsAll s port addr.toNat data.length = true →
    poisonedIn s addr.toNat data.length = false →
    Completes (.spadWrite port addr data poison .none) s fun t =>
      memBytes t addr.toNat data.length = data ∧ t.resp = { data := [], err := false } ∧
      (∀ a, (a < addr.toNat ∨ addr.toNat + data.length ≤ a) → memByte t a = memByte s a) ∧
      Kept [.mem, .poison, .resv, .resp] [] s t) ∧
  (∀ (port : Fin 14) (addr : BitVec 48) (data : List Byte) (poison : Bool) (err : MemErr) (s : State), data ≠ [] →
    decodesAll s addr.toNat data.length = true → portReaches port addr.toNat true = true →
    ownsAll s port addr.toNat data.length = false →
    Completes (.spadWrite port addr data poison err) s fun t =>
      rdn t (rSP_CNT 5) = satN 32 (rdn s (rSP_CNT 5) + 1) ∧ t.mem = s.mem ∧ t.poison = s.poison) ∧
  (∀ (port : Fin 14) (addr : BitVec 48) (data : List Byte) (poison : Bool) (err : MemErr) (s : State),
    decodesAll s addr.toNat data.length = false →
    Completes (.spadWrite port addr data poison err) s fun t =>
      t.resp.err = true ∧ rdn t (rFLT_CNT 0) = satN 32 (rdn s (rFLT_CNT 0) + 1) ∧ t.mem = s.mem ∧ t.poison = s.poison)

/-- FC_PUSH, FC_START and FC_DONE -/
def Obligations.FillAndCopy : Prop :=
  (∀ (ifc : Iface) (hi : Word) (s : State) (a : Nat) (r : Rd × State), gate ifc true rSP_FC_PUSH_HI s = .open →
    a = ((latch s ifc rSP_FC_PUSH_LO).toNat + 2 ^ 32 * hi.toNat) % 2 ^ 48 → s.fc.queue.length < 16 →
    r = devRead fcAgent a 64 s → r.1.err = false → r.1.poison = false → a % 64 = 0 → fcReason s r.1.data = 0 →
    Completes (.fcPush ifc hi) s fun t =>
      t.fc.queue = s.fc.queue ++ [fcParse r.1.data] ∧ t.fc.running = s.fc.running ∧ t.mem = s.mem) ∧
  (∀ (ifc : Iface) (hi : Word) (s : State), gate ifc true rSP_FC_PUSH_HI s = .open → 16 ≤ s.fc.queue.length →
    Completes (.fcPush ifc hi) s fun t =>
      t.fc = s.fc ∧ rdF t rSP_FC_REFUSE 7 4 = 1 ∧ rdn t (rSP_CNT 7) = satN 32 (rdn s (rSP_CNT 7) + 1) ∧ t.mem = s.mem) ∧
  (∀ (rows : Nat) (s : State) (c : FcCmd) (q : List FcCmd), s.fc.running = none → s.fc.queue = c :: q →
    (c.waitEn = true → (sem s c.waitSem).count ≠ 0) → fcGenOk s c = true →
    Completes (.fcStart rows) s fun t =>
      t.fc.running = some c ∧ t.fc.queue = q ∧ t.fc.rows = min rows c.height ∧
      (sem t c.waitSem).count = (sem s c.waitSem).count - b2n c.waitEn ∧ (rows = 0 → t.mem = s.mem)) ∧
  (∀ (rows : Nat) (s : State) (c : FcCmd) (q : List FcCmd), s.fc.running = none → s.fc.queue = c :: q →
    c.waitEn = true → (sem s c.waitSem).count = 0 →
    Completes (.fcStart rows) s fun t => rdB t rSP_STATUS 6 = true ∧ Kept [] [rSP_STATUS] s t) ∧
  (∀ (rows : Nat) (s : State) (c : FcCmd) (q : List FcCmd), s.fc.running = none → s.fc.queue = c :: q → c.waitEn = false →
    fcGenOk s c = false →
    Completes (.fcStart rows) s fun t =>
      t.fc.running = none ∧ t.fc.queue = q ∧ rdn t (rSP_CNT 8) = satN 32 (rdn s (rSP_CNT 8) + 1) ∧
      Kept [.fc] [rSP_STATUS, rSP_CNT 8] s t) ∧
  (∀ (s : State) (c : FcCmd), s.fc.running = some c → fcGenOk s c = true → c.signalEn = false →
    Completes .fcDone s fun t =>
      t.fc.running = none ∧ t.fc.queue = s.fc.queue ∧ rdn t (rSP_CNT 6) = satN 32 (rdn s (rSP_CNT 6) + 1) ∧ t.sems = s.sems) ∧
  (∀ (s : State) (c : FcCmd), s.fc.running = some c → fcGenOk s c = true → c.signalEn = true →
    Completes .fcDone s fun t =>
      t.fc.running = none ∧ rdn t (rSP_CNT 6) = satN 32 (rdn s (rSP_CNT 6) + 1) ∧
      (sem t c.signalSem).count = min 65535 ((sem s c.signalSem).count + 1)) ∧
  (∀ (s : State) (c : FcCmd), s.fc.running = some c → fcGenOk s c = true → c.copy = false → c.height = 1 → s.fc.rows = 0 →
    c.width % 4 = 0 → memNo c.dst = some 1 → ownsAll s 13 c.dst c.width = true →
    Completes .fcDone s fun t =>
      memBytes t c.dst c.width = fillBytes c.pattern c.width ∧
      ∀ a, (a < c.dst ∨ c.dst + c.width ≤ a) → memByte t a = memByte s a)

/-- SEM_COUNT_WRITE, SEM_RELEASE, SEM_TAKE, SEM_CFG_WRITE and CRW_GRANT -/
def Obligations.SemaphoresAndCredits : Prop :=
  (∀ (n : Fin 1024) (v : Word) (s : State),
    Completes (.semCountWrite n v) s fun t =>
      (sem t n).count = fld v 15 0 ∧ (∀ m : Nat, m ≠ n.val → sem t m = sem s m) ∧
      ((sem s n).notifyEn = true → (sem s n).count = 0 → fld v 15 0 ≠ 0 → lanternActive s (sem s n).notify = true →
        domOk s 4 = true → rdB t (rLC_PEND_LO (sem s n).notify) 10 = true) ∧
      (∀ r ∈ t.resv, ¬ (r.2 < semBase + n * 64 + 64 ∧ semBase + n * 64 < r.2 + 64)) ∧
      Kept [.sems, .resv, .resp] [rLC_PEND_LO (sem s n).notify] s t) ∧
  (∀ (n : Fin 1024) (v : Word) (s : State),
    Completes (.semRelease n v) s fun t =>
      (sem t n).count = min 65535 ((sem s n).count + fld v 15 0) ∧ (∀ m : Nat, m ≠ n.val → sem t m = sem s m) ∧
      ((sem s n).count + fld v 15 0 ≤ 65535 → Kept [.sems, .resv, .resp] [rLC_PEND_LO (sem s n).notify] s t) ∧
      (65535 < (sem s n).count + fld v 15 0 → rdn t (rSP_CNT 9) = satN 32 (rdn s (rSP_CNT 9) + 1) ∧ t.mem = s.mem)) ∧
  (∀ (n : Fin 1024) (s : State),
    Completes (.semTake n) s fun t =>
      t.resp = { data := [w32 (sem s n).count], err := false } ∧ (sem t n).count = (sem s n).count - 1 ∧
      (∀ m : Nat, m ≠ n.val → sem t m = sem s m) ∧ Kept [.sems, .resp] [] s t) ∧
  (∀ (n : Fin 1024) (v : Word) (s : State),
    Completes (.semCfgWrite n v) s fun t =>
      sem t n = { sem s n with notify := fld v 4 0, notifyEn := bit v 5 } ∧ (∀ m : Nat, m ≠ n.val → sem t m = sem s m) ∧
      Kept [.sems, .resp] [] s t) ∧
  (∀ (ifc : Iface) (w : Fin 64) (v : Word) (s : State), gate ifc true (rCRW_GRANT w) s = .open →
    Completes (.crwGrant ifc w v) s fun t =>
      rdF t (rCRW_CREDITS w) 15 0 = satN 16 (rdF s (rCRW_CREDITS w) 15 0 + fld v 15 0) ∧ t.mem = s.mem ∧
      (crwOpen s w = false → KeptAccess [] [rCRW_CREDITS w] s t))

/-- LANTERN_HALT, LANTERN_RESUME, LANTERN_CORE_RESET, LC_RAISE and EXTERNAL_LOCAL_ACCESS -/
def Obligations.LanternControl : Prop :=
  (∀ (ifc : Iface) (n : Fin 18) (s : State), gate ifc true (rLC_CTRL n) s = .open → lanRuns s n = true →
    (lan s n).interruptible = true → winner s n ((lan s n).landAt (lan s n).n).psw = none →
    Completes (.lanternHalt ifc n) s fun t =>
      (lan t n).stopped = true ∧ (lan t n).pc = (lan s n).pc ∧ rdB t (rLC_CTRL n) 0 = true ∧ (∀ r ∈ t.resv, r.1 ≠ n.val) ∧
      (∀ m : Nat, m ≠ n.val → lan t m = lan s m) ∧ KeptAccess [.lan, .resv] [rLC_CTRL n] s t) ∧
  (∀ (ifc : Iface) (n : Fin 18) (s : State), gate ifc true (rLC_CTRL n) s = .open → rdB s (rLC_CTRL n) 0 = true →
    Completes (.lanternResume ifc n) s fun t =>
      lan t n = { lan s n with stopped := false, seen := false } ∧ rdB t (rLC_CTRL n) 0 = false ∧
      (∀ m : Nat, m ≠ n.val → lan t m = lan s m) ∧ KeptAccess [.lan] [rLC_CTRL n] s t) ∧
  (∀ (ifc : Iface) (n : Fin 18) (halt : Bool) (s : State), gate ifc true (rLC_CTRL n) s = .open → lanInReset s n = false →
    Completes (.lanternCoreReset ifc n halt) s fun t =>
      lan t n = { (lan s n).fresh with resetTill := s.clock.aon + resetCycles } ∧ rdB t (rLC_CTRL n) 0 = halt ∧
      (∀ m : Nat, m ≠ n.val → lan t m = lan s m) ∧
      (∀ k : Nat, k < 32 → k ≠ 12 → rdB t (rLC_PEND_LO n) k = false) ∧ rdn t (rLC_PEND_HI n) = 0 ∧
      (∀ k : Nat, k < 8 → rdn t (rLC_PRIO n k) = 0) ∧ rdn t (rLC_EXC n) = 0 ∧ rd64 t (rLC_EXC_ADDR_LO n) = 0 ∧
      rdn t (rLC_CNT n 7) = satN 32 (rdn s (rLC_CNT n 7) + 1) ∧ (∀ r ∈ t.resv, r.1 ≠ n.val) ∧ t.mem = s.mem) ∧
  (∀ (ifc : Iface) (n : Fin 18) (halt : Bool) (s : State), gate ifc true (rLC_CTRL n) s = .open → lanInReset s n = true →
    rdB s (rLC_CTRL n) 0 = false →
    Completes (.lanternCoreReset ifc n halt) s fun t =>
      rdB t (rLC_CTRL n) 0 = halt ∧ KeptAccess [] [rLC_CTRL n] s t) ∧
  (∀ (ifc : Iface) (n : Fin 18) (v : Word) (s : State), gate ifc true (rLC_RAISE_LO n) s = .open →
    Completes (.lcRaise ifc n false v) s fun t => latch t ifc (rLC_RAISE_LO n) = v ∧ Kept [.latches, .resp] [] s t) ∧
  (∀ (ifc : Iface) (n : Fin 18) (v : Word) (s : State), gate ifc true (rLC_RAISE_HI n) s = .open →
    Completes (.lcRaise ifc n true v) s fun t =>
      rd t (rLC_PEND_LO n) = rd s (rLC_PEND_LO n) ||| (latch s ifc (rLC_RAISE_LO n) &&& w32 0xFFFFFF00) ∧
      rd t (rLC_PEND_HI n) = rd s (rLC_PEND_HI n) ||| v ∧ KeptAccess [] [rLC_PEND_LO n, rLC_PEND_HI n] s t) ∧
  (∀ (n : Fin 18) (off : BitVec 24) (b : List Byte) (len : BitVec 8) (displaced : Bool) (err : MemErr) (s : State),
    domOk s 4 = true → decodesAll s (lanternBase n + off.toNat) b.length = true →
    (err ≠ .uncorrectable ∨ (off.toNat % 8 = 0 ∧ b.length % 8 = 0)) →
    Completes (.externalLocalAccess n off (some b) len ⟨displaced, err⟩) s fun t =>
      memBytes t (lanternBase n + off.toNat) b.length = b ∧ t.resp = { data := [], err := false } ∧
      (∀ a, (a < lanternBase n + off.toNat ∨ lanternBase n + off.toNat + b.length ≤ a) → memByte t a = memByte s a) ∧
      rdn t (rLC_CNT n 3) = (if displaced then (rdn s (rLC_CNT n 3) + 1) % 2 ^ 32 else rdn s (rLC_CNT n 3)) ∧
      (err = .none → t.lan = s.lan) ∧ Kept [.mem, .resv, .resp, .lan] [rLC_CNT n 3] s t) ∧
  (∀ (n : Fin 18) (off : BitVec 24) (len : BitVec 8) (displaced : Bool) (err : MemErr) (s : State), domOk s 4 = true →
    decodesAll s (lanternBase n + off.toNat) len.toNat = true → err ≠ .uncorrectable →
    Completes (.externalLocalAccess n off none len ⟨displaced, err⟩) s fun t =>
      t.resp = { data := (upto ((len.toNat + 3) / 4)).map (fun i => w32 (leAt (4 * i) 4 (memBytes s (lanternBase n + off.toNat) len.toNat))),
                 err := false } ∧ (err = .none → t.lan = s.lan) ∧ Kept [.resp, .lan] [rLC_CNT n 3] s t) ∧
  (∀ (n : Fin 18) (off : BitVec 24) (len : BitVec 8) (displaced : Bool) (s : State), domOk s 4 = true →
    decodesAll s (lanternBase n + off.toNat) len.toNat = true →
    Completes (.externalLocalAccess n off none len ⟨displaced, .uncorrectable⟩) s fun t => t.resp.err = true ∧ t.mem = s.mem) ∧
  (∀ (n : Fin 18) (off : BitVec 24) (w : Option (List Byte)) (len : BitVec 8) (displaced : Bool) (err : MemErr) (s : State),
    decodesAll s (lanternBase n + off.toNat) (match w with | some b => b.length | none => len.toNat) = false →
    Completes (.externalLocalAccess n off w len ⟨displaced, err⟩) s fun t =>
      t.resp.err = true ∧ (∀ x ∈ t.resp.data, x = 0xFFFFFFFF#32) ∧ rdn t (rFLT_CNT 0) = satN 32 (rdn s (rFLT_CNT 0) + 1) ∧
      t.mem = s.mem ∧ t.lan = s.lan)

/-- BUNDLE_ISSUE: a bundle issues whole, waits, or is illegal -/
def Obligations.LanternIssue : Prop :=
  (∀ (n : Fin 18) (err0 err1 : MemErr) (s : State) (l : Lan) (ws : List Nat) (ys : List (LSyl × LEff)), lanRuns s n = true →
    (lan s n).posts = [] → l = { (lan s n).landAt (lan s n).n with seen := false, fence := false } → l.lbPhase = .none →
    ((lan s n).landAt (lan s n).n).fence = false → l.longs.any (fun o => decide (o.op = .swait)) = false →
    winner s n l.psw = none → rdB s (rLC_CTRL n) 0 = false → ws = imemBundle s n l.pc →
    (bundleOf ws).bind (evalAll l l.pc (4 * ws.length) s.free) = some ys → bundleLegal l ys = true →
    bundleWaits l (ys.map (fun y => y.2)) = false → ys.all (fun y => decide (y.2.flow = .next)) = true →
    ys.any (fun y => isSwait y.1) = false →
    ys.all (fun y => match y.2.store with | some (loc, _) => loc | none => true) = true →
    (l.brAt = 0 ∨ l.n ≠ l.brAt + 1) → l.pswBit 6 = false → err0 ≠ .uncorrectable → err1 ≠ .uncorrectable →
    Completes (.bundleIssue n .none err0 err1) s fun t =>
      rdn t (rLC_CNT n 0) = (rdn s (rLC_CNT n 0) + 1) % 2 ^ 32 ∧ (lan t n).pc = (l.pc + 4 * ws.length) % 65536 ∧
      (lan t n).n = l.n + 1 ∧
      (∀ y ∈ ys, ∀ w ∈ y.2.writes, ({ dst := w.1, low := w.2.1, val := w.2.2.1, at_ := l.n, due := l.n + w.2.2.2 } : LWrite) ∈ (lan t n).writes) ∧
      ((∀ y ∈ ys, y.2.store = none) → t.mem = s.mem)) ∧
  (∀ (n : Fin 18) (err0 err1 : MemErr) (s : State) (l : Lan) (ws : List Nat), lanRuns s n = true →
    (lan s n).posts = [] → l = { (lan s n).landAt (lan s n).n with seen := false, fence := false } → l.lbPhase = .none →
    ((lan s n).landAt (lan s n).n).fence = false → l.longs.any (fun o => decide (o.op = .swait)) = false →
    winner s n l.psw = none → rdB s (rLC_CTRL n) 0 = false → ws = imemBundle s n l.pc →
    (bundleOf ws).bind (evalAll l l.pc (4 * ws.length) s.free) = none →
    (l.brAt = 0 ∨ l.n ≠ l.brAt + 1) → l.pswBit 6 = false →
    Completes (.bundleIssue n .none err0 err1) s fun t =>
      rdB t (rLC_PEND_LO n) 0 = true ∧ rd t (rLC_CNT n 0) = rd s (rLC_CNT n 0) ∧
      Kept [.lan] [rLC_PEND_LO n] s t) ∧
  (∀ (n : Fin 18) (err0 err1 : MemErr) (s : State) (l : Lan) (ws : List Nat) (ys : List (LSyl × LEff)), lanRuns s n = true →
    (lan s n).posts = [] → l = { (lan s n).landAt (lan s n).n with seen := false, fence := false } → l.lbPhase = .none →
    ((lan s n).landAt (lan s n).n).fence = false → l.longs.any (fun o => decide (o.op = .swait)) = false →
    winner s n l.psw = none → rdB s (rLC_CTRL n) 0 = false → ws = imemBundle s n l.pc →
    (bundleOf ws).bind (evalAll l l.pc (4 * ws.length) s.free) = some ys → bundleLegal l ys = true →
    bundleWaits l (ys.map (fun y => y.2)) = true →
    Completes (.bundleIssue n .none err0 err1) s fun t =>
      rdn t (rLC_CNT n 1) = (rdn s (rLC_CNT n 1) + 1) % 2 ^ 32 ∧ (lan t n).pc = l.pc ∧ Kept [.lan] [rLC_CNT n 1] s t) ∧
  (∀ (n : Fin 18) (ierr err0 err1 : MemErr) (s : State) (l : Lan), lanRuns s n = true → (lan s n).posts = [] →
    l = (lan s n).landAt (lan s n).n → l.longs.any (fun o => decide (o.op = .swait)) = false → winner s n l.psw = none →
    l.interruptible = true → rdB s (rLC_CTRL n) 0 = true →
    Completes (.bundleIssue n ierr err0 err1) s fun t =>
      (lan t n).stopped = true ∧ (lan t n).pc = (lan s n).pc ∧ (∀ r ∈ t.resv, r.1 ≠ n.val) ∧ Kept [.lan, .resv] [] s t) ∧
  (∀ (n : Fin 18) (ierr err0 err1 : MemErr) (s : State), lanRuns s n = false → (lan s n).posts = [] →
    Completes (.bundleIssue n ierr err0 err1) s fun t => t = s)

/-- Scalar syllables give the results of R353, and a result lands in its register at its distance -/
def Obligations.LanternScalarResults : Prop :=
  (∀ (l : Lan) (pc len fb d a b : Nat), d < 32 → a < 32 → b < 32 →
    (let w := d * 2 ^ 16 + a * 2 ^ 11 + b * 2 ^ 6
     let x (o : Nat) : Option LEff := evalSyl l pc len fb { slot := 0, opc := o, w := w }
     let r (v dist : Nat) : Option LEff :=
       some { reads := [.s a, .s b], dsts := [.s d], writes := [(.s d, false, v, dist)] }
     x 0 = r ((l.getS a + l.getS b) % 2 ^ 64) 1 ∧ x 1 = r ((l.getS a + 2 ^ 64 - l.getS b) % 2 ^ 64) 1 ∧
     x 2 = r (l.getS a &&& l.getS b) 1 ∧ x 3 = r (l.getS a ||| l.getS b) 1 ∧ x 4 = r (l.getS a ^^^ l.getS b) 1 ∧
     x 0xD = r (l.getS a * l.getS b % 2 ^ 64) 2)) ∧
  (∀ (l : Lan) (pc len fb d i : Nat), d < 32 → i < 1024 →
    evalSyl l pc len fb { slot := 0, opc := 0x17, w := d * 2 ^ 16 + i } =
      some { dsts := [.s d], writes := [(.s d, false, i, 1)] }) ∧
  (∀ (l : Lan) (pc len fb v p q : Nat), v < 1024 → p < 32 → q < 32 →
    evalSyl l pc len fb { slot := 1, opc := 0x18, w := v * 2 ^ 12 + p * 2 ^ 7 + q * 2 ^ 2 } =
      some { reads := [.s p, .s q], dsts := [.bv v], writes := [(.bv v, false, b2n (decide (l.getS p = l.getS q)), 1)] }) ∧
  (∀ (l : Lan) (pc len fb k : Nat), k < 2 ^ 21 → pc + 4 * k < 65536 →
    evalSyl l pc len fb { slot := 1, opc := 0x30, w := k } = some { flow := .go (pc + 4 * k) }) ∧
  (∀ (l : Lan) (i v at_ due n : Nat), l.writes = [{ dst := .s i, val := v, at_ := at_, due := due }] →
    ((l.landWrites n).getS i = (if due ≤ n then v % 2 ^ 64 else l.getS i)) ∧
    (∀ j, j ≠ i → (l.landWrites n).getS j = l.getS j) ∧ (l.landWrites n).vreg = l.vreg ∧ (l.landWrites n).bvar = l.bvar)

/-- INTERRUPT_ACCEPT and LONG_OP_COMPLETE -/
def Obligations.LanternInterruptsAndLongs : Prop :=
  (∀ (n : Fin 18) (ierr : MemErr) (s : State) (l : Lan) (src f v : Nat), ierr ≠ .uncorrectable → lanRuns s n = true → ((lan s n).landAt (lan s n).n).interruptible = true →
    frameWaits ((lan s n).landAt (lan s n).n) = false → winner s n ((lan s n).landAt (lan s n).n).psw = some src →
    l = ((lan s n).landAt (lan s n).n).drain → f = addOff (l.getA 15 / 64 * 64) (-64) → isLocal f 64 = true →
    rdB s (rLC_CTRL n) 0 = false → v = memLe s (lanternBase n + 0x800000 + 4 * src) 4 % 65536 → v % 4 = 0 →
    Completes (.interruptAccept ⟨n, ierr⟩) s fun t =>
      (lan t n).pc = v ∧ (lan t n).psw = enterPsw s n src l.psw ∧ (lan t n).getA 15 = f ∧ srcPend t n src = false ∧
      memLe t (lanternBase n + f) 8 = (lan s n).pc % 2 ^ 64 ∧ memLe t (lanternBase n + f + 8) 8 = l.psw.toNat ∧
      (∀ a, (a < lanternBase n + f ∨ lanternBase n + f + 64 ≤ a) → memByte t a = memByte s a) ∧
      (∀ m : Nat, m ≠ n.val → lan t m = lan s m)) ∧
  (∀ (n : Fin 18) (s : State) (src : Nat), lanRuns s n = true → ((lan s n).landAt (lan s n).n).interruptible = true →
    frameWaits ((lan s n).landAt (lan s n).n) = false → winner s n ((lan s n).landAt (lan s n).n).psw = some src →
    Completes (.interruptAccept ⟨n, .uncorrectable⟩) s fun t =>
      (lan t n).stopped = true ∧ (lan t n).pc = (lan s n).pc ∧ rd t (rLC_PEND_LO n) &&& 0xFF#32 = rd s (rLC_PEND_LO n) &&& 0xFF#32 ∧
      t.mem = s.mem) ∧
  (∀ (n : Fin 18) (ierr : MemErr) (s : State), (lanRuns s n = false ∨ ((lan s n).landAt (lan s n).n).interruptible = false ∨
      frameWaits ((lan s n).landAt (lan s n).n) = true ∨ winner s n ((lan s n).landAt (lan s n).n).psw = none) →
    Completes (.interruptAccept ⟨n, ierr⟩) s fun t => t = s) ∧
  (∀ (n : Fin 18) (err : MemErr) (s : State) (o : LLong) (v : Nat), lanternActive s n = true → domRun s 4 = true →
    (lan s n).longs.find? (fun o => isUnit o) = some o → o.op = .unit v → o.tag = none →
    Completes (.longOpComplete n false err) s fun t =>
      lan t n = { lan s n with longs := (lan s n).longs.erase o }.put o.dst o.low v ∧
      (∀ m : Nat, m ≠ n.val → lan t m = lan s m) ∧ Kept [.lan] [] s t) ∧
  (∀ (n : Fin 18) (err : MemErr) (s : State) (o : LLong) (v : Nat), lanternActive s n = true → domRun s 4 = true → (lan s n).posts = [] →
    (lan s n).longs.find? (fun o => !isUnit o) = some o → o.op = .sc v → o.tag = none → decodesAll s o.addr o.z = true →
    s.resv.contains (n.val, o.addr / 64 * 64) = false →
    Completes (.longOpComplete n true err) s fun t =>
      lan t n = { lan s n with longs := (lan s n).longs.erase o }.put o.dst o.low 0 ∧ (∀ r ∈ t.resv, r.1 ≠ n.val) ∧
      Kept [.lan, .resv] [] s t) ∧
  (∀ (n : Fin 18) (err : MemErr) (s : State) (o : LLong) (v : Nat), lanternActive s n = true → domRun s 4 = true → (lan s n).posts = [] →
    (lan s n).longs.find? (fun o => !isUnit o) = some o → o.op = .sc v → o.tag = none → decodesAll s o.addr o.z = true →
    s.resv.contains (n.val, o.addr / 64 * 64) = true → (lanWrite n o.addr (leBytes o.z v) s).1 = true →
    Completes (.longOpComplete n true err) s fun t =>
      t.mem = (lanWrite n o.addr (leBytes o.z v) s).2.mem ∧ (∀ r ∈ t.resv, r.1 ≠ n.val) ∧
      lan t n = { lan (lanWrite n o.addr (leBytes o.z v) s).2 n with
        longs := (lan (lanWrite n o.addr (leBytes o.z v) s).2 n).longs.erase o }.put o.dst o.low 1) ∧
  (∀ (n : Fin 18) (mem : Bool) (err : MemErr) (s : State), domRun s 4 = false → Completes (.longOpComplete n mem err) s fun t => t = s) ∧
  (∀ (n : Fin 18) (mem : Bool) (err : MemErr) (s : State), (lan s n).longs = [] → Completes (.longOpComplete n mem err) s fun t => t = s)

/-- CHAIN_START, DESC_FETCH, DMA_WAIT_TAKE, CH_DOORBELL and LINK_REREAD -/
def Obligations.DmaChainsStart : Prop :=
  (∀ (ifc : Iface) (c : Fin 32) (hi : Word) (s : State), gate ifc true (rCH_HEAD_HI c) s = .open → chState s c = 0 →
    Completes (.chainStart ifc c hi) s fun t =>
      chState t c = 1 ∧ chCur t c = ((latch s ifc (rCH_HEAD_LO c)).toNat + 2 ^ 32 * hi.toNat) % 2 ^ 48 ∧
      dmaCh t c = { moved := (dmaCh s c).moved } ∧
      KeptAccess [.dma] [rCH_HEAD_LO c, rCH_HEAD_HI c, rCH_STATUS c, rCH_CUR_LO c, rCH_CUR_LO c + 4] s t) ∧
  (∀ (ifc : Iface) (c : Fin 32) (hi : Word) (s : State), gate ifc true (rCH_HEAD_HI c) s = .open → chState s c ≠ 0 →
    Completes (.chainStart ifc c hi) s fun t => KeptAccess [] [rCH_HEAD_LO c, rCH_HEAD_HI c] s t) ∧
  (∀ (c : Fin 32) (s : State) (a : Nat) (r : Rd × State), chState s c = 1 → (dmaCh s c).phase ≠ .reread →
    (dmaCh s c).waiting = false → a = chCur s c → a % 64 = 0 → descAt s a = true → regionOf a ≠ .host →
    r = devRead (dmaAgent s c) a 64 (setChDb c false s) → r.1.err = false →
    Completes (.descFetch c) s fun t =>
      t.mem = s.mem ∧
      (dmaRefusal s c r.1.data ≠ 0 →
        chState t c = 6 ∧ rdF t (rCH_STATUS c) 7 4 = dmaRefusal s c r.1.data ∧ chDb t c = false ∧
        rdn t (rCH_CNT c 5) = satN 32 (rdn s (rCH_CNT c 5) + 1)) ∧
      (dmaRefusal s c r.1.data = 0 → mergeable r.1.data = false → dCtrl r.1.data 7 = true →
        chState t c = 2 ∧ (dmaCh t c).burst = [(a, r.1.data)] ∧ chDb t c = false) ∧
      (dmaRefusal s c r.1.data = 0 → mergeable r.1.data = false → dCtrl r.1.data 7 = false →
        (dNoGen r.1.data = true ∨ genOk s (dJob r.1.data).slot (dJob r.1.data).gen = true) → regionOf (dSrc r.1.data) ≠ .host →
        dCtrl r.1.data 1 = false →
        chState t c = 3 ∧ (dmaCh t c).burst = [(a, r.1.data)] ∧ chDb t c = false)) ∧
  (∀ (c : Fin 32) (s : State) (a : Nat) (d : List Byte) (q : List (Nat × List Byte)), chState s c = 2 → (dmaCh s c).burst = (a, d) :: q →
    (sem s (leAt 0x30 2 d % 1024)).count ≠ 0 → burstGenOk s (dmaCh s c) = true →
    (burstSpans (dmaCh s c) false).all (fun p => decide (regionOf p.1 ≠ .host)) = true →
    Completes (.dmaWaitTake c) s fun t =>
      chState t c = 3 ∧ (sem t (leAt 0x30 2 d % 1024)).count = (sem s (leAt 0x30 2 d % 1024)).count - 1 ∧
      Kept [.sems] [rCH_STATUS c] s t) ∧
  (∀ (c : Fin 32) (s : State) (a : Nat) (d : List Byte) (q : List (Nat × List Byte)), chState s c = 2 → (dmaCh s c).burst = (a, d) :: q →
    (sem s (leAt 0x30 2 d % 1024)).count = 0 → Completes (.dmaWaitTake c) s fun t => t = s) ∧
  (∀ (ifc : Iface) (c : Fin 32) (s : State), gate ifc true (rCH_DOORBELL c) s = .open → chState s c ≠ 5 →
    Completes (.chDoorbell ifc c) s fun t =>
      chDb t c = true ∧ chState t c = chState s c ∧ rdn t (rCH_CNT c 9) = (rdn s (rCH_CNT c 9) + 1) % 2 ^ 32 ∧
      KeptAccess [] [rCH_STATUS c, rCH_CNT c 9] s t) ∧
  (∀ (ifc : Iface) (c : Fin 32) (s : State), gate ifc true (rCH_DOORBELL c) s = .open → chState s c = 5 →
    Completes (.chDoorbell ifc c) s fun t =>
      chDb t c = false ∧ chState t c = 1 ∧ dmaCh t c = { moved := (dmaCh s c).moved, phase := .reread } ∧
      KeptAccess [.dma] [rCH_STATUS c, rCH_CNT c 9] s t) ∧
  (∀ (c : Fin 32) (s : State) (a : Nat) (r : Rd × State), chState s c = 1 → (dmaCh s c).phase = .reread →
    (dmaCh s c).waiting = false → a = chCur s c + 0x20 → descAt s (a / 64 * 64) = true → regionOf a ≠ .host →
    r = devRead (dmaAgent s c) a 8 s → r.1.err = false → chDb s c = false →
    Completes (.linkReread c) s fun t =>
      t.mem = s.mem ∧ chState t c = (if nbit (leAt 0 8 r.1.data) 0 then 5 else 1) ∧
      (nbit (leAt 0 8 r.1.data) 0 = false → chCur t c = leAt 0 8 r.1.data % 2 ^ 48 / 64 * 64 ∧ (dmaCh t c).phase ≠ .reread))

/-- DMA_LAST_WRITE_ACCEPTED, DMA_READBACK_RETURN and DMA_STATUS_WB_ACCEPTED -/
def Obligations.DmaTransfers : Prop :=
  (∀ (c : Fin 32) (err : MemErr) (early : BitVec 32) (s : State) (x : Dma) (a n : Nat) (d : List Byte), chState s c = 3 → dmaCh s c = x →
    x.waiting = false → x.got = none → x.burst = [(a, d)] → burstGenOk s x = true → dTwoD d = false → dCtrl d 1 = false →
    dCtrl d 2 = false → dCtrl d 3 = false → dCheck d = false → dChain d = false → dCtrl d 11 = false → n = dWidth d → 0 < n →
    (∀ k, k < n → regionOf (dSrc d + k) = .am ∧ decodes s (dSrc d + k) = true ∧ ownsBank s 11 (dSrc d + k) = true) →
    (∀ k, k < n → regionOf (dDst d + k) = .am ∧ decodes s (dDst d + k) = true ∧ ownsBank s 11 (dDst d + k) = true) →
    (dSrc d + n ≤ dDst d ∨ dDst d + n ≤ dSrc d) → chDb s c = false → domOk s 0 = true →
    Completes (.dmaLastWriteAccepted c ⟨err, early⟩) s fun t =>
      memBytes t (dDst d) n = memBytes s (dSrc d) n ∧
      (∀ b, (b < dDst d ∨ dDst d + n ≤ b) → memByte t b = memByte s b) ∧
      rdn t (rCH_CNT c 0) = (rdn s (rCH_CNT c 0) + 1) % 2 ^ 32 ∧
      chState t c = (if dLast d then 5 else 1) ∧ (dLast d = false → chCur t c = dLink d % 2 ^ 48)) ∧
  (∀ (c : Fin 32) (err : MemErr) (s : State) (x : Dma) (a : Nat) (d : List Byte), chState s c = 3 → dmaCh s c = x →
    x.waiting = false → x.burst = [(a, d)] → burstGenOk s x = false → dCtrl d 11 = false → chDb s c = false →
    Completes (.dmaLastWriteAccepted c ⟨err, 0⟩) s fun t =>
      rdn t (rCH_CNT c 3) = satN 32 (rdn s (rCH_CNT c 3) + 1) ∧ chState t c = (if dLast d then 5 else 1) ∧
      (dLast d = false → chCur t c = dLink d % 2 ^ 48) ∧ t.mem = s.mem ∧ t.sems = s.sems) ∧
  (∀ (c : Fin 32) (s : State) (x : Dma), chState s c = 4 → dmaCh s c = x → x.phase = .readback → x.backOk = true →
    regionOf (lastByte x) ≠ .host → (devRead (dmaAgent s c) (lastByte x / 64 * 64) 64 s).1.err = false → burstGenOk s x = true →
    x.burst.any (fun b => dCtrl b.2 11) = true →
    Completes (.dmaReadbackReturn c) s fun t =>
      dmaCh t c = { x with phase := .statusWb } ∧ chState t c = 4 ∧ t.mem = s.mem) ∧
  (∀ (c : Fin 32) (s : State), chState s c ≠ 4 →
    Completes (.dmaReadbackReturn c) s (fun t => t = s) ∧ Completes (.dmaStatusWbAccepted c) s fun t => t = s) ∧
  (∀ (c : Fin 32) (s : State) (x : Dma) (a : Nat) (d : List Byte), chState s c = 4 → dmaCh s c = x → x.phase = .statusWb →
    x.burst = [(a, d)] → dCtrl d 11 = true → burstGenOk s x = true → (putStatus c a (doneBits x 0) s).1 = true → chDb s c = false →
    Completes (.dmaStatusWbAccepted c) s fun t =>
      t.mem = (putStatus c a (doneBits x 0) s).2.mem ∧ rdn t (rCH_CNT c 0) = (rdn s (rCH_CNT c 0) + 1) % 2 ^ 32 ∧
      chState t c = (if dLast d then 5 else 1) ∧ (dLast d = false → chCur t c = dLink d % 2 ^ 48))

/-- DMA_BUS_ERROR, DMA_RESUME, DMA_SKIP, DMA_ABORT and ABORT_DRAIN_COMPLETE -/
def Obligations.DmaStopsAndCommands : Prop :=
  (∀ (c : Fin 32) (write : Bool) (k : BitVec 24) (s : State), chState s c = 3 → (dmaCh s c).waiting = false →
    burstGenOk s (dmaCh s c) = true →
    Completes (.dmaBusError c write k) s fun t =>
      chState t c = 6 ∧ rdF t (rCH_STATUS c) 7 4 = (if write then 3 else 2) ∧ rdF t (rCH_STATUS c) 9 8 = (if write then 2 else 1) ∧
      rdn t (rCH_CNT c 4) = satN 32 (rdn s (rCH_CNT c 4) + 1) ∧
      ((∀ dst, ∀ p ∈ burstSpans (dmaCh s c) dst, regionOf p.1 ≠ .sems) → t.sems = s.sems)) ∧
  (∀ (ifc : Iface) (c : Fin 32) (s : State), gate ifc true (rCH_CMD c) s = .open → chState s c = 6 →
    Completes (.dmaResume ifc c) s fun t =>
      chState t c = 1 ∧ chCur t c = chCur s c ∧ dmaCh t c = { moved := (dmaCh s c).moved } ∧ KeptAccess [.dma] [rCH_STATUS c] s t) ∧
  (∀ (ifc : Iface) (c : Fin 32) (s : State), gate ifc true (rCH_CMD c) s = .open → chState s c ≠ 6 →
    Completes (.dmaResume ifc c) s (KeptAccess [] [] s) ∧ Completes (.dmaSkip ifc c) s (KeptAccess [] [] s)) ∧
  (∀ (ifc : Iface) (c : Fin 32) (s : State) (a : Nat) (d : List Byte), gate ifc true (rCH_CMD c) s = .open → chState s c = 6 →
    rdF s (rCH_STATUS c) 7 4 ≠ 1 → (dmaCh s c).burst = [(a, d)] → dCtrl d 11 = false → chDb s c = false →
    Completes (.dmaSkip ifc c) s fun t =>
      rdn t (rCH_CNT c 2) = satN 32 (rdn s (rCH_CNT c 2) + 1) ∧ chState t c = (if dLast d then 5 else 1) ∧
      (dLast d = false → chCur t c = dLink d % 2 ^ 48) ∧ t.mem = s.mem ∧ t.sems = s.sems) ∧
  (∀ (ifc : Iface) (c : Fin 32) (s : State), gate ifc true (rCH_CMD c) s = .open → chState s c = 6 →
    rdF s (rCH_STATUS c) 7 4 = 1 →
    Completes (.dmaSkip ifc c) s fun t => chState t c = 7 ∧ KeptAccess [.dma, .pcie] [rCH_STATUS c] s t) ∧
  (∀ (ifc : Iface) (c : Fin 32) (s : State), gate ifc true (rCH_CMD c) s = .open → chState s c ≠ 0 →
    Completes (.dmaAbort ifc c) s fun t =>
      chState t c = 7 ∧ dmaCh t c = { moved := (dmaCh s c).moved } ∧ (∀ r ∈ t.pcie.reads, r.req ≠ .dma c) ∧
      KeptAccess [.dma, .pcie] [rCH_STATUS c] s t) ∧
  (∀ (ifc : Iface) (c : Fin 32) (s : State), gate ifc true (rCH_CMD c) s = .open → chState s c = 0 →
    Completes (.dmaAbort ifc c) s fun t => KeptAccess [] [] s t) ∧
  (∀ (c : Fin 32) (s : State), chState s c = 7 →
    Completes (.abortDrainComplete c) s fun t => chState t c = 0 ∧ Kept [] [rCH_STATUS c] s t) ∧
  (∀ (c : Fin 32) (s : State), chState s c ≠ 7 → Completes (.abortDrainComplete c) s fun t => t = s)

/-- DRAM_READ_REQUEST, DRAM_WRITE_REQUEST, DRAM_READ_RETURN and DRAM_WRITE_BUFFER_FREE -/
def Obligations.DramRequests : Prop :=
  (∀ (cls : Fin 4) (addr : BitVec 48) (len : Fin 257) (s : State), reqOk addr.toNat len.val = true →
    decodesAll s addr.toNat len.val = true → mayTake 2048 128 (s.ddr.reads.map (fun r => r.cls)) cls.val = true →
    Completes (.dramReadRequest cls addr len) s fun t =>
      t.ddr.reads = s.ddr.reads ++ [{ cls := cls.val, addr := addr.toNat, len := len.val
                                      data := if blockValid s addr.toNat then memBytes s addr.toNat len.val else zeros len.val
                                      bad := if blockValid s addr.toNat then dramBadUnits s addr.toNat len.val else [] }] ∧
      t.ddr.readWait = s.ddr.readWait ∧ t.mem = s.mem) ∧
  (∀ (cls : Fin 4) (addr : BitVec 48) (len : Fin 257) (s : State), reqOk addr.toNat len.val = true →
    decodesAll s addr.toNat len.val = true → mayTake 2048 128 (s.ddr.reads.map (fun r => r.cls)) cls.val = false →
    Completes (.dramReadRequest cls addr len) s fun t =>
      t.ddr.readWait = s.ddr.readWait ++ [{ cls := cls.val, addr := addr.toNat, len := len.val }] ∧ Kept [.ddr] [] s t) ∧
  (∀ (cls : Fin 4) (addr : BitVec 48) (len : Fin 257) (s : State), reqOk addr.toNat len.val = false →
    Completes (.dramReadRequest cls addr len) s fun t => t.resp.err = true ∧ Kept [.resp] [] s t) ∧
  (∀ (cls : Fin 4) (addr : BitVec 48) (len : Fin 257) (s : State), reqOk addr.toNat len.val = true →
    decodesAll s addr.toNat len.val = false →
    Completes (.dramReadRequest cls addr len) s fun t =>
      t.resp = { data := List.replicate ((len.val + 3) / 4) 0xFFFFFFFF#32, err := true } ∧
      rdn t (rFLT_CNT 0) = satN 32 (rdn s (rFLT_CNT 0) + 1) ∧ t.ddr = s.ddr ∧ t.mem = s.mem) ∧
  (∀ (cls : Fin 4) (addr : BitVec 48) (data : List Byte) (head tail : MemErr) (s : State), reqOk addr.toNat data.length = true →
    decodesAll s addr.toNat data.length = true → mayTake 512 64 (s.ddr.writes.map (fun w => w.cls)) cls.val = true →
    tget false s.poison (addr.toNat / 8 * 8) = false → tget false s.poison ((addr.toNat + data.length - 1) / 8 * 8) = false →
    head ≠ .uncorrectable → tail ≠ .uncorrectable →
    Completes (.dramWriteRequest cls addr ⟨data, head, tail⟩) s fun t =>
      t.resp.err = false ∧ memBytes t addr.toNat data.length = data ∧
      (∀ a, (a < addr.toNat ∨ addr.toNat + data.length ≤ a) → memByte t a = memByte s a) ∧
      t.ddr.writes = s.ddr.writes ++ [{ cls := cls.val, addr := addr.toNat, len := data.length, head := head, tail := tail }]) ∧
  (∀ (cls : Fin 4) (addr : BitVec 48) (data : List Byte) (tail : MemErr) (s : State), reqOk addr.toNat data.length = true →
    decodesAll s addr.toNat data.length = true → mayTake 512 64 (s.ddr.writes.map (fun w => w.cls)) cls.val = true →
    inlineEcc s = true → blockValid s addr.toNat = true → addr.toNat % 8 ≠ 0 →
    Completes (.dramWriteRequest cls addr ⟨data, .uncorrectable, tail⟩) s fun t =>
      t.resp.err = true ∧ rdn t (rDDR_CNT 6) = satN 32 (rdn s (rDDR_CNT 6) + 1) ∧ t.mem = s.mem) ∧
  (∀ (cls : Fin 4) (addr : BitVec 48) (data : List Byte) (head tail : MemErr) (s : State), reqOk addr.toNat data.length = true →
    decodesAll s addr.toNat data.length = true → mayTake 512 64 (s.ddr.writes.map (fun w => w.cls)) cls.val = false →
    Completes (.dramWriteRequest cls addr ⟨data, head, tail⟩) s fun t =>
      t.ddr.writeWait = s.ddr.writeWait ++
        [{ cls := cls.val, addr := addr.toNat, len := data.length, data := data, head := head, tail := tail }] ∧
      Kept [.ddr] [] s t) ∧
  (∀ (cls : Fin 4) (addr : BitVec 48) (data : List Byte) (head tail : MemErr) (s : State), reqOk addr.toNat data.length = false →
    Completes (.dramWriteRequest cls addr ⟨data, head, tail⟩) s fun t => t.resp.err = true ∧ Kept [.resp] [] s t) ∧
  (∀ (cls : Fin 4) (addr : BitVec 48) (data : List Byte) (head tail : MemErr) (s : State), reqOk addr.toNat data.length = true →
    decodesAll s addr.toNat data.length = false →
    Completes (.dramWriteRequest cls addr ⟨data, head, tail⟩) s fun t =>
      t.resp.err = true ∧ rdn t (rFLT_CNT 0) = satN 32 (rdn s (rFLT_CNT 0) + 1) ∧ t.ddr = s.ddr ∧ t.mem = s.mem) ∧
  (∀ (k : Fin 2048) (link : List (Fin 4 × MemErr)) (ecc : List (Fin 32 × MemErr)) (waited : BitVec 32) (s : State) (x : DdrReq),
    s.ddr.reads[k.val]? = some x → ddrState s = 2 → s.ddr.readWait = [] →
    Completes (.dramReadReturn k link ecc waited) s fun t =>
      t.resp.data = (upto ((x.len + 3) / 4)).map (fun i => w32 (leAt (4 * i) 4 x.data)) ∧ t.resp.err = false ∧
      (x.bad = [] → link = [] → ecc = [] → t.resp.poison = false ∧ t.poison = s.poison) ∧
      t.ddr.reads = s.ddr.reads.eraseIdx k.val ∧ t.mem = s.mem) ∧
  (∀ (k : Fin 2048) (link : List (Fin 4 × MemErr)) (ecc : List (Fin 32 × MemErr)) (waited : BitVec 32) (s : State),
    (s.ddr.reads[k.val]? = none ∨ ddrState s ≠ 2) → Completes (.dramReadReturn k link ecc waited) s fun t => t = s) ∧
  (∀ (k : Fin 512) (corrected : Bool) (waited : BitVec 32) (s : State), k.val < s.ddr.writes.length → ddrState s = 2 →
    s.ddr.writeWait = [] →
    Completes (.dramWriteBufferFree k ⟨corrected, waited⟩) s fun t =>
      t.ddr.writes = s.ddr.writes.eraseIdx k.val ∧
      rdn t (rDDR_CNT 4) = (if corrected && rdB s rDDR_CFG 17 then satN 32 (rdn s (rDDR_CNT 4) + 1) else rdn s (rDDR_CNT 4)) ∧
      Kept [.ddr] [rDDR_INFLIGHT, rDDR_INFLIGHT_HWM, rDDR_CNT 4] s t) ∧
  (∀ (k : Fin 512) (corrected : Bool) (waited : BitVec 32) (s : State), (s.ddr.writes.length ≤ k.val ∨ ddrState s ≠ 2) →
    Completes (.dramWriteBufferFree k ⟨corrected, waited⟩) s fun t => t = s)

/-- ECC_BACKGROUND_INIT, PATROL_READ, MR4_POLL, TRACKING_READ, DEFERRED_FULL_RETRAIN, FULL_RETRAIN_END and CHANNEL_POWER_DOWN -/
def Obligations.DramUpkeep : Prop :=
  (∀ (s : State) (b : Nat), ddrState s = 2 → inlineEcc s = true → ddrWaits s = false → nextBlock s = some b →
    Completes .eccBackgroundInit s fun t =>
      tget false t.ddrValid b = true ∧ (∀ k, k ≠ b → tget false t.ddrValid k = tget false s.ddrValid k) ∧ Kept [.ddrValid] [] s t) ∧
  (∀ s : State, (ddrState s ≠ 2 ∨ inlineEcc s = false ∨ ddrWaits s = true ∨ nextBlock s = none) → Completes .eccBackgroundInit s fun t => t = s) ∧
  (∀ (err : List (Fin 8 × MemErr)) (s : State), (ddrState s ≠ 2 ∨ inlineEcc s = false ∨ rdB s rDDR_CFG 19 = false ∨ ddrWaits s = true) →
    Completes (.patrolRead err) s fun t => t = s) ∧
  (∀ (err : List (Fin 8 × MemErr)) (s : State), ddrState s = 2 → inlineEcc s = true → rdB s rDDR_CFG 19 = true → ddrBlocks s ≠ 0 →
    ddrWaits s = false →
    Completes (.patrolRead err) s fun t =>
      t.ddr.patrol = (if ddrBlocks s * 16384 ≤ s.ddr.patrol + 1 then 0 else s.ddr.patrol + 1) ∧
      rdn t (rDDR_CNT 9) = (if ddrBlocks s * 16384 ≤ s.ddr.patrol + 1 then satN 32 (rdn s (rDDR_CNT 9) + 1) else rdn s (rDDR_CNT 9)) ∧
      t.mem = s.mem) ∧
  (∀ (r0 r1 r2 r3 r4 r5 : RefreshRate) (f : BitVec 8) (s : State), ddrState s = 2 →
    Completes (.mr4Poll r0 r1 r2 r3 r4 r5 f) s fun t =>
      (rdF t rDDR_STATUS 6 4 = 4 ↔ [r0, r1, r2, r3, r4, r5].contains .x4 = true) ∧
      (rdF t rDDR_STATUS 6 4 = 1 ↔ [r0, r1, r2, r3, r4, r5].all (fun r => decide (r = .x1)) = true) ∧
      (rdF t rDDR_MR4 3 0 = 4 ↔ r0 = .x4) ∧ (rdF t rDDR_MR4 23 20 = 4 ↔ r5 = .x4) ∧ t.mem = s.mem) ∧
  (∀ s : State, ddrState s = 2 → s.ddr.deferred = false →
    Completes (.trackingRead false) s fun t =>
      t.ddr.turn = (s.ddr.turn + 1) % 24 ∧ rdn t (rDDR_CNT 7) = satN 32 (rdn s (rDDR_CNT 7) + 1) ∧ Kept [.ddr] [rDDR_CNT 7] s t) ∧
  (∀ s : State, ddrState s = 2 → (s.ddr.lastFull = 0 ∨ s.ddr.lastFull + 100 * aonMs ≤ s.clock.aon + 1) →
    Completes (.trackingRead true) s fun t =>
      ddrState t = 5 ∧ rdn t (rDDR_CNT 8) = satN 32 (rdn s (rDDR_CNT 8) + 1) ∧ t.ddr.deferred = false ∧ t.mem = s.mem) ∧
  (∀ s : State, ddrState s = 2 → s.ddr.lastFull ≠ 0 → s.clock.aon + 1 < s.ddr.lastFull + 100 * aonMs →
    Completes (.trackingRead true) s fun t =>
      t.ddr.deferred = true ∧ ddrState t = 2 ∧ Kept [.ddr] [rDDR_CNT 7] s t) ∧
  (∀ s : State, ddrState s = 2 → s.ddr.deferred = true →
    Completes .deferredFullRetrain s fun t =>
      ddrState t = 5 ∧ rdn t (rDDR_CNT 8) = satN 32 (rdn s (rDDR_CNT 8) + 1) ∧ t.ddr.deferred = false ∧ t.mem = s.mem) ∧
  (∀ s : State, (ddrState s ≠ 2 ∨ s.ddr.deferred = false) → Completes .deferredFullRetrain s fun t => t = s) ∧
  (∀ s : State, ddrState s = 5 → Completes .fullRetrainEnd s fun t =>
    ddrState t = 2 ∧ t.ddr = { s.ddr with blank := true } ∧ Kept [.ddr] [rDDR_STATUS] s t) ∧
  (∀ s : State, ddrState s ≠ 5 → Completes .fullRetrainEnd s fun t => t = s) ∧
  (∀ (ch : Fin 24) (s : State), ddrState s = 2 → s.power.state ≠ .deep →
    (s.ddr.reads ++ s.ddr.readWait ++ s.ddr.writes ++ s.ddr.writeWait).any (fun x => decide ((x.addr - dramBase) / 256 % 24 = ch.val)) = false →
    Completes (.channelPowerDown ch) s fun t => tget false t.ddr.down ch.val = true ∧ Kept [.ddr] [] s t)

/-- TOKEN_REFILL, AVAIL_REPORT and CUT_EPISODE_END -/
def Obligations.BandwidthRegulator : Prop :=
  (∀ s : State,
    Completes .tokenRefill s fun t =>
      (∀ k, k < 4 → (tokens s k + (rdF s (rREGUL_RATE k) 31 16 : Nat) ≤ (tget 0 s.regul.burst k * 1024 : Nat) →
        -(2 : Int) ^ 31 ≤ tokens s k → tget 0 s.regul.burst k < 65536 →
        tokens t k = tokens s k + (rdF s (rREGUL_RATE k) 31 16 : Nat))) ∧
      (∀ k, k < 4 → ((tget 0 s.regul.burst k * 1024 : Nat) < tokens s k + (rdF s (rREGUL_RATE k) 31 16 : Nat) →
        tget 0 s.regul.burst k < 65536 → tokens t k = (tget 0 s.regul.burst k * 1024 : Nat))) ∧
      Kept [] [rREGUL_TOK 0, rREGUL_TOK 1, rREGUL_TOK 2, rREGUL_TOK 3] s t) ∧
  (∀ s : State,
    Completes .availReport s fun t =>
      let rate (k : Nat) : Nat := rdF s (rREGUL_RATE k) 15 0
      let eff (k : Nat) : Nat := rdF t (rREGUL_RATE k) 31 16
      let a := availNow s
      rdn t rREGUL_AVAIL = a % 2 ^ 32 ∧ rdF t rDDR_STATUS 31 16 = a % 65536 ∧
      eff 0 = min (rate 0) a ∧ eff 1 = min (rate 1) (a - eff 0) ∧ eff 2 = min (rate 2) (a - eff 0 - eff 1) ∧
      eff 3 = min (rate 3) (a - eff 0 - eff 1 - eff 2) ∧
      (∀ k, k < 4 → rdF t (rREGUL_RATE k) 15 0 = rate k ∧ rdB t rREGUL_STATUS k = decide (eff k < rate k) ∧
        rdn t (rREGUL_CUT k) = (if eff k < rate k then satN 32 (rdn s (rREGUL_CUT k) + 1) else rdn s (rREGUL_CUT k))) ∧
      ((eff 0 < rate 0 ∨ eff 1 < rate 1) → rdB t rREGUL_STATUS 4 = true) ∧ t.mem = s.mem) ∧
  (∀ s : State, rdF s rREGUL_STATUS 3 0 = 0 →
    Completes .cutEpisodeEnd s fun t => rdB t rREGUL_STATUS 4 = false ∧ Kept [] [rREGUL_STATUS] s t) ∧
  (∀ s : State, rdF s rREGUL_STATUS 3 0 ≠ 0 → Completes .cutEpisodeEnd s fun t => t = s)

/-- PCIE_LINK_UP, PCIE_LINK_RESET, PCIE_CONFIG_REQUEST, PCIE_COMPLETION and PCIE_COMPLETION_TIMEOUT. The ID
numbers, and a read whose next piece cannot go out, are the model's choices (log entries 19 and 68) -/
def Obligations.PcieLinkAndReads : Prop :=
  (∀ (speed : Fin 5) (width : Fin 4) (s : State), domOk s 6 = true → s.pcie.enabled = true → rdB s rPCIE_LINK 0 = false →
    Completes (.pcieLinkUp speed width) s fun t =>
      rdn t rPCIE_LINK = 1 + 2 * (speed.val + 1) + 16 * 2 ^ width.val ∧
      Kept [.pcie] (rPCIE_LINK :: msixRegs) s t) ∧
  (∀ (speed : Fin 5) (width : Fin 4) (s : State), (domOk s 6 = false ∨ s.pcie.enabled = false ∨ rdB s rPCIE_LINK 0 = true) →
    Completes (.pcieLinkUp speed width) s fun t => t = s) ∧
  (∀ s : State, domOk s 6 = true →
    Completes .pcieLinkReset s fun t =>
      rdn t rPCIE_LINK = 0 ∧ t.pcie.memEn = false ∧ t.pcie.busMaster = false ∧ t.pcie.msixEn = false ∧ t.pcie.bar0 = 0 ∧
      t.pcie.bar2 = 0 ∧ t.pcie.reads = [] ∧ t.pcie.wait = [] ∧ t.pcie.enabled = s.pcie.enabled ∧ t.flash = s.flash ∧
      rdn t (rPCIE_CNT 0) = (if rdB s rPCIE_LINK 0 then satN 32 (rdn s (rPCIE_CNT 0) + 1) else rdn s (rPCIE_CNT 0)) ∧
      ((∀ c : Fin 32, (dmaCh s c).phase ≠ .merge) → t.mem = s.mem)) ∧
  (∀ s : State, domOk s 6 = false → Completes .pcieLinkReset s fun t => t = s) ∧
  (∀ (q : CfgReq) (s : State), domOk s 6 = true → rdB s rPCIE_LINK 0 = true →
    Completes (.pcieConfigRequest q) s fun t =>
      t.resp.err = false ∧ Kept [.pcie, .resp, .free] (rPCIE_LINK :: msixRegs) s t) ∧
  (∀ (q : CfgReq) (s : State), (domOk s 6 = false ∨ rdB s rPCIE_LINK 0 = false) →
    Completes (.pcieConfigRequest q) s fun t => t = s) ∧
  (∀ (b2 : Bool) (s : State), domOk s 6 = true → rdB s rPCIE_LINK 0 = true →
    ∀ p ∈ [(CfgReq.readIds, [0x96400000 + s.fuses.vendor]), (.readSubsystem, [s.fuses.subVendor + s.fuses.subId * 2 ^ 16]),
        (.readSerial, [s.fuses.serial, s.fuses.serial / 2 ^ 32]),
        (.readBar b2, (fun v => [v, v / 2 ^ 32]) (if b2 then s.pcie.bar2 + 0xC else s.pcie.bar0 + 4)),
        (.readCommand, [2 * b2n s.pcie.memEn + 4 * b2n s.pcie.busMaster]), (.readControl, [s.pcie.mps, s.pcie.mrrs]),
        (.readMsix, [63 + 0x4000 * b2n s.pcie.fmask + 0x8000 * b2n s.pcie.msixEn]),
        (.readPower, [3 * b2n (rdB s rPCIE_LINK 8)]), (.writeOther, [])],
      Completes (.pcieConfigRequest p.1) s fun t => t.resp = { data := p.2.map w32, err := false } ∧ Kept [.resp] [] s t) ∧
  (∀ s : State, domOk s 6 = true → rdB s rPCIE_LINK 0 = true →
    Completes (.pcieConfigRequest .readClass) s (fun t =>
      (∃ x, t.resp.data = [x] ∧ x.toNat / 256 = 0x120000) ∧ Kept [.resp, .free] [] s t) ∧
    Completes (.pcieConfigRequest .readOther) s (fun t => Kept [.resp, .free] [] s t)) ∧
  (∀ (b2 : Bool) (v : BitVec 64) (s : State), domOk s 6 = true → rdB s rPCIE_LINK 0 = true →
    Completes (.pcieConfigRequest (.writeBar b2 v)) s fun t =>
      t.pcie = (if b2 then { s.pcie with bar2 := v.toNat / 2 ^ 34 * 2 ^ 34 }
        else { s.pcie with bar0 := v.toNat / 2 ^ 28 * 2 ^ 28 }) ∧ Kept [.pcie, .resp] [] s t) ∧
  (∀ (m : Fin 3) (r : Fin 6) (s : State), domOk s 6 = true → rdB s rPCIE_LINK 0 = true →
    Completes (.pcieConfigRequest (.writeControl m r)) s fun t =>
      t.pcie = { s.pcie with mps := 128 * 2 ^ m.val, mrrs := 128 * 2 ^ r.val } ∧ Kept [.pcie, .resp] [] s t) ∧
  (∀ (m b : Bool) (s : State), domOk s 6 = true → rdB s rPCIE_LINK 0 = true →
    Completes (.pcieConfigRequest (.writeCommand m b)) s (fun t =>
      t.pcie.memEn = m ∧ t.pcie.busMaster = b ∧ t.pcie.bar0 = s.pcie.bar0 ∧ t.pcie.bar2 = s.pcie.bar2 ∧
      Kept [.pcie, .resp] msixRegs s t) ∧
    Completes (.pcieConfigRequest (.writeMsix m b)) s (fun t =>
      t.pcie.msixEn = m ∧ t.pcie.fmask = b ∧ t.pcie.bar0 = s.pcie.bar0 ∧ t.pcie.bar2 = s.pcie.bar2 ∧
      Kept [.pcie, .resp] msixRegs s t) ∧
    Completes (.pcieConfigRequest (.writePower m)) s (fun t =>
      rdB t rPCIE_LINK 8 = m ∧ rdB t rPCIE_LINK 0 = true ∧ Kept [.pcie, .resp] (rPCIE_LINK :: msixRegs) s t)) ∧
  (∀ (tag : Fin 1024) (ok ep : Bool) (data : List Byte) (s : State), readOf s tag = none →
    Completes (.pcieCompletion tag ok data ep) s (fun t => t = s) ∧ Completes (.pcieCompletionTimeout tag) s fun t => t = s) ∧
  (∀ (tag : Fin 1024) (ok ep : Bool) (data : List Byte) (s : State) (r : PcieRead), readOf s tag = some r →
    ∀ c ∈ [Instr.pcieCompletion tag ok data ep, .pcieCompletionTimeout tag],
      Completes c s fun t =>
        t.pcie.bar0 = s.pcie.bar0 ∧ t.pcie.bar2 = s.pcie.bar2 ∧ t.pcie.memEn = s.pcie.memEn ∧
        t.pcie.busMaster = s.pcie.busMaster ∧ t.pcie.msixEn = s.pcie.msixEn ∧ t.flash = s.flash ∧
        rd t rPCIE_LINK = rd s rPCIE_LINK ∧
        rdn t (rPCIE_CNT 1) = (if c = .pcieCompletionTimeout tag then satN 32 (rdn s (rPCIE_CNT 1) + 1) else rdn s (rPCIE_CNT 1))) ∧
  (∀ (tag : Fin 1024) (ep : Bool) (data : List Byte) (s : State) (r : PcieRead) (p : Nat × Nat) (q : List (Nat × Nat)),
    readOf s tag = some r → r.rest = p :: q → hostUp s = true →
    Completes (.pcieCompletion tag true data ep) s fun t =>
      readOf t tag = some { r with off := p.1, len := p.2, rest := q, got := cameIn r data ep } ∧
      t.pcie.out = .read tag (hostAddr s p.1) p.2 :: s.pcie.out ∧ Kept [.pcie] [] s t) ∧
  (∀ (tag : Fin 1024) (ep : Bool) (data : List Byte) (s : State) (r : PcieRead), readOf s tag = some r → r.rest = [] →
    (s.pcie.wait = [] ∨ hostUp s = true) → (∀ q ∈ s.pcie.wait, q.tag ≠ tag.val) →
    Completes (.pcieCompletion tag true data ep) s fun t =>
      (∀ n, r.req = .lantern n → readOf t tag = none ∧ Kept [.pcie, .lan] [] s t ∧
        lan t n = hostAnswer tag ((cameIn r data ep).map Prod.fst, !(cameIn r data ep).any Prod.snd) (lan s n)) ∧
      (∀ c, r.req = .dma c → chState s c = 3 → (dmaCh s c).waiting = true →
        readOf t tag = none ∧ Kept [.pcie, .dma] [] s t ∧
        dmaCh t c = { dmaCh s c with waiting := false, got := some (cameIn r data ep) }) ∧
      (r.req = .gone → readOf t tag = none ∧ Kept [.pcie] [] s t)) ∧
  (∀ (tag : Fin 1024) (ep : Bool) (data : List Byte) (s : State) (r : PcieRead), readOf s tag = some r →
    (s.pcie.wait = [] ∨ hostUp s = true) → (∀ q ∈ s.pcie.wait, q.tag ≠ tag.val) →
    ∀ m ∈ [Instr.pcieCompletion tag false data ep, .pcieCompletionTimeout tag],
      Completes m s fun t =>
        (∀ n, r.req = .lantern n → readOf t tag = none ∧ t.mem = s.mem ∧ lan t n = hostAnswer tag ([], false) (lan s n)) ∧
        (∀ c, r.req = .dma c → (dmaCh s c).waiting = true →
          (chState s c = 3 →
            chState t c = 6 ∧ rdF t (rCH_STATUS c) 7 4 = 2 ∧ rdn t (rCH_CNT c 4) = satN 32 (rdn s (rCH_CNT c 4) + 1) ∧
            t.mem = s.mem) ∧
          (chState s c = 1 → (dmaCh s c).phase ≠ .merge →
            chState t c = 6 ∧ rdF t (rCH_STATUS c) 7 4 = 1 ∧ rdn t (rCH_CNT c 4) = satN 32 (rdn s (rCH_CNT c 4) + 1) ∧
            t.mem = s.mem)) ∧
        (r.req = .gone → readOf t tag = none ∧ t.mem = s.mem)) ∧
  (∀ (tag : Fin 1024) (ep : Bool) (data : List Byte) (s : State) (r : PcieRead) (n : Fin 18), readOf s tag = some r →
    r.req = .lantern n → r.rest ≠ [] → hostUp s = false → s.pcie.wait = [] →
    Completes (.pcieCompletion tag true data ep) s fun t =>
      readOf t tag = none ∧ lan t n = hostAnswer tag ([], false) (lan s n) ∧ Kept [.pcie, .lan] [] s t)

/-- PCIE_INBOUND_READ and PCIE_INBOUND_WRITE through BAR0 and BAR2 -/
def Obligations.PcieInbound : Prop :=
  (∀ (off : BitVec 34) (len : Fin 4097) (s : State), pcieHears s = true → pcieClaims s = true → off.toNat + len.val ≤ 2 ^ 28 →
    Completes (.pcieInboundRead false off len) s fun t =>
      t = pcieComplete { data := (regReadBytes .pcie off.toNat len s).1.1, err := (regReadBytes .pcie off.toNat len s).1.2 }
        (regReadBytes .pcie off.toNat len s).2 ∧ t.mem = s.mem) ∧
  (∀ (off : BitVec 34) (len : Fin 4097) (s : State), pcieHears s = true → pcieClaims s = true → off.toNat + len.val ≤ 2 ^ 34 →
    bar2Barred (bar2Addr s off.toNat) len = false → (devRead pcieAgent (bar2Addr s off.toNat) len s).1.err = false →
    Completes (.pcieInboundRead true off len) s fun t =>
      t.pcie.out = .cpl (devRead pcieAgent (bar2Addr s off.toNat) len s).1.data
        (devRead pcieAgent (bar2Addr s off.toNat) len s).1.poison :: (devRead pcieAgent (bar2Addr s off.toNat) len s).2.pcie.out ∧
      t.mem = s.mem ∧ t.sems = s.sems) ∧
  (∀ (off : BitVec 34) (data : List Byte) (s : State), pcieHears s = true → pcieClaims s = true → off.toNat + data.length ≤ 2 ^ 34 →
    data ≠ [] → regionOf (bar2Addr s off.toNat) = .dram → decodesAll s (bar2Addr s off.toNat) data.length = true →
    domOk s 0 = true → poisonedIn s (bar2Addr s off.toNat) data.length = false →
    Completes (.pcieInboundWrite true off data false) s fun t =>
      memBytes t (bar2Addr s off.toNat) data.length = data ∧
      (∀ a, (a < bar2Addr s off.toNat ∨ bar2Addr s off.toNat + data.length ≤ a) → memByte t a = memByte s a) ∧
      rd t (rPCIE_CNT 4) = rd s (rPCIE_CNT 4)) ∧
  (∀ (off : BitVec 34) (data : List Byte) (s : State), pcieHears s = true → pcieClaims s = true → off.toNat + data.length ≤ 2 ^ 28 →
    Completes (.pcieInboundWrite false off data true) s fun t =>
      rdn t (rPCIE_CNT 2) = satN 32 (rdn s (rPCIE_CNT 2) + 1) ∧ t.mem = s.mem ∧ t.flash = s.flash ∧ t.jobs = s.jobs) ∧
  (∀ (bar2 : Bool) (off : BitVec 34) (len : Fin 4097) (s : State), pcieHears s = true → pcieClaims s = false →
    Completes (.pcieInboundRead bar2 off len) s fun t =>
      t.pcie.out = .cplUr :: s.pcie.out ∧ rdn t (rPCIE_CNT 4) = satN 32 (rdn s (rPCIE_CNT 4) + 1) ∧
      Kept [.pcie] [rPCIE_CNT 4] s t) ∧
  (∀ (bar2 ep : Bool) (off : BitVec 34) (data : List Byte) (s : State), pcieHears s = true → pcieClaims s = false →
    Completes (.pcieInboundWrite bar2 off data ep) s fun t =>
      rdn t (rPCIE_CNT 4) = satN 32 (rdn s (rPCIE_CNT 4) + 1) ∧ t.pcie.aer = s.pcie.aer + 1 ∧ Kept [.pcie] [rPCIE_CNT 4] s t) ∧
  (∀ (bar2 ep : Bool) (off : BitVec 34) (len : Fin 4097) (data : List Byte) (s : State), pcieHears s = false →
    Completes (.pcieInboundRead bar2 off len) s (fun t => t = s) ∧
    Completes (.pcieInboundWrite bar2 off data ep) s fun t => t = s)

/-- BAR2_BASE_WRITE, HOST_DOORBELL and MSIX_RAISE -/
def Obligations.DoorbellsAndMessages : Prop :=
  (∀ (ifc : Iface) (v : Word) (s : State), gate ifc true rPCIE_BAR2_BASE s = .open →
    Completes (.bar2BaseWrite ifc v) s fun t =>
      rdF t rPCIE_BAR2_BASE 17 0 = v.toNat % 2 ^ 18 ∧ KeptAccess [] [rPCIE_BAR2_BASE] s t) ∧
  (∀ (ifc : Iface) (v : Word) (s : State), gate ifc true rPCIE_HDB s = .open → v ≠ 0 →
    Completes (.hostDoorbell ifc v) s fun t =>
      rd t rPCIE_HDB_PEND = rd s rPCIE_HDB_PEND ||| v ∧ rdn t (rPCIE_CNT 6) = (rdn s (rPCIE_CNT 6) + 1) % 2 ^ 32 ∧
      (rdB s rPCIE_HDB_CFG 5 = true → lanternActive s (rdF s rPCIE_HDB_CFG 4 0) = true → domOk s 4 = true →
        rdB t (rLC_PEND_LO (rdF s rPCIE_HDB_CFG 4 0)) 17 = true) ∧
      KeptAccess [] [rPCIE_HDB_PEND, rPCIE_CNT 6, rLC_PEND_LO (rdF s rPCIE_HDB_CFG 4 0)] s t) ∧
  (∀ (ifc : Iface) (s : State), gate ifc true rPCIE_HDB s = .open →
    Completes (.hostDoorbell ifc 0) s fun t => KeptAccess [] [] s t) ∧
  (∀ (ifc : Iface) (v : Word) (s : State), gate ifc true rPCIE_MSIX_RAISE s = .open → s.pcie.msixEn = false →
    Completes (.msixRaise ifc v) s fun t =>
      (∀ k, 1 ≤ k → k < 32 → rdB t (rMSIX_PBA 0) k = (rdB s (rMSIX_PBA 0) k || bit v k)) ∧
      rdB t (rMSIX_PBA 0) 0 = rdB s (rMSIX_PBA 0) 0 ∧ KeptAccess [] [rMSIX_PBA 0] s t) ∧
  (∀ (ifc : Iface) (k : Nat) (s : State), 1 ≤ k → k < 32 → gate ifc true rPCIE_MSIX_RAISE s = .open → msixOpen s k = true →
    Completes (.msixRaise ifc (w32 (2 ^ k))) s fun t =>
      t.pcie.out = .msix k (rd64 s (rMSIX_MSG k 0)) (rdn s (rMSIX_MSG k 2)) :: s.pcie.out ∧ rdB t (rMSIX_PBA 0) k = false ∧
      rdn t (rPCIE_CNT 5) = (rdn s (rPCIE_CNT 5) + 1) % 2 ^ 32 ∧ KeptAccess [.pcie] [rMSIX_PBA 0, rPCIE_CNT 5] s t)

/-- Links of the interfaces, and the frames that they take in. -/
def Obligations.LinksAndFrames : Prop :=
  (∀ (k : Fin 9) (s : State), domOk s 5 = true → rdB s (ifPage k) 0 = true →
    Completes (.ethLinkDown k) s fun t =>
      rdn t (ifPage k) = 0 ∧ rdn t (ifPage k + 0x54) = satN 32 (rdn s (ifPage k + 0x54) + 1) ∧ t.mem = s.mem ∧ t.net = s.net ∧
      t.jobs = s.jobs) ∧
  (∀ (k : Fin 9) (s : State), (domOk s 5 = false ∨ rdB s (ifPage k) 0 = false) → Completes (.ethLinkDown k) s fun t => t = s) ∧
  (∀ (k : Fin 9) (fec : Fin 3) (s : State), domOk s 5 = true → ifExists s k = true → rdB s (ifPage k + 4) 0 = true →
    rdB s (ifPage k) 0 = false →
    Completes (.ethLinkUp k fec) s fun t =>
      rdB t (ifPage k) 0 = true ∧ rdF t (ifPage k) 2 1 = ifSpeed s k ∧
      rdF t (ifPage k) 4 3 = (if ifSpeed s k = 1 then 0 else if ifSpeed s k = 2 then fec.val else 2) ∧ Kept [] [ifPage k] s t) ∧
  (∀ (k : Fin 9) (fec : Fin 3) (s : State), (domOk s 5 = false ∨ ifExists s k = false ∨ rdB s (ifPage k + 4) 0 = false ∨
    rdB s (ifPage k) 0 = true) → Completes (.ethLinkUp k fec) s fun t => t = s) ∧
  (∀ (k : Fin 9) (ok : Bool) (b : List Byte) (err : Fin 17) (s : State), ifUp s k = false →
    Completes (.frameReceive k ok b err) s fun t => t = s) ∧
  (∀ (k : Fin 9) (ok : Bool) (b : List Byte) (err : Fin 17) (s : State), ifUp s k = true → 9216 < b.length + 4 →
    Completes (.frameReceive k ok b err) s fun t =>
      rdn t (ifPage k + 0x5C) = satN 32 (rdn s (ifPage k + 0x5C) + 1) ∧ Kept [] [ifPage k + 0x5C] s t) ∧
  (∀ (k : Fin 9) (b : List Byte) (err : Fin 17) (s : State), ifUp s k = true → b.length + 4 ≤ 9216 →
    Completes (.frameReceive k false b err) s fun t =>
      rdn t (ifPage k + 0x48) = satN 32 (rdn s (ifPage k + 0x48) + 1) ∧ Kept [] [ifPage k + 0x48] s t) ∧
  (∀ (k : Fin 9) (b : List Byte) (err : Fin 17) (s : State), ifUp s k = true → b.length + 4 ≤ 9216 →
    (frameParse b).type = 0x8808 → rdB s (ifPage k + 4) 1 = true →
    Completes (.frameReceive k true b err) s fun t =>
      rdn t (ifPage k + 0x58) = satN 32 (rdn s (ifPage k + 0x58) + 1) ∧ Kept [] [ifPage k + 0x58] s t) ∧
  (∀ (k : Fin 9) (b : List Byte) (err : Fin 17) (s : State), ifUp s k = true → b.length + 4 ≤ 9216 →
    ((frameParse b).type ≠ 0x8808 ∨ rdB s (ifPage k + 4) 1 = false) →
    (b.length + 4 < 64 ∨ ((frameParse b).dst ≠ ifMac s k ∧ (frameParse b).dst ≠ 0xFFFFFFFFFFFF ∧ ptpMacs.contains (frameParse b).dst = false) ∨
     (nbit (ifVlan s k) 15 = true ∧ (frameParse b).vid ≠ some (ifVlan s k % 4096)) ∨
     (nbit (ifVlan s k) 15 = false ∧ (frameParse b).vid ≠ none)) →
    Completes (.frameReceive k true b err) s fun t =>
      rdn t (ifPage k + 0x50) = satN 32 (rdn s (ifPage k + 0x50) + 1) ∧ Kept [] [ifPage k + 0x50] s t) ∧
  (∀ (k : Fin 9) (b : List Byte) (err : Fin 17) (s : State), ifUp s k = true → b.length + 4 ≤ 9216 → 64 ≤ b.length + 4 →
    ((frameParse b).type ≠ 0x8808 ∨ rdB s (ifPage k + 4) 1 = false) → (frameParse b).type ≠ 0x88F7 → udpParse (frameParse b) b = none →
    ((frameParse b).dst = ifMac s k ∨ (frameParse b).dst = 0xFFFFFFFFFFFF ∨ ptpMacs.contains (frameParse b).dst = true) →
    (frameParse b).vid = (if nbit (ifVlan s k) 15 then some (ifVlan s k % 4096) else none) → ringRoom s →
    Completes (.frameReceive k true b err) s fun t =>
      rdn t (ifPage k + 0x44) = (rdn s (ifPage k + 0x44) + 1) % 2 ^ 32 ∧
      rdn t rCTP_RXQ_PROD = (rdn s rCTP_RXQ_PROD + 1) % 2 ^ 32 ∧ t.jobs = s.jobs ∧ t.flash = s.flash)

/-- IEEE 1588 time: offsets, path delays, lock, Sync, the step of DTIME and the latched pair. That a 1588 answer is laid out as the standard says is PRESUMED (log entry 63); no clause rests on it. -/
def Obligations.PtpTime : Prop :=
  (∀ (t1 corr : BitVec 64) (err : Fin 17) (s : State), ifUp s (ptpIf s) = true →
    Completes (.ptpSync t1 corr err) s fun t =>
      let off : Int := sext 64 (wrapN 64 ((dtime s : Int) + ((err.val : Int) - 8) - (t1.toNat : Int) - sext 64 corr.toNat)) -
        (rdn s rPTP_MPD : Int)
      rdn t rPTP_OFFSET = wrapN 32 (clampI (-2147483648) 2147483647 off) ∧ rdB t rPTP_STATUS 1 = true ∧
      rdn t (rPTP_CNT 0) = satN 32 (rdn s (rPTP_CNT 0) + 1) ∧
      t.net.ptp.good = (if off.natAbs < rdF s rPTP_THR 15 0 then s.net.ptp.good + 1 else 0) ∧
      (off.natAbs < rdF s rPTP_THR 15 0 → 7 ≤ s.net.ptp.good → rdB t rPTP_STATUS 0 = true) ∧
      (rdF s rPTP_THR 31 16 < off.natAbs → rdF s rPTP_THR 15 0 ≤ off.natAbs → rdB t rPTP_STATUS 0 = false) ∧
      t.mem = s.mem ∧ t.jobs = s.jobs ∧ t.clock = s.clock) ∧
  (∀ (t1 corr : BitVec 64) (err : Fin 17) (s : State), ifUp s (ptpIf s) = false → Completes (.ptpSync t1 corr err) s fun t => t = s) ∧
  (∀ (port : BitVec 80) (q : BitVec 16) (corr : BitVec 64) (err : Fin 17) (s : State), ifUp s (ptpIf s) = true →
    ptpMaster s = true → ptpP2p s = false →
    Completes (.ptpDelayExchange (.delayReq port q corr) err) s fun t =>
      t.net.sent.length = s.net.sent.length + 1 ∧ rdn t (rPTP_CNT 2) = satN 32 (rdn s (rPTP_CNT 2) + 1) ∧
      Kept [.net] [rPTP_CNT 2, ifPage (ptpIf s) + 0x40] s t) ∧
  (∀ (port : BitVec 80) (q : BitVec 16) (corr : BitVec 64) (err : Fin 17) (s : State),
    (ifUp s (ptpIf s) = false ∨ ptpMaster s = false ∨ ptpP2p s = true) →
    Completes (.ptpDelayExchange (.delayReq port q corr) err) s fun t => t = s) ∧
  (∀ (port : BitVec 80) (q : BitVec 16) (corr : BitVec 64) (err : Fin 17) (s : State), ifUp s (ptpIf s) = true → ptpP2p s = true →
    Completes (.ptpDelayExchange (.pdelayReq port q corr) err) s fun t =>
      t.net.sent.length = s.net.sent.length + (if ptpOneStep s then 1 else 2) ∧
      rdn t (rPTP_CNT 2) = satN 32 (rdn s (rPTP_CNT 2) + 1) ∧
      Kept [.net, .free] [rPTP_CNT 2, ifPage (ptpIf s) + 0x40] s t) ∧
  (∀ (q : BitVec 16) (t4 corr : BitVec 64) (err : Fin 17) (s : State) (t3 : Int), ifUp s (ptpIf s) = true → ptpP2p s = false →
    s.net.ptp.req = some (q.toNat, t3) →
    Completes (.ptpDelayExchange (.delayResp q t4 corr) err) s fun t =>
      let x := (s.net.ptp.t2 - s.net.ptp.t1) + sext 64 (wrapN 64 ((t4.toNat : Int) - t3)) - sext 64 corr.toNat
      t.net.ptp.req = none ∧ rdn t (rPTP_CNT 2) = satN 32 (rdn s (rPTP_CNT 2) + 1) ∧
      (x % 2 = 0 → 0 ≤ x → x < 2 ^ 33 → rdn t rPTP_MPD = (x / 2).toNat) ∧ Kept [.net, .free] [rPTP_CNT 2, rPTP_MPD] s t) ∧
  (∀ (q : BitVec 16) (t2 t3 corr : BitVec 64) (err : Fin 17) (s : State) (t1 : Int), ifUp s (ptpIf s) = true → ptpP2p s = true →
    s.net.ptp.req = some (q.toNat, t1) →
    Completes (.ptpDelayExchange (.pdelayResp q t2 t3 corr) err) s fun t =>
      let x := (dtime s : Int) + ((err.val : Int) - 8) - t1 - sext 64 (wrapN 64 ((t3.toNat : Int) - t2.toNat)) - sext 64 corr.toNat
      t.net.ptp.req = none ∧ rdn t (rPTP_CNT 2) = satN 32 (rdn s (rPTP_CNT 2) + 1) ∧
      (x % 2 = 0 → 0 ≤ x → x < 2 ^ 33 → rdn t rPTP_MPD = (x / 2).toNat) ∧ Kept [.net, .free] [rPTP_CNT 2, rPTP_MPD] s t) ∧
  (∀ (q : BitVec 16) (a b c : BitVec 64) (err : Fin 17) (s : State), s.net.ptp.req = none →
    Completes (.ptpDelayExchange (.delayResp q a c) err) s (fun t => t = s) ∧
    Completes (.ptpDelayExchange (.pdelayResp q a b c) err) s fun t => t = s) ∧
  (∀ (err : Fin 17) (s : State), ptpMaster s = true → ifUp s (ptpIf s) = true →
    Completes (.syncSendTimer err) s fun t =>
      t.net.sent.length = s.net.sent.length + (if ptpOneStep s then 1 else 2) ∧
      rdn t (rPTP_CNT 1) = satN 32 (rdn s (rPTP_CNT 1) + 1) ∧ Kept [.net] [rPTP_CNT 1, ifPage (ptpIf s) + 0x40] s t) ∧
  (∀ (err : Fin 17) (s : State), (ptpMaster s = false ∨ ifUp s (ptpIf s) = false) →
    Completes (.syncSendTimer err) s fun t => t = s) ∧
  (∀ s : State, domOk s 5 = true →
    Completes .syncTimeout s fun t =>
      rdB t rPTP_STATUS 0 = false ∧ rdB t rPTP_STATUS 1 = false ∧ t.net.ptp.good = 0 ∧
      rdn t (rPTP_CNT 3) = (if rdB s rPTP_STATUS 0 then satN 32 (rdn s (rPTP_CNT 3) + 1) else rdn s (rPTP_CNT 3)) ∧ t.mem = s.mem) ∧
  (∀ s : State, domOk s 5 = false → Completes .syncTimeout s fun t => t = s) ∧
  (∀ (ifc : Iface) (hi : Word) (s : State), gate ifc true rPTP_STEP_HI s = .open →
    Completes (.ptpStep ifc hi) s fun t =>
      t.clock.dtime = (s.clock.dtime + (latch s ifc rPTP_STEP_LO).toNat + hi.toNat * 2 ^ 32) % 2 ^ 64 ∧
      t.clock.aon = s.clock.aon ∧ KeptAccess [.clock] [] s t) ∧
  (∀ s : State, domOk s 5 = true →
    Completes .pairLatch s fun t =>
      rd64 t rPTP_PAIR_AON_LO = s.clock.aon % 2 ^ 64 ∧ rd64 t rPTP_PAIR_DTIME_LO = dtime s % 2 ^ 64 ∧
      rdn t rPTP_PAIR_SEQ = (rdn s rPTP_PAIR_SEQ + 1) % 2 ^ 32 ∧
      Kept [.net] [rPTP_PAIR_AON_LO, rPTP_PAIR_AON_LO + 4, rPTP_PAIR_DTIME_LO, rPTP_PAIR_DTIME_LO + 4, rPTP_PAIR_SEQ] s t) ∧
  (∀ s : State, domOk s 5 = false → Completes .pairLatch s fun t => t = s)

/-- The checks on arrival and the receive window. That a payload of another form than its type's is a bad header is the model's reading (log entry 64). -/
def Obligations.CtpArrival : Prop :=
  (∀ (b : Bool) (x : Nat × (CtpIn → Instr)) (m : CtpIn) (s : State), x ∈ ctpCommands b → ifUp s m.ifc = false →
    Completes (x.2 m) s fun t => t = s) ∧
  (∀ (b : Bool) (x : Nat × (CtpIn → Instr)) (m : CtpIn) (s : State), x ∈ ctpCommands b → ifUp s m.ifc = true →
    payloadOk (ctpMsgOf m x.1) = false →
    Completes (x.2 m) s fun t => rdn t (rCTP_CNT 11) = satN 32 (rdn s (rCTP_CNT 11) + 1) ∧ Kept [] [rCTP_CNT 11] s t) ∧
  (∀ (b : Bool) (x : Nat × (CtpIn → Instr)) (m : CtpIn) (s : State), x ∈ ctpCommands b → ifUp s m.ifc = true →
    payloadOk (ctpMsgOf m x.1) = true → msgGrouped (ctpMsgOf m x.1) = true → x.1 ≠ 12 → x.1 ≠ 13 →
    msgMember s (ctpPeerOf m) (ctpMsgOf m x.1) = none →
    Completes (x.2 m) s fun t =>
      rdn t (rCTP_CNT 1) = (rdn s (rCTP_CNT 1) + 1) % 2 ^ 32 ∧ rdn t (rCTP_CNT 10) = satN 32 (rdn s (rCTP_CNT 10) + 1) ∧
      Kept [] [rCTP_CNT 1, rCTP_CNT 10] s t) ∧
  (∀ (x : Nat × (CtpIn → Instr)) (m : CtpIn) (s : State) (k : Nat) (a : Assoc) (r : RxState) (y : Nat × CtpMsg),
    x ∈ ctpCommands false → ctpReliable (ctpMsgOf m x.1) = true → ctpMet m x.1 k a s → a.rx = some r →
    r.serial = m.serial.toNat → 2 ^ 32 - 64 ≤ (m.seq.toNat + 2 ^ 32 - r.next) % 2 ^ 32 → m.seq.toNat ∉ r.skipped →
    r.answers.find? (fun y => decide (y.1 = m.seq.toNat)) = some y →
    Completes (x.2 m) s fun t =>
      rdn t (rCTP_CNT 5) = satN 32 (rdn s (rCTP_CNT 5) + 1) ∧ rxOf t k = some r ∧
      Kept [.net] [rCTP_CNT 0, rCTP_CNT 1, rCTP_CNT 5, ifPage m.ifc + 0x40] s t) ∧
  (∀ (x : Nat × (CtpIn → Instr)) (m : CtpIn) (s : State) (k : Nat) (a : Assoc) (r : RxState),
    x ∈ ctpCommands false → ctpReliable (ctpMsgOf m x.1) = true → ctpMet m x.1 k a s → a.rx = some r →
    r.serial = m.serial.toNat → 1 ≤ (m.seq.toNat + 2 ^ 32 - r.next) % 2 ^ 32 → (m.seq.toNat + 2 ^ 32 - r.next) % 2 ^ 32 ≤ 63 →
    r.held.any (fun h => decide (h.msg.seq = m.seq.toNat)) = false →
    Completes (x.2 m) s fun t =>
      (∃ q, rxOf t k = some q ∧ q.next = r.next ∧ q.held.length = r.held.length + 1) ∧
      Kept [.net] [rCTP_CNT 0, rCTP_CNT 1, ifPage m.ifc + 0x40] s t) ∧
  (∀ (x : Nat × (CtpIn → Instr)) (m : CtpIn) (s : State) (k : Nat) (a : Assoc) (r : RxState),
    x ∈ ctpCommands false → ctpReliable (ctpMsgOf m x.1) = true → ctpMet m x.1 k a s → a.rx = some r →
    r.serial = m.serial.toNat → 64 ≤ (m.seq.toNat + 2 ^ 32 - r.next) % 2 ^ 32 →
    (m.seq.toNat + 2 ^ 32 - r.next) % 2 ^ 32 < 2 ^ 32 - 64 →
    Completes (x.2 m) s fun t =>
      rdn t (rCTP_CNT 6) = satN 32 (rdn s (rCTP_CNT 6) + 1) ∧ rxOf t k = some r ∧ Kept [.net] [rCTP_CNT 1, rCTP_CNT 6] s t)

/-- BEACON, ACK, REFUSE and JOIN_RESP -/
def Obligations.BeaconsAndAnswers : Prop :=
  (∀ (m : CtpIn) (s : State) (k j : Nat) (a : Assoc), ctpMet m 1 k a s → peerMember s (ctpPeerOf m) = some j →
    m.member.toNat % 8 = j →
    Completes (.beacon m) s fun t =>
      let now := dtime s
      let back : Int := sext 64 ((leAt 0x20 8 m.payload + 2 ^ 64 - leAt 0x18 8 m.payload) % 2 ^ 64)
      let here : Int := sext 64 ((now + 2 ^ 64 - leAt 8 8 m.payload) % 2 ^ 64)
      (mate t j).tx = leAt 8 8 m.payload ∧ (mate t j).rx = now ∧
      (leAt 0x18 8 m.payload = 0 → (mate t j).theta = (mate s j).theta ∧ (mate t j).delay = (mate s j).delay) ∧
      (leAt 0x18 8 m.payload ≠ 0 → (back - here) % 2 = 0 →
        (mate t j).theta = (back - here) / 2 ∧ (mate t j).delay = (back + here) / 2 ∧
        (-2147483648 ≤ (back - here) / 2 → (back - here) / 2 ≤ 2147483647 → rdn t (rGRP_OFFSET j) = wrapN 32 ((back - here) / 2))) ∧
      (j = 0 → rdB t rGRP_STATUS 8 = true) ∧
      (j = 0 → (grpState s = 1 ∨ grpState s = 4) → t.net.joinSent = true) ∧ t.mem = s.mem ∧ t.jobs = s.jobs) ∧
  (∀ (m : CtpIn) (s : State) (k : Nat) (a : Assoc), ctpMet m 1 k a s → peerMember s (ctpPeerOf m) = none →
    Completes (.beacon m) s fun t => Kept [.net] [rCTP_CNT 1] s t) ∧
  (∀ (m : CtpIn) (s : State) (k : Nat) (a : Assoc) (x : TxMsg), ctpMet m 2 k a s → findTx s k m.seq.toNat = some x → a.backlog = [] →
    Completes (.ack m) s fun t =>
      (∃ b, assoc t k = some b ∧ b.answered = true ∧
        b.unacked = a.unacked.filter (fun y => decide (y.msg.seq ≠ m.seq.toNat))) ∧
      t.net.descs = s.net.descs.map (fun d => if x.desc = some d.num then
        { d with left := d.left - 1, acked := d.acked ||| 2 ^ x.dest } else d) ∧
      Kept [.net] [rCTP_CNT 1] s t) ∧
  (∀ (m : CtpIn) (s : State) (k : Nat) (a : Assoc), ctpMet m 2 k a s → findTx s k m.seq.toNat = none →
    Completes (.ack m) s fun t =>
      rdn t (rCTP_CNT 4) = satN 32 (rdn s (rCTP_CNT 4) + 1) ∧ t.net.descs = s.net.descs ∧ Kept [.net] [rCTP_CNT 1, rCTP_CNT 4] s t) ∧
  (∀ (m : CtpIn) (b : Bool) (s : State) (k n : Nat) (a : Assoc) (x : TxMsg), ctpMet m 9 k a s → findTx s k m.seq.toNat = some x →
    a.backlog = [] → x.desc = some n → leAt 0 1 m.payload ≠ 4 → leAt 0 1 m.payload < 16 →
    Completes (.refuse m b) s fun t =>
      t.net.descs = s.net.descs.map (fun d => if d.num = n then
        { d with left := d.left - 1, status := joinStatus d.status (8 + 256 * leAt 0 1 m.payload) } else d) ∧
      Kept [.net] [rCTP_CNT 1] s t) ∧
  (∀ (m : CtpIn) (s : State) (k n : Nat) (a : Assoc) (x : TxMsg), ctpMet m 9 k a s → findTx s k m.seq.toNat = some x →
    a.backlog = [] → x.desc = some n → leAt 0 1 m.payload = 4 →
    Completes (.refuse m false) s fun t =>
      t.net.descs = s.net.descs.map (fun d => if d.num = n then
        { d with waits := d.waits ++ [(ctpPeerOf m, x.dest)], msg := some { x.msg with seq := 0 } } else d) ∧
      Kept [.net] [rCTP_CNT 1] s t) ∧
  (∀ (m : CtpIn) (s : State) (k n : Nat) (a : Assoc) (x : TxMsg) (d : TxDesc), ctpMet m 9 k a s →
    findTx s k m.seq.toNat = some x → a.backlog = [] → a.unacked.length ≤ 64 → x.desc = some n → leAt 0 1 m.payload = 4 →
    findDesc s n = some d → descStale s d = false →
    Completes (.refuse m true) s fun t =>
      (∃ b y, assoc t k = some b ∧ b.tx = (a.tx + 1) % 2 ^ 32 ∧ b.unacked =
        a.unacked.filter (fun y => decide (y.msg.seq ≠ m.seq.toNat)) ++ [y] ∧ y.retx = 0 ∧ y.msg = { x.msg with seq := a.tx } ∧
        y.desc = x.desc ∧ y.dest = x.dest) ∧
      t.mem = s.mem ∧ t.jobs = s.jobs) ∧
  (∀ (m : CtpIn) (s : State) (k : Nat) (a : Assoc) (x : TxMsg), ctpMet m 13 k a s → findTx s k m.seq.toNat = some x →
    a.backlog = [] → ownMember s ≠ 0 → 1 < groupSize s → leAt 0 1 m.payload = 0 →
    Completes (.joinResp m) s fun t =>
      grpState t = 2 ∧ rdF t rGRP_STATUS 23 16 = leAt 1 1 m.payload ∧
      rdn t (rGRP_CNT 0) = satN 32 (rdn s (rGRP_CNT 0) + 1) ∧ t.mem = s.mem ∧ t.jobs = s.jobs) ∧
  (∀ (m : CtpIn) (s : State) (k : Nat) (a : Assoc) (x : TxMsg), ctpMet m 13 k a s → findTx s k m.seq.toNat = some x →
    a.backlog = [] → ownMember s ≠ 0 → 1 < groupSize s → leAt 0 1 m.payload ≠ 0 → leAt 0 1 m.payload < 16 →
    Completes (.joinResp m) s fun t =>
      grpState t = 5 ∧ rdF t rGRP_STATUS 7 4 = leAt 0 1 m.payload ∧
      rdn t (rGRP_CNT 1) = satN 32 (rdn s (rGRP_CNT 1) + 1) ∧ t.mem = s.mem ∧ t.jobs = s.jobs)

/-- REG_READ and REG_WRITE -/
def Obligations.RegisterAccessOverTheNetwork : Prop :=
  (∀ (m : CtpIn) (s : State) (k : Nat) (a : Assoc) (x : RxState), ctpNext m 4 k a x s →
    Completes (.regRead m) s fun t =>
      ctpAnswered m k { type := 6, seq := m.seq.toNat, channel := m.channel.toNat,
                        payload := (regReads (ifSource m.ifc) m.channel.toNat m.payload (ctpArrived m s)).1 } t ∧
      t.mem = s.mem ∧ t.jobs = s.jobs ∧ t.flash = s.flash) ∧
  (∀ (m : CtpIn) (s : State) (k : Nat) (a : Assoc) (x : RxState) (r : RegRow) (ix : List Nat), ctpNext m 5 k a x s →
    m.channel.toNat = 1 → leAt 0 4 m.payload % 4 = 0 → gate (ifSource m.ifc) true (leAt 0 4 m.payload) s = .open →
    regAt (leAt 0 4 m.payload) = some (r, ix) → r.half = 0 → r.base ∉ ownEffectBases → shadowCtrlOf (leAt 0 4 m.payload) = none →
    deadZ s (leAt 0 4 m.payload) = false → deadIf s (leAt 0 4 m.payload) = false → isLogReg (leAt 0 4 m.payload) = false →
    leAt 0 4 m.payload ∉ [rCTP_CNT 0, rCTP_CNT 1, ifPage m.ifc + 0x40] →
    Completes (.regWrite m) s fun t =>
      rd t (leAt 0 4 m.payload) = (writeValue r (cntWraps r ix) (ownerActive (ifSource m.ifc) r ix s) (rd s (leAt 0 4 m.payload))
        (w32 (leAt 4 4 m.payload)) .none).1 ∧
      ctpAnswered m k { type := 6, seq := m.seq.toNat, channel := 1,
                        payload := (regWrites (ifSource m.ifc) 1 m.payload (ctpArrived m s)).1 } t ∧
      t.mem = s.mem ∧ t.jobs = s.jobs)

/-- REMOTE_WRITE, CREDIT and WRITE_LOST -/
def Obligations.RemoteWritesAndCredit : Prop :=
  (∀ (m : CtpIn) (s : State) (k j : Nat) (a : Assoc) (x : RxState), ctpNext m 7 k a x s → m.channel.toNat < 64 →
    crwOpen s m.channel.toNat = true → msgMember s (ctpPeerOf m) (ctpMsgOf m 7) = some j →
    crwReason s m.channel.toNat j ((crwRange s m.channel.toNat).1 + leAt 0 4 m.payload) (m.payload.length - 8) = 0 →
    rdF s (rCRW_CFG m.channel.toNat) 2 1 = 1 → nbit m.flags.toNat 3 = false → domOk s 0 = true →
    decodesAll s (amBase + ((crwRange s m.channel.toNat).1 + leAt 0 4 m.payload)) (m.payload.length - 8) = true →
    ownsAll s 12 (amBase + ((crwRange s m.channel.toNat).1 + leAt 0 4 m.payload)) (m.payload.length - 8) = true →
    regionOf (amBase + ((crwRange s m.channel.toNat).1 + leAt 0 4 m.payload)) = .am →
    Completes (.remoteWrite m) s fun t =>
      let at_ := amBase + ((crwRange s m.channel.toNat).1 + leAt 0 4 m.payload)
      memBytes t at_ (m.payload.length - 8) = m.payload.drop 8 ∧
      (∀ b, (b < at_ ∨ at_ + (m.payload.length - 8) ≤ b) → memByte t b = memByte s b) ∧
      rdF t (rCRW_CREDITS m.channel.toNat) 15 0 = rdF s (rCRW_CREDITS m.channel.toNat) 15 0 - crwNeed (m.payload.length - 8) ∧
      rdn t (rCRW_USED m.channel.toNat) = satN 32 (rdn s (rCRW_USED m.channel.toNat) + 1) ∧
      ctpAnswered m k { type := 2, seq := m.seq.toNat } t) ∧
  (∀ (m : CtpIn) (s : State) (k j : Nat) (a : Assoc) (x : RxState), ctpNext m 7 k a x s → m.channel.toNat < 64 →
    crwOpen s m.channel.toNat = true → msgMember s (ctpPeerOf m) (ctpMsgOf m 7) = some j →
    crwReason s m.channel.toNat j ((crwRange s m.channel.toNat).1 + leAt 0 4 m.payload) (m.payload.length - 8) ≠ 0 →
    Completes (.remoteWrite m) s fun t =>
      let r := crwReason s m.channel.toNat j ((crwRange s m.channel.toNat).1 + leAt 0 4 m.payload) (m.payload.length - 8)
      rdn t (rCRW_STATUS m.channel.toNat) = r ∧ rdn t (rCRW_REFUSED m.channel.toNat) = satN 32 (rdn s (rCRW_REFUSED m.channel.toNat) + 1) ∧
      ctpAnswered m k { type := 9, seq := m.seq.toNat, channel := m.channel.toNat,
                        payload := leBytes 1 r ++ [0] ++ leBytes 2 (rdF s (rCRW_CREDITS m.channel.toNat) 15 0) } t ∧
      t.mem = s.mem ∧ t.poison = s.poison) ∧
  (∀ (m : CtpIn) (s : State) (k : Nat) (a : Assoc) (x : RxState), ctpNext m 8 k a x s →
    (∀ d ∈ s.net.descs, d.window = m.channel.toNat → ∀ w ∈ d.waits, w.1.addr = m.addr.toNat → w.1.ifc ≠ m.ifc) →
    Completes (.credit m) s fun t =>
      ctpAnswered m k { type := 2, seq := m.seq.toNat } t ∧ t.net.descs = s.net.descs ∧
      Kept [.net] [rCTP_CNT 0, rCTP_CNT 1, ifPage m.ifc + 0x40] s t) ∧
  (∀ (m : CtpIn) (s : State) (k bit : Nat) (a : Assoc) (x : RxState) (d : TxDesc) (w : CtpMsg), ctpNext m 8 k a x s →
    s.net.descs = [d] → d.window = m.channel.toNat → d.waits = [(ctpPeerOf m, bit)] → d.msg = some w → w.type = 7 →
    descStale s d = false → a.unacked = [] → a.backlog = [] →
    Completes (.credit m) s fun t =>
      (∃ b y, assoc t k = some b ∧ b.unacked = [y] ∧ y.msg = { w with seq := a.tx } ∧ y.desc = some d.num ∧ y.dest = bit ∧
        y.retx = 0) ∧
      t.net.descs = [{ d with waits := [], seq := d.seq.or (some a.tx) }] ∧ t.mem = s.mem ∧ t.jobs = s.jobs) ∧
  (∀ (m : CtpIn) (s : State) (k j : Nat) (a : Assoc) (x : RxState), ctpNext m 10 k a x s → m.channel.toNat < 64 →
    crwOpen s m.channel.toNat = true → msgMember s (ctpPeerOf m) (ctpMsgOf m 10) = some j →
    (rdB s (rCRW_CFG m.channel.toNat) 7 = true ∨ rdF s (rCRW_CFG m.channel.toNat) 6 4 = j) →
    leAt 0 4 m.payload + leAt 4 4 m.payload ≤ (crwRange s m.channel.toNat).2 → rdB s (rCRW_CFG m.channel.toNat) 3 = false →
    rdF s (rCRW_CFG m.channel.toNat) 2 1 = 1 → 0 < leAt 4 4 m.payload →
    decodesAll s (amBase + ((crwRange s m.channel.toNat).1 + leAt 0 4 m.payload)) (leAt 4 4 m.payload) = true →
    Completes (.writeLost m) s fun t =>
      poisonedIn t (amBase + ((crwRange s m.channel.toNat).1 + leAt 0 4 m.payload)) (leAt 4 4 m.payload) = true ∧
      ctpAnswered m k { type := 2, seq := m.seq.toNat } t ∧ t.mem = s.mem ∧ t.jobs = s.jobs)

/-- MSG, JOIN, WAKE_AT and LEAVE -/
def Obligations.GroupMessages : Prop :=
  (∀ (m : CtpIn) (s : State) (k : Nat) (a : Assoc) (x : RxState), ctpNext m 11 k a x s → nbit m.flags.toNat 0 = true →
    nbit m.flags.toNat 7 = false → ringRoom s →
    Completes (.msg m) s fun t =>
      rdn t rCTP_RXQ_PROD = (rdn s rCTP_RXQ_PROD + 1) % 2 ^ 32 ∧ ctpAnswered m k { type := 2, seq := m.seq.toNat } t ∧
      t.jobs = s.jobs ∧ t.flash = s.flash) ∧
  (∀ (m : CtpIn) (s : State) (k : Nat) (a : Assoc), ctpMet m 11 k a s → nbit m.flags.toNat 0 = false →
    nbit m.flags.toNat 7 = false → ringRoom s →
    Completes (.msg m) s fun t => rdn t rCTP_RXQ_PROD = (rdn s rCTP_RXQ_PROD + 1) % 2 ^ 32 ∧ t.jobs = s.jobs) ∧
  (∀ (m : CtpIn) (s : State) (k : Nat) (a : Assoc) (x : RxState), ctpNext m 11 k a x s → nbit m.flags.toNat 0 = true →
    nbit m.flags.toNat 7 = false → ¬ ringRoom s →
    Completes (.msg m) s fun t =>
      rdn t (rCTP_CNT 14) = satN 32 (rdn s (rCTP_CNT 14) + 1) ∧ rxOf t k = some x ∧ Kept [.net] [rCTP_CNT 1, rCTP_CNT 14] s t) ∧
  (∀ (m : CtpIn) (s : State) (k : Nat) (a : Assoc) (x : RxState), ctpNext m 11 k a x s → nbit m.flags.toNat 0 = true →
    nbit m.flags.toNat 7 = true → genOk s (m.slot.toNat % 16) m.gen.toNat = false →
    Completes (.msg m) s fun t =>
      rdn t (rCTP_CNT 9) = satN 32 (rdn s (rCTP_CNT 9) + 1) ∧ ctpAnswered m k { type := 2, seq := m.seq.toNat } t ∧
      Kept [.net] [rCTP_CNT 0, rCTP_CNT 1, rCTP_CNT 9, ifPage m.ifc + 0x40] s t) ∧
  (∀ (m : CtpIn) (s : State) (k : Nat) (a : Assoc) (x : RxState), ctpNext m 12 k a x s → joinReason (ctpMsgOf m 12) s = 0 →
    Completes (.join m) s fun t =>
      let j := leAt 41 1 m.payload
      let e := if (mate s j).epoch = 255 then 1 else (mate s j).epoch + 1
      memberBit t j = true ∧ (mate t j).epoch = e ∧ (mate t j).serial = m.serial.toNat ∧
      ctpAnswered m k { type := 13, seq := m.seq.toNat, payload := leBytes 1 0 ++ leBytes 1 e } t ∧
      Kept [.net] [rCTP_CNT 0, rCTP_CNT 1, rGRP_STATUS, rGRP_CNT 0, ifPage m.ifc + 0x40] s t) ∧
  (∀ (m : CtpIn) (s : State) (k : Nat) (a : Assoc) (x : RxState), ctpNext m 12 k a x s → joinReason (ctpMsgOf m 12) s ≠ 0 →
    Completes (.join m) s fun t =>
      ctpAnswered m k { type := 13, seq := m.seq.toNat, payload := leBytes 1 (joinReason (ctpMsgOf m 12) s) ++ leBytes 1 0 } t ∧
      t.net.mates = s.net.mates ∧ Kept [.net] [rCTP_CNT 0, rCTP_CNT 1, rGRP_CNT 1, ifPage m.ifc + 0x40] s t) ∧
  (∀ (m : CtpIn) (s : State) (k : Nat) (a : Assoc) (x : RxState), ctpNext m 14 k a x s →
    Completes (.wakeAt m) s fun t =>
      rd64 t rGRP_WAKE_T_LO = leAt 0 8 m.payload ∧
      (dtime s + 60000 ≤ leAt 0 8 m.payload → t.net.wakeAsked = false ∧ t.power = s.power) ∧
      (leAt 0 8 m.payload < dtime s + 60000 → leAt 0 8 m.payload ≠ 0 →
        t.net.wakeAsked = true ∧ rdn t (rPWR_CNT 1) = satN 32 (rdn s (rPWR_CNT 1) + 1) ∧
        rdn t (rGRP_CNT 3) = satN 32 (rdn s (rGRP_CNT 3) + 1)) ∧
      ctpAnswered m k { type := 2, seq := m.seq.toNat } t ∧ t.mem = s.mem ∧ t.jobs = s.jobs) ∧
  (∀ (m : CtpIn) (s : State) (k j : Nat) (a : Assoc) (x : RxState), ctpNext m 15 k a x s → grpState s = 3 →
    peerMember s (ctpPeerOf m) = some j →
    Completes (.leave m) s fun t =>
      memberBit t j = false ∧ ctpAnswered m k { type := 2, seq := m.seq.toNat } t ∧
      Kept [.net] [rCTP_CNT 0, rCTP_CNT 1, rGRP_STATUS, ifPage m.ifc + 0x40] s t)

/-- What the commands of the send ring do. That a destination which is not in use makes a descriptor ill-formed is the model's reading (log entry 61). -/
def Obligations.SendRing : Prop :=
  (∀ (s : State) (k j : Nat) (p : Peer) (a : Assoc) (b : List Byte), sendReady 3 k j p a b s → deviceOos s = false →
    fitsMtu s p (leAt 0xC 2 b) true = true → (cuEntry s (leAt 2 1 b % 4) (rdF s (rCTP_DEST_CFG k) 31 16)).isSome = true →
    Completes .sendDecision s fun t =>
      sentReliably 3 k j a b s t ∧ t.net.lastDecided = decisionJob (sentPayload 3 b s) ∧
      (∀ q, decisionSlot s (leAt 4 1 b) (leAt 5 1 b) (decisionJob (sentPayload 3 b s)) = some q →
        (job t q).state = (if (job s q).state = .abandoned then .abandoned else .sent) ∧ (job t q).sentAt = s.clock.aon)) ∧
  (∀ (s : State) (k j : Nat) (p : Peer) (a : Assoc) (b : List Byte), sendReady 7 k j p a b s →
    fitsMtu s p (8 + leAt 0xC 2 b) (nbit (leAt 1 1 b) 2) = true →
    (nbit (leAt 1 1 b) 2 = true → (cuEntry s (leAt 2 1 b % 4) (leAt 0x1C 2 b)).isSome = true) →
    Completes .sendRemoteWrite s fun t => sentReliably 7 k j a b s t ∧ t.jobs = s.jobs) ∧
  (∀ (s : State) (k j : Nat) (p : Peer) (a : Assoc) (b : List Byte), sendReady 0xB k j p a b s →
    nbit (leAt 1 1 b) 0 = true → fitsMtu s p (leAt 0xC 2 b) (nbit (leAt 1 1 b) 2) = true →
    (nbit (leAt 1 1 b) 2 = true → (cuEntry s (leAt 2 1 b % 4) (leAt 0x1C 2 b)).isSome = true) →
    Completes .sendMsg s fun t => sentReliably 0xB k j a b s t ∧ t.jobs = s.jobs) ∧
  (∀ (s : State) (k j : Nat) (p : Peer) (a : Assoc) (b : List Byte), sendReady 0xB k j p a b s →
    nbit (leAt 1 1 b) 0 = false → fitsMtu s p (leAt 0xC 2 b) (nbit (leAt 1 1 b) 2) = true →
    (nbit (leAt 1 1 b) 2 = true → (cuEntry s (leAt 2 1 b % 4) (leAt 0x1C 2 b)).isSome = true) → ifUp s p.ifc = true →
    s.net.hold = false → s.net.skip = false →
    Completes .sendMsg s fun t =>
      t.net.sent.length = s.net.sent.length + 1 ∧ t.net.taken = (s.net.taken + 1) % 2 ^ 32 ∧
      (∃ c, assoc t j = some c ∧ c.unacked = a.unacked) ∧
      (∃ d, findDesc t (nextNum s) = some d ∧ d.left = 0 ∧ d.mask = 2 ^ k) ∧ t.mem = s.mem ∧ t.jobs = s.jobs) ∧
  (∀ (s : State) (k j : Nat) (p : Peer) (a : Assoc) (b : List Byte), sendReady 0xE k j p a b s →
    fitsMtu s p 8 (nbit (leAt 1 1 b) 2) = true →
    (nbit (leAt 1 1 b) 2 = true → (cuEntry s (leAt 2 1 b % 4) (leAt 0x1C 2 b)).isSome = true) →
    Completes .sendWakeAt s fun t => sentReliably 0xE k j a b s t ∧ t.jobs = s.jobs) ∧
  (∀ (s : State) (x : Nat × Instr), x ∈ sendCommands → deviceOos s = false → domOk s 5 = true → s.net.taken ≠ rdn s rCTP_TXQ_PROD →
    (regionOf (txHead s) = .am ∨ regionOf (txHead s) = .dram) → decodesAll s (txHead s) 64 = true → cleanRead s (txHead s) 64 →
    (memByte s (txHead s)).toNat = x.1 → descBad s (memBytes s (txHead s) 64) = true →
    Completes x.2 s fun t =>
      rdn t (rCTP_CNT 15) = satN 32 (rdn s (rCTP_CNT 15) + 1) ∧ t.net.taken = (s.net.taken + 1) % 2 ^ 32 ∧ t.jobs = s.jobs) ∧
  (∀ (s : State) (x : Nat × Instr), x ∈ sendCommands → (domOk s 5 = false ∨ s.net.taken = rdn s rCTP_TXQ_PROD) →
    Completes x.2 s fun t => t = s) ∧
  (∀ s : State, deviceOos s = true → Completes .sendDecision s fun t => t = s)

/-- DESCRIPTOR_COMPLETE_CTP, CREDIT_WAIT_EXPIRY, RETRANSMIT_TIMER, DELIVERY_FAILURE and GAP_SKIP -/
def Obligations.DescriptorsAndRetries : Prop :=
  (∀ (k : Fin 4096) (s : State) (d : TxDesc), txDescAt s k = some d → domOk s 5 = true → d.left = 0 →
    Completes (.descriptorCompleteCtp k) s fun t =>
      (∀ x ∈ t.net.descs, x.num ≠ d.num) ∧ (∀ x ∈ s.net.descs, x.num ≠ d.num → x ∈ t.net.descs) ∧
      (d.job = none → t.jobs = s.jobs) ∧ (d.idx = none → t.mem = s.mem) ∧
      (∀ q, d.job = some q → ((job s q).state = .sent ∨ (job s q).state = .abandoned) →
        (job t q).gen = ((job s q).gen + 1) % 256 ∧ (job t q).state = .cooling) ∧
      (d.idx ≠ none → regionOf (d.at_ + 0x38) = .am → decodesAll s (d.at_ + 0x38) 8 = true → ownsAll s 12 (d.at_ + 0x38) 8 = true →
        memBytes t (d.at_ + 0x38) 8 = leBytes 4 (d.seq.getD 0) ++ leBytes 4
          (1 + 2 * b2n (decide (d.mask ≠ 0 ∧ d.acked = d.mask ∧ nfld d.status 4 2 = 0)) + d.status + d.acked * 0x1000) ∧
        ∀ b, (b < d.at_ + 0x38 ∨ d.at_ + 0x40 ≤ b) → memByte t b = memByte s b)) ∧
  (∀ (k : Fin 4096) (s : State), (txDescAt s k = none ∨ domOk s 5 = false) →
    Completes (.descriptorCompleteCtp k) s (fun t => t = s) ∧ Completes (.creditWaitExpiry k) s fun t => t = s) ∧
  (∀ (k : Fin 4096) (s : State) (d : TxDesc), txDescAt s k = some d → d.left ≠ 0 →
    Completes (.descriptorCompleteCtp k) s fun t => t = s) ∧
  (∀ (k : Fin 4096) (s : State) (d : TxDesc), txDescAt s k = some d → domOk s 5 = true → d.waits ≠ [] →
    Completes (.creditWaitExpiry k) s fun t =>
      (∀ x ∈ t.net.descs, x.num ≠ d.num) ∧ (d.job = none → t.jobs = s.jobs) ∧ (d.idx = none → t.mem = s.mem) ∧
      (d.idx ≠ none → regionOf (d.at_ + 0x38) = .am → decodesAll s (d.at_ + 0x38) 8 = true → ownsAll s 12 (d.at_ + 0x38) 8 = true →
        memBytes t (d.at_ + 0x3C) 4 = leBytes 4 (1 + 2 * b2n (decide (d.mask ≠ 0 ∧ d.acked = d.mask ∧
          nfld (joinStatus d.status 0x408) 4 2 = 0)) + joinStatus d.status 0x408 + d.acked * 0x1000))) ∧
  (∀ (k : Fin 4096) (s : State) (d : TxDesc), txDescAt s k = some d → d.waits = [] →
    Completes (.creditWaitExpiry k) s fun t => t = s) ∧
  (∀ (k : Fin 64) (q : Word) (s : State) (a : Assoc) (x : TxMsg), domOk s 5 = true → assoc s k = some a →
    findTx s k q.toNat = some x → x.retx < 3 → x.out = true → (∀ n, x.desc = some n → ∃ d, findDesc s n = some d ∧ descStale s d = false) →
    Completes (.retransmitTimer k q) s fun t =>
      (findTx t k q.toNat).map (fun y => y.retx) = some (x.retx + 1) ∧ rdn t (rCTP_CNT 2) = (rdn s (rCTP_CNT 2) + 1) % 2 ^ 32 ∧
      (ifUp s a.peer.ifc = true → s.net.hold = false → s.net.skip = false → t.net.sent.length = s.net.sent.length + 1) ∧
      Kept [.net] [rCTP_CNT 0, rCTP_CNT 2, ifPage a.peer.ifc + 0x40] s t) ∧
  (∀ (k : Fin 64) (q : Word) (s : State), (domOk s 5 = false ∨ findTx s k q.toNat = none) →
    Completes (.retransmitTimer k q) s (fun t => t = s) ∧ Completes (.deliveryFailure k q) s fun t => t = s) ∧
  (∀ (k : Fin 64) (q : Word) (s : State) (x : TxMsg), findTx s k q.toNat = some x →
    (3 ≤ x.retx ∨ x.out = false → Completes (.retransmitTimer k q) s fun t => t = s) ∧
    (x.retx ≠ 3 → Completes (.deliveryFailure k q) s fun t => t = s)) ∧
  (∀ (k : Fin 64) (q : Word) (s : State) (a : Assoc) (x : TxMsg), domOk s 5 = true → assoc s k = some a → a.backlog = [] →
    findTx s k q.toNat = some x → x.retx = 3 → x.msg.type ≠ 7 →
    Completes (.deliveryFailure k q) s fun t =>
      findTx t k q.toNat = none ∧ rdn t (rCTP_CNT 3) = satN 32 (rdn s (rCTP_CNT 3) + 1) ∧ t.mem = s.mem ∧ t.jobs = s.jobs ∧
      t.net.descs = s.net.descs.map (fun d => if x.desc = some d.num then
        { d with left := d.left - 1, status := d.status ||| 4 } else d)) ∧
  (∀ (k : Fin 64) (q : Word) (s : State) (a : Assoc) (x : TxMsg), domOk s 5 = true → assoc s k = some a → a.backlog = [] →
    a.unacked = [x] → x.msg.seq = q.toNat → x.retx = 3 → x.msg.type = 7 →
    Completes (.deliveryFailure k q) s fun t =>
      rdn t (rCTP_CNT 3) = satN 32 (rdn s (rCTP_CNT 3) + 1) ∧ t.mem = s.mem ∧ t.jobs = s.jobs ∧
      ∃ c y, assoc t k = some c ∧ c.unacked = [y] ∧ y.desc = none ∧ y.msg.type = 10 ∧ y.msg.channel = x.msg.channel ∧
        y.msg.payload = x.msg.payload.take 4 ++ leBytes 4 (x.msg.payload.length - 8)) ∧
  (∀ (k : Fin 64) (s : State) (a : Assoc) (x : RxState) (h : HeldMsg), domOk s 5 = true → assoc s k = some a → a.rx = some x →
    x.held = [h] → x.next < 2 ^ 32 → h.msg.seq < 2 ^ 32 → (h.msg.seq + 2 ^ 32 - x.next) % 2 ^ 32 ≤ 63 → h.msg.type ≠ 5 → h.msg.type ≠ 4 →
    Completes (.gapSkip k) s fun t =>
      rdn t (rCTP_CNT 7) = satN 32 (rdn s (rCTP_CNT 7) + (h.msg.seq + 2 ^ 32 - x.next) % 2 ^ 32) ∧
      (rxOf t k).map (fun y => (y.next, y.held)) = some ((h.msg.seq + 1) % 2 ^ 32, []) ∧
      (∀ y, rxOf t k = some y → ∀ i, i < (h.msg.seq + 2 ^ 32 - x.next) % 2 ^ 32 → (x.next + i) % 2 ^ 32 ∈ y.skipped)) ∧
  (∀ (k : Fin 64) (s : State), (domOk s 5 = false ∨ rxOf s k = none ∨ (rxOf s k).map (fun x => x.held) = some []) →
    Completes (.gapSkip k) s fun t => t = s)

/-- BEACON_TIMER, PEER_LOSS, JOIN_RETRY, group wake commands, GROUP_REJOIN and GROUP_LEAVE -/
def Obligations.GroupAndBeacons : Prop :=
  (∀ s : State, domOk s 5 = true → s.fuses.keeperBad % 4 = 0 → (isReady s = true ∨ deviceOos s = true) →
    Completes .beaconTimer s fun t =>
      t.net.beacons = (s.net.beacons + 1) % 2 ^ 32 ∧ t.mem = s.mem ∧ t.jobs = s.jobs ∧
      ((∀ p ∈ beaconPeers s, (findAssoc s p.1).isSome = true ∧ ifUp s p.1.ifc = true) →
        t.net.sent.length = s.net.sent.length + (beaconPeers s).length ∧
        rdn t (rCTP_CNT 0) = (rdn s (rCTP_CNT 0) + (beaconPeers s).length) % 2 ^ 32)) ∧
  (∀ s : State, (domOk s 5 = false ∨ s.fuses.keeperBad % 4 ≠ 0 ∨ (isReady s = false ∧ deviceOos s = false)) →
    Completes .beaconTimer s fun t => t = s) ∧
  (∀ (m : Fin 8) (s : State), domOk s 5 = true → 1 < groupSize s → memberBit s m = true → grpState s = 3 →
    (mate s m).seen + 12500 ≤ s.clock.aon →
    Completes (.peerLoss m) s fun t =>
      memberBit t m = false ∧ rdn t (rGRP_CNT 2) = satN 32 (rdn s (rGRP_CNT 2) + 1) ∧ grpState t = 3 ∧ t.mem = s.mem ∧
      t.jobs = s.jobs) ∧
  (∀ s : State, domOk s 5 = true → 1 < groupSize s → memberBit s 0 = true → (grpState s = 1 ∨ grpState s = 2 ∨ grpState s = 4) →
    (mate s 0).seen + 12500 ≤ s.clock.aon →
    Completes (.peerLoss 0) s fun t =>
      memberBit t 0 = false ∧ grpState t = 4 ∧ t.net.joinSent = false ∧ rdn t (rGRP_CNT 2) = satN 32 (rdn s (rGRP_CNT 2) + 1) ∧
      t.mem = s.mem ∧ t.jobs = s.jobs) ∧
  (∀ (m : Fin 8) (s : State), (domOk s 5 = false ∨ groupSize s ≤ 1 ∨ memberBit s m = false ∨ s.clock.aon < (mate s m).seen + 12500) →
    Completes (.peerLoss m) s fun t => t = s) ∧
  (∀ (s : State) (k : Nat) (a : Assoc), domOk s 5 = true → 1 < groupSize s → ownMember s ≠ 0 →
    (((grpState s = 1 ∨ grpState s = 4) ∧ s.net.joinSent = true) ∨
     (grpState s = 5 ∧ (rdF s rGRP_STATUS 7 4 = 6 ∨ rdF s rGRP_STATUS 7 4 = 7))) →
    findAssoc s (memberPeer s 0) = some k → assoc s k = some a → a.backlog = [] → a.unacked.length < 64 →
    Completes .joinRetry s fun t =>
      t.net.joinSent = true ∧ (∃ c y, assoc t k = some c ∧ c.unacked = a.unacked ++ [y] ∧ y.msg.type = 12) ∧
      Kept [.net] [rCTP_CNT 0, ifPage (groupIf s) + 0x40] s t) ∧
  (∀ s : State, (domOk s 5 = false ∨ groupSize s ≤ 1 ∨ ownMember s = 0 ∨ grpState s = 0 ∨ grpState s = 2 ∨ grpState s = 3 ∨
    (grpState s = 1 ∧ s.net.joinSent = false)) → Completes .joinRetry s fun t => t = s) ∧
  (∀ s : State, domOk s 5 = true → s.net.wakeAsked = false → rd64 s rGRP_WAKE_T_LO ≠ 0 → rd64 s rGRP_WAKE_T_LO ≤ dtime s + 60000 →
    Completes .groupWakeTimer s fun t =>
      t.net.wakeAsked = true ∧ rdn t (rGRP_CNT 3) = satN 32 (rdn s (rGRP_CNT 3) + 1) ∧
      rdn t (rPWR_CNT 1) = satN 32 (rdn s (rPWR_CNT 1) + 1) ∧ t.mem = s.mem ∧ t.jobs = s.jobs) ∧
  (∀ s : State, (domOk s 5 = false ∨ s.net.wakeAsked = true ∨ rd64 s rGRP_WAKE_T_LO = 0 ∨ dtime s + 60000 < rd64 s rGRP_WAKE_T_LO) →
    Completes .groupWakeTimer s fun t => t = s) ∧
  (∀ s : State, domOk s 5 = true → rd64 s rGRP_WAKE_T_LO ≠ 0 → rd64 s rGRP_WAKE_T_LO ≤ dtime s →
    Completes .groupWakeTest s fun t =>
      rd64 t rGRP_WAKE_T_LO = 0 ∧ t.net.hold = true ∧ t.net.wakeAsked = false ∧
      t.net.slotAt = rd64 s rGRP_WAKE_T_LO + 20000 + 4000 * ownMember s ∧
      (20000 < wakeError s → t.net.skip = true ∧ rdn t (rGRP_CNT 4) = satN 32 (rdn s (rGRP_CNT 4) + 1)) ∧
      (wakeError s ≤ 20000 → t.net.skip = s.net.skip ∧ rdn t (rGRP_CNT 4) = rdn s (rGRP_CNT 4)) ∧ t.mem = s.mem ∧
      t.jobs = s.jobs) ∧
  (∀ s : State, (domOk s 5 = false ∨ rd64 s rGRP_WAKE_T_LO = 0 ∨ dtime s < rd64 s rGRP_WAKE_T_LO) → Completes .groupWakeTest s fun t => t = s) ∧
  (∀ s : State, domOk s 5 = true → s.net.hold = true → s.net.slotAt ≤ dtime s →
    Completes .groupSlotOpen s fun t =>
      t.net.hold = false ∧ (s.net.skip = true → t.net.waiting = s.net.waiting) ∧
      (s.net.skip = false → t.net.waiting = []) ∧
      (s.net.skip = false → (∀ x ∈ s.net.waiting, ifUp s x.1.ifc = true ∧ x.2.2 = none) →
        t.net.sent.length = s.net.sent.length + s.net.waiting.length ∧ t.mem = s.mem ∧ t.jobs = s.jobs) ∧
      (s.net.skip = true → t.mem = s.mem ∧ t.jobs = s.jobs)) ∧
  (∀ s : State, (domOk s 5 = false ∨ s.net.hold = false ∨ dtime s < s.net.slotAt) → Completes .groupSlotOpen s fun t => t = s) ∧
  (∀ (ifc : Iface) (s : State) (k : Nat) (a : Assoc), gate ifc true rGRP_CTRL s = .open → 1 < groupSize s → ownMember s ≠ 0 →
    (grpState s = 4 ∨ grpState s = 5) → findAssoc s (memberPeer s 0) = some k → assoc s k = some a → a.backlog = [] →
    a.unacked.length < 64 →
    Completes (.groupRejoin ifc) s fun t =>
      t.net.joinSent = true ∧ (∃ c y, assoc t k = some c ∧ c.unacked = a.unacked ++ [y] ∧ y.msg.type = 12) ∧
      KeptAccess [.net] [rCTP_CNT 0, ifPage (groupIf s) + 0x40] s t) ∧
  (∀ (ifc : Iface) (s : State), gate ifc true rGRP_CTRL s = .open →
    (groupSize s ≤ 1 ∨ ownMember s = 0 ∨ (grpState s ≠ 4 ∧ grpState s ≠ 5)) →
    Completes (.groupRejoin ifc) s fun t => KeptAccess [] [] s t) ∧
  (∀ (ifc : Iface) (s : State), gate ifc true rGRP_CTRL s = .open → 1 < groupSize s →
    Completes (.groupLeave ifc) s fun t =>
      grpState t = 5 ∧ rdF t rGRP_STATUS 7 4 = 0 ∧ t.mem = s.mem ∧ t.jobs = s.jobs) ∧
  (∀ (ifc : Iface) (s : State), gate ifc true rGRP_CTRL s = .open → groupSize s ≤ 1 →
    Completes (.groupLeave ifc) s fun t => KeptAccess [] [] s t)

/-- DOMAIN_FENCE, DRAIN_COMPLETE, DRAIN_TIMEOUT, DOMAIN_RESTORE_COMPLETE and DOMAIN_RESTORE -/
def Obligations.FencesAndRestores : Prop :=
  (∀ (ifc : Iface) (d : Fin 6) (s : State), gate ifc true (rFLT_DOM (d.val + 1)) s = .open →
    (domState s (d.val + 1) = 0 ∨ domState s (d.val + 1) = 3) →
    Completes (.domainFence ifc d) s fun t =>
      domState t (d.val + 1) = 1 ∧ rdB t (rFLT_DOM (d.val + 1)) 2 = true ∧ fencePhase t (d.val + 1) = .draining ∧
      rdn t (rFLT_CNT 2) = satN 32 (rdn s (rFLT_CNT 2) + 1) ∧ t.prec = s.prec ∧ t.flash = s.flash ∧ t.clock = s.clock ∧
      (d.val = 0 → (∀ x ∈ t.lens.ops, some x.seq = s.lens.tile) ∧ t.lens.tile = s.lens.tile ∧ t.mem = s.mem) ∧ (d.val = 1 → t.secCl = [] ∧ t.secCtx = [])) ∧
  (∀ (ifc : Iface) (d : Fin 6) (s : State), gate ifc true (rFLT_DOM (d.val + 1)) s = .open →
    (domState s (d.val + 1) = 1 ∨ domState s (d.val + 1) = 2) →
    Completes (.domainFence ifc d) s fun t => KeptAccess [] [] s t) ∧
  (∀ (d : Fin 6) (s : State), fencePhase s (d.val + 1) = .draining → resetsInWindow s (d.val + 1) < 4 →
    (drainOwes s (d.val + 1) = false → Completes (.drainComplete d) s (fun t =>
      domState t (d.val + 1) = 2 ∧ fencePhase t (d.val + 1) = .restoring ∧
      tget 0 t.prec.total (d.val + 1) = (tget 0 s.prec.total (d.val + 1) + 1) % 2 ^ 32 ∧
      (d.val = 2 → t.ports = [] ∧ t.frames = []) ∧ (d.val = 3 → t.resv = [] ∧ ∀ n : Fin 18, lan t n = lanCleared (lan s n)))) ∧
    Completes (.drainTimeout d) s fun t =>
      domState t (d.val + 1) = 2 ∧ fencePhase t (d.val + 1) = .restoring ∧ rdB t (rFLT_DOM (d.val + 1)) 4 = true ∧
      rdn t (rFLT_CNT 3) = satN 32 (rdn s (rFLT_CNT 3) + 1)) ∧
  (∀ s : State, s.lens.tile ≠ none → Completes (.drainComplete 0) s fun t => t = s) ∧
  (∀ (errs : List (BitVec 48 × MemErr)) (feed out wload : BitVec 32) (idle : List (BitVec 32)) (s : State) (q : Nat) (o : LensOp),
    fencePhase s 1 = .draining → d0InReset s = false → s.power.state ≠ .nap → s.lens.tile = some q →
    s.lens.ops.find? (fun o => decide (o.seq = q)) = some o →
    Completes (.lensTileBoundary errs feed out wload idle) s fun t =>
      t.lens = {} ∧ drainOwes t 1 = false ∧
      (genOk s o.d.slot o.d.gen = true → rdn t (rLENS_CNT 5) = (rdn s (rLENS_CNT 5) + 1) % 2 ^ 32) ∧
      (genOk s o.d.slot o.d.gen = false → t.mem = s.mem)) ∧
  (∀ (d : Fin 6) (s : State), fencePhase s (d.val + 1) = .draining → drainOwes s (d.val + 1) = false →
    4 ≤ resetsInWindow s (d.val + 1) →
    Completes (.drainComplete d) s fun t =>
      domState t (d.val + 1) = 3 ∧ fencePhase t (d.val + 1) = .none ∧ rdB t (rRWIN_D (d.val + 1)) 3 = true) ∧
  (∀ (d : Fin 6) (s : State), fencePhase s (d.val + 1) ≠ .draining →
    Completes (.drainComplete d) s (fun t => t = s) ∧ Completes (.drainTimeout d) s fun t => t = s) ∧
  (∀ (d : Fin 6) (s : State), fencePhase s (d.val + 1) = .restoring → (d.val = 3 → deviceOos s = false) →
    reloadOk s (d.val + 1) = true → (d.val = 0 → (availOf (repairEntries s (sec s 1))).lensOk = true) →
    Completes (.domainRestoreComplete d) s fun t =>
      domState t (d.val + 1) = 0 ∧ rdB t (rFLT_DOM (d.val + 1)) 2 = false ∧ fencePhase t (d.val + 1) = .none) ∧
  (∀ (d : Fin 6) (s : State), fencePhase s (d.val + 1) = .restoring → (d.val = 3 → deviceOos s = false) →
    reloadOk s (d.val + 1) = false →
    Completes (.domainRestoreComplete d) s fun t => domState t (d.val + 1) = 3 ∧ fencePhase t (d.val + 1) = .none) ∧
  (∀ (d : Fin 6) (s : State), fencePhase s (d.val + 1) ≠ .restoring → Completes (.domainRestoreComplete d) s fun t => t = s) ∧
  (∀ (ifc : Iface) (d : Fin 6) (s : State), gate ifc true (rFLT_DOM (d.val + 1)) s = .open → domState s (d.val + 1) = 3 →
    rdB s (rFLT_DOM (d.val + 1)) 5 = false → rwinCount s (d.val + 1) ≤ 3 →
    Completes (.domainRestore ifc d) s fun t =>
      fencePhase t (d.val + 1) = .restoring ∧ KeptAccess [.fault] [] s t) ∧
  (∀ (ifc : Iface) (d : Fin 6) (s : State), gate ifc true (rFLT_DOM (d.val + 1)) s = .open →
    (domState s (d.val + 1) ≠ 3 ∨ rdB s (rFLT_DOM (d.val + 1)) 5 = true ∨ 3 < rwinCount s (d.val + 1)) →
    Completes (.domainRestore ifc d) s fun t => KeptAccess [] [] s t)

/-- DEVICE_RESET, DEVICE_FATAL_RESET, HEARTBEAT_TICK, OOS_CLEAR and REPAIR_ADD -/
def Obligations.DeviceResetsAndService : Prop :=
  (∀ (ifc : Iface) (env : BootEnv) (s : State), gate ifc true (rFLT_DOM 0) s = .open →
    Completes (.deviceReset ifc env) s fun t =>
      rdn t (rFLT_CNT 4) = satN 32 (rdn s (rFLT_CNT 4) + 1) ∧ isReady t = false ∧
      (∀ k, k < 16 → (job t k).state = .free ∧ (job t k).gen = (job s k).gen) ∧ t.clock.aon = s.clock.aon ∧ t.fuses = s.fuses ∧
      ∀ a, a < 0x2000000 → tget 0xFF t.flash a = tget 0xFF s.flash a) ∧
  (∀ (env : BootEnv) (s : State), s.fault.fatal = true →
    Completes (.deviceFatalReset env) s fun t =>
      rdn t (rFLT_CNT 4) = satN 32 (rdn s (rFLT_CNT 4) + 1) ∧ isReady t = false ∧
      (∀ k, k < 16 → (job t k).state = .free ∧ (job t k).gen = (job s k).gen) ∧ t.clock.aon = s.clock.aon ∧ t.fuses = s.fuses ∧
      ∀ a, a < 0x2000000 → tget 0xFF t.flash a = tget 0xFF s.flash a) ∧
  (∀ (env : BootEnv) (s : State), s.fault.fatal = false → Completes (.deviceFatalReset env) s fun t => t = s) ∧
  (∀ s : State,
    Completes .heartbeatTick s fun t =>
      rdn t rFLT_HEARTBEAT = (if d0InReset s then rdn s rFLT_HEARTBEAT else (rdn s rFLT_HEARTBEAT + 1) % 2 ^ 32) ∧
      Kept [] [rFLT_HEARTBEAT, rPWR_CNT 4, rPWR_CNT 6] s t) ∧
  (∀ (ifc : Iface) (hi : Word) (env : BootEnv) (s : State), gate ifc true rFLT_OOS_CLEAR_HI s = .open →
    (latch s ifc rFLT_OOS_CLEAR_LO).toNat + 2 ^ 32 * hi.toNat = s.fuses.serial → rdB s rFLT_OOS_STATUS 0 = true →
    rdB s rFLT_OOS_STATUS 1 = true → (s.fault.fatal = false ∨ resetsInWindow s 0 < 3) →
    Completes (.oosClear ifc hi env) s fun t =>
      t.prec.latched = false ∧ rdB t rFLT_OOS_STATUS 0 = false ∧ deviceOos t = false ∧ isReady t = false ∧
      rdn t (rFLT_CNT 4) = satN 32 (rdn s (rFLT_CNT 4) + 1) ∧
      ∀ k, k < 16 → (job t k).state = .free ∧ (job t k).gen = (job s k).gen) ∧
  (∀ (ifc : Iface) (hi : Word) (env : BootEnv) (s : State), gate ifc true rFLT_OOS_CLEAR_HI s = .open →
    ((latch s ifc rFLT_OOS_CLEAR_LO).toNat + 2 ^ 32 * hi.toNat ≠ s.fuses.serial ∨ rdB s rFLT_OOS_STATUS 0 = false ∨
     rdB s rFLT_OOS_STATUS 1 = false) →
    Completes (.oosClear ifc hi env) s fun t => rdB t rFLT_OOS_STATUS 2 = true ∧ KeptAccess [] [rFLT_OOS_STATUS] s t) ∧
  (∀ (ifc : Iface) (s : State), gate ifc true rFLT_REPAIR_CTRL s = .open → rdB s rFLT_REPAIR_CTRL 0 = true →
    Completes (.repairAdd ifc) s fun t => KeptAccess [] [] s t) ∧
  (∀ (ifc : Iface) (s : State), gate ifc true rFLT_REPAIR_CTRL s = .open → rdB s rFLT_REPAIR_CTRL 0 = false →
    repValid (wordBytes s (rFLT_REPAIR_ENTRY 0) 4) = false →
    Completes (.repairAdd ifc) s fun t => rdF t rFLT_REPAIR_CTRL 4 2 = 2 ∧ KeptAccess [] [rFLT_REPAIR_CTRL] s t) ∧
  (∀ (ifc : Iface) (s : State), gate ifc true rFLT_REPAIR_CTRL s = .open → rdB s rFLT_REPAIR_CTRL 0 = false →
    repValid (wordBytes s (rFLT_REPAIR_ENTRY 0) 4) = true → 64 ≤ s.prec.repairs.length →
    Completes (.repairAdd ifc) s fun t => rdF t rFLT_REPAIR_CTRL 4 2 = 3 ∧ KeptAccess [] [rFLT_REPAIR_CTRL] s t) ∧
  (∀ (ifc : Iface) (s : State), gate ifc true rFLT_REPAIR_CTRL s = .open → rdB s rFLT_REPAIR_CTRL 0 = false →
    repValid (wordBytes s (rFLT_REPAIR_ENTRY 0) 4) = true → s.prec.repairs.length < 64 →
    Completes (.repairAdd ifc) s fun t =>
      rdF t rFLT_REPAIR_CTRL 1 0 = 3 ∧ t.prec.adding = some (wordBytes s (rFLT_REPAIR_ENTRY 0) 4) ∧
      t.prec.repairs = s.prec.repairs ∧ t.mem = s.mem ∧ t.jobs = s.jobs)

/-- THERMAL_SAMPLE, SUPPLY_FAULT and PLL_LOCK_LOSS -/
def Obligations.SensorsSuppliesAndClocks : Prop :=
  (∀ (tj : BitVec 12) (env : BootEnv) (s : State), s.boot.phase ≠ .heldHot →
    Completes (.thermalSample tj env) s fun t =>
      let new := sext 12 tj.toNat
      rdF t rPWR_THERM 11 0 = tj.toNat ∧ t.power.level = nextLevel s.power.level (tth4 s) new ∧
      (sext 12 (rdF s rPWR_TJ_MAX 11 0) < new → rdF t rPWR_TJ_MAX 11 0 = tj.toNat) ∧
      (new ≤ sext 12 (rdF s rPWR_TJ_MAX 11 0) → rdF t rPWR_TJ_MAX 11 0 = rdF s rPWR_TJ_MAX 11 0) ∧
      (throttleHeld s = false → rdF t rPWR_STATUS 9 8 = t.power.level) ∧
      (tth4 s + 12 ≤ new → t.power.level = 2) ∧ (new ≤ tth4 s - 12 → t.power.level = 0) ∧
      t.mem = s.mem ∧ t.jobs = s.jobs ∧ t.flash = s.flash) ∧
  (∀ (tj : BitVec 12) (env : BootEnv) (s : State), s.boot.phase = .heldHot →
    Completes (.thermalSample tj env) s fun t =>
      rdF t rPWR_THERM 11 0 = tj.toNat ∧ (t.boot.phase = .heldHot ↔ tth4 s ≤ sext 12 tj.toNat)) ∧
  (∀ (n : Fin 16) (s : State), n.val ≠ 2 → (n.val < 8 ∨ nbit s.fuses.banks (n.val - 8) = true) →
    Completes (.supplyFault n) s fun t =>
      rdB t rPWR_SUPPLY n = true ∧ rdn t (rPWR_CNT 5) = satN 32 (rdn s (rPWR_CNT 5) + 1) ∧ t.mem = s.mem ∧ t.jobs = s.jobs) ∧
  (∀ (n : Fin 16) (s : State), (n.val = 2 ∨ (8 ≤ n.val ∧ nbit s.fuses.banks (n.val - 8) = false)) →
    Completes (.supplyFault n) s fun t => t = s) ∧
  (∀ (p : Fin 6) (s : State), rdB s rPWR_PLL p = true → s.power.state ≠ .deep →
    Completes (.pllLockLoss p) s fun t =>
      rdB t rPWR_PLL p = false ∧ t.mem = s.mem ∧ t.jobs = s.jobs ∧
      (d0InReset s = false → ∀ e, e ∈ (match p.val with
          | 0 => [1, 2] | 1 => [4, 7] | 2 => [3] | 3 => [7] | 4 => [6] | _ => [5]) →
        rdn t (rFLT_EVT_CNT e) = satN 32 (rdn s (rFLT_EVT_CNT e) + 1))) ∧
  (∀ (p : Fin 6) (s : State), rdB s rPWR_PLL p = false → Completes (.pllLockLoss p) s fun t => t = s) ∧
  (∀ (p : Fin 6) (s : State), s.power.state = .deep →
    Completes (.pllLockLoss p) s fun t => rdB t rPWR_PLL p = false ∧ Kept [] [rPWR_PLL] s t)

/-- Which of two sequences is newer, and the tie -/
def Obligations.NewerSequence : Prop :=
  (∀ a b : Nat, a < 2 ^ 32 → b < 2 ^ 32 → (seqNewer a b = true ↔ 1 ≤ ((a : Int) - b) % 2 ^ 32 ∧ ((a : Int) - b) % 2 ^ 32 ≤ 0x7FFFFFFF)) ∧
  (∀ a b : Nat, a < 2 ^ 32 → b < 2 ^ 32 → ((seqNewer a b = false ∧ seqNewer b a = false) ↔
    a = b ∨ ((a : Int) - b) % 2 ^ 32 = 0x80000000)) ∧
  (∀ (env : BootEnv) (s : State), slotHeader s env.flashBad 0 = none → slotHeader s env.flashBad 1 = none →
    seqNewer (leAt 0xC 4 (flashBytes s 0x1000000 16)) (leAt 0xC 4 (flashBytes s 0 16)) = false →
    bootFlash env s =
      if (slotVerify s 0).ok then loadImage (slotVerify s 0) 0 0 env.train (slotResult 0 1 (slotResult 1 2 s))
      else
        let u := slotFail 0 (slotVerify s 0) s
        if (slotVerify u 1).ok then loadImage (slotVerify u 1) 1 0 env.train (wrB rBOOT_STATUS 2 true (raiseE 35 7 (slotResult 1 1 u)))
        else noImage (raiseE 34 7 (slotFail 1 (slotVerify u 1) u)))

/-- The 1,024 semaphores and their 64-byte slots -/
def Obligations.SemaphoreSlots : Prop :=
  (∀ n : Fin 1024,
    (∀ o, o < 64 → regionOf (0x300000000 + n.val * 0x40 + o) = .sems) ∧
    (∀ s : State, semWordRead (0x300000000 + n.val * 0x40) s = ((sem s n).count, s)) ∧
    (∀ (s : State) (v : Nat) (m : Nat), v < 65536 → m ≠ n.val →
      (sem (semWordWrite (0x300000000 + n.val * 0x40 + 8) v s).2 n).count = min 65535 ((sem s n).count + v) ∧
      sem (semWordWrite (0x300000000 + n.val * 0x40 + 8) v s).2 m = sem s m) ∧
    (∀ m : Fin 1024, m ≠ n → ∀ o p, o < 64 → p < 64 →
      (0x300000000 + n.val * 0x40 + o) / 64 ≠ (0x300000000 + m.val * 0x40 + p) / 64) ∧
    (∀ (s : State) (m : Fin 1024) (c : Nat), m ≠ n → (c, 0x300000000 + m.val * 0x40) ∈ s.resv →
      (c, 0x300000000 + m.val * 0x40) ∈ (semWordWrite (0x300000000 + n.val * 0x40 + 8) 1 s).2.resv)) ∧
  regionOf (0x300000000 + 1024 * 0x40) = .bad
end

