-- ==== Sys2Proof/Laws/Table.lean ====
section
/-! SUPPORT. Laws of the sparse tables: reading after writing, and the canonical form. -/

namespace Sys2Proof.Machine

section
variable {α : Type}

/-- Dropping the entries up to `k` leaves what a larger key reads as. -/
theorem tget_tdrop_gt (d : α) (t : Tab α) (k j : Nat) (h : k < j) : tget d (tdrop k t) j = tget d t j := by
  induction t with
  | nil => rfl
  | cons e t ih =>
    obtain ⟨k0, v⟩ := e
    by_cases hk : k < k0
    · simp [tdrop, hk]
    · have h1 : ¬ j = k0 := by omega
      have h2 : ¬ j < k0 := by omega
      simp [tdrop, hk, tget, h1, h2, ih]

/-- Nothing at `k` or below is left. -/
theorem tget_tdrop_le (d : α) (t : Tab α) (k j : Nat) (h : j ≤ k) : tget d (tdrop k t) j = d := by
  induction t with
  | nil => rfl
  | cons e t ih =>
    obtain ⟨k0, v⟩ := e
    by_cases hk : k < k0
    · have h1 : ¬ j = k0 := by omega
      have h2 : j < k0 := by omega
      simp [tdrop, hk, tget, h1, h2]
    · simpa [tdrop, hk] using ih

variable [DecidableEq α]

/-- A key reads as what was put there. -/
@[simp] theorem tget_tput_same (d : α) (t : Tab α) (k : Nat) (v : α) : tget d (tput d t k v) k = v := by
  induction t with
  | nil => by_cases h : v = d <;> simp [tput, tget, h]
  | cons e t ih =>
    obtain ⟨k0, v0⟩ := e
    by_cases hk : k0 < k
    · have h1 : ¬ k = k0 := by omega
      have h2 : ¬ k < k0 := by omega
      simp [tput, hk, tget, h1, h2, ih]
    · by_cases h : v = d
      · simp [tput, hk, h, tget_tdrop_le]
      · simp [tput, hk, h, tget]

/-- Every other key reads as before, whatever its own default is. -/
theorem tget_tput_other (d e : α) (t : Tab α) (k j : Nat) (v : α) (h : j ≠ k) : tget d (tput e t k v) j = tget d t j := by
  induction t with
  | nil =>
    by_cases hv : v = e
    · simp [tput, hv]
    · have h3 : ¬ j = k := h
      simp [tput, hv, tget, h3]
  | cons p t ih =>
    obtain ⟨k0, v0⟩ := p
    by_cases hk : k0 < k
    · by_cases h1 : j = k0
      · simp [tput, hk, tget, h1]
      · by_cases h2 : j < k0 <;> simp [tput, hk, tget, h1, h2, ih]
    · by_cases hj : k < j
      · by_cases hv : v = e
        · simp [tput, hk, hv, tget_tdrop_gt _ _ _ _ hj]
        · have h1 : ¬ j < k := by omega
          simp [tput, hk, hv, tget, h, h1, tget_tdrop_gt _ _ _ _ hj]
      · have h1 : j < k := by omega
        have h2 : ¬ j = k0 := by omega
        have h3 : j < k0 := by omega
        by_cases hv : v = e
        · simp [tput, hk, hv, tget, h2, h3, tget_tdrop_le _ _ _ _ (Nat.le_of_lt h1)]
        · simp [tput, hk, hv, tget, h, h1, h2, h3]

/-- The read of any key after a write. -/
theorem tget_tput (d : α) (t : Tab α) (k j : Nat) (v : α) :
    tget d (tput d t k v) j = if j = k then v else tget d t j := by
  by_cases h : j = k
  · simp [h]
  · simp [h, tget_tput_other]

/-- The canonical form with a higher bound is the canonical form with a lower one. -/
theorem twfFrom_mono (d : Nat → α) (lo hi : Nat) (t : Tab α) (h : lo ≤ hi) (w : twfFrom d hi t = true) :
    twfFrom d lo t = true := by
  cases t with
  | nil => rfl
  | cons e t =>
    obtain ⟨k, v⟩ := e
    simp only [twfFrom, Bool.and_eq_true, decide_eq_true_eq] at w ⊢
    exact ⟨⟨by omega, w.1.2⟩, w.2⟩

/-- Dropping entries keeps the canonical form. -/
theorem tdrop_wf (d : Nat → α) (lo k : Nat) (t : Tab α) (w : twfFrom d lo t = true) :
    twfFrom d (k + 1) (tdrop k t) = true := by
  induction t generalizing lo with
  | nil => rfl
  | cons e t ih =>
    obtain ⟨k0, v⟩ := e
    simp only [twfFrom, Bool.and_eq_true, decide_eq_true_eq] at w
    by_cases hk : k < k0
    · simp only [tdrop, hk, if_true, twfFrom, Bool.and_eq_true, decide_eq_true_eq]
      exact ⟨⟨by omega, w.1.2⟩, w.2⟩
    · simpa [tdrop, hk] using ih _ w.2

/-- A write keeps the canonical form above a bound that the key meets. -/
theorem tput_wfFrom (d : Nat → α) (lo : Nat) (t : Tab α) (k : Nat) (v : α) (hk : lo ≤ k) (w : twfFrom d lo t = true) :
    twfFrom d lo (tput (d k) t k v) = true := by
  induction t generalizing lo with
  | nil => by_cases h : v = d k <;> simp [tput, h, twfFrom, hk]
  | cons e t ih =>
    obtain ⟨k0, v0⟩ := e
    have w' := w
    simp only [twfFrom, Bool.and_eq_true, decide_eq_true_eq] at w'
    by_cases h0 : k0 < k
    · simp only [tput, h0, if_true, twfFrom, Bool.and_eq_true, decide_eq_true_eq]
      exact ⟨w'.1, ih _ (by omega) w'.2⟩
    · by_cases h : v = d k
      · simp only [tput, h0, if_false, h, if_true]
        exact twfFrom_mono d lo (k + 1) _ (by omega) (tdrop_wf d lo k _ w)
      · simp only [tput, h0, if_false, h, twfFrom, Bool.and_eq_true, decide_eq_true_eq]
        exact ⟨⟨hk, h⟩, tdrop_wf d lo k _ w⟩

/-- A write keeps the canonical form. -/
theorem tput_wf (d : Nat → α) (t : Tab α) (k : Nat) (v : α) (w : twf d t = true) : twf d (tput (d k) t k v) = true :=
  tput_wfFrom d 0 t k v (Nat.zero_le k) w

/-- Clearing a range keeps the canonical form. -/
theorem tclear_wfFrom (d : Nat → α) (b lo hi : Nat) (t : Tab α) (w : twfFrom d b t = true) :
    twfFrom d b (tclear lo hi t) = true := by
  induction t generalizing b with
  | nil => rfl
  | cons e t ih =>
    obtain ⟨k, v⟩ := e
    simp only [twfFrom, Bool.and_eq_true, decide_eq_true_eq] at w
    by_cases h : lo ≤ k ∧ k < hi
    · simp only [tclear, h, and_self, if_true]
      exact ih _ (twfFrom_mono d _ _ _ (by omega) w.2)
    · simp only [tclear, h, if_false, twfFrom, Bool.and_eq_true, decide_eq_true_eq]
      exact ⟨w.1, ih _ w.2⟩

end

end Sys2Proof.Machine
end

