-- ==== Sys2Proof/Laws/State.lean ====
section
/-! SUPPORT. What the named updates of the state leave alone, one lemma per field, and what they change; proofs cite these and
never unfold a record update. -/

namespace Sys2Proof.Machine

open Sys2Proof

section
variable (s : State)

/-! `wr` -/
@[simp] theorem wr_pending (o : Nat) (v : Word) : (wr o v s).pending = s.pending := rfl
@[simp] theorem wr_latches (o : Nat) (v : Word) : (wr o v s).latches = s.latches := rfl
@[simp] theorem wr_mem (o : Nat) (v : Word) : (wr o v s).mem = s.mem := rfl
@[simp] theorem wr_poison (o : Nat) (v : Word) : (wr o v s).poison = s.poison := rfl
@[simp] theorem wr_flash (o : Nat) (v : Word) : (wr o v s).flash = s.flash := rfl
@[simp] theorem wr_clock (o : Nat) (v : Word) : (wr o v s).clock = s.clock := rfl
@[simp] theorem wr_fuses (o : Nat) (v : Word) : (wr o v s).fuses = s.fuses := rfl
@[simp] theorem wr_boot (o : Nat) (v : Word) : (wr o v s).boot = s.boot := rfl
@[simp] theorem wr_jobs (o : Nat) (v : Word) : (wr o v s).jobs = s.jobs := rfl
@[simp] theorem wr_keeper (o : Nat) (v : Word) : (wr o v s).keeper = s.keeper := rfl
@[simp] theorem wr_flashOp (o : Nat) (v : Word) : (wr o v s).flashOp = s.flashOp := rfl
@[simp] theorem wr_prec (o : Nat) (v : Word) : (wr o v s).prec = s.prec := rfl
@[simp] theorem wr_power (o : Nat) (v : Word) : (wr o v s).power = s.power := rfl
@[simp] theorem wr_fault (o : Nat) (v : Word) : (wr o v s).fault = s.fault := rfl
@[simp] theorem wr_pcie (o : Nat) (v : Word) : (wr o v s).pcie = s.pcie := rfl
@[simp] theorem wr_frames (o : Nat) (v : Word) : (wr o v s).frames = s.frames := rfl
@[simp] theorem wr_ports (o : Nat) (v : Word) : (wr o v s).ports = s.ports := rfl
@[simp] theorem wr_pipeq (o : Nat) (v : Word) : (wr o v s).pipeq = s.pipeq := rfl
@[simp] theorem wr_pctx (o : Nat) (v : Word) : (wr o v s).pctx = s.pctx := rfl
@[simp] theorem wr_pipeTurn (o : Nat) (v : Word) : (wr o v s).pipeTurn = s.pipeTurn := rfl
@[simp] theorem wr_stage (o : Nat) (v : Word) : (wr o v s).stage = s.stage := rfl
@[simp] theorem wr_spliceq (o : Nat) (v : Word) : (wr o v s).spliceq = s.spliceq := rfl
@[simp] theorem wr_secBank (o : Nat) (v : Word) : (wr o v s).secBank = s.secBank := rfl
@[simp] theorem wr_secCl (o : Nat) (v : Word) : (wr o v s).secCl = s.secCl := rfl
@[simp] theorem wr_secCtx (o : Nat) (v : Word) : (wr o v s).secCtx = s.secCtx := rfl
@[simp] theorem wr_spliceTurn (o : Nat) (v : Word) : (wr o v s).spliceTurn = s.spliceTurn := rfl
@[simp] theorem wr_secPois (o : Nat) (v : Word) : (wr o v s).secPois = s.secPois := rfl
@[simp] theorem wr_lens (o : Nat) (v : Word) : (wr o v s).lens = s.lens := rfl
@[simp] theorem wr_sems (o : Nat) (v : Word) : (wr o v s).sems = s.sems := rfl
@[simp] theorem wr_fc (o : Nat) (v : Word) : (wr o v s).fc = s.fc := rfl
@[simp] theorem wr_lan (o : Nat) (v : Word) : (wr o v s).lan = s.lan := rfl
@[simp] theorem wr_resv (o : Nat) (v : Word) : (wr o v s).resv = s.resv := rfl
@[simp] theorem wr_dma (o : Nat) (v : Word) : (wr o v s).dma = s.dma := rfl
@[simp] theorem wr_regul (o : Nat) (v : Word) : (wr o v s).regul = s.regul := rfl
@[simp] theorem wr_ddrValid (o : Nat) (v : Word) : (wr o v s).ddrValid = s.ddrValid := rfl
@[simp] theorem wr_ddr (o : Nat) (v : Word) : (wr o v s).ddr = s.ddr := rfl
@[simp] theorem wr_net (o : Nat) (v : Word) : (wr o v s).net = s.net := rfl
@[simp] theorem wr_resp (o : Nat) (v : Word) : (wr o v s).resp = s.resp := rfl
@[simp] theorem wr_free (o : Nat) (v : Word) : (wr o v s).free = s.free := rfl
@[simp] theorem wr_limits (o : Nat) (v : Word) : (wr o v s).limits = s.limits := rfl

/-! `wrn` -/
@[simp] theorem wrn_pending (o v : Nat) : (wrn o v s).pending = s.pending := rfl
@[simp] theorem wrn_latches (o v : Nat) : (wrn o v s).latches = s.latches := rfl
@[simp] theorem wrn_mem (o v : Nat) : (wrn o v s).mem = s.mem := rfl
@[simp] theorem wrn_poison (o v : Nat) : (wrn o v s).poison = s.poison := rfl
@[simp] theorem wrn_flash (o v : Nat) : (wrn o v s).flash = s.flash := rfl
@[simp] theorem wrn_clock (o v : Nat) : (wrn o v s).clock = s.clock := rfl
@[simp] theorem wrn_fuses (o v : Nat) : (wrn o v s).fuses = s.fuses := rfl
@[simp] theorem wrn_boot (o v : Nat) : (wrn o v s).boot = s.boot := rfl
@[simp] theorem wrn_jobs (o v : Nat) : (wrn o v s).jobs = s.jobs := rfl
@[simp] theorem wrn_keeper (o v : Nat) : (wrn o v s).keeper = s.keeper := rfl
@[simp] theorem wrn_flashOp (o v : Nat) : (wrn o v s).flashOp = s.flashOp := rfl
@[simp] theorem wrn_prec (o v : Nat) : (wrn o v s).prec = s.prec := rfl
@[simp] theorem wrn_power (o v : Nat) : (wrn o v s).power = s.power := rfl
@[simp] theorem wrn_fault (o v : Nat) : (wrn o v s).fault = s.fault := rfl
@[simp] theorem wrn_pcie (o v : Nat) : (wrn o v s).pcie = s.pcie := rfl
@[simp] theorem wrn_frames (o v : Nat) : (wrn o v s).frames = s.frames := rfl
@[simp] theorem wrn_ports (o v : Nat) : (wrn o v s).ports = s.ports := rfl
@[simp] theorem wrn_pipeq (o v : Nat) : (wrn o v s).pipeq = s.pipeq := rfl
@[simp] theorem wrn_pctx (o v : Nat) : (wrn o v s).pctx = s.pctx := rfl
@[simp] theorem wrn_pipeTurn (o v : Nat) : (wrn o v s).pipeTurn = s.pipeTurn := rfl
@[simp] theorem wrn_stage (o v : Nat) : (wrn o v s).stage = s.stage := rfl
@[simp] theorem wrn_spliceq (o v : Nat) : (wrn o v s).spliceq = s.spliceq := rfl
@[simp] theorem wrn_secBank (o v : Nat) : (wrn o v s).secBank = s.secBank := rfl
@[simp] theorem wrn_secCl (o v : Nat) : (wrn o v s).secCl = s.secCl := rfl
@[simp] theorem wrn_secCtx (o v : Nat) : (wrn o v s).secCtx = s.secCtx := rfl
@[simp] theorem wrn_spliceTurn (o v : Nat) : (wrn o v s).spliceTurn = s.spliceTurn := rfl
@[simp] theorem wrn_secPois (o v : Nat) : (wrn o v s).secPois = s.secPois := rfl
@[simp] theorem wrn_lens (o v : Nat) : (wrn o v s).lens = s.lens := rfl
@[simp] theorem wrn_sems (o v : Nat) : (wrn o v s).sems = s.sems := rfl
@[simp] theorem wrn_fc (o v : Nat) : (wrn o v s).fc = s.fc := rfl
@[simp] theorem wrn_lan (o v : Nat) : (wrn o v s).lan = s.lan := rfl
@[simp] theorem wrn_resv (o v : Nat) : (wrn o v s).resv = s.resv := rfl
@[simp] theorem wrn_dma (o v : Nat) : (wrn o v s).dma = s.dma := rfl
@[simp] theorem wrn_regul (o v : Nat) : (wrn o v s).regul = s.regul := rfl
@[simp] theorem wrn_ddrValid (o v : Nat) : (wrn o v s).ddrValid = s.ddrValid := rfl
@[simp] theorem wrn_ddr (o v : Nat) : (wrn o v s).ddr = s.ddr := rfl
@[simp] theorem wrn_net (o v : Nat) : (wrn o v s).net = s.net := rfl
@[simp] theorem wrn_resp (o v : Nat) : (wrn o v s).resp = s.resp := rfl
@[simp] theorem wrn_free (o v : Nat) : (wrn o v s).free = s.free := rfl
@[simp] theorem wrn_limits (o v : Nat) : (wrn o v s).limits = s.limits := rfl

/-! `wrF` -/
@[simp] theorem wrF_pending (o hi lo v : Nat) : (wrF o hi lo v s).pending = s.pending := rfl
@[simp] theorem wrF_latches (o hi lo v : Nat) : (wrF o hi lo v s).latches = s.latches := rfl
@[simp] theorem wrF_mem (o hi lo v : Nat) : (wrF o hi lo v s).mem = s.mem := rfl
@[simp] theorem wrF_poison (o hi lo v : Nat) : (wrF o hi lo v s).poison = s.poison := rfl
@[simp] theorem wrF_flash (o hi lo v : Nat) : (wrF o hi lo v s).flash = s.flash := rfl
@[simp] theorem wrF_clock (o hi lo v : Nat) : (wrF o hi lo v s).clock = s.clock := rfl
@[simp] theorem wrF_fuses (o hi lo v : Nat) : (wrF o hi lo v s).fuses = s.fuses := rfl
@[simp] theorem wrF_boot (o hi lo v : Nat) : (wrF o hi lo v s).boot = s.boot := rfl
@[simp] theorem wrF_jobs (o hi lo v : Nat) : (wrF o hi lo v s).jobs = s.jobs := rfl
@[simp] theorem wrF_keeper (o hi lo v : Nat) : (wrF o hi lo v s).keeper = s.keeper := rfl
@[simp] theorem wrF_flashOp (o hi lo v : Nat) : (wrF o hi lo v s).flashOp = s.flashOp := rfl
@[simp] theorem wrF_prec (o hi lo v : Nat) : (wrF o hi lo v s).prec = s.prec := rfl
@[simp] theorem wrF_power (o hi lo v : Nat) : (wrF o hi lo v s).power = s.power := rfl
@[simp] theorem wrF_fault (o hi lo v : Nat) : (wrF o hi lo v s).fault = s.fault := rfl
@[simp] theorem wrF_pcie (o hi lo v : Nat) : (wrF o hi lo v s).pcie = s.pcie := rfl
@[simp] theorem wrF_frames (o hi lo v : Nat) : (wrF o hi lo v s).frames = s.frames := rfl
@[simp] theorem wrF_ports (o hi lo v : Nat) : (wrF o hi lo v s).ports = s.ports := rfl
@[simp] theorem wrF_pipeq (o hi lo v : Nat) : (wrF o hi lo v s).pipeq = s.pipeq := rfl
@[simp] theorem wrF_pctx (o hi lo v : Nat) : (wrF o hi lo v s).pctx = s.pctx := rfl
@[simp] theorem wrF_pipeTurn (o hi lo v : Nat) : (wrF o hi lo v s).pipeTurn = s.pipeTurn := rfl
@[simp] theorem wrF_stage (o hi lo v : Nat) : (wrF o hi lo v s).stage = s.stage := rfl
@[simp] theorem wrF_spliceq (o hi lo v : Nat) : (wrF o hi lo v s).spliceq = s.spliceq := rfl
@[simp] theorem wrF_secBank (o hi lo v : Nat) : (wrF o hi lo v s).secBank = s.secBank := rfl
@[simp] theorem wrF_secCl (o hi lo v : Nat) : (wrF o hi lo v s).secCl = s.secCl := rfl
@[simp] theorem wrF_secCtx (o hi lo v : Nat) : (wrF o hi lo v s).secCtx = s.secCtx := rfl
@[simp] theorem wrF_spliceTurn (o hi lo v : Nat) : (wrF o hi lo v s).spliceTurn = s.spliceTurn := rfl
@[simp] theorem wrF_secPois (o hi lo v : Nat) : (wrF o hi lo v s).secPois = s.secPois := rfl
@[simp] theorem wrF_lens (o hi lo v : Nat) : (wrF o hi lo v s).lens = s.lens := rfl
@[simp] theorem wrF_sems (o hi lo v : Nat) : (wrF o hi lo v s).sems = s.sems := rfl
@[simp] theorem wrF_fc (o hi lo v : Nat) : (wrF o hi lo v s).fc = s.fc := rfl
@[simp] theorem wrF_lan (o hi lo v : Nat) : (wrF o hi lo v s).lan = s.lan := rfl
@[simp] theorem wrF_resv (o hi lo v : Nat) : (wrF o hi lo v s).resv = s.resv := rfl
@[simp] theorem wrF_dma (o hi lo v : Nat) : (wrF o hi lo v s).dma = s.dma := rfl
@[simp] theorem wrF_regul (o hi lo v : Nat) : (wrF o hi lo v s).regul = s.regul := rfl
@[simp] theorem wrF_ddrValid (o hi lo v : Nat) : (wrF o hi lo v s).ddrValid = s.ddrValid := rfl
@[simp] theorem wrF_ddr (o hi lo v : Nat) : (wrF o hi lo v s).ddr = s.ddr := rfl
@[simp] theorem wrF_net (o hi lo v : Nat) : (wrF o hi lo v s).net = s.net := rfl
@[simp] theorem wrF_resp (o hi lo v : Nat) : (wrF o hi lo v s).resp = s.resp := rfl
@[simp] theorem wrF_free (o hi lo v : Nat) : (wrF o hi lo v s).free = s.free := rfl
@[simp] theorem wrF_limits (o hi lo v : Nat) : (wrF o hi lo v s).limits = s.limits := rfl

/-! `wrB` -/
@[simp] theorem wrB_pending (o i : Nat) (b : Bool) : (wrB o i b s).pending = s.pending := rfl
@[simp] theorem wrB_latches (o i : Nat) (b : Bool) : (wrB o i b s).latches = s.latches := rfl
@[simp] theorem wrB_mem (o i : Nat) (b : Bool) : (wrB o i b s).mem = s.mem := rfl
@[simp] theorem wrB_poison (o i : Nat) (b : Bool) : (wrB o i b s).poison = s.poison := rfl
@[simp] theorem wrB_flash (o i : Nat) (b : Bool) : (wrB o i b s).flash = s.flash := rfl
@[simp] theorem wrB_clock (o i : Nat) (b : Bool) : (wrB o i b s).clock = s.clock := rfl
@[simp] theorem wrB_fuses (o i : Nat) (b : Bool) : (wrB o i b s).fuses = s.fuses := rfl
@[simp] theorem wrB_boot (o i : Nat) (b : Bool) : (wrB o i b s).boot = s.boot := rfl
@[simp] theorem wrB_jobs (o i : Nat) (b : Bool) : (wrB o i b s).jobs = s.jobs := rfl
@[simp] theorem wrB_keeper (o i : Nat) (b : Bool) : (wrB o i b s).keeper = s.keeper := rfl
@[simp] theorem wrB_flashOp (o i : Nat) (b : Bool) : (wrB o i b s).flashOp = s.flashOp := rfl
@[simp] theorem wrB_prec (o i : Nat) (b : Bool) : (wrB o i b s).prec = s.prec := rfl
@[simp] theorem wrB_power (o i : Nat) (b : Bool) : (wrB o i b s).power = s.power := rfl
@[simp] theorem wrB_fault (o i : Nat) (b : Bool) : (wrB o i b s).fault = s.fault := rfl
@[simp] theorem wrB_pcie (o i : Nat) (b : Bool) : (wrB o i b s).pcie = s.pcie := rfl
@[simp] theorem wrB_frames (o i : Nat) (b : Bool) : (wrB o i b s).frames = s.frames := rfl
@[simp] theorem wrB_ports (o i : Nat) (b : Bool) : (wrB o i b s).ports = s.ports := rfl
@[simp] theorem wrB_pipeq (o i : Nat) (b : Bool) : (wrB o i b s).pipeq = s.pipeq := rfl
@[simp] theorem wrB_pctx (o i : Nat) (b : Bool) : (wrB o i b s).pctx = s.pctx := rfl
@[simp] theorem wrB_pipeTurn (o i : Nat) (b : Bool) : (wrB o i b s).pipeTurn = s.pipeTurn := rfl
@[simp] theorem wrB_stage (o i : Nat) (b : Bool) : (wrB o i b s).stage = s.stage := rfl
@[simp] theorem wrB_spliceq (o i : Nat) (b : Bool) : (wrB o i b s).spliceq = s.spliceq := rfl
@[simp] theorem wrB_secBank (o i : Nat) (b : Bool) : (wrB o i b s).secBank = s.secBank := rfl
@[simp] theorem wrB_secCl (o i : Nat) (b : Bool) : (wrB o i b s).secCl = s.secCl := rfl
@[simp] theorem wrB_secCtx (o i : Nat) (b : Bool) : (wrB o i b s).secCtx = s.secCtx := rfl
@[simp] theorem wrB_spliceTurn (o i : Nat) (b : Bool) : (wrB o i b s).spliceTurn = s.spliceTurn := rfl
@[simp] theorem wrB_secPois (o i : Nat) (b : Bool) : (wrB o i b s).secPois = s.secPois := rfl
@[simp] theorem wrB_lens (o i : Nat) (b : Bool) : (wrB o i b s).lens = s.lens := rfl
@[simp] theorem wrB_sems (o i : Nat) (b : Bool) : (wrB o i b s).sems = s.sems := rfl
@[simp] theorem wrB_fc (o i : Nat) (b : Bool) : (wrB o i b s).fc = s.fc := rfl
@[simp] theorem wrB_lan (o i : Nat) (b : Bool) : (wrB o i b s).lan = s.lan := rfl
@[simp] theorem wrB_resv (o i : Nat) (b : Bool) : (wrB o i b s).resv = s.resv := rfl
@[simp] theorem wrB_dma (o i : Nat) (b : Bool) : (wrB o i b s).dma = s.dma := rfl
@[simp] theorem wrB_regul (o i : Nat) (b : Bool) : (wrB o i b s).regul = s.regul := rfl
@[simp] theorem wrB_ddrValid (o i : Nat) (b : Bool) : (wrB o i b s).ddrValid = s.ddrValid := rfl
@[simp] theorem wrB_ddr (o i : Nat) (b : Bool) : (wrB o i b s).ddr = s.ddr := rfl
@[simp] theorem wrB_net (o i : Nat) (b : Bool) : (wrB o i b s).net = s.net := rfl
@[simp] theorem wrB_resp (o i : Nat) (b : Bool) : (wrB o i b s).resp = s.resp := rfl
@[simp] theorem wrB_free (o i : Nat) (b : Bool) : (wrB o i b s).free = s.free := rfl
@[simp] theorem wrB_limits (o i : Nat) (b : Bool) : (wrB o i b s).limits = s.limits := rfl

/-! `wr64` -/
@[simp] theorem wr64_pending (o v : Nat) : (wr64 o v s).pending = s.pending := rfl
@[simp] theorem wr64_latches (o v : Nat) : (wr64 o v s).latches = s.latches := rfl
@[simp] theorem wr64_mem (o v : Nat) : (wr64 o v s).mem = s.mem := rfl
@[simp] theorem wr64_poison (o v : Nat) : (wr64 o v s).poison = s.poison := rfl
@[simp] theorem wr64_flash (o v : Nat) : (wr64 o v s).flash = s.flash := rfl
@[simp] theorem wr64_clock (o v : Nat) : (wr64 o v s).clock = s.clock := rfl
@[simp] theorem wr64_fuses (o v : Nat) : (wr64 o v s).fuses = s.fuses := rfl
@[simp] theorem wr64_boot (o v : Nat) : (wr64 o v s).boot = s.boot := rfl
@[simp] theorem wr64_jobs (o v : Nat) : (wr64 o v s).jobs = s.jobs := rfl
@[simp] theorem wr64_keeper (o v : Nat) : (wr64 o v s).keeper = s.keeper := rfl
@[simp] theorem wr64_flashOp (o v : Nat) : (wr64 o v s).flashOp = s.flashOp := rfl
@[simp] theorem wr64_prec (o v : Nat) : (wr64 o v s).prec = s.prec := rfl
@[simp] theorem wr64_power (o v : Nat) : (wr64 o v s).power = s.power := rfl
@[simp] theorem wr64_fault (o v : Nat) : (wr64 o v s).fault = s.fault := rfl
@[simp] theorem wr64_pcie (o v : Nat) : (wr64 o v s).pcie = s.pcie := rfl
@[simp] theorem wr64_frames (o v : Nat) : (wr64 o v s).frames = s.frames := rfl
@[simp] theorem wr64_ports (o v : Nat) : (wr64 o v s).ports = s.ports := rfl
@[simp] theorem wr64_pipeq (o v : Nat) : (wr64 o v s).pipeq = s.pipeq := rfl
@[simp] theorem wr64_pctx (o v : Nat) : (wr64 o v s).pctx = s.pctx := rfl
@[simp] theorem wr64_pipeTurn (o v : Nat) : (wr64 o v s).pipeTurn = s.pipeTurn := rfl
@[simp] theorem wr64_stage (o v : Nat) : (wr64 o v s).stage = s.stage := rfl
@[simp] theorem wr64_spliceq (o v : Nat) : (wr64 o v s).spliceq = s.spliceq := rfl
@[simp] theorem wr64_secBank (o v : Nat) : (wr64 o v s).secBank = s.secBank := rfl
@[simp] theorem wr64_secCl (o v : Nat) : (wr64 o v s).secCl = s.secCl := rfl
@[simp] theorem wr64_secCtx (o v : Nat) : (wr64 o v s).secCtx = s.secCtx := rfl
@[simp] theorem wr64_spliceTurn (o v : Nat) : (wr64 o v s).spliceTurn = s.spliceTurn := rfl
@[simp] theorem wr64_secPois (o v : Nat) : (wr64 o v s).secPois = s.secPois := rfl
@[simp] theorem wr64_lens (o v : Nat) : (wr64 o v s).lens = s.lens := rfl
@[simp] theorem wr64_sems (o v : Nat) : (wr64 o v s).sems = s.sems := rfl
@[simp] theorem wr64_fc (o v : Nat) : (wr64 o v s).fc = s.fc := rfl
@[simp] theorem wr64_lan (o v : Nat) : (wr64 o v s).lan = s.lan := rfl
@[simp] theorem wr64_resv (o v : Nat) : (wr64 o v s).resv = s.resv := rfl
@[simp] theorem wr64_dma (o v : Nat) : (wr64 o v s).dma = s.dma := rfl
@[simp] theorem wr64_regul (o v : Nat) : (wr64 o v s).regul = s.regul := rfl
@[simp] theorem wr64_ddrValid (o v : Nat) : (wr64 o v s).ddrValid = s.ddrValid := rfl
@[simp] theorem wr64_ddr (o v : Nat) : (wr64 o v s).ddr = s.ddr := rfl
@[simp] theorem wr64_net (o v : Nat) : (wr64 o v s).net = s.net := rfl
@[simp] theorem wr64_resp (o v : Nat) : (wr64 o v s).resp = s.resp := rfl
@[simp] theorem wr64_free (o v : Nat) : (wr64 o v s).free = s.free := rfl
@[simp] theorem wr64_limits (o v : Nat) : (wr64 o v s).limits = s.limits := rfl

/-! `bump` -/
@[simp] theorem bump_pending (o n : Nat) : (bump o n s).pending = s.pending := rfl
@[simp] theorem bump_latches (o n : Nat) : (bump o n s).latches = s.latches := rfl
@[simp] theorem bump_mem (o n : Nat) : (bump o n s).mem = s.mem := rfl
@[simp] theorem bump_poison (o n : Nat) : (bump o n s).poison = s.poison := rfl
@[simp] theorem bump_flash (o n : Nat) : (bump o n s).flash = s.flash := rfl
@[simp] theorem bump_clock (o n : Nat) : (bump o n s).clock = s.clock := rfl
@[simp] theorem bump_fuses (o n : Nat) : (bump o n s).fuses = s.fuses := rfl
@[simp] theorem bump_boot (o n : Nat) : (bump o n s).boot = s.boot := rfl
@[simp] theorem bump_jobs (o n : Nat) : (bump o n s).jobs = s.jobs := rfl
@[simp] theorem bump_keeper (o n : Nat) : (bump o n s).keeper = s.keeper := rfl
@[simp] theorem bump_flashOp (o n : Nat) : (bump o n s).flashOp = s.flashOp := rfl
@[simp] theorem bump_prec (o n : Nat) : (bump o n s).prec = s.prec := rfl
@[simp] theorem bump_power (o n : Nat) : (bump o n s).power = s.power := rfl
@[simp] theorem bump_fault (o n : Nat) : (bump o n s).fault = s.fault := rfl
@[simp] theorem bump_pcie (o n : Nat) : (bump o n s).pcie = s.pcie := rfl
@[simp] theorem bump_frames (o n : Nat) : (bump o n s).frames = s.frames := rfl
@[simp] theorem bump_ports (o n : Nat) : (bump o n s).ports = s.ports := rfl
@[simp] theorem bump_pipeq (o n : Nat) : (bump o n s).pipeq = s.pipeq := rfl
@[simp] theorem bump_pctx (o n : Nat) : (bump o n s).pctx = s.pctx := rfl
@[simp] theorem bump_pipeTurn (o n : Nat) : (bump o n s).pipeTurn = s.pipeTurn := rfl
@[simp] theorem bump_stage (o n : Nat) : (bump o n s).stage = s.stage := rfl
@[simp] theorem bump_spliceq (o n : Nat) : (bump o n s).spliceq = s.spliceq := rfl
@[simp] theorem bump_secBank (o n : Nat) : (bump o n s).secBank = s.secBank := rfl
@[simp] theorem bump_secCl (o n : Nat) : (bump o n s).secCl = s.secCl := rfl
@[simp] theorem bump_secCtx (o n : Nat) : (bump o n s).secCtx = s.secCtx := rfl
@[simp] theorem bump_spliceTurn (o n : Nat) : (bump o n s).spliceTurn = s.spliceTurn := rfl
@[simp] theorem bump_secPois (o n : Nat) : (bump o n s).secPois = s.secPois := rfl
@[simp] theorem bump_lens (o n : Nat) : (bump o n s).lens = s.lens := rfl
@[simp] theorem bump_sems (o n : Nat) : (bump o n s).sems = s.sems := rfl
@[simp] theorem bump_fc (o n : Nat) : (bump o n s).fc = s.fc := rfl
@[simp] theorem bump_lan (o n : Nat) : (bump o n s).lan = s.lan := rfl
@[simp] theorem bump_resv (o n : Nat) : (bump o n s).resv = s.resv := rfl
@[simp] theorem bump_dma (o n : Nat) : (bump o n s).dma = s.dma := rfl
@[simp] theorem bump_regul (o n : Nat) : (bump o n s).regul = s.regul := rfl
@[simp] theorem bump_ddrValid (o n : Nat) : (bump o n s).ddrValid = s.ddrValid := rfl
@[simp] theorem bump_ddr (o n : Nat) : (bump o n s).ddr = s.ddr := rfl
@[simp] theorem bump_net (o n : Nat) : (bump o n s).net = s.net := rfl
@[simp] theorem bump_resp (o n : Nat) : (bump o n s).resp = s.resp := rfl
@[simp] theorem bump_free (o n : Nat) : (bump o n s).free = s.free := rfl
@[simp] theorem bump_limits (o n : Nat) : (bump o n s).limits = s.limits := rfl

/-! `bumpW` -/
@[simp] theorem bumpW_pending (o n : Nat) : (bumpW o n s).pending = s.pending := rfl
@[simp] theorem bumpW_latches (o n : Nat) : (bumpW o n s).latches = s.latches := rfl
@[simp] theorem bumpW_mem (o n : Nat) : (bumpW o n s).mem = s.mem := rfl
@[simp] theorem bumpW_poison (o n : Nat) : (bumpW o n s).poison = s.poison := rfl
@[simp] theorem bumpW_flash (o n : Nat) : (bumpW o n s).flash = s.flash := rfl
@[simp] theorem bumpW_clock (o n : Nat) : (bumpW o n s).clock = s.clock := rfl
@[simp] theorem bumpW_fuses (o n : Nat) : (bumpW o n s).fuses = s.fuses := rfl
@[simp] theorem bumpW_boot (o n : Nat) : (bumpW o n s).boot = s.boot := rfl
@[simp] theorem bumpW_jobs (o n : Nat) : (bumpW o n s).jobs = s.jobs := rfl
@[simp] theorem bumpW_keeper (o n : Nat) : (bumpW o n s).keeper = s.keeper := rfl
@[simp] theorem bumpW_flashOp (o n : Nat) : (bumpW o n s).flashOp = s.flashOp := rfl
@[simp] theorem bumpW_prec (o n : Nat) : (bumpW o n s).prec = s.prec := rfl
@[simp] theorem bumpW_power (o n : Nat) : (bumpW o n s).power = s.power := rfl
@[simp] theorem bumpW_fault (o n : Nat) : (bumpW o n s).fault = s.fault := rfl
@[simp] theorem bumpW_pcie (o n : Nat) : (bumpW o n s).pcie = s.pcie := rfl
@[simp] theorem bumpW_frames (o n : Nat) : (bumpW o n s).frames = s.frames := rfl
@[simp] theorem bumpW_ports (o n : Nat) : (bumpW o n s).ports = s.ports := rfl
@[simp] theorem bumpW_pipeq (o n : Nat) : (bumpW o n s).pipeq = s.pipeq := rfl
@[simp] theorem bumpW_pctx (o n : Nat) : (bumpW o n s).pctx = s.pctx := rfl
@[simp] theorem bumpW_pipeTurn (o n : Nat) : (bumpW o n s).pipeTurn = s.pipeTurn := rfl
@[simp] theorem bumpW_stage (o n : Nat) : (bumpW o n s).stage = s.stage := rfl
@[simp] theorem bumpW_spliceq (o n : Nat) : (bumpW o n s).spliceq = s.spliceq := rfl
@[simp] theorem bumpW_secBank (o n : Nat) : (bumpW o n s).secBank = s.secBank := rfl
@[simp] theorem bumpW_secCl (o n : Nat) : (bumpW o n s).secCl = s.secCl := rfl
@[simp] theorem bumpW_secCtx (o n : Nat) : (bumpW o n s).secCtx = s.secCtx := rfl
@[simp] theorem bumpW_spliceTurn (o n : Nat) : (bumpW o n s).spliceTurn = s.spliceTurn := rfl
@[simp] theorem bumpW_secPois (o n : Nat) : (bumpW o n s).secPois = s.secPois := rfl
@[simp] theorem bumpW_lens (o n : Nat) : (bumpW o n s).lens = s.lens := rfl
@[simp] theorem bumpW_sems (o n : Nat) : (bumpW o n s).sems = s.sems := rfl
@[simp] theorem bumpW_fc (o n : Nat) : (bumpW o n s).fc = s.fc := rfl
@[simp] theorem bumpW_lan (o n : Nat) : (bumpW o n s).lan = s.lan := rfl
@[simp] theorem bumpW_resv (o n : Nat) : (bumpW o n s).resv = s.resv := rfl
@[simp] theorem bumpW_dma (o n : Nat) : (bumpW o n s).dma = s.dma := rfl
@[simp] theorem bumpW_regul (o n : Nat) : (bumpW o n s).regul = s.regul := rfl
@[simp] theorem bumpW_ddrValid (o n : Nat) : (bumpW o n s).ddrValid = s.ddrValid := rfl
@[simp] theorem bumpW_ddr (o n : Nat) : (bumpW o n s).ddr = s.ddr := rfl
@[simp] theorem bumpW_net (o n : Nat) : (bumpW o n s).net = s.net := rfl
@[simp] theorem bumpW_resp (o n : Nat) : (bumpW o n s).resp = s.resp := rfl
@[simp] theorem bumpW_free (o n : Nat) : (bumpW o n s).free = s.free := rfl
@[simp] theorem bumpW_limits (o n : Nat) : (bumpW o n s).limits = s.limits := rfl

/-! `answer` -/
@[simp] theorem answer_pending (w : List Word) : (answer w s).pending = s.pending := rfl
@[simp] theorem answer_regs (w : List Word) : (answer w s).regs = s.regs := rfl
@[simp] theorem answer_latches (w : List Word) : (answer w s).latches = s.latches := rfl
@[simp] theorem answer_mem (w : List Word) : (answer w s).mem = s.mem := rfl
@[simp] theorem answer_poison (w : List Word) : (answer w s).poison = s.poison := rfl
@[simp] theorem answer_flash (w : List Word) : (answer w s).flash = s.flash := rfl
@[simp] theorem answer_clock (w : List Word) : (answer w s).clock = s.clock := rfl
@[simp] theorem answer_fuses (w : List Word) : (answer w s).fuses = s.fuses := rfl
@[simp] theorem answer_boot (w : List Word) : (answer w s).boot = s.boot := rfl
@[simp] theorem answer_jobs (w : List Word) : (answer w s).jobs = s.jobs := rfl
@[simp] theorem answer_keeper (w : List Word) : (answer w s).keeper = s.keeper := rfl
@[simp] theorem answer_flashOp (w : List Word) : (answer w s).flashOp = s.flashOp := rfl
@[simp] theorem answer_prec (w : List Word) : (answer w s).prec = s.prec := rfl
@[simp] theorem answer_power (w : List Word) : (answer w s).power = s.power := rfl
@[simp] theorem answer_fault (w : List Word) : (answer w s).fault = s.fault := rfl
@[simp] theorem answer_pcie (w : List Word) : (answer w s).pcie = s.pcie := rfl
@[simp] theorem answer_frames (w : List Word) : (answer w s).frames = s.frames := rfl
@[simp] theorem answer_ports (w : List Word) : (answer w s).ports = s.ports := rfl
@[simp] theorem answer_pipeq (w : List Word) : (answer w s).pipeq = s.pipeq := rfl
@[simp] theorem answer_pctx (w : List Word) : (answer w s).pctx = s.pctx := rfl
@[simp] theorem answer_pipeTurn (w : List Word) : (answer w s).pipeTurn = s.pipeTurn := rfl
@[simp] theorem answer_stage (w : List Word) : (answer w s).stage = s.stage := rfl
@[simp] theorem answer_spliceq (w : List Word) : (answer w s).spliceq = s.spliceq := rfl
@[simp] theorem answer_secBank (w : List Word) : (answer w s).secBank = s.secBank := rfl
@[simp] theorem answer_secCl (w : List Word) : (answer w s).secCl = s.secCl := rfl
@[simp] theorem answer_secCtx (w : List Word) : (answer w s).secCtx = s.secCtx := rfl
@[simp] theorem answer_spliceTurn (w : List Word) : (answer w s).spliceTurn = s.spliceTurn := rfl
@[simp] theorem answer_secPois (w : List Word) : (answer w s).secPois = s.secPois := rfl
@[simp] theorem answer_lens (w : List Word) : (answer w s).lens = s.lens := rfl
@[simp] theorem answer_sems (w : List Word) : (answer w s).sems = s.sems := rfl
@[simp] theorem answer_fc (w : List Word) : (answer w s).fc = s.fc := rfl
@[simp] theorem answer_lan (w : List Word) : (answer w s).lan = s.lan := rfl
@[simp] theorem answer_resv (w : List Word) : (answer w s).resv = s.resv := rfl
@[simp] theorem answer_dma (w : List Word) : (answer w s).dma = s.dma := rfl
@[simp] theorem answer_regul (w : List Word) : (answer w s).regul = s.regul := rfl
@[simp] theorem answer_ddrValid (w : List Word) : (answer w s).ddrValid = s.ddrValid := rfl
@[simp] theorem answer_ddr (w : List Word) : (answer w s).ddr = s.ddr := rfl
@[simp] theorem answer_net (w : List Word) : (answer w s).net = s.net := rfl
@[simp] theorem answer_free (w : List Word) : (answer w s).free = s.free := rfl
@[simp] theorem answer_limits (w : List Word) : (answer w s).limits = s.limits := rfl

/-! `answerErr` -/
@[simp] theorem answerErr_pending (n : Nat) : (answerErr n s).pending = s.pending := rfl
@[simp] theorem answerErr_regs (n : Nat) : (answerErr n s).regs = s.regs := rfl
@[simp] theorem answerErr_latches (n : Nat) : (answerErr n s).latches = s.latches := rfl
@[simp] theorem answerErr_mem (n : Nat) : (answerErr n s).mem = s.mem := rfl
@[simp] theorem answerErr_poison (n : Nat) : (answerErr n s).poison = s.poison := rfl
@[simp] theorem answerErr_flash (n : Nat) : (answerErr n s).flash = s.flash := rfl
@[simp] theorem answerErr_clock (n : Nat) : (answerErr n s).clock = s.clock := rfl
@[simp] theorem answerErr_fuses (n : Nat) : (answerErr n s).fuses = s.fuses := rfl
@[simp] theorem answerErr_boot (n : Nat) : (answerErr n s).boot = s.boot := rfl
@[simp] theorem answerErr_jobs (n : Nat) : (answerErr n s).jobs = s.jobs := rfl
@[simp] theorem answerErr_keeper (n : Nat) : (answerErr n s).keeper = s.keeper := rfl
@[simp] theorem answerErr_flashOp (n : Nat) : (answerErr n s).flashOp = s.flashOp := rfl
@[simp] theorem answerErr_prec (n : Nat) : (answerErr n s).prec = s.prec := rfl
@[simp] theorem answerErr_power (n : Nat) : (answerErr n s).power = s.power := rfl
@[simp] theorem answerErr_fault (n : Nat) : (answerErr n s).fault = s.fault := rfl
@[simp] theorem answerErr_pcie (n : Nat) : (answerErr n s).pcie = s.pcie := rfl
@[simp] theorem answerErr_frames (n : Nat) : (answerErr n s).frames = s.frames := rfl
@[simp] theorem answerErr_ports (n : Nat) : (answerErr n s).ports = s.ports := rfl
@[simp] theorem answerErr_pipeq (n : Nat) : (answerErr n s).pipeq = s.pipeq := rfl
@[simp] theorem answerErr_pctx (n : Nat) : (answerErr n s).pctx = s.pctx := rfl
@[simp] theorem answerErr_pipeTurn (n : Nat) : (answerErr n s).pipeTurn = s.pipeTurn := rfl
@[simp] theorem answerErr_stage (n : Nat) : (answerErr n s).stage = s.stage := rfl
@[simp] theorem answerErr_spliceq (n : Nat) : (answerErr n s).spliceq = s.spliceq := rfl
@[simp] theorem answerErr_secBank (n : Nat) : (answerErr n s).secBank = s.secBank := rfl
@[simp] theorem answerErr_secCl (n : Nat) : (answerErr n s).secCl = s.secCl := rfl
@[simp] theorem answerErr_secCtx (n : Nat) : (answerErr n s).secCtx = s.secCtx := rfl
@[simp] theorem answerErr_spliceTurn (n : Nat) : (answerErr n s).spliceTurn = s.spliceTurn := rfl
@[simp] theorem answerErr_secPois (n : Nat) : (answerErr n s).secPois = s.secPois := rfl
@[simp] theorem answerErr_lens (n : Nat) : (answerErr n s).lens = s.lens := rfl
@[simp] theorem answerErr_sems (n : Nat) : (answerErr n s).sems = s.sems := rfl
@[simp] theorem answerErr_fc (n : Nat) : (answerErr n s).fc = s.fc := rfl
@[simp] theorem answerErr_lan (n : Nat) : (answerErr n s).lan = s.lan := rfl
@[simp] theorem answerErr_resv (n : Nat) : (answerErr n s).resv = s.resv := rfl
@[simp] theorem answerErr_dma (n : Nat) : (answerErr n s).dma = s.dma := rfl
@[simp] theorem answerErr_regul (n : Nat) : (answerErr n s).regul = s.regul := rfl
@[simp] theorem answerErr_ddrValid (n : Nat) : (answerErr n s).ddrValid = s.ddrValid := rfl
@[simp] theorem answerErr_ddr (n : Nat) : (answerErr n s).ddr = s.ddr := rfl
@[simp] theorem answerErr_net (n : Nat) : (answerErr n s).net = s.net := rfl
@[simp] theorem answerErr_free (n : Nat) : (answerErr n s).free = s.free := rfl
@[simp] theorem answerErr_limits (n : Nat) : (answerErr n s).limits = s.limits := rfl

/-! `setLatch` -/
@[simp] theorem setLatch_pending (i : Iface) (o : Nat) (v : Word) : (setLatch i o v s).pending = s.pending := rfl
@[simp] theorem setLatch_regs (i : Iface) (o : Nat) (v : Word) : (setLatch i o v s).regs = s.regs := rfl
@[simp] theorem setLatch_mem (i : Iface) (o : Nat) (v : Word) : (setLatch i o v s).mem = s.mem := rfl
@[simp] theorem setLatch_poison (i : Iface) (o : Nat) (v : Word) : (setLatch i o v s).poison = s.poison := rfl
@[simp] theorem setLatch_flash (i : Iface) (o : Nat) (v : Word) : (setLatch i o v s).flash = s.flash := rfl
@[simp] theorem setLatch_clock (i : Iface) (o : Nat) (v : Word) : (setLatch i o v s).clock = s.clock := rfl
@[simp] theorem setLatch_fuses (i : Iface) (o : Nat) (v : Word) : (setLatch i o v s).fuses = s.fuses := rfl
@[simp] theorem setLatch_boot (i : Iface) (o : Nat) (v : Word) : (setLatch i o v s).boot = s.boot := rfl
@[simp] theorem setLatch_jobs (i : Iface) (o : Nat) (v : Word) : (setLatch i o v s).jobs = s.jobs := rfl
@[simp] theorem setLatch_keeper (i : Iface) (o : Nat) (v : Word) : (setLatch i o v s).keeper = s.keeper := rfl
@[simp] theorem setLatch_flashOp (i : Iface) (o : Nat) (v : Word) : (setLatch i o v s).flashOp = s.flashOp := rfl
@[simp] theorem setLatch_prec (i : Iface) (o : Nat) (v : Word) : (setLatch i o v s).prec = s.prec := rfl
@[simp] theorem setLatch_power (i : Iface) (o : Nat) (v : Word) : (setLatch i o v s).power = s.power := rfl
@[simp] theorem setLatch_fault (i : Iface) (o : Nat) (v : Word) : (setLatch i o v s).fault = s.fault := rfl
@[simp] theorem setLatch_pcie (i : Iface) (o : Nat) (v : Word) : (setLatch i o v s).pcie = s.pcie := rfl
@[simp] theorem setLatch_frames (i : Iface) (o : Nat) (v : Word) : (setLatch i o v s).frames = s.frames := rfl
@[simp] theorem setLatch_ports (i : Iface) (o : Nat) (v : Word) : (setLatch i o v s).ports = s.ports := rfl
@[simp] theorem setLatch_pipeq (i : Iface) (o : Nat) (v : Word) : (setLatch i o v s).pipeq = s.pipeq := rfl
@[simp] theorem setLatch_pctx (i : Iface) (o : Nat) (v : Word) : (setLatch i o v s).pctx = s.pctx := rfl
@[simp] theorem setLatch_pipeTurn (i : Iface) (o : Nat) (v : Word) : (setLatch i o v s).pipeTurn = s.pipeTurn := rfl
@[simp] theorem setLatch_stage (i : Iface) (o : Nat) (v : Word) : (setLatch i o v s).stage = s.stage := rfl
@[simp] theorem setLatch_spliceq (i : Iface) (o : Nat) (v : Word) : (setLatch i o v s).spliceq = s.spliceq := rfl
@[simp] theorem setLatch_secBank (i : Iface) (o : Nat) (v : Word) : (setLatch i o v s).secBank = s.secBank := rfl
@[simp] theorem setLatch_secCl (i : Iface) (o : Nat) (v : Word) : (setLatch i o v s).secCl = s.secCl := rfl
@[simp] theorem setLatch_secCtx (i : Iface) (o : Nat) (v : Word) : (setLatch i o v s).secCtx = s.secCtx := rfl
@[simp] theorem setLatch_spliceTurn (i : Iface) (o : Nat) (v : Word) : (setLatch i o v s).spliceTurn = s.spliceTurn := rfl
@[simp] theorem setLatch_secPois (i : Iface) (o : Nat) (v : Word) : (setLatch i o v s).secPois = s.secPois := rfl
@[simp] theorem setLatch_lens (i : Iface) (o : Nat) (v : Word) : (setLatch i o v s).lens = s.lens := rfl
@[simp] theorem setLatch_sems (i : Iface) (o : Nat) (v : Word) : (setLatch i o v s).sems = s.sems := rfl
@[simp] theorem setLatch_fc (i : Iface) (o : Nat) (v : Word) : (setLatch i o v s).fc = s.fc := rfl
@[simp] theorem setLatch_lan (i : Iface) (o : Nat) (v : Word) : (setLatch i o v s).lan = s.lan := rfl
@[simp] theorem setLatch_resv (i : Iface) (o : Nat) (v : Word) : (setLatch i o v s).resv = s.resv := rfl
@[simp] theorem setLatch_dma (i : Iface) (o : Nat) (v : Word) : (setLatch i o v s).dma = s.dma := rfl
@[simp] theorem setLatch_regul (i : Iface) (o : Nat) (v : Word) : (setLatch i o v s).regul = s.regul := rfl
@[simp] theorem setLatch_ddrValid (i : Iface) (o : Nat) (v : Word) : (setLatch i o v s).ddrValid = s.ddrValid := rfl
@[simp] theorem setLatch_ddr (i : Iface) (o : Nat) (v : Word) : (setLatch i o v s).ddr = s.ddr := rfl
@[simp] theorem setLatch_net (i : Iface) (o : Nat) (v : Word) : (setLatch i o v s).net = s.net := rfl
@[simp] theorem setLatch_resp (i : Iface) (o : Nat) (v : Word) : (setLatch i o v s).resp = s.resp := rfl
@[simp] theorem setLatch_free (i : Iface) (o : Nat) (v : Word) : (setLatch i o v s).free = s.free := rfl
@[simp] theorem setLatch_limits (i : Iface) (o : Nat) (v : Word) : (setLatch i o v s).limits = s.limits := rfl

/-! `setLan` -/
@[simp] theorem setLan_pending (n : Nat) (l : Lan) : (setLan n l s).pending = s.pending := rfl
@[simp] theorem setLan_regs (n : Nat) (l : Lan) : (setLan n l s).regs = s.regs := rfl
@[simp] theorem setLan_latches (n : Nat) (l : Lan) : (setLan n l s).latches = s.latches := rfl
@[simp] theorem setLan_mem (n : Nat) (l : Lan) : (setLan n l s).mem = s.mem := rfl
@[simp] theorem setLan_poison (n : Nat) (l : Lan) : (setLan n l s).poison = s.poison := rfl
@[simp] theorem setLan_flash (n : Nat) (l : Lan) : (setLan n l s).flash = s.flash := rfl
@[simp] theorem setLan_clock (n : Nat) (l : Lan) : (setLan n l s).clock = s.clock := rfl
@[simp] theorem setLan_fuses (n : Nat) (l : Lan) : (setLan n l s).fuses = s.fuses := rfl
@[simp] theorem setLan_boot (n : Nat) (l : Lan) : (setLan n l s).boot = s.boot := rfl
@[simp] theorem setLan_jobs (n : Nat) (l : Lan) : (setLan n l s).jobs = s.jobs := rfl
@[simp] theorem setLan_keeper (n : Nat) (l : Lan) : (setLan n l s).keeper = s.keeper := rfl
@[simp] theorem setLan_flashOp (n : Nat) (l : Lan) : (setLan n l s).flashOp = s.flashOp := rfl
@[simp] theorem setLan_prec (n : Nat) (l : Lan) : (setLan n l s).prec = s.prec := rfl
@[simp] theorem setLan_power (n : Nat) (l : Lan) : (setLan n l s).power = s.power := rfl
@[simp] theorem setLan_fault (n : Nat) (l : Lan) : (setLan n l s).fault = s.fault := rfl
@[simp] theorem setLan_pcie (n : Nat) (l : Lan) : (setLan n l s).pcie = s.pcie := rfl
@[simp] theorem setLan_frames (n : Nat) (l : Lan) : (setLan n l s).frames = s.frames := rfl
@[simp] theorem setLan_ports (n : Nat) (l : Lan) : (setLan n l s).ports = s.ports := rfl
@[simp] theorem setLan_pipeq (n : Nat) (l : Lan) : (setLan n l s).pipeq = s.pipeq := rfl
@[simp] theorem setLan_pctx (n : Nat) (l : Lan) : (setLan n l s).pctx = s.pctx := rfl
@[simp] theorem setLan_pipeTurn (n : Nat) (l : Lan) : (setLan n l s).pipeTurn = s.pipeTurn := rfl
@[simp] theorem setLan_stage (n : Nat) (l : Lan) : (setLan n l s).stage = s.stage := rfl
@[simp] theorem setLan_spliceq (n : Nat) (l : Lan) : (setLan n l s).spliceq = s.spliceq := rfl
@[simp] theorem setLan_secBank (n : Nat) (l : Lan) : (setLan n l s).secBank = s.secBank := rfl
@[simp] theorem setLan_secCl (n : Nat) (l : Lan) : (setLan n l s).secCl = s.secCl := rfl
@[simp] theorem setLan_secCtx (n : Nat) (l : Lan) : (setLan n l s).secCtx = s.secCtx := rfl
@[simp] theorem setLan_spliceTurn (n : Nat) (l : Lan) : (setLan n l s).spliceTurn = s.spliceTurn := rfl
@[simp] theorem setLan_secPois (n : Nat) (l : Lan) : (setLan n l s).secPois = s.secPois := rfl
@[simp] theorem setLan_lens (n : Nat) (l : Lan) : (setLan n l s).lens = s.lens := rfl
@[simp] theorem setLan_sems (n : Nat) (l : Lan) : (setLan n l s).sems = s.sems := rfl
@[simp] theorem setLan_fc (n : Nat) (l : Lan) : (setLan n l s).fc = s.fc := rfl
@[simp] theorem setLan_resv (n : Nat) (l : Lan) : (setLan n l s).resv = s.resv := rfl
@[simp] theorem setLan_dma (n : Nat) (l : Lan) : (setLan n l s).dma = s.dma := rfl
@[simp] theorem setLan_regul (n : Nat) (l : Lan) : (setLan n l s).regul = s.regul := rfl
@[simp] theorem setLan_ddrValid (n : Nat) (l : Lan) : (setLan n l s).ddrValid = s.ddrValid := rfl
@[simp] theorem setLan_ddr (n : Nat) (l : Lan) : (setLan n l s).ddr = s.ddr := rfl
@[simp] theorem setLan_net (n : Nat) (l : Lan) : (setLan n l s).net = s.net := rfl
@[simp] theorem setLan_resp (n : Nat) (l : Lan) : (setLan n l s).resp = s.resp := rfl
@[simp] theorem setLan_free (n : Nat) (l : Lan) : (setLan n l s).free = s.free := rfl
@[simp] theorem setLan_limits (n : Nat) (l : Lan) : (setLan n l s).limits = s.limits := rfl

/-! `setJob` -/
@[simp] theorem setJob_pending (k : Nat) (j : Job) : (setJob k j s).pending = s.pending := rfl
@[simp] theorem setJob_regs (k : Nat) (j : Job) : (setJob k j s).regs = s.regs := rfl
@[simp] theorem setJob_latches (k : Nat) (j : Job) : (setJob k j s).latches = s.latches := rfl
@[simp] theorem setJob_mem (k : Nat) (j : Job) : (setJob k j s).mem = s.mem := rfl
@[simp] theorem setJob_poison (k : Nat) (j : Job) : (setJob k j s).poison = s.poison := rfl
@[simp] theorem setJob_flash (k : Nat) (j : Job) : (setJob k j s).flash = s.flash := rfl
@[simp] theorem setJob_clock (k : Nat) (j : Job) : (setJob k j s).clock = s.clock := rfl
@[simp] theorem setJob_fuses (k : Nat) (j : Job) : (setJob k j s).fuses = s.fuses := rfl
@[simp] theorem setJob_boot (k : Nat) (j : Job) : (setJob k j s).boot = s.boot := rfl
@[simp] theorem setJob_keeper (k : Nat) (j : Job) : (setJob k j s).keeper = s.keeper := rfl
@[simp] theorem setJob_flashOp (k : Nat) (j : Job) : (setJob k j s).flashOp = s.flashOp := rfl
@[simp] theorem setJob_prec (k : Nat) (j : Job) : (setJob k j s).prec = s.prec := rfl
@[simp] theorem setJob_power (k : Nat) (j : Job) : (setJob k j s).power = s.power := rfl
@[simp] theorem setJob_fault (k : Nat) (j : Job) : (setJob k j s).fault = s.fault := rfl
@[simp] theorem setJob_pcie (k : Nat) (j : Job) : (setJob k j s).pcie = s.pcie := rfl
@[simp] theorem setJob_frames (k : Nat) (j : Job) : (setJob k j s).frames = s.frames := rfl
@[simp] theorem setJob_ports (k : Nat) (j : Job) : (setJob k j s).ports = s.ports := rfl
@[simp] theorem setJob_pipeq (k : Nat) (j : Job) : (setJob k j s).pipeq = s.pipeq := rfl
@[simp] theorem setJob_pctx (k : Nat) (j : Job) : (setJob k j s).pctx = s.pctx := rfl
@[simp] theorem setJob_pipeTurn (k : Nat) (j : Job) : (setJob k j s).pipeTurn = s.pipeTurn := rfl
@[simp] theorem setJob_stage (k : Nat) (j : Job) : (setJob k j s).stage = s.stage := rfl
@[simp] theorem setJob_spliceq (k : Nat) (j : Job) : (setJob k j s).spliceq = s.spliceq := rfl
@[simp] theorem setJob_secBank (k : Nat) (j : Job) : (setJob k j s).secBank = s.secBank := rfl
@[simp] theorem setJob_secCl (k : Nat) (j : Job) : (setJob k j s).secCl = s.secCl := rfl
@[simp] theorem setJob_secCtx (k : Nat) (j : Job) : (setJob k j s).secCtx = s.secCtx := rfl
@[simp] theorem setJob_spliceTurn (k : Nat) (j : Job) : (setJob k j s).spliceTurn = s.spliceTurn := rfl
@[simp] theorem setJob_secPois (k : Nat) (j : Job) : (setJob k j s).secPois = s.secPois := rfl
@[simp] theorem setJob_lens (k : Nat) (j : Job) : (setJob k j s).lens = s.lens := rfl
@[simp] theorem setJob_sems (k : Nat) (j : Job) : (setJob k j s).sems = s.sems := rfl
@[simp] theorem setJob_fc (k : Nat) (j : Job) : (setJob k j s).fc = s.fc := rfl
@[simp] theorem setJob_lan (k : Nat) (j : Job) : (setJob k j s).lan = s.lan := rfl
@[simp] theorem setJob_resv (k : Nat) (j : Job) : (setJob k j s).resv = s.resv := rfl
@[simp] theorem setJob_dma (k : Nat) (j : Job) : (setJob k j s).dma = s.dma := rfl
@[simp] theorem setJob_regul (k : Nat) (j : Job) : (setJob k j s).regul = s.regul := rfl
@[simp] theorem setJob_ddrValid (k : Nat) (j : Job) : (setJob k j s).ddrValid = s.ddrValid := rfl
@[simp] theorem setJob_ddr (k : Nat) (j : Job) : (setJob k j s).ddr = s.ddr := rfl
@[simp] theorem setJob_net (k : Nat) (j : Job) : (setJob k j s).net = s.net := rfl
@[simp] theorem setJob_resp (k : Nat) (j : Job) : (setJob k j s).resp = s.resp := rfl
@[simp] theorem setJob_free (k : Nat) (j : Job) : (setJob k j s).free = s.free := rfl
@[simp] theorem setJob_limits (k : Nat) (j : Job) : (setJob k j s).limits = s.limits := rfl

/-! `setSem` -/
@[simp] theorem setSem_pending (n : Nat) (x : Sem) : (setSem n x s).pending = s.pending := rfl
@[simp] theorem setSem_regs (n : Nat) (x : Sem) : (setSem n x s).regs = s.regs := rfl
@[simp] theorem setSem_latches (n : Nat) (x : Sem) : (setSem n x s).latches = s.latches := rfl
@[simp] theorem setSem_mem (n : Nat) (x : Sem) : (setSem n x s).mem = s.mem := rfl
@[simp] theorem setSem_poison (n : Nat) (x : Sem) : (setSem n x s).poison = s.poison := rfl
@[simp] theorem setSem_flash (n : Nat) (x : Sem) : (setSem n x s).flash = s.flash := rfl
@[simp] theorem setSem_clock (n : Nat) (x : Sem) : (setSem n x s).clock = s.clock := rfl
@[simp] theorem setSem_fuses (n : Nat) (x : Sem) : (setSem n x s).fuses = s.fuses := rfl
@[simp] theorem setSem_boot (n : Nat) (x : Sem) : (setSem n x s).boot = s.boot := rfl
@[simp] theorem setSem_jobs (n : Nat) (x : Sem) : (setSem n x s).jobs = s.jobs := rfl
@[simp] theorem setSem_keeper (n : Nat) (x : Sem) : (setSem n x s).keeper = s.keeper := rfl
@[simp] theorem setSem_flashOp (n : Nat) (x : Sem) : (setSem n x s).flashOp = s.flashOp := rfl
@[simp] theorem setSem_prec (n : Nat) (x : Sem) : (setSem n x s).prec = s.prec := rfl
@[simp] theorem setSem_power (n : Nat) (x : Sem) : (setSem n x s).power = s.power := rfl
@[simp] theorem setSem_fault (n : Nat) (x : Sem) : (setSem n x s).fault = s.fault := rfl
@[simp] theorem setSem_pcie (n : Nat) (x : Sem) : (setSem n x s).pcie = s.pcie := rfl
@[simp] theorem setSem_frames (n : Nat) (x : Sem) : (setSem n x s).frames = s.frames := rfl
@[simp] theorem setSem_ports (n : Nat) (x : Sem) : (setSem n x s).ports = s.ports := rfl
@[simp] theorem setSem_pipeq (n : Nat) (x : Sem) : (setSem n x s).pipeq = s.pipeq := rfl
@[simp] theorem setSem_pctx (n : Nat) (x : Sem) : (setSem n x s).pctx = s.pctx := rfl
@[simp] theorem setSem_pipeTurn (n : Nat) (x : Sem) : (setSem n x s).pipeTurn = s.pipeTurn := rfl
@[simp] theorem setSem_stage (n : Nat) (x : Sem) : (setSem n x s).stage = s.stage := rfl
@[simp] theorem setSem_spliceq (n : Nat) (x : Sem) : (setSem n x s).spliceq = s.spliceq := rfl
@[simp] theorem setSem_secBank (n : Nat) (x : Sem) : (setSem n x s).secBank = s.secBank := rfl
@[simp] theorem setSem_secCl (n : Nat) (x : Sem) : (setSem n x s).secCl = s.secCl := rfl
@[simp] theorem setSem_secCtx (n : Nat) (x : Sem) : (setSem n x s).secCtx = s.secCtx := rfl
@[simp] theorem setSem_spliceTurn (n : Nat) (x : Sem) : (setSem n x s).spliceTurn = s.spliceTurn := rfl
@[simp] theorem setSem_secPois (n : Nat) (x : Sem) : (setSem n x s).secPois = s.secPois := rfl
@[simp] theorem setSem_lens (n : Nat) (x : Sem) : (setSem n x s).lens = s.lens := rfl
@[simp] theorem setSem_fc (n : Nat) (x : Sem) : (setSem n x s).fc = s.fc := rfl
@[simp] theorem setSem_lan (n : Nat) (x : Sem) : (setSem n x s).lan = s.lan := rfl
@[simp] theorem setSem_resv (n : Nat) (x : Sem) : (setSem n x s).resv = s.resv := rfl
@[simp] theorem setSem_dma (n : Nat) (x : Sem) : (setSem n x s).dma = s.dma := rfl
@[simp] theorem setSem_regul (n : Nat) (x : Sem) : (setSem n x s).regul = s.regul := rfl
@[simp] theorem setSem_ddrValid (n : Nat) (x : Sem) : (setSem n x s).ddrValid = s.ddrValid := rfl
@[simp] theorem setSem_ddr (n : Nat) (x : Sem) : (setSem n x s).ddr = s.ddr := rfl
@[simp] theorem setSem_net (n : Nat) (x : Sem) : (setSem n x s).net = s.net := rfl
@[simp] theorem setSem_resp (n : Nat) (x : Sem) : (setSem n x s).resp = s.resp := rfl
@[simp] theorem setSem_free (n : Nat) (x : Sem) : (setSem n x s).free = s.free := rfl
@[simp] theorem setSem_limits (n : Nat) (x : Sem) : (setSem n x s).limits = s.limits := rfl

/-! `setByte` -/
@[simp] theorem setByte_pending (a : Nat) (b : Byte) : (setByte a b s).pending = s.pending := rfl
@[simp] theorem setByte_regs (a : Nat) (b : Byte) : (setByte a b s).regs = s.regs := rfl
@[simp] theorem setByte_latches (a : Nat) (b : Byte) : (setByte a b s).latches = s.latches := rfl
@[simp] theorem setByte_poison (a : Nat) (b : Byte) : (setByte a b s).poison = s.poison := rfl
@[simp] theorem setByte_flash (a : Nat) (b : Byte) : (setByte a b s).flash = s.flash := rfl
@[simp] theorem setByte_clock (a : Nat) (b : Byte) : (setByte a b s).clock = s.clock := rfl
@[simp] theorem setByte_fuses (a : Nat) (b : Byte) : (setByte a b s).fuses = s.fuses := rfl
@[simp] theorem setByte_boot (a : Nat) (b : Byte) : (setByte a b s).boot = s.boot := rfl
@[simp] theorem setByte_jobs (a : Nat) (b : Byte) : (setByte a b s).jobs = s.jobs := rfl
@[simp] theorem setByte_keeper (a : Nat) (b : Byte) : (setByte a b s).keeper = s.keeper := rfl
@[simp] theorem setByte_flashOp (a : Nat) (b : Byte) : (setByte a b s).flashOp = s.flashOp := rfl
@[simp] theorem setByte_prec (a : Nat) (b : Byte) : (setByte a b s).prec = s.prec := rfl
@[simp] theorem setByte_power (a : Nat) (b : Byte) : (setByte a b s).power = s.power := rfl
@[simp] theorem setByte_fault (a : Nat) (b : Byte) : (setByte a b s).fault = s.fault := rfl
@[simp] theorem setByte_pcie (a : Nat) (b : Byte) : (setByte a b s).pcie = s.pcie := rfl
@[simp] theorem setByte_frames (a : Nat) (b : Byte) : (setByte a b s).frames = s.frames := rfl
@[simp] theorem setByte_ports (a : Nat) (b : Byte) : (setByte a b s).ports = s.ports := rfl
@[simp] theorem setByte_pipeq (a : Nat) (b : Byte) : (setByte a b s).pipeq = s.pipeq := rfl
@[simp] theorem setByte_pctx (a : Nat) (b : Byte) : (setByte a b s).pctx = s.pctx := rfl
@[simp] theorem setByte_pipeTurn (a : Nat) (b : Byte) : (setByte a b s).pipeTurn = s.pipeTurn := rfl
@[simp] theorem setByte_stage (a : Nat) (b : Byte) : (setByte a b s).stage = s.stage := rfl
@[simp] theorem setByte_spliceq (a : Nat) (b : Byte) : (setByte a b s).spliceq = s.spliceq := rfl
@[simp] theorem setByte_secBank (a : Nat) (b : Byte) : (setByte a b s).secBank = s.secBank := rfl
@[simp] theorem setByte_secCl (a : Nat) (b : Byte) : (setByte a b s).secCl = s.secCl := rfl
@[simp] theorem setByte_secCtx (a : Nat) (b : Byte) : (setByte a b s).secCtx = s.secCtx := rfl
@[simp] theorem setByte_spliceTurn (a : Nat) (b : Byte) : (setByte a b s).spliceTurn = s.spliceTurn := rfl
@[simp] theorem setByte_secPois (a : Nat) (b : Byte) : (setByte a b s).secPois = s.secPois := rfl
@[simp] theorem setByte_lens (a : Nat) (b : Byte) : (setByte a b s).lens = s.lens := rfl
@[simp] theorem setByte_sems (a : Nat) (b : Byte) : (setByte a b s).sems = s.sems := rfl
@[simp] theorem setByte_fc (a : Nat) (b : Byte) : (setByte a b s).fc = s.fc := rfl
@[simp] theorem setByte_lan (a : Nat) (b : Byte) : (setByte a b s).lan = s.lan := rfl
@[simp] theorem setByte_resv (a : Nat) (b : Byte) : (setByte a b s).resv = s.resv := rfl
@[simp] theorem setByte_dma (a : Nat) (b : Byte) : (setByte a b s).dma = s.dma := rfl
@[simp] theorem setByte_regul (a : Nat) (b : Byte) : (setByte a b s).regul = s.regul := rfl
@[simp] theorem setByte_ddrValid (a : Nat) (b : Byte) : (setByte a b s).ddrValid = s.ddrValid := rfl
@[simp] theorem setByte_ddr (a : Nat) (b : Byte) : (setByte a b s).ddr = s.ddr := rfl
@[simp] theorem setByte_net (a : Nat) (b : Byte) : (setByte a b s).net = s.net := rfl
@[simp] theorem setByte_resp (a : Nat) (b : Byte) : (setByte a b s).resp = s.resp := rfl
@[simp] theorem setByte_free (a : Nat) (b : Byte) : (setByte a b s).free = s.free := rfl
@[simp] theorem setByte_limits (a : Nat) (b : Byte) : (setByte a b s).limits = s.limits := rfl

/-! `setPoison` -/
@[simp] theorem setPoison_pending (b : Nat) (v : Bool) : (setPoison b v s).pending = s.pending := rfl
@[simp] theorem setPoison_regs (b : Nat) (v : Bool) : (setPoison b v s).regs = s.regs := rfl
@[simp] theorem setPoison_latches (b : Nat) (v : Bool) : (setPoison b v s).latches = s.latches := rfl
@[simp] theorem setPoison_mem (b : Nat) (v : Bool) : (setPoison b v s).mem = s.mem := rfl
@[simp] theorem setPoison_flash (b : Nat) (v : Bool) : (setPoison b v s).flash = s.flash := rfl
@[simp] theorem setPoison_clock (b : Nat) (v : Bool) : (setPoison b v s).clock = s.clock := rfl
@[simp] theorem setPoison_fuses (b : Nat) (v : Bool) : (setPoison b v s).fuses = s.fuses := rfl
@[simp] theorem setPoison_boot (b : Nat) (v : Bool) : (setPoison b v s).boot = s.boot := rfl
@[simp] theorem setPoison_jobs (b : Nat) (v : Bool) : (setPoison b v s).jobs = s.jobs := rfl
@[simp] theorem setPoison_keeper (b : Nat) (v : Bool) : (setPoison b v s).keeper = s.keeper := rfl
@[simp] theorem setPoison_flashOp (b : Nat) (v : Bool) : (setPoison b v s).flashOp = s.flashOp := rfl
@[simp] theorem setPoison_prec (b : Nat) (v : Bool) : (setPoison b v s).prec = s.prec := rfl
@[simp] theorem setPoison_power (b : Nat) (v : Bool) : (setPoison b v s).power = s.power := rfl
@[simp] theorem setPoison_fault (b : Nat) (v : Bool) : (setPoison b v s).fault = s.fault := rfl
@[simp] theorem setPoison_pcie (b : Nat) (v : Bool) : (setPoison b v s).pcie = s.pcie := rfl
@[simp] theorem setPoison_frames (b : Nat) (v : Bool) : (setPoison b v s).frames = s.frames := rfl
@[simp] theorem setPoison_ports (b : Nat) (v : Bool) : (setPoison b v s).ports = s.ports := rfl
@[simp] theorem setPoison_pipeq (b : Nat) (v : Bool) : (setPoison b v s).pipeq = s.pipeq := rfl
@[simp] theorem setPoison_pctx (b : Nat) (v : Bool) : (setPoison b v s).pctx = s.pctx := rfl
@[simp] theorem setPoison_pipeTurn (b : Nat) (v : Bool) : (setPoison b v s).pipeTurn = s.pipeTurn := rfl
@[simp] theorem setPoison_stage (b : Nat) (v : Bool) : (setPoison b v s).stage = s.stage := rfl
@[simp] theorem setPoison_spliceq (b : Nat) (v : Bool) : (setPoison b v s).spliceq = s.spliceq := rfl
@[simp] theorem setPoison_secBank (b : Nat) (v : Bool) : (setPoison b v s).secBank = s.secBank := rfl
@[simp] theorem setPoison_secCl (b : Nat) (v : Bool) : (setPoison b v s).secCl = s.secCl := rfl
@[simp] theorem setPoison_secCtx (b : Nat) (v : Bool) : (setPoison b v s).secCtx = s.secCtx := rfl
@[simp] theorem setPoison_spliceTurn (b : Nat) (v : Bool) : (setPoison b v s).spliceTurn = s.spliceTurn := rfl
@[simp] theorem setPoison_secPois (b : Nat) (v : Bool) : (setPoison b v s).secPois = s.secPois := rfl
@[simp] theorem setPoison_lens (b : Nat) (v : Bool) : (setPoison b v s).lens = s.lens := rfl
@[simp] theorem setPoison_sems (b : Nat) (v : Bool) : (setPoison b v s).sems = s.sems := rfl
@[simp] theorem setPoison_fc (b : Nat) (v : Bool) : (setPoison b v s).fc = s.fc := rfl
@[simp] theorem setPoison_lan (b : Nat) (v : Bool) : (setPoison b v s).lan = s.lan := rfl
@[simp] theorem setPoison_resv (b : Nat) (v : Bool) : (setPoison b v s).resv = s.resv := rfl
@[simp] theorem setPoison_dma (b : Nat) (v : Bool) : (setPoison b v s).dma = s.dma := rfl
@[simp] theorem setPoison_regul (b : Nat) (v : Bool) : (setPoison b v s).regul = s.regul := rfl
@[simp] theorem setPoison_ddrValid (b : Nat) (v : Bool) : (setPoison b v s).ddrValid = s.ddrValid := rfl
@[simp] theorem setPoison_ddr (b : Nat) (v : Bool) : (setPoison b v s).ddr = s.ddr := rfl
@[simp] theorem setPoison_net (b : Nat) (v : Bool) : (setPoison b v s).net = s.net := rfl
@[simp] theorem setPoison_resp (b : Nat) (v : Bool) : (setPoison b v s).resp = s.resp := rfl
@[simp] theorem setPoison_free (b : Nat) (v : Bool) : (setPoison b v s).free = s.free := rfl
@[simp] theorem setPoison_limits (b : Nat) (v : Bool) : (setPoison b v s).limits = s.limits := rfl

/-! ### What a read shows after an update -/

/-- A register reads as what was written there. -/
@[simp] theorem rd_wr_same (o : Nat) (v : Word) : rd (wr o v s) o = v := by simp [rd, wr]
/-- Every other register reads as before. -/
theorem rd_wr_other (o p : Nat) (v : Word) (h : p ≠ o) : rd (wr o v s) p = rd s p := by
  simp [rd, wr, tget_tput_other _ _ _ _ _ _ h]
/-- Any register after a write. -/
theorem rd_wr (o p : Nat) (v : Word) : rd (wr o v s) p = if p = o then v else rd s p := by
  by_cases h : p = o
  · simp [h]
  · simp [h, rd_wr_other]
theorem rd_wrn (o p v : Nat) : rd (wrn o v s) p = if p = o then w32 v else rd s p := rd_wr s o p (w32 v)
theorem rd_wrF (o p hi lo v : Nat) : rd (wrF o hi lo v s) p = if p = o then setFld (rd s o) hi lo v else rd s p :=
  rd_wr s o p _
theorem rd_wrB (o p i : Nat) (b : Bool) : rd (wrB o i b s) p = if p = o then setBit (rd s o) i b else rd s p :=
  rd_wr s o p _
theorem rd_bump (o p n : Nat) : rd (bump o n s) p = if p = o then w32 (satN 32 (rdn s o + n)) else rd s p :=
  rd_wr s o p _
theorem rd_bumpW (o p n : Nat) : rd (bumpW o n s) p = if p = o then w32 (rdn s o + n) else rd s p := rd_wr s o p _
/-- Only the registers decide what a register reads as. -/
theorem rd_congr (s t : State) (h : t.regs = s.regs) (o : Nat) : rd t o = rd s o := by simp [rd, h]

/-- A core, a job, a semaphore reads as what it was set to; the others as before. -/
theorem lan_setLan (n m : Nat) (l : Lan) : lan (setLan n l s) m = if m = n then l else lan s m := by
  simp [lan, setLan, tget_tput]
theorem job_setJob (k m : Nat) (j : Job) : job (setJob k j s) m = if m = k then j else job s m := by
  simp [job, setJob, tget_tput]
theorem sem_setSem (n m : Nat) (x : Sem) : sem (setSem n x s) m = if m = n then x else sem s m := by
  simp [sem, setSem, tget_tput]
@[simp] theorem lan_setLan_same (n : Nat) (l : Lan) : lan (setLan n l s) n = l := by simp [lan_setLan]
@[simp] theorem job_setJob_same (k : Nat) (j : Job) : job (setJob k j s) k = j := by simp [job_setJob]
@[simp] theorem sem_setSem_same (n : Nat) (x : Sem) : sem (setSem n x s) n = x := by simp [sem_setSem]
@[simp] theorem latch_setLatch_same (i : Iface) (o : Nat) (v : Word) : latch (setLatch i o v s) i o = v := by
  simp [latch, setLatch]
theorem latch_setLatch_other (i j : Iface) (o p : Nat) (v : Word) (h : latchKey j p ≠ latchKey i o) :
    latch (setLatch i o v s) j p = latch s j p := by
  simp [latch, setLatch, tget_tput_other _ _ _ _ _ _ h]
/-- A byte of memory reads as what was stored there; the others as before. -/
@[simp] theorem memByte_setByte_same (a : Nat) (b : Byte) : memByte (setByte a b s) a = b := by simp [memByte, setByte]
theorem memByte_setByte_other (a x : Nat) (b : Byte) (h : x ≠ a) : memByte (setByte a b s) x = memByte s x := by
  simp [memByte, setByte, tget_tput_other _ _ _ _ _ _ h]

end

end Sys2Proof.Machine
end

