-- ==== Sys2Proof/Laws/Memory.lean ====
section
/-! SUPPORT. Laws of the memory: bytes stored are read back, every other byte stays, and the canonical form is kept. -/

namespace Sys2Proof.Machine

open Sys2Proof

/-- A byte outside a stored range reads as before. -/
theorem memByte_setBytes_other (a : Nat) (bs : List Byte) (s : State) (x : Nat) (h : x < a ∨ a + bs.length ≤ x) :
    memByte (setBytes a bs s) x = memByte s x := by
  induction bs generalizing a s with
  | nil => rfl
  | cons b t ih =>
    simp only [List.length_cons] at h
    have h1 : x ≠ a := by omega
    rw [setBytes, ih (a + 1) _ (by omega), memByte_setByte_other _ _ _ _ h1]

/-- A byte inside a stored range reads as the byte stored there. -/
theorem memByte_setBytes_in (a : Nat) (bs : List Byte) (s : State) (k : Nat) (h : k < bs.length) :
    memByte (setBytes a bs s) (a + k) = bs.getD k 0 := by
  induction bs generalizing a s k with
  | nil => simp at h
  | cons b t ih =>
    cases k with
    | zero =>
      rw [setBytes, Nat.add_zero, memByte_setBytes_other _ _ _ _ (Or.inl (by omega))]
      simp
    | succ k =>
      have h' : k < t.length := by simpa using h
      have e : a + (k + 1) = (a + 1) + k := by omega
      rw [setBytes, e, ih (a + 1) _ k h']
      simp

/-- Storing bytes changes nothing but memory. -/
@[simp] theorem setBytes_regs (a : Nat) (bs : List Byte) (s : State) : (setBytes a bs s).regs = s.regs := by
  induction bs generalizing a s with
  | nil => rfl
  | cons b t ih => simp [setBytes, ih]

/-- Storing one byte keeps the canonical form. -/
theorem setByte_memWf (a : Nat) (b : Byte) (s : State) (h : Memory.wf s.mem = true) : Memory.wf (setByte a b s).mem = true :=
  tput_wf (fun _ => (0 : Byte)) s.mem a b h

/-- Storing bytes keeps the canonical form. -/
theorem setBytes_memWf (a : Nat) (bs : List Byte) (s : State) (h : Memory.wf s.mem = true) :
    Memory.wf (setBytes a bs s).mem = true := by
  induction bs generalizing a s with
  | nil => exact h
  | cons b t ih => exact ih (a + 1) _ (setByte_memWf a b s h)

/-- A mark of one unit leaves memory alone. -/
@[simp] theorem markUnit_mem (a len : Nat) (d : Bool) (u : Nat × Nat) (s : State) : (markUnit a len d u s).mem = s.mem := by
  unfold markUnit
  split
  · rfl
  · split <;> rfl

/-- Marks leave memory alone. -/
theorem forAll_markUnit_mem (a len : Nat) (d : Bool) (l : List (Nat × Nat)) (s : State) :
    (forAll l (markUnit a len d) s).mem = s.mem := by
  induction l generalizing s with
  | nil => rfl
  | cons u t ih =>
    have e : forAll (u :: t) (markUnit a len d) s = forAll t (markUnit a len d) (markUnit a len d u s) := rfl
    rw [e, ih, markUnit_mem]

/-- The reservations that a write clears are no part of memory. -/
@[simp] theorem unreserve_mem (a len : Nat) (s : State) : (unreserve a len s).mem = s.mem := by
  unfold unreserve
  split <;> rfl

/-- What a store leaves in memory. -/
theorem storeBytes_mem (a : Nat) (bs : List Byte) (d : Bool) (s : State) :
    (storeBytes a bs d s).mem = (setBytes a bs (unreserve a bs.length s)).mem := by
  unfold storeBytes
  exact forAll_markUnit_mem _ _ _ _ _

/-- A store keeps the canonical form. -/
theorem storeBytes_memWf (a : Nat) (bs : List Byte) (d : Bool) (s : State) (h : Memory.wf s.mem = true) :
    Memory.wf (storeBytes a bs d s).mem = true := by
  rw [storeBytes_mem]
  exact setBytes_memWf _ _ _ (by simpa using h)

/-- A store leaves every byte outside its range. -/
theorem memByte_storeBytes_other (a : Nat) (bs : List Byte) (d : Bool) (s : State) (x : Nat) (h : x < a ∨ a + bs.length ≤ x) :
    memByte (storeBytes a bs d s) x = memByte s x := by
  have e : memByte (storeBytes a bs d s) x = memByte (setBytes a bs (unreserve a bs.length s)) x := by
    simp [memByte, storeBytes_mem]
  rw [e, memByte_setBytes_other _ _ _ _ h]
  simp [memByte]

/-- A store puts its bytes in place. -/
theorem memByte_storeBytes_in (a : Nat) (bs : List Byte) (d : Bool) (s : State) (k : Nat) (h : k < bs.length) :
    memByte (storeBytes a bs d s) (a + k) = bs.getD k 0 := by
  have e : memByte (storeBytes a bs d s) (a + k) = memByte (setBytes a bs (unreserve a bs.length s)) (a + k) := by
    simp [memByte, storeBytes_mem]
  rw [e, memByte_setBytes_in _ _ _ _ h]

end Sys2Proof.Machine
end

