-- ==== Sys2Proof/Tests/Slice0.lean ====
section
/-! SUPPORT. Tests of the model: commands that cannot occur are refused by WellFormed; worked examples of the spec; and for
every obligation with hypotheses a named theorem (`witness_` and its name) that shows, for each of its clauses, a concrete
state and operands that meet all of that clause's hypotheses together. -/

namespace Sys2Proof.Tests

set_option linter.unusedVariables false
set_option Elab.async false

open Sys2Proof Sys2Proof.Machine

/-! ### Small states -/

/-- Registers take values, by offset. -/
def withRegs (l : List (Nat × Nat)) (s : State) : State := l.foldl (fun s e => wr e.1 (w32 e.2) s) s
/-- The device after reset with some registers set. -/
def regsAt (l : List (Nat × Nat)) : State := withRegs l State.reset
/-- Bytes of memory from an address up. -/
def withMem (a : Nat) (b : List Byte) (s : State) : State := { s with mem := b.zipIdx.foldl (fun m e => tput 0 m (a + e.2) e.1) s.mem }
/-- Bytes of the flash from an address up. -/
def withFlash (a : Nat) (b : List Byte) (s : State) : State :=
  { s with flash := b.zipIdx.foldl (fun m e => tput 0xFF m (a + e.2) e.1) s.flash }
/-- The row of the register map and the indices of an offset. -/
def rowOf (o : Nat) : RegRow := ((regAt o).getD ({ base := 0, dims := [], rst := 0 }, [])).1
def ixOf (o : Nat) : List Nat := ((regAt o).getD ({ base := 0, dims := [], rst := 0 }, [])).2

/-- NAP with every clock of D1 to D4 stopped (R19, R509). -/
def napState : State := { regsAt [(rPWR_PLAN, 0xF)] with power := { state := .nap } }
/-- A camera segment with triggers due at these times; a trigger generator of it. -/
def segOf (dues : List Nat) : Seg :=
  { win := 0, jobId := 0, enc := 0, trail := none, div := 256, stop := 0, minper := 481, width := 1, interp := false, activeLow := false,
    ctx := 0, hi := 0, dues := dues, lastPos := 0, lastAt := 0 }
def trigState (dues : List Nat) (held : Bool) (last aon : Nat) : State :=
  { State.reset with keeper := { trigs := [(7, { seg := some (segOf dues), held := held, last := last })] }, clock := { aon := aon } }
/-- Port 7: an area camera of 16 by 16 pixels (`cfg` bit 0: a line camera), its state and what is set beside it. -/
def portAt (state cfg : Nat) (x : Port) : State :=
  { regsAt [(rVP_STATUS 7, state), (rVP_ADMIT 7, 1), (rVP_CFG 7, cfg), (rVP_CFG 7 + 0x8000, cfg), (rVP_SIZE 7, 0x10010),
      (rVP_SIZE 7 + 0x8000, 0x10010)] with ports := [(7, x)] }
/-- Context `c` is routed by `route`; what it holds. -/
def ctxAt (c route : Nat) (x : PCtx) (q : List PipeItem) : State :=
  { State.reset with boot := { secs := [(3, zeros (8 * c) ++ [BitVec.ofNat 8 route])] }, pctx := [(c, x)], pipeq := [(c, q)] }
/-- A line of five pixels. -/
def line5 : Line := { idx := 0, planes := [[1, 2, 3, 4, 5]] }
/-- A memory job of the Sector engine. -/
def mjOf (wait : Bool) : SecMj :=
  { at_ := 0, chain := 1, slot := 0, gen := 0, waitEn := wait, signalEn := false, jobId := 9, width := 16, height := 1, waitSem := 1023,
    signalSem := 1023, inBase := 0x140000000, inRow := 64, inPlane := 0, outBase := 0x140000040, outRow := 64, outPlane := 0, top := 0,
    bottom := 0 }

/-! ### A structure image (R35 to R38) -/

/-- A section record with its CRC. -/
def imgSec (type crc : Nat) (p : List Byte) : List Byte :=
  leBytes 2 type ++ [0, 0] ++ leBytes 4 p.length ++ leBytes 4 crc ++ zeros 4 ++ p
/-- The network section of a device that stands alone. -/
def netPayload : List Byte :=
  zeros 8 ++ [1, 0] ++ zeros 22 ++ ([2, 0, 0, 0, 0, 1, 0, 0] ++ zeros 24 ++ [2, 0, 0, 0, 0, 5, 0, 0] ++ zeros 24 ++ [2, 0, 0, 0, 0, 9, 0, 0]) ++
  zeros 184 ++ (zeros 16 ++ [2, 0, 0, 0, 0, 1, 0, 0]) ++ zeros 168
/-- The LPDDR5X section: topology 1, 32 GiB. -/
def ddrPayload : List Byte := [1, 32, 0, 0, 0, 0, 0, 0, 0, 1] ++ zeros 54
/-- The least image: every required section, nothing routed, no core active. Its CRCs and its digest were computed outside the
model, by another implementation of CRC-32C and of SHA-256. -/
def imgBytes : List Byte :=
  leBytes 4 0x49535646 ++ [0, 1] ++ leBytes 2 7 ++ leBytes 4 1528 ++ leBytes 4 5 ++ zeros 24 ++ leBytes 4 0xB09640 ++ zeros 16 ++
  leBytes 4 0xf0fc345c ++ imgSec 2 0x82cdaadc (zeros 32) ++ imgSec 3 0x1ad6c42c (zeros 160) ++ imgSec 4 0x224a4acc (zeros 512) ++
  imgSec 5 0x770c9018 (zeros 72) ++ imgSec 7 0x7671b78e [] ++ imgSec 10 0x7e7033d4 netPayload ++ imgSec 12 0x40ff72ab ddrPayload ++
  leBytes 16 0xdde98efe0c3d68a700ce0e5557284fe9 ++ leBytes 16 0x4221fdde58c78f16e54d4da426be1d6b
/-- The cells that hold bytes from an address up. -/
def cells (a : Nat) : List Byte → Tab Byte
  | [] => []
  | x :: t => if x = 0 then cells (a + 1) t else (a, x) :: cells (a + 1) t
/-- The image staged in weight memory of a device that waits for one. -/
def stagedState : State :=
  { regsAt [(rSTAGE_LEN, 1528)] with mem := cells wmBase imgBytes, boot := { phase := .waitPcie } }

/-! ### A program of the Sector engine (R178 to R181) -/

/-- Two chains of one layer each: chain 0 live, RAW16 in, RETURN out; chain 1 of memory jobs, ACTMEM out. Its CRC was computed
outside the model. -/
def secImage : List Byte :=
  leBytes 4 0x52504353 ++ [2, 2, 0, 0] ++ leBytes 4 0x350 ++ zeros 4 ++ leBytes 8 16576 ++ leBytes 8 16417 ++ zeros 28 ++
  leBytes 4 0xfb1dc83f ++
  (leBytes 4 0x1F0000 ++ leBytes 4 0x24 ++ zeros 8 ++ leBytes 4 65535 ++ leBytes 4 0x340 ++ leBytes 4 0x348 ++ zeros 4) ++
  (leBytes 4 0x1F0000 ++ leBytes 4 8 ++ zeros 4 ++ leBytes 4 0xFFFFFF80 ++ leBytes 4 127 ++ leBytes 4 0x340 ++ leBytes 4 0x348 ++ zeros 4) ++
  zeros 704 ++ zeros 8 ++ [1] ++ zeros 7
/-- Cluster 3 holds the program in a bank. -/
def withProg (bank : Nat) (s : State) : State := { s with secBank := cells ((6 + bank) * 196608) secImage }

/-! ### An operation of the Lens (R217, R253) -/

/-- A POOL operation over one pixel of one channel: descriptor, and quantisation descriptor with INT8 out. -/
def lensDesc : List Byte :=
  leBytes 4 0x1004 ++ leBytes 4 9 ++ zeros 16 ++ [1, 0] ++ zeros 6 ++ leBytes 8 0x140000080 ++ leBytes 8 0x140000140 ++
  leBytes 4 64 ++ leBytes 4 64 ++ [1, 0, 1, 0, 1, 0, 0, 0] ++ zeros 20 ++ [1, 0] ++ zeros 18 ++ leBytes 8 0x140000180 ++
  leBytes 4 64 ++ leBytes 4 64 ++ [1, 0] ++ zeros 6
def lensQuant : List Byte := leBytes 4 0x20 ++ [1, 0] ++ zeros 10 ++ [127] ++ zeros 23 ++ leBytes 8 0x140000100 ++ zeros 80
/-- Both in activation memory, with its first bank open to every port. -/
def lensState (ops : List LensOp) : State :=
  { regsAt [(rSP_OWNER 32, 0x3FFF)] with mem := cells amBase (lensDesc ++ lensQuant), lens := { ops := ops, nextSeq := 7 } }
/-- The operation in the queue. -/
def lensOp (phase : LensPhase) (slot : Option Nat) : LensOp :=
  { seq := 3, addr := amBase, desc := lensDesc, phase := phase, slot := slot, qd := lensQuant }
/-- The same, with generation 1. -/
def lensStale (phase : LensPhase) (slot : Option Nat) : LensOp :=
  { lensOp phase slot with desc := lensDesc.take 9 ++ [1] ++ lensDesc.drop 10 }

/-! ### A Lantern core (R340 to R346) -/

/-- Every core is active; core 17 has the words at the address of its next bundle. -/
def lanternState (words : List Nat) (l : Lan) : State :=
  { withMem (lanternBase 17 + 0x800000 + l.pc) (words.flatMap (leBytes 4)) (regsAt [(rDEV_CAP1, 0x3FFFF)]) with lan := [(17, l)] }
/-- The core as an issue finds it. -/
def issuing (s : State) : Lan := { (lan s 17).landAt (lan s 17).n with seen := false, fence := false }
/-- What the syllables of its next bundle do. -/
def nextEffects (s : State) : List (LSyl × LEff) :=
  let l := issuing s
  let ws := imemBundle s 17 l.pc
  ((bundleOf ws).bind (evalAll l l.pc (4 * ws.length) s.free)).getD []

/-! ### A device of a group of two on IF0, PTP on the management port -/

/-- Its network section: member `own`; members at addresses 100 and 101. -/
def netGroup (own flags : Nat) : List Byte :=
  zeros 4 ++ leBytes 4 7 ++ [2, BitVec.ofNat 8 own, 0, BitVec.ofNat 8 flags] ++ leBytes 4 9 ++ [0, 8] ++ zeros 14 ++
  (upto 9).flatMap (fun k => [2, 0, 0, 0, 0, BitVec.ofNat 8 k, 0, 0]) ++ zeros 8 ++ (upto 9).flatMap (fun k => leBytes 16 (200 + k)) ++
  zeros 32 ++ (upto 8).flatMap (fun m => leBytes 16 (100 + m) ++ [2, 0, 0, 0, 1, BitVec.ofNat 8 m, 0, 0])
/-- Both interfaces carry frames. -/
def netState (own flags : Nat) (regs : List (Nat × Nat)) (n : Net) : State :=
  { regsAt ([(ifPage 0, 1), (ifPage 0 + 4, 1), (ifPage 8, 1), (ifPage 8 + 4, 1)] ++ regs) with
    boot := { secs := [(10, netGroup own flags)] }, net := n }
/-- The other member as a peer. -/
def mateOf (own : Nat) : Peer := { ifc := 0, addr := 101 - own, port := 47600, mac := 0 }
/-- An association with the other member in entry 63, next sequence 9. -/
def mateAssoc (own : Nat) : Assoc := { peer := mateOf own, tx := 5, answered := true, rx := some { next := 9, serial := 77 } }
def mateNet (own : Nat) (a : Assoc) : Net := { assocs := [(63, some a)], mates := [(1 - own, { epoch := 6 })] }
/-- A message of the other member. -/
def ctpIn (own seq flags channel : Nat) (payload : List Byte) : CtpIn :=
  { ifc := 0, addr := BitVec.ofNat 128 (101 - own), port := 47600, mac := 0, flags := BitVec.ofNat 16 flags,
    member := BitVec.ofNat 8 (1 - own), seq := BitVec.ofNat 32 seq, serial := 77, channel := BitVec.ofNat 16 channel, payload := payload }
/-- The same, GROUPED under epoch 6. -/
def grouped (m : CtpIn) : CtpIn := { m with member := m.member + 8, epoch := 6 }

theorem tget_cells_below (a j : Nat) (b : List Byte) (h : j < a) : tget 0 (cells a b) j = 0 := by
  induction b generalizing a with
  | nil => rfl
  | cons x t ih =>
    by_cases hx : x = 0
    · rw [cells, if_pos hx]
      exact ih (a + 1) (by omega)
    · rw [cells, if_neg hx, tget, if_neg (by omega), if_pos h]

theorem tget_cells_above (a j : Nat) (x : Byte) (b : List Byte) (h : a < j) :
    tget 0 (cells a (x :: b)) j = tget 0 (cells (a + 1) b) j := by
  by_cases hx : x = 0
  · rw [cells, if_pos hx]
  · rw [cells, if_neg hx, tget, if_neg (by omega), if_neg (by omega)]

theorem tget_cells_at (a : Nat) (x : Byte) (b : List Byte) : tget 0 (cells a (x :: b)) a = x := by
  by_cases hx : x = 0
  · rw [cells, if_pos hx, tget_cells_below _ _ _ (by omega), hx]
  · rw [cells, if_neg hx, tget, if_pos rfl]

/-- Reading back the bytes that cells hold. -/
theorem memBytes_cells (a : Nat) (b : List Byte) (s : State) (h : ∀ j, a ≤ j → tget 0 s.mem j = tget 0 (cells a b) j) :
    memBytes s a b.length = b := by
  induction b generalizing a with
  | nil => rfl
  | cons x t ih =>
    have h0 : memByte s a = x := by rw [memByte, h a (Nat.le_refl a), tget_cells_at]
    have h1 := ih (a + 1) (fun j hj => by rw [h j (by omega), tget_cells_above a j x t (by omega)])
    rw [List.length_cons, memBytes, h0, h1]

/-- A device that is quiesced, runs the image, and holds it staged again. -/
def applyState : State :=
  { regsAt [(rSTAGE_LEN, 1528), (rSTAGE_ADDR_LO, 0), (rSTAGE_ADDR_LO + 4, 1), (rQUIESCE_STATUS, 2), (rQUIESCE_CTRL, 1)] with
    mem := cells wmBase imgBytes, boot := { phase := .running, secs := [(2, zeros 32), (12, ddrPayload)] } }

/-! ### The image passes every check -/

/-- The sections of the image. -/
def imgRecs : List SecRec := (walkSecs 7 1432 (imgBytes.drop 64)).getD []

theorem headerFail_not_ok (b : List Byte) (f : Ver) (h : headerFail b = some f) : f.ok = false := by
  unfold headerFail at h
  split at h
  · cases h; rfl
  · split at h
    · cases h; rfl
    · split at h
      · cases h; rfl
      · cases h

/-- What the first five checks give where they pass. -/
theorem verifyForm_ok (b : List Byte) (cap : Nat) (st : Option Nat) (r : Ver × List SecRec) (hr : verifyForm b cap st = r)
    (h : r.1.ok = true) :
    r.1.secs = secTab r.2 ∧ walkSecs (leAt 6 2 b) (leAt 8 4 b - 96) (b.drop 64) = some r.2 := by
  unfold verifyForm at hr
  split at hr
  · next f hf => subst hr; rw [headerFail_not_ok b f hf] at h; cases h
  · simp only at hr
    split at hr
    · subst hr; cases h
    · split at hr
      · subst hr; cases h
      · split at hr
        · subst hr; cases h
        · split at hr
          · subst hr; cases h
          · split at hr
            · subst hr; cases h
            · split at hr
              · subst hr; cases h
              · subst hr; exact ⟨rfl, by assumption⟩

/-- An image that passes the checks of form and of meaning passes. -/
theorem verifyImage_ok (avail : List Byte → Avail) (s : State) (b : List Byte) (cap : Nat) (st : Option Nat) (l : List SecRec)
    (h : (verifyForm b cap st).1.ok = true) (hl : walkSecs (leAt 6 2 b) (leAt 8 4 b - 96) (b.drop 64) = some l)
    (hm : firstBad (fun _ x => semanticFails (avail (tget [] (secTab l) 1)) s (secTab l) x.type) 0 l = none) :
    (verifyImage avail s b cap st).ok = true := by
  have e := verifyForm_ok b cap st _ rfl h
  rw [hl] at e
  have e2 : (verifyForm b cap st).2 = l := by injection e.2 with e2; exact e2.symm
  have e1 := e.1
  rw [e2] at e1
  rw [← e1, ← e2] at hm
  unfold verifyImage
  simp only [h, Bool.not_true, Bool.false_eq_true, if_false, hm]

theorem staged_bytes (s : State) (h : s.mem = cells wmBase imgBytes) (hd : decodesAll s wmBase 1528 = true)
    (hp : poisonedIn s wmBase 1528 = false) : stagedBytes s wmBase 1528 = some imgBytes := by
  have e := memBytes_cells wmBase imgBytes s (fun j _ => by rw [h])
  have l : imgBytes.length = 1528 := by decide +kernel
  rw [l] at e
  have c : regionOf wmBase = .wm := by decide +kernel
  rw [stagedBytes, if_pos, e]
  rw [c, hd, hp]
  exact ⟨by decide, rfl, by decide, by decide⟩

set_option maxRecDepth 100000 in
theorem image_form : (verifyForm imgBytes 0x2000000 (some 1528)).1.ok = true := by decide +kernel

theorem image_walk : walkSecs (leAt 6 2 imgBytes) (leAt 8 4 imgBytes - 96) (imgBytes.drop 64) = some imgRecs := by decide +kernel

theorem image_recs : (verifyForm imgBytes 0x2000000 (some 1528)).2 = imgRecs :=
  Option.some.inj ((verifyForm_ok imgBytes 0x2000000 (some 1528) _ rfl image_form).2.symm.trans image_walk)



/-! ### Commands that cannot occur are not well formed -/

theorem test_wf_dram_read_crosses_unit : (Instr.dramReadRequest 0 0x10000000FF 2).wellFormed = false := by decide +kernel
theorem test_wf_dram_read_empty : (Instr.dramReadRequest 0 0x1000000000 0).wellFormed = false := by decide +kernel
theorem test_wf_dram_read_unit : (Instr.dramReadRequest 0 0x1000000000 256).wellFormed = true := by decide +kernel
theorem test_wf_dram_write_crosses_unit : (Instr.dramWriteRequest 0 0x10000000FF ⟨[1, 2], .none, .none⟩).wellFormed = false := by decide +kernel
theorem test_wf_local_write_crosses_unit : (Instr.externalLocalAccess 0 63 (some [1, 2]) 0 ⟨false, .none⟩).wellFormed = false := by decide +kernel
theorem test_wf_local_read_crosses_unit : (Instr.externalLocalAccess 0 32 none 33 ⟨false, .none⟩).wellFormed = false := by decide +kernel
theorem test_wf_spad_read_over_row : (Instr.spadRead 0 0x100000000 2049 .none).wellFormed = false := by decide +kernel
theorem test_wf_spad_write_empty : (Instr.spadWrite 0 0x100000000 [] false .none).wellFormed = false := by decide +kernel
theorem test_wf_pcie_read_empty : (Instr.pcieInboundRead false 0 0).wellFormed = false := by decide +kernel
theorem test_wf_pcie_write_over : (Instr.pcieInboundWrite true 0 (List.replicate 4097 0) false).wellFormed = false := by decide +kernel
theorem test_wf_pcie_completion_over : (Instr.pcieCompletion 0 true (List.replicate 4097 0) false).wellFormed = false := by
  decide +kernel
theorem test_wf_frame_empty : (Instr.frameReceive 0 true [] 0).wellFormed = false := by decide +kernel
theorem test_wf_message_block : (Instr.beacon { ctpIn 0 1 0 0 [] with block := [1] }).wellFormed = false := by decide +kernel
theorem test_wf_message_plain : (Instr.beacon (ctpIn 0 1 0 0 [])).wellFormed = true := by decide +kernel
theorem test_wf_message_length : (Instr.ack (ctpIn 0 1 0 0 (List.replicate 65536 0))).wellFormed = false := by decide +kernel
/-- Every message command refuses a check block that is neither absent nor 12 bytes. -/
theorem test_wf_every_message (m : CtpIn) (b : Bool) (h : m.wellFormed = false) :
    Instr.wellFormed (.beacon m) = false ∧ Instr.wellFormed (.ack m) = false ∧ Instr.wellFormed (.regRead m) = false ∧
    Instr.wellFormed (.regWrite m) = false ∧ Instr.wellFormed (.remoteWrite m) = false ∧ Instr.wellFormed (.credit m) = false ∧
    Instr.wellFormed (.refuse m b) = false ∧ Instr.wellFormed (.writeLost m) = false ∧ Instr.wellFormed (.msg m) = false ∧
    Instr.wellFormed (.join m) = false ∧ Instr.wellFormed (.joinResp m) = false ∧ Instr.wellFormed (.wakeAt m) = false ∧
    Instr.wellFormed (.leave m) = false := by
  simp [Instr.wellFormed, h]

/-! ### Worked examples of the spec -/

/-- R45: sequence 0 is newer than 0xFFFF_FFFF. -/
theorem test_newer_wraps : seqNewer 0 0xFFFFFFFF = true ∧ seqNewer 0xFFFFFFFF 0 = false := by decide +kernel
/-- The published check value of CRC-32C (R37). -/
theorem test_crc32c : crc32c [0x31, 0x32, 0x33, 0x34, 0x35, 0x36, 0x37, 0x38, 0x39] = 0xE3069283 := by decide +kernel
/-- 06's example: a 10-bit sample of 700 through input format, black level, shading gain 0x1100 and the tone curve. -/
theorem test_pipe_sample :
    inFormat 10 700 = 44800 ∧ blackLevel 10 32 4228 44800 = 44130 ∧ gain12 44130 0x1100 = 46888 ∧
    toneAt (fun i => if i = 732 then 57000 else 57050) 46888 = 57031 ∧ toBits 8 57031 = 223 ∧ toBits 10 57031 = 891 := by
  decide +kernel
/-- 07's example: the column 517. -/
theorem test_peak_column :
    let q := columnOf 4096 128 255 (List.replicate 99 0 ++ [3000, 20000, 52000, 60000, 30000, 9000, 2000])
    q.pos = 26004 ∧ q.width = 3 ∧ q.peak = 60000 ∧ q.second = 20000 ∧ q.multi = false := by decide +kernel
/-- 10's examples under R257 and R258: the rounding shifts. -/
theorem test_requantise :
    rshift true (10345 * 1518500249) 38 = 57 ∧ rshift true (598000 * 1518500249) 38 = 3304 ∧
    clampC 0 255 (3304 + 128) = (255, 1) ∧ rshift true (852384000 * 2 ^ 30) 52 = 203 := by decide +kernel
/-- R250: the largest finite magnitude of FP8 E4M3 is 448 (0x7E); 300 lies between 288 and 320 and rounds to 288 (0x79). -/
theorem test_e4m3_top :
    e4m3Encode (.fin false 448 0) = 0x7E ∧ e4m3Encode (.fin true 10000 0) = 0xFE ∧ e4m3Encode (.fin false 300 0) = 0x79 ∧
    e4m3Decode 0x7E = .fin false 14 5 := by decide +kernel
/-- 10's example under R265: 3,303.5145 against T = 127 gives MULT 26,637 and EXP 5. -/
theorem test_row_scale :
    (lensScale { d := lensParse lensDesc, q := { quantParse lensQuant with zp := 128, qmin := 0, qmax := 255 }, pwl := [], map := [], cols := [], n0 := 0 }
      (598000 * 1518500249 * 2 ^ 90)) = { mult := 26637, exp := 5 } := by decide +kernel
/-- 13's example under R351: the circular buffer of CBB2 0x1_0000, CBL2 0x300. -/
theorem test_circular :
    let l : Lan := { cbb := [(2, 0x10000)], cbl := [(2, 0x300)] }
    addrUpdate l 3 0x102C0 (2 * 128 + 1) 64 0 = some 0x10000 ∧ addrUpdate l 3 0x10000 (2 * 128 + 127) 64 0 = some 0x102C0 := by
  decide +kernel
/-- 13's example under R352: offsets 0, 32, 16, 48, 8, 40 of a 64-byte buffer. -/
theorem test_reverse_carry :
    let l : Lan := { cbb := [(1, 0)], cbl := [(1, 64)] }
    [0, 32, 16, 48, 8].map (fun o => addrUpdate l 4 o (128 + 8) 4 0) = [some 32, some 16, some 48, some 8, some 40] := by
  decide +kernel
/-- 13's example under R360: VFIXMUL in Q15 with CONV 0 and 1. -/
theorem test_fixed_product :
    rsC (0x4000 * 0x6000) 15 false = 0x3000 ∧ rsC (5 * 0x4000) 15 false = 3 ∧ rsC (5 * 0x4000) 15 true = 2 ∧
    rsC (-5 * 0x4000) 15 false = -2 ∧ rsC (-5 * 0x4000) 15 true = -2 ∧
    satRes true 16 false (rsC (-0x8000 * -0x8000) 15 false) = (0x7FFF, true) := by decide +kernel

/-! ### Hand-written witnesses of obligations that hold of every state -/

theorem witness_StepsKeepCanonicalForm :
    ∃ s t : State, s.canonical ∧ step s = .next t := ⟨State.reset, tick State.reset, by unfold State.canonical; decide +kernel, rfl⟩

/-- The word of the register map at an offset has masks that do not overlap, as the hypothesis of the statement asks. -/
theorem witness_WriteFollowsAccessTypes :
    ∃ r : RegRow, r = rowOf rQUIESCE_CTRL ∧
      w32 r.rw &&& w32 r.rwh = 0 ∧ w32 r.rw &&& w32 r.w1c = 0 ∧ w32 r.rw &&& w32 r.w1s = 0 ∧ w32 r.rw &&& w32 r.cnt = 0 ∧
      w32 r.rwh &&& w32 r.w1c = 0 ∧ w32 r.rwh &&& w32 r.w1s = 0 ∧ w32 r.rwh &&& w32 r.cnt = 0 ∧
      w32 r.w1c &&& w32 r.w1s = 0 ∧ w32 r.w1c &&& w32 r.cnt = 0 ∧ w32 r.w1s &&& w32 r.cnt = 0 :=
  ⟨_, rfl, by decide +kernel⟩

/-- A command answers a next state. -/
theorem witness_CommandsLeaveQueueAndFuses : ∃ (c : Instr) (s t : State), exec c s = .next t :=
  ⟨.napEntryComplete, State.reset, _, rfl⟩

/-! ### Witnesses: one per clause of each obligation -/

theorem witness_StepRunsFrontCommand :
  (∃ (s : State), s.pending = []) :=
  ⟨State.reset, by decide +kernel⟩

theorem witness_PlainRegisterWrite :
  (∃ (ifc : Iface) (off : BitVec 28) (v : Word) (co : Coincident) (s : State), off.toNat % 4 ≠ 0 ∧ (∀ u, co ≠ .parity u)) ∧
  (∃ (ifc : Iface) (off : BitVec 28) (v : Word) (co : Coincident) (s : State), off.toNat % 4 = 0 ∧ (∀ u, co ≠ .parity u) ∧ gate ifc true off.toNat s = .refused) ∧
  (∃ (ifc : Iface) (off : BitVec 28) (v : Word) (co : Coincident) (s : State), off.toNat % 4 = 0 ∧ (∀ u, co ≠ .parity u) ∧ gate ifc true off.toNat s = .decode) ∧
  (∃ (ifc : Iface) (off : BitVec 28) (v : Word) (co : Coincident) (s : State), off.toNat % 4 = 0 ∧ (∀ u, co ≠ .parity u) ∧ gate ifc true off.toNat s = .open ∧ regAt off.toNat = none ∧ inForceOf off.toNat = none) ∧
  (∃ (ifc : Iface) (off : BitVec 28) (v : Word) (co : Coincident) (s : State) (r : RegRow) (ix : List Nat), off.toNat % 4 = 0 ∧ (∀ u, co ≠ .parity u) ∧ gate ifc true off.toNat s = .open ∧ regAt off.toNat = some (r, ix) ∧ r.half = 0 ∧ r.base ∉ ownEffectBases ∧ shadowCtrlOf off.toNat = none ∧ deadZ s off.toNat = false ∧ deadIf s off.toNat = false ∧ isLogReg off.toNat = false) ∧
  (∃ (ifc : Iface) (off : BitVec 28) (v : Word) (s : State), off.toNat = rKPR_EXPOSE ∧ (∀ k, ifc ≠ .keeper k) ∧ gate ifc true off.toNat s = .open) ∧
  (∃ (k : Fin 2) (off : BitVec 28) (v : Word) (s : State), off.toNat = rKPR_EXPOSE ∧ gate (.keeper k) true off.toNat s = .open) ∧
  (∃ (ifc : Iface) (off : BitVec 28) (v : Word) (s : State) (c : Fin 16) (i : Fin 2048), off.toNat = rMEAS_Z c i ∧ gate ifc true off.toNat s = .open ∧ deadZ s off.toNat = false ∧ rdB s (rPX_CFG c + 0x8000) 1 = false ∧ rdB s (rPX_CAL_CTRL c) 0 = false) ∧
  (∃ (ifc : Iface) (off : BitVec 28) (v : Word) (u : Fin 11) (s : State), off.toNat % 4 ≠ 0 ∧ (if u.val < 5 then domOk s 0 else domOk s (u.val - 4)) = true ∧ isReady s = true) :=
 ⟨⟨.pcie, 0x21, 5, .none, State.reset, by decide +kernel⟩,
  ⟨.jtag, 0x1b00000, 5, .none, (regsAt [(rFLT_DOM 3, 1)]), by decide +kernel⟩,
  ⟨.pcie, 0xff00000, 5, .none, State.reset, by decide +kernel⟩,
  ⟨.pcie, 0x1fc, 5, .none, State.reset, by decide +kernel⟩,
  ⟨.pcie, (BitVec.ofNat 28 (rPWR_CNT 1)), 0, .none, (regsAt [(rPWR_CNT 1, 7)]), (rowOf (rPWR_CNT 1)), (ixOf (rPWR_CNT 1)), by decide +kernel⟩,
  ⟨.pcie, (BitVec.ofNat 28 rKPR_EXPOSE), 5, State.reset, by decide +kernel⟩,
  ⟨1, (BitVec.ofNat 28 rKPR_EXPOSE), 5, State.reset, by decide +kernel⟩,
  ⟨.pcie, (BitVec.ofNat 28 (rMEAS_Z 15 2047)), 9, (regsAt [(rMEAS_STATUS 15, 1)]), 15, 2047, by decide +kernel⟩,
  ⟨.jtag, 0x22, 5, 10, (regsAt [(rDEV_STATE, 1)]), by decide +kernel⟩⟩

theorem witness_ReadsAndPairs :
  (∃ (ifc : Iface) (off : BitVec 28) (s : State) (r : RegRow) (ix : List Nat), off.toNat % 4 = 0 ∧ gate ifc false off.toNat s = .open ∧ halfAt off.toNat = 0 ∧ regAt off.toNat = some (r, ix) ∧ r.rc ≠ 0) ∧
  (∃ (ifc : Iface) (off : BitVec 28) (s : State), off.toNat % 4 = 0 ∧ gate ifc false off.toNat s = .open ∧ halfAt off.toNat = 1) ∧
  (∃ (ifc : Iface) (off : BitVec 28) (s : State), 4 ≤ off.toNat ∧ off.toNat % 4 = 0 ∧ gate ifc false off.toNat s = .open ∧ halfAt off.toNat = 2) ∧
  (∃ (ifc : Iface) (off : BitVec 28) (v : Word) (s : State), off.toNat % 4 = 0 ∧ gate ifc true off.toNat s = .open ∧ halfAt off.toNat = 1) ∧
  (∃ (ifc : Iface) (off : BitVec 28) (v : Word) (s : State) (r q : RegRow) (ix jx : List Nat), off.toNat % 4 = 0 ∧ 4 ≤ off.toNat ∧ gate ifc true off.toNat s = .open ∧ isLogReg (off.toNat - 4) = false ∧ regAt off.toNat = some (r, ix) ∧ r.half = 2 ∧ r.base ∉ ownEffectBases ∧ regAt (off.toNat - 4) = some (q, jx) ∧ shadowCtrlOf off.toNat = none ∧ shadowCtrlOf (off.toNat - 4) = none ∧ deadZ s off.toNat = false ∧ deadIf s off.toNat = false ∧ deadZ s (off.toNat - 4) = false ∧ deadIf s (off.toNat - 4) = false ∧ q.half = 1) :=
 ⟨⟨.pcie, (BitVec.ofNat 28 (rVP_FIFO_HWM 7)), (regsAt [((rVP_FIFO_HWM 7), 0xFFFFFFFF)]), (rowOf (rVP_FIFO_HWM 7)), (ixOf (rVP_FIFO_HWM 7)), by decide +kernel⟩,
  ⟨.pcie, (BitVec.ofNat 28 rAON_TIME_LO), { State.reset with clock := { aon := 2 ^ 32 + 5 } }, by decide +kernel⟩,
  ⟨.pcie, (BitVec.ofNat 28 rAON_TIME_HI), { State.reset with clock := { aon := 2 ^ 32 + 5 } }, by decide +kernel⟩,
  ⟨.eth1, (BitVec.ofNat 28 rCTP_RXQ_BASE_LO), 0xFFFFFFFF, State.reset, by decide +kernel⟩,
  ⟨.eth1, (BitVec.ofNat 28 (rCTP_RXQ_BASE_LO + 4)), 0xFFFFFFFF, (setLatch .eth1 rCTP_RXQ_BASE_LO 9 State.reset), (rowOf (rCTP_RXQ_BASE_LO + 4)), (rowOf rCTP_RXQ_BASE_LO), (ixOf (rCTP_RXQ_BASE_LO + 4)), (ixOf rCTP_RXQ_BASE_LO), by decide +kernel⟩⟩

theorem witness_ShadowAndPeek :
  (∃ (ifc : Iface) (g : ShadowGroup) (s : State), gate ifc true (groupCtrl g) s = .open ∧ ownerStopped s g = false) ∧
  (∃ (ifc : Iface) (p : Fin 8) (s : State), gate ifc true (rVP_SHADOW_CTRL p) s = .open ∧ portState s p = 0 ∧ twf resetVal s.regs = true) ∧
  (∃ (ifc : Iface) (g : ShadowGroup) (s : State), gate ifc true (groupCtrl g) s = .open) ∧
  (∃ (off : BitVec 28) (s : State), domOk s 0 = true ∧ rdB s rDBG_PEEK_STATUS 0 = false) ∧
  (∃ (ifc : Iface) (off : BitVec 28) (s : State), ifc ≠ .jtag) ∧
  (∃ (s : State), rdB s rDBG_PEEK_STATUS 0 = true ∧ gate .jtag false (rdn s rDBG_PEEK_ADDR / 4 * 4) s = .open) ∧
  (∃ (s : State), rdB s rDBG_PEEK_STATUS 0 = true ∧ gate .jtag false (rdn s rDBG_PEEK_ADDR / 4 * 4) s ≠ .open) :=
 ⟨⟨.pcie, (.ctx 15), (regsAt [(rCTX_STATUS 15, 2)]), by decide +kernel⟩,
  ⟨.pcie, 7, (regsAt [(rVP_CFG 7, 1)]), by decide +kernel⟩,
  ⟨.pcie, (.meas 15), (regsAt [(rMEAS_SHADOW_CTRL 15, 1)]), by decide +kernel⟩,
  ⟨0x20, State.reset, by decide +kernel⟩,
  ⟨.mgmt, 0x20, State.reset, by decide +kernel⟩,
  ⟨(regsAt [(rDBG_PEEK_STATUS, 1), (rDBG_PEEK_ADDR, rAON_TIME_LO)]), by decide +kernel⟩,
  ⟨(regsAt [(rDBG_PEEK_STATUS, 1), (rDBG_PEEK_ADDR, 0xff00000)]), by decide +kernel⟩⟩

theorem witness_BootCommands :
  (∃ (src : Fin 4) (env : BootEnv) (s : State), src ≠ 1 ∧ slotHeader s env.flashBad 0 ≠ none ∧ slotHeader s env.flashBad 1 ≠ none) ∧
  (∃ (ifc : Iface) (s : State), gate ifc true rDEV_STATE s = .open ∧ deviceOos s = false ∧ s.boot.phase ≠ .halted ∧ s.fuses.keeperBad % 4 = 0) ∧
  (∃ (ifc : Iface) (s : State), gate ifc true rDEV_STATE s = .open ∧ (deviceOos s = true ∨ s.boot.phase = .halted ∨ s.fuses.keeperBad % 4 ≠ 0 ∨ isReady s = true)) ∧
  (∃ (ifc : Iface) (s : State) (b : List Byte), gate ifc true rPCIE_BOOT s = .open ∧ s.boot.phase = .waitPcie ∧ stagedBytes s wmBase (rdF s rSTAGE_LEN 24 0) = some b ∧ (verifyImage (bootAvail s) s b 0x2000000 (some (rdF s rSTAGE_LEN 24 0))).ok = true) ∧
  (∃ (ifc : Iface) (env : BootEnv) (s : State), gate ifc true rPCIE_BOOT s = .open ∧ s.boot.phase ≠ .waitPcie) :=
 ⟨⟨3, { train := .ok, flashBad := 3 }, State.reset, by decide +kernel⟩,
  ⟨.pcie, State.reset, by decide +kernel⟩,
  ⟨.pcie, { State.reset with boot := { phase := .halted } }, by decide +kernel⟩,
  ⟨.pcie, stagedState, imgBytes, ⟨by decide +kernel, by decide +kernel, by rw [show rdF stagedState rSTAGE_LEN 24 0 = 1528 by decide +kernel]; exact staged_bytes stagedState rfl (by decide +kernel) (by decide +kernel), by rw [show rdF stagedState rSTAGE_LEN 24 0 = 1528 by decide +kernel]; exact verifyImage_ok _ _ _ _ _ imgRecs image_form image_walk (by decide +kernel)⟩⟩,
  ⟨.pcie, { train := .ok }, { State.reset with boot := { phase := .running } }, by decide +kernel⟩⟩

theorem witness_QuiesceLifecycle :
  (∃ (ifc : Iface) (s : State), gate ifc true rQUIESCE_CTRL s = .open ∧ quiesceState s = 0 ∧ rdB s rQUIESCE_CTRL 0 = false) ∧
  (∃ (ifc : Iface) (s : State), gate ifc true rQUIESCE_CTRL s = .open ∧ 1 ≤ quiesceState s ∧ quiesceState s ≤ 3) ∧
  (∃ (ifc : Iface) (s : State), gate ifc true rQUIESCE_CTRL s = .open ∧ quiesceState s = 4) ∧
  (∃ (s : State), quiesceState s = 1 ∧ anyWinOpen s = false ∧ anyJobOpen s = false ∧ s.boot.forcing = false) ∧
  (∃ (cu : Fin 4) (s : State), quiesceState s = 1 ∧ s.boot.forcing = false) ∧
  (∃ (s : State), quiesceState s = 1 ∧ s.boot.forcing = true ∧ anyJobOpen s = false) :=
 ⟨⟨.pcie, State.reset, by decide +kernel⟩,
  ⟨.jtag, (regsAt [(rQUIESCE_STATUS, 3), (rQUIESCE_CTRL, 1)]), by decide +kernel⟩,
  ⟨.mgmt, (regsAt [(rQUIESCE_STATUS, 4), (rQUIESCE_CTRL, 3)]), by decide +kernel⟩,
  ⟨(regsAt [(rQUIESCE_STATUS, 1), (rQUIESCE_CTRL, 1)]), by decide +kernel⟩,
  ⟨3, (regsAt [(rQUIESCE_STATUS, 1), (rQUIESCE_CTRL, 1), (rWIN_STATE 3, 1)]), by decide +kernel⟩,
  ⟨{ regsAt [(rQUIESCE_STATUS, 1), (rQUIESCE_CTRL, 1)] with boot := { forcing := true } }, by decide +kernel⟩⟩

theorem witness_ApplyLifecycle :
  (∃ (ifc : Iface) (s : State) (b : List Byte), gate ifc true rQUIESCE_CTRL s = .open ∧ 2 ≤ quiesceState s ∧ quiesceState s ≤ 3 ∧ rdB s rQUIESCE_CTRL 0 = true ∧ stagedBytes s (rd64 s rSTAGE_ADDR_LO) (rdF s rSTAGE_LEN 24 0) = some b ∧ (verifyImage (applyAvail s) s b 0x2000000 (some (rdF s rSTAGE_LEN 24 0))).ok = true ∧ resetOnlyDiffers s (verifyForm b 0x2000000 (some (rdF s rSTAGE_LEN 24 0))).2 = none) ∧
  (∃ (ifc : Iface) (s : State), gate ifc true rQUIESCE_CTRL s = .open ∧ quiesceState s < 2) ∧
  (∃ (s : State) (b : List Byte), s.boot.applying = some b ∧ (repairDomains (tget [] s.boot.secs 1) (tget [] (verifyForm b 0x2000000 none).1.secs 1)).contains 0 = true) ∧
  (∃ (s : State), s.boot.applying = none) ∧
  (∃ (s : State) (b : List Byte), s.boot.applying = some b ∧ (repairDomains (tget [] s.boot.secs 1) (tget [] (verifyForm b 0x2000000 none).1.secs 1)).contains 0 = false) :=
 ⟨⟨.pcie, applyState, imgBytes, ⟨by decide +kernel, by decide +kernel, by decide +kernel, by decide +kernel, by rw [show rdF applyState rSTAGE_LEN 24 0 = 1528 by decide +kernel, show rd64 applyState rSTAGE_ADDR_LO = wmBase by decide +kernel]; exact staged_bytes applyState rfl (by decide +kernel) (by decide +kernel), by rw [show rdF applyState rSTAGE_LEN 24 0 = 1528 by decide +kernel]; exact verifyImage_ok _ _ _ _ _ imgRecs image_form image_walk (by decide +kernel), by rw [show rdF applyState rSTAGE_LEN 24 0 = 1528 by decide +kernel, image_recs]; decide +kernel⟩⟩,
  ⟨.pcie, (regsAt [(rQUIESCE_STATUS, 1)]), by decide +kernel⟩,
  ⟨{ State.reset with boot := { applying := some [], secs := [(1, 6 :: zeros 15)] } }, [], by decide +kernel⟩,
  ⟨State.reset, by decide +kernel⟩,
  ⟨{ State.reset with boot := { applying := some [] } }, [], by decide +kernel⟩⟩

theorem witness_EncodersAndCurtains :
  (∃ (n : Fin 4) (ch : QuadChange) (s : State), rdB s (rENC_CFG n) 0 = true ∧ ch ≠ .both) ∧
  (∃ (n : Fin 4) (s : State), rdB s (rENC_CFG n) 0 = true) ∧
  (∃ (n : Fin 4) (ch : QuadChange) (s : State), rdB s (rENC_CFG n) 0 = false) ∧
  (∃ (ifc : Iface) (n : Fin 4) (v : Word) (s : State), gate ifc true (rENC_POS n) s = .open) ∧
  (∃ (n : Fin 8) (level : Bool) (s : State), rdB s (rCURT_CFG n) 0 = true) ∧
  (∃ (n : Fin 8) (level : Bool) (s : State), rdB s (rCURT_CFG n) 0 = false) ∧
  (∃ (ifc : Iface) (n : Fin 8) (v : Word) (s : State), gate ifc true (rCURT_CFG n) s = .open) :=
 ⟨⟨3, .bLeadsA, (regsAt [(rENC_CFG 3, 1)]), by decide +kernel⟩,
  ⟨0, (regsAt [(rENC_CFG 0, 1), (rENC_ERRCNT 0, 0xFFFFFFFF)]), by decide +kernel⟩,
  ⟨3, .aLeadsB, (regsAt [(rENC_CFG 3, 0)]), by decide +kernel⟩,
  ⟨.pcie, 3, 0xFFFFFFFF, State.reset, by decide +kernel⟩,
  ⟨7, true, (regsAt [(rCURT_CFG 7, 3)]), by decide +kernel⟩,
  ⟨7, true, (regsAt [(rCURT_CFG 7, 2)]), by decide +kernel⟩,
  ⟨(.keeper 1), 7, 3, { State.reset with keeper := { curts := [(7, { level := true })] } }, by decide +kernel⟩⟩

theorem witness_WindowsTriggersAndSlots :
  (∃ (w : Fin 4) (s : State), winState s w = 2 ∧ (win s w).gapTimeout ≠ 0 ∧ blocked s (win s w).curt = false ∧ (win s w).trailAt + 1000 * (win s w).gapTimeout ≤ s.clock.aon) ∧
  (∃ (w : Fin 4) (s : State), (winState s w ≠ 2 ∨ (win s w).gapTimeout = 0 ∨ blocked s (win s w).curt = true ∨ s.clock.aon < (win s w).trailAt + 1000 * (win s w).gapTimeout)) ∧
  (∃ (k : Fin 8) (s : State) (g : Seg), (trig s k).seg = some g ∧ isDue s g 0 = true ∧ (trig s k).held = false ∧ ((trig s k).last = 0 ∨ (trig s k).last + g.minper ≤ s.clock.aon + 1)) ∧
  (∃ (k : Fin 8) (s : State) (g : Seg), (trig s k).seg = some g ∧ isDue s g 0 = true ∧ (trig s k).held = false ∧ (trig s k).last ≠ 0 ∧ s.clock.aon + 1 < (trig s k).last + g.minper) ∧
  (∃ (k : Fin 8) (s : State) (g : Seg), (trig s k).seg = some g ∧ isDue s g 1 = true ∧ (trig s k).held = true) ∧
  (∃ (k : Fin 8) (s : State), ((trig s k).seg = none ∨ ∃ g, (trig s k).seg = some g ∧ isDue s g (if (trig s k).held then 1 else 0) = false)) ∧
  (∃ (k : Fin 8) (s : State), ((trig s k).seg = none ∨ (trig s k).held = false)) ∧
  (∃ (k : Fin 8) (s : State) (g : Seg), (trig s k).seg = some g ∧ (trig s k).held = true ∧ (trig s k).last + g.minper ≤ s.clock.aon + 1) ∧
  (∃ (k : Fin 16) (s : State), ((job s k).state ≠ .cooling ∨ s.clock.aon < (job s k).freedAt + 20 * aonMs)) ∧
  (∃ (k : Fin 16) (s : State), (job s k).state = .cooling ∧ (job s k).freedAt + 20 * aonMs ≤ s.clock.aon) :=
 ⟨⟨3, { regsAt [(rWIN_STATE 3, 2)] with keeper := { wins := [(3, { gapTimeout := 1, curt := 7, trailAt := 5 })] }, clock := { aon := 1005 } }, by decide +kernel⟩,
  ⟨3, { regsAt [(rWIN_STATE 3, 2)] with keeper := { wins := [(3, { gapTimeout := 1, curt := 7, trailAt := 5 })] }, clock := { aon := 1004 } }, by decide +kernel⟩,
  ⟨7, trigState [9] false 0 9, segOf [9], by decide +kernel⟩,
  ⟨7, trigState [9] false 1 480, segOf [9], by decide +kernel⟩,
  ⟨7, trigState [5, 9] true 1 9, segOf [5, 9], by decide +kernel⟩,
  ⟨7, trigState [9] true 1 9, by decide +kernel⟩,
  ⟨7, trigState [9] false 1 9, by decide +kernel⟩,
  ⟨7, trigState [9] true 1 481, segOf [9], by decide +kernel⟩,
  ⟨15, { State.reset with jobs := [(15, { state := .cooling, gen := 255, jobId := 9, freedOrd := 3 })], clock := { aon := 20 * aonMs - 1 } }, by decide +kernel⟩,
  ⟨15, { State.reset with jobs := [(15, { state := .cooling, gen := 255, jobId := 9, freedOrd := 3 })], clock := { aon := 20 * aonMs } }, by decide +kernel⟩⟩

theorem witness_WakesAndNap :
  (∃ (failed : BitVec 4) (s : State), s.power.step = .waking) ∧
  (∃ (failed : BitVec 4) (s : State), s.power.step = .none) ∧
  (∃ (ifc : Iface) (on : Bool) (s : State), gate ifc true rWAKE_CTRL s = .open) ∧
  (∃ (ifc : Iface) (s : State), gate ifc true rWAKE_CTRL s = .open) ∧
  (∃ (s : State), s.power.state = .run ∧ s.power.step = .none ∧ fastBusy s = false ∧ rdF s rPWR_PLAN 3 0 ≠ 0 ∧ 25 * rdF s rPWR_PLAN 31 16 ≤ 2 * (s.clock.aon - s.power.idleFrom)) ∧
  (∃ (s : State), s.power.state = .run ∧ s.power.step = .none ∧ (fastBusy s = true ∨ rdF s rPWR_PLAN 3 0 = 0)) ∧
  (∃ (s : State), s.power.step = .napEntry) :=
 ⟨⟨15, { regsAt [(rWAKE_CTRL, 3)] with power := { state := .nap, step := .waking } }, by decide +kernel⟩,
  ⟨15, State.reset, by decide +kernel⟩,
  ⟨.pcie, true, State.reset, by decide +kernel⟩,
  ⟨.pcie, { regsAt [] with power := { state := .nap, step := .none } }, by decide +kernel⟩,
  ⟨{ regsAt [(rPWR_PLAN, 0x10000F)] with clock := { aon := 200 } }, by decide +kernel⟩,
  ⟨(regsAt [(rPWR_PLAN, 0)]), by decide +kernel⟩,
  ⟨{ regsAt [] with power := { state := .run, step := .napEntry } }, by decide +kernel⟩⟩

theorem witness_DeepAndBack :
  (∃ (s : State), deepHold s ≠ 0 ∧ deepOk s = true ∧ deepHold s * aonS ≤ s.clock.aon - s.power.deepFrom ∧ s.power.state = .run ∧ s.power.step = .none) ∧
  (∃ (ifc : Iface) (s : State), gate ifc true rPWR_CTRL s = .open ∧ deepOk s = true ∧ s.power.state = .run ∧ s.power.step = .none) ∧
  (∃ (ifc : Iface) (s : State), gate ifc true rPWR_CTRL s = .open ∧ rdB s rPWR_PLAN 4 = true ∧ fastBusy s = true ∧ s.power.state ≠ .deep) ∧
  (∃ (ifc : Iface) (s : State), gate ifc true rPWR_CTRL s = .open ∧ rdB s rPWR_PLAN 4 = false) ∧
  (∃ (s : State), s.power.step = .deepStop) ∧
  (∃ (ifc : Iface) (s : State), gate ifc true rPWR_CTRL s = .open ∧ s.power.state = .deep ∧ s.power.step = .none) ∧
  (∃ (s : State), s.power.step = .deepExit) ∧
  (∃ (s : State), s.power.state = .deep ∧ s.power.dramUp = true) :=
 ⟨⟨{ regsAt [(rPWR_PLAN, 0x1F)] with boot := { secs := [(2, [0, 0, 0, 0, 50])] }, clock := { aon := 50 * aonS } }, by decide +kernel⟩,
  ⟨.pcie, (regsAt [(rPWR_PLAN, 0x1F)]), by decide +kernel⟩,
  ⟨.pcie, (regsAt [(rPWR_PLAN, 0x1F), (rWAKE_CTRL, 1)]), by decide +kernel⟩,
  ⟨.pcie, (regsAt [(rPWR_PLAN, 0xF)]), by decide +kernel⟩,
  ⟨{ regsAt [] with power := { state := .nap, step := .deepStop } }, by decide +kernel⟩,
  ⟨.pcie, { regsAt [] with power := { state := .deep, step := .none } }, by decide +kernel⟩,
  ⟨{ regsAt [] with power := { state := .deep, step := .deepExit } }, by decide +kernel⟩,
  ⟨{ regsAt [(rDDR_STATUS, 2)] with power := { state := .deep, step := .none, dramUp := true } }, by decide +kernel⟩⟩

theorem witness_JobsEnd :
  (∃ (k : Fin 16) (results views : List Buffer) (read incomplete : Bool) (app : List Byte) (cu : Fin 4) (est : Nat) (s : State), jobLive s k = true ∧ (job s k).state ≠ .capturing ∧ jobWinOpen s k = false ∧ (job s k).reached = false ∧ results.any (bufPoisoned s) = false) ∧
  (∃ (k : Fin 16) (results views : List Buffer) (read incomplete : Bool) (app : List Byte) (cu : Fin 4) (est : Nat) (s : State), (jobLive s k = false ∨ (job s k).state = .capturing ∨ jobWinOpen s k = true)) ∧
  (∃ (k : Fin 16) (cu : Fin 4) (est : Nat) (s : State), jobLive s k = true ∧ (job s k).reached = true ∧ mayRestart s k est = true) ∧
  (∃ (k : Fin 16) (cu : Fin 4) (est : Nat) (s : State), jobLive s k = true ∧ (job s k).reached = true ∧ mayRestart s k est = false) ∧
  (∃ (k : Fin 16) (cu : Fin 4) (s : State), jobLive s k = true ∧ jobWinOpen s k = false ∧ (job s k).trailing + 398 * aonMs ≤ s.clock.aon) :=
 ⟨⟨15, [], [], true, false, [], 3, 0, { State.reset with jobs := [(15, { state := .processing, gen := 255, jobId := 9, trailing := 1 })], clock := { aon := 100 } }, by decide +kernel⟩,
  ⟨15, [], [], true, false, [], 3, 0, State.reset, by decide +kernel⟩,
  ⟨15, 3, 0, { State.reset with jobs := [(15, { state := .processing, gen := 255, jobId := 9, trailing := 1, reached := true })], clock := { aon := 100 } }, by decide +kernel⟩,
  ⟨15, 3, 0, { State.reset with jobs := [(15, { state := .processing, gen := 255, jobId := 9, trailing := 1, reached := true, restarted := true })], clock := { aon := 100 } }, by decide +kernel⟩,
  ⟨15, 3, { State.reset with jobs := [(15, { state := .processing, gen := 255, jobId := 9, trailing := 1 })], clock := { aon := 398 * aonMs + 1 } }, by decide +kernel⟩⟩

theorem witness_FlashOperations :
  (∃ (ifc : Iface) (len : BitVec 13) (s : State), gate ifc true rFLASH_CMD s = .open ∧ rdB s rFLASH_CMD 16 = false ∧ flashRefused 1 (rdn s rFLASH_ADDR) len.toNat = false) ∧
  (∃ (ifc : Iface) (len : BitVec 13) (s : State), gate ifc true rFLASH_CMD s = .open ∧ rdB s rFLASH_CMD 16 = false ∧ flashRefused 2 (rdn s rFLASH_ADDR) len.toNat = false ∧ flashProtected 2 (rdn s rFLASH_ADDR) len.toNat = false) ∧
  (∃ (ifc : Iface) (s : State), gate ifc true rFLASH_CMD s = .open ∧ rdB s rFLASH_CMD 16 = false ∧ flashRefused 3 (rdn s rFLASH_ADDR) 0 = false ∧ flashProtected 3 (rdn s rFLASH_ADDR) 0 = false) ∧
  (∃ (ifc : Iface) (s : State), gate ifc true rFLASH_CMD s = .open ∧ rdB s rFLASH_CMD 16 = false ∧ flashRefused 4 (rdn s rFLASH_ADDR) 0 = false ∧ flashProtected 4 (rdn s rFLASH_ADDR) 0 = false) ∧
  (∃ (ifc : Iface) (len : BitVec 13) (s : State), gate ifc true rFLASH_CMD s = .open ∧ rdB s rFLASH_CMD 16 = false ∧ flashRefused 1 (rdn s rFLASH_ADDR) len.toNat = true) ∧
  (∃ (ifc : Iface) (len : BitVec 13) (s : State), gate ifc true rFLASH_CMD s = .open ∧ rdB s rFLASH_CMD 16 = false ∧ flashRefused 2 (rdn s rFLASH_ADDR) len.toNat = false ∧ flashProtected 2 (rdn s rFLASH_ADDR) len.toNat = true) ∧
  (∃ (ifc : Iface) (s : State), gate ifc true rFLASH_CMD s = .open ∧ rdB s rFLASH_CMD 16 = false ∧ flashRefused 3 (rdn s rFLASH_ADDR) 0 = false ∧ flashProtected 3 (rdn s rFLASH_ADDR) 0 = true) ∧
  (∃ (ifc : Iface) (len : BitVec 13) (s : State), gate ifc true rFLASH_CMD s = .open ∧ rdB s rFLASH_CMD 16 = true) ∧
  (∃ (left : List (BitVec 26 × Byte)) (s : State) (o : FlashOp), s.flashOp = some o ∧ o.waiting = false ∧ o.op = 1 ∧ o.len = 0 ∧ s.prec.pendingNow = false ∧ s.prec.pendingRoutine = false) ∧
  (∃ (left : List (BitVec 26 × Byte)) (s : State) (o : FlashOp), s.flashOp = some o ∧ o.waiting = false ∧ o.op = 2 ∧ s.prec.pendingNow = false ∧ s.prec.pendingRoutine = false) ∧
  (∃ (left : List (BitVec 26 × Byte)) (s : State) (o : FlashOp), s.flashOp = some o ∧ o.waiting = false ∧ 3 ≤ o.op ∧ twf (fun _ => (255 : Byte)) s.flash = true ∧ s.prec.pendingNow = false ∧ s.prec.pendingRoutine = false) :=
 ⟨⟨.pcie, 0, (regsAt [(rFLASH_ADDR, 0x1000000)]), by decide +kernel⟩,
  ⟨.pcie, 4096, (regsAt [(rFLASH_ADDR, 0x1FFF000)]), by decide +kernel⟩,
  ⟨.pcie, (regsAt [(rFLASH_ADDR, 0x1FFFFFF)]), by decide +kernel⟩,
  ⟨.pcie, (regsAt [(rFLASH_ADDR, 0x1FFFFFF)]), by decide +kernel⟩,
  ⟨.pcie, 4097, (regsAt [(rFLASH_ADDR, 0)]), by decide +kernel⟩,
  ⟨.pcie, 1, (regsAt [(rFLASH_ADDR, 0x201FFFF)]), by decide +kernel⟩,
  ⟨.pcie, (regsAt [(rFLASH_ADDR, 0x2000000)]), by decide +kernel⟩,
  ⟨.pcie, 1, (regsAt [(rFLASH_ADDR, 0), (rFLASH_CMD, 0x10000)]), by decide +kernel⟩,
  ⟨[], { withFlash 0x1000000 [1, 2, 3] (regsAt [(rFLASH_CMD, 0x10000), (rFLASH_BUF 0, 0x01020304)]) with flashOp := some { op := 1, addr := 0xFFFFFF, len := 0 } }, { op := 1, addr := 0xFFFFFF, len := 0 }, by decide +kernel⟩,
  ⟨[], { withFlash 0x1000000 [1, 2, 3] (regsAt [(rFLASH_CMD, 0x10000), (rFLASH_BUF 0, 0x01020304)]) with flashOp := some { op := 2, addr := 0x1000000, len := 3 } }, { op := 2, addr := 0x1000000, len := 3 }, by decide +kernel⟩,
  ⟨[], { withFlash 0x1000000 [1, 2, 3] (regsAt [(rFLASH_CMD, 0x10000), (rFLASH_BUF 0, 0x01020304)]) with flashOp := some { op := 3, addr := 0x1000001, len := 0 } }, { op := 3, addr := 0x1000001, len := 0 }, by decide +kernel⟩⟩

theorem witness_PersistentRecordWrites :
  (∃ (ifc : Iface) (s : State), gate ifc true rPREC_CTRL s = .open ∧ precBusy s = false ∧ flashBusy s = false ∧ twf (fun _ => (255 : Byte)) s.flash = true) ∧
  (∃ (ifc : Iface) (s : State), gate ifc true rPREC_CTRL s = .open ∧ (precBusy s = true ∨ flashBusy s = true)) ∧
  (∃ (s : State), precBusy s = false ∧ flashBusy s = false) ∧
  (∃ (s : State), (precBusy s = true ∨ flashBusy s = true)) ∧
  (∃ (s : State) (b : Nat) (img : List Byte), s.prec.writing = some (b, img) ∧ b < 2 ∧ s.prec.addingInWrite = false ∧ s.prec.pendingNow = false ∧ s.prec.pendingRoutine = false) :=
 ⟨⟨.pcie, (withFlash 0x2000000 [1, 2] (regsAt [(rPREC_STATUS, 1)])), by decide +kernel⟩,
  ⟨.pcie, { State.reset with flashOp := some { op := 1, addr := 0, len := 1 } }, by decide +kernel⟩,
  ⟨State.reset, by decide +kernel⟩,
  ⟨{ State.reset with prec := { writing := some (1, []) } }, by decide +kernel⟩,
  ⟨{ State.reset with prec := { writing := some (1, [1, 2, 3]) } }, 1, [1, 2, 3], by decide +kernel⟩⟩

theorem witness_PortFrames :
  (∃ (p : Fin 8) (mid : Bool) (s : State), domRun s 3 = true ∧ portState s p = 1 ∧ vpLine s p = false ∧ vpPulse s p = false ∧ (port s p).opened = false ∧ rdB s (rVP_ADMIT p) 0 = true ∧ vpInvalid (shadowBoundary (.vport p) s) p = false) ∧
  (∃ (p : Fin 8) (mid : Bool) (s : State) (k w j : Nat) (f : Bool), domRun s 3 = true ∧ portState s p = 1 ∧ vpLine s p = true ∧ (port s p).opened = false ∧ rdB s (rVP_ADMIT p) 0 = true ∧ vpInvalid (shadowBoundary (.vport p) s) p = false ∧ openSegOf s p = some ((k, w, j, f), false)) ∧
  (∃ (p : Fin 8) (mid : Bool) (s : State), (domRun s 3 = false ∨ portState s p = 0 ∨ (vpLine s p = true ∧ (openSegOf s p = none ∨ ∃ g, openSegOf s p = some (g, true))))) ∧
  (∃ (p : Fin 8) (s : State), domRun s 3 = true ∧ vpLine s p = false ∧ (port s p).opened = true ∧ (vpPulse s p = false ∨ vpHeight s p ≤ (port s p).got) ∧ (port s p).extra = []) ∧
  (∃ (p : Fin 8) (s : State), (domRun s 3 = false ∨ vpLine s p = true ∨ (port s p).opened = false ∨ (vpPulse s p = true ∧ (port s p).got < vpHeight s p))) ∧
  (∃ (p : Fin 8) (s : State) (k w j : Nat), domRun s 3 = true ∧ vpLine s p = true ∧ (port s p).opened = true ∧ (port s p).closing = false ∧ (port s p).seg = some (k, w, j) ∧ (trig s k).seg = none) ∧
  (∃ (p : Fin 8) (s : State) (k w j : Nat), domRun s 3 = true ∧ vpLine s p = true ∧ (port s p).opened = true ∧ (port s p).closing = false ∧ (port s p).seg = some (k, w, j) ∧ (trig s k).seg = none) ∧
  (∃ (p : Fin 8) (samples : List PixSample) (s : State), domRun s 3 = true ∧ (port s p).opened = true ∧ (port s p).next = none) ∧
  (∃ (p : Fin 8) (samples : List PixSample) (s : State), (domRun s 3 = false ∨ (port s p).opened = false)) ∧
  (∃ (p : Fin 8) (s : State), domRun s 3 = true ∧ (port s p).opened = true ∧ (port s p).next = none) ∧
  (∃ (p : Fin 8) (s : State), domRun s 3 = true ∧ (port s p).opened = false) ∧
  (∃ (p : Fin 8) (s : State), domRun s 3 = false) :=
 ⟨⟨7, false, portAt 1 0 {}, by decide +kernel⟩,
  ⟨7, false, { portAt 1 1 {} with boot := { secs := [(3, zeros 120 ++ [0x71])] }, keeper := { trigs := [(1, { seg := some { segOf [] with win := 3, jobId := 9, ctx := 15 } })] } }, 1, 3, 9, false, by decide +kernel⟩,
  ⟨7, false, napState, .inl (by decide +kernel)⟩,
  ⟨7, portAt 2 0 { opened := true, lines := 1, got := 1 }, by decide +kernel⟩,
  ⟨7, State.reset, by decide +kernel⟩,
  ⟨7, { portAt 2 1 { opened := true, lines := 2, got := 2, seg := some (1, 3, 9) } with keeper := { trigs := [(1, { fin := some (3, 9, 2) })] } }, 1, 3, 9, by decide +kernel⟩,
  ⟨7, { portAt 2 1 { opened := true, lines := 2, got := 2, seg := some (1, 3, 9) } with keeper := { trigs := [(1, { fin := some (3, 9, 2) })] } }, 1, 3, 9, by decide +kernel⟩,
  ⟨7, [{ data := 1, dval := true, fval := true }], portAt 2 0 { opened := true }, by decide +kernel⟩,
  ⟨7, [], State.reset, by decide +kernel⟩,
  ⟨7, portAt 2 0 { opened := true }, by decide +kernel⟩,
  ⟨7, State.reset, by decide +kernel⟩,
  ⟨7, napState, by decide +kernel⟩⟩

theorem witness_PortLinesAndAdmission :
  (∃ (p : Fin 8) (samples : List PixSample) (s : State), domRun s 3 = true ∧ portState s p = 2 ∧ vpLine s p = false ∧ vpPulse s p = false ∧ (port s p).closing = false ∧ (port s p).seg = none ∧ (port s p).got < vpHeight s p ∧ samples.any (fun x => x.fval != bit (vpCfg s p) 9) = true ∧ (acceptedCycles s p samples).length * vpTaps s p = vpWidth s p) ∧
  (∃ (p : Fin 8) (samples : List PixSample) (s : State), domRun s 3 = false) ∧
  (∃ (p : Fin 8) (samples : List PixSample) (s : State), domRun s 3 = true ∧ portState s p = 1 ∧ (port s p).opened = false) ∧
  (∃ (p : Fin 8) (rising : Bool) (s : State), domRun s 3 = true ∧ vpInvalid s p = false ∧ rising ≠ bit (vpCfg s p) 14 ∧ vpPulse s p = false ∧ (fld (vpCfg s p) 13 12 = 1 ∨ fld (vpCfg s p) 13 12 = 2)) ∧
  (∃ (p : Fin 8) (rising : Bool) (s : State), (domRun s 3 = false ∨ vpInvalid s p = true ∨ rising = bit (vpCfg s p) 14)) ∧
  (∃ (ifc : Iface) (p : Fin 8) (v : Word) (s : State), gate ifc true (rVP_ADMIT p) s = .open ∧ admitted s p v = true) ∧
  (∃ (ifc : Iface) (p : Fin 8) (v : Word) (s : State), gate ifc true (rVP_ADMIT p) s = .open ∧ admitted s p v = false ∧ rdB s (rVP_ADMIT p) 0 = false ∧ bit v 0 = true) ∧
  (∃ (p : Fin 8) (s : State), domRun s 3 = false) ∧
  (∃ (p : Fin 8) (s : State), domRun s 3 = true) :=
 ⟨⟨7, (List.replicate 16 { data := 255, dval := true, fval := true }), portAt 2 0 { opened := true }, by decide +kernel⟩,
  ⟨7, [], napState, by decide +kernel⟩,
  ⟨7, [], portAt 1 0 {}, by decide +kernel⟩,
  ⟨7, true, portAt 1 0x1000 {}, by decide +kernel⟩,
  ⟨7, false, State.reset, by decide +kernel⟩,
  ⟨.pcie, 7, 0x03E80005, State.reset, by decide +kernel⟩,
  ⟨.pcie, 7, 0x03E90001, State.reset, by decide +kernel⟩,
  ⟨7, napState, by decide +kernel⟩,
  ⟨7, State.reset, by decide +kernel⟩⟩

theorem witness_PipeLines :
  (∃ (p : Fin 2) (drained c : Nat) (s : State) (pf : PipeFrame) (l : Line) (q : List PipeItem), domRun s 3 = true ∧ longest s p (fun c => decide (ctxKind s c = 1) && readyLine s c && !secHolds s c) = some c ∧ (pctx s c).frame = some pf ∧ pf.lost = true ∧ pipeQueue s c = .line l :: q) ∧
  (∃ (p : Fin 2) (drained c : Nat) (s : State) (pf : PipeFrame) (l : Line) (q : List PipeItem), domRun s 3 = true ∧ longest s p (fun c => decide (ctxKind s c = 1) && readyLine s c && !secHolds s c) = some c ∧ (pctx s c).frame = some pf ∧ pf.lost = false ∧ pipeQueue s c = .line l :: q) ∧
  (∃ (p : Fin 2) (drained c : Nat) (s : State) (f : FrameInfo) (l : Line) (q : List PipeItem), domRun s 3 = true ∧ longest s p (fun c => decide (ctxKind s c = 1) && readyLine s c && !secHolds s c) = some c ∧ (pctx s c).frame = none ∧ pipeQueue s c = .start f :: .line l :: q) ∧
  (∃ (p : Fin 2) (drained c y : Nat) (s : State), domRun s 3 = true ∧ longest s p (fun c => decide (ctxKind s c = 1) && readyLine s c && !secHolds s c) = none ∧ longest s p (fun c => readyM2m s c && !secHolds s c) = some c ∧ (pctx s c).m2m = some y) ∧
  (∃ (p : Fin 2) (drained : Nat) (s : State), domRun s 3 = true ∧ longest s p (fun c => decide (ctxKind s c = 1) && readyLine s c && !secHolds s c) = none ∧ longest s p (fun c => readyM2m s c && !secHolds s c) = none) ∧
  (∃ (p : Fin 2) (drained : Nat) (s : State), domRun s 3 = false) :=
 ⟨⟨1, 0, 15, ctxAt 15 5 { frame := some { info := { width := 5, height := 4 }, lost := true } } [.line line5, .stop 3], { info := { width := 5, height := 4 }, lost := true }, line5, [.stop 3], by decide +kernel⟩,
  ⟨1, 0, 15, ctxAt 15 5 { frame := some { info := { width := 5, height := 4 } } } [.line line5, .stop 3], { info := { width := 5, height := 4 } }, line5, [.stop 3], by decide +kernel⟩,
  ⟨0, 9, 0, ctxAt 0 1 { lastStart := 7 } [.start { width := 5 }, .line line5], { width := 5 }, line5, [], by decide +kernel⟩,
  ⟨0, 0, 3, 2, ctxAt 3 2 { m2m := some 2, frame := some { info := { width := 5, height := 4 } } } [], by decide +kernel⟩,
  ⟨1, 0, State.reset, by decide +kernel⟩,
  ⟨1, 0, napState, by decide +kernel⟩⟩

theorem witness_PipeSplicesAndFrameEnds :
  (∃ (c : Fin 16) (drained : Nat) (s : State) (pf : PipeFrame) (l : Line) (q : List Line), domRun s 3 = true ∧ domRun s 2 = true ∧ (pctx s c).frame = some pf ∧ pf.splice = true ∧ splTee pf.info c = false ∧ (secCtx s c).back = l :: q ∧ l.idx = pf.returned ∧ l.planes.all (fun v => decide (v.length = pf.info.width)) = true) ∧
  (∃ (c : Fin 16) (intact : Bool) (drained : Nat) (s : State) (pf : PipeFrame) (l : Line) (q : List Line), domRun s 3 = true ∧ domRun s 2 = true ∧ (pctx s c).frame = some pf ∧ pf.splice = true ∧ splTee pf.info c = false ∧ (secCtx s c).back = l :: q ∧ (intact = false ∨ l.idx ≠ pf.returned)) ∧
  (∃ (c : Fin 16) (intact : Bool) (drained : Nat) (s : State), (domRun s 3 = false ∨ domRun s 2 = false)) ∧
  (∃ (c : Fin 16) (s : State) (pf : PipeFrame), domRun s 3 = true ∧ (pctx s c).frame = some pf ∧ pf.splice = true ∧ (readyLine s c = true ∨ readyM2m s c = true)) ∧
  (∃ (c : Fin 16) (s : State), (domRun s 3 = false ∨ ∀ pf, (pctx s c).frame = some pf → pf.splice = false)) ∧
  (∃ (ifc : Iface) (c : Fin 16) (s : State), gate ifc true (rCTX_M2M_GO c) s = .open ∧ (pctx s c).frame = none ∧ ctxKind s c = 2 ∧ ctxOn s c = true) ∧
  (∃ (ifc : Iface) (c : Fin 16) (s : State), gate ifc true (rCTX_M2M_GO c) s = .open ∧ ((pctx s c).frame ≠ none ∨ ctxKind s c ≠ 2 ∨ ctxOn s c = false)) ∧
  (∃ (c : Fin 16) (drained fl : Nat) (s : State) (pf : PipeFrame) (q : List PipeItem), domRun s 3 = true ∧ (pctx s c).frame = some pf ∧ pf.ended = false ∧ pf.splice = false ∧ ctxKind s c ≠ 2 ∧ pipeQueue s c = .stop fl :: q) ∧
  (∃ (c : Fin 16) (drained : Nat) (s : State) (pf : PipeFrame), domRun s 3 = true ∧ (pctx s c).frame = some pf ∧ pf.ended = true ∧ pf.sent ≤ pf.returned) ∧
  (∃ (c : Fin 16) (drained fl : Nat) (s : State) (f : FrameInfo) (q : List PipeItem), domRun s 3 = true ∧ (pctx s c).frame = none ∧ ctxKind s c ≠ 2 ∧ pipeQueue s c = .start f :: .stop fl :: q) ∧
  (∃ (c : Fin 16) (drained : Nat) (s : State), domRun s 3 = true ∧ (pctx s c).frame = none ∧ (∀ f fl q, pipeQueue s c ≠ .start f :: .stop fl :: q)) ∧
  (∃ (c : Fin 16) (drained : Nat) (s : State), domRun s 3 = false) :=
 ⟨⟨15, 0, { ctxAt 15 1 { frame := some { info := { width := 5 }, splice := true, sent := 3, returned := 2 } } [] with secCtx := [(15, { begun := true, back := [{ line5 with idx := 2 }] })], spliceq := [(15, [(1, .line line5)])] }, { info := { width := 5 }, splice := true, sent := 3, returned := 2 }, { line5 with idx := 2 }, [], by decide +kernel⟩,
  ⟨15, false, 0, { ctxAt 15 1 { frame := some { info := { width := 5 }, splice := true, sent := 3, returned := 2 } } [] with secCtx := [(15, { begun := true, back := [{ line5 with idx := 2 }] })], spliceq := [(15, [(1, .line line5)])] }, { info := { width := 5 }, splice := true, sent := 3, returned := 2 }, { line5 with idx := 2 }, [], by decide +kernel⟩,
  ⟨15, true, 0, napState, by decide +kernel⟩,
  ⟨15, { ctxAt 15 1 { frame := some { info := { width := 5 }, splice := true, sent := 3, returned := 2 } } [.line line5] with secCtx := [(15, { begun := true, back := [{ line5 with idx := 2 }] })], spliceq := [(15, [(1, .line line5)])] }, { info := { width := 5 }, splice := true, sent := 3, returned := 2 }, by decide +kernel⟩,
  ⟨0, napState, .inl (by decide +kernel)⟩,
  ⟨.pcie, 15, ({ regsAt [(rCTX_CFG 15 + 0x8000, 1)] with boot := { secs := [(3, zeros 120 ++ [2])] }, pctx := [(15, { })], pipeq := [(15, [])] }), by decide +kernel⟩,
  ⟨.pcie, 15, (State.reset), by decide +kernel⟩,
  ⟨0, 0, 5, { ctxAt 0 1 { frame := some { info := { width := 5, height := 4 } } } [.stop 5] with regs := (regsAt [(rCTX_FR_NEXT 0, 63)]).regs }, { info := { width := 5, height := 4 } }, [], by decide +kernel⟩,
  ⟨15, 0, ctxAt 15 1 { frame := some { info := { width := 5 }, ended := true, splice := true, sent := 3, returned := 3 } } [], { info := { width := 5 }, ended := true, splice := true, sent := 3, returned := 3 }, by decide +kernel⟩,
  ⟨15, 0, 5, ctxAt 15 1 {} [.start { width := 5 }, .stop 5], { width := 5 }, [], by decide +kernel⟩,
  ⟨15, 0, State.reset, by decide +kernel, by decide +kernel, by intro f fl q h; cases h⟩,
  ⟨15, 0, napState, by decide +kernel⟩⟩

theorem witness_MeasurementRecords :
  (∃ (c : Fin 16) (drained : Nat) (s : State) (m : MeasFrame) (rest : List MeasFrame), domRun s 3 = true ∧ (pctx s c).pxDue = m :: rest ∧ m.info.served = true ∧ (bit (prm m.info (rPX_RING c)) 4 = true → (sem s (fld (prm m.info (rPX_RING c)) 25 16)).count ≠ 0) ∧ (regionOf (prmAddr m.info (rPX_BASE_LO c) / 64 * 64 + rdn s (rPX_NEXT c) % 2 ^ (min 8 (fld (prm m.info (rPX_RING c)) 3 0)) * ((64 + 8 * m.info.width + 63) / 64 * 64)) = .dram → ringFits (stageDrain (ctxPipe s c) drained s) c (64 + 8 * m.info.width) = true)) ∧
  (∃ (c : Fin 16) (drained : Nat) (s : State) (m : MeasFrame) (rest : List MeasFrame), domRun s 3 = true ∧ (pctx s c).pxDue = m :: rest ∧ m.info.served = false) ∧
  (∃ (c : Fin 16) (drained : Nat) (s : State), domRun s 3 = true ∧ (pctx s c).pxDue = []) ∧
  (∃ (c : Fin 16) (drained : Nat) (s : State) (m : MeasFrame) (rest : List MeasFrame) (a : Nat), domRun s 3 = true ∧ (pctx s c).statDue = m :: rest ∧ a = prmAddr m.info (rSTAT_BASE_LO c) / 64 * 64 + rdn s (rSTAT_NEXT c) % 2 ^ (min 8 (prmF m.info (rSTAT_SLOTS c) 3 0)) * 0x4840 ∧ (regionOf a = .dram → ringFits (stageDrain (ctxPipe s c) drained s) c 0x4840 = true)) ∧
  (∃ (c : Fin 16) (drained : Nat) (s : State) (m : MeasFrame) (rest : List MeasFrame) (a : Nat), domRun s 3 = true ∧ (pctx s c).statDue = m :: rest ∧ a = prmAddr m.info (rSTAT_BASE_LO c) / 64 * 64 + rdn s (rSTAT_NEXT c) % 2 ^ (min 8 (prmF m.info (rSTAT_SLOTS c) 3 0)) * 0x4840 ∧ regionOf a = .dram ∧ ringFits (stageDrain (ctxPipe s c) drained s) c 0x4840 = false) ∧
  (∃ (c : Fin 16) (drained : Nat) (s : State), domRun s 3 = true ∧ (pctx s c).statDue = []) ∧
  (∃ (c : Fin 16) (drained : Nat) (s : State), domRun s 3 = false) ∧
  (∃ (ifc : Iface) (c : Fin 16) (s : State), gate ifc true (rPX_CAL_CTRL c) s = .open) ∧
  (∃ (ifc : Iface) (c : Fin 16) (s : State), gate ifc true (rPX_CAL_CTRL c) s = .open) :=
 ⟨⟨15, 0, { ctxAt 15 1 { pxDue := [{ info := { width := 5, height := 4, regs := [(rSTAT_BASE_LO 15 + 4, 16), (rPX_BASE_LO 15 + 4, 16)], served := true } }] } [] with regs := (regsAt [(rPIPE_STAGE 0, 64)]).regs }, { info := { width := 5, height := 4, regs := [(rSTAT_BASE_LO 15 + 4, 16), (rPX_BASE_LO 15 + 4, 16)], served := true } }, [], by decide +kernel⟩,
  ⟨0, 0, ctxAt 0 1 { pxDue := [{ info := { width := 5, height := 4 } }] } [], { info := { width := 5, height := 4 } }, [], by decide +kernel⟩,
  ⟨15, 0, State.reset, by decide +kernel⟩,
  ⟨15, 0, { ctxAt 15 1 { statDue := [{ info := { width := 5, height := 4, regs := [(rSTAT_BASE_LO 15 + 4, 16), (rPX_BASE_LO 15 + 4, 16)], served := true } }] } [] with regs := (regsAt [(rPIPE_STAGE 0, 64), (rSTAT_NEXT 15, 3)]).regs }, { info := { width := 5, height := 4, regs := [(rSTAT_BASE_LO 15 + 4, 16), (rPX_BASE_LO 15 + 4, 16)], served := true } }, [], (0x1000000000 + 3 * 0x4840), by decide +kernel⟩,
  ⟨15, 0, { ctxAt 15 1 { statDue := [{ info := { width := 5, height := 4, regs := [(rSTAT_BASE_LO 15 + 4, 16), (rPX_BASE_LO 15 + 4, 16)], served := true } }] } [] with regs := (regsAt [(rPIPE_STAGE 0, 4)]).regs }, { info := { width := 5, height := 4, regs := [(rSTAT_BASE_LO 15 + 4, 16), (rPX_BASE_LO 15 + 4, 16)], served := true } }, [], 0x1000000000, by decide +kernel⟩,
  ⟨15, 0, State.reset, by decide +kernel⟩,
  ⟨15, 0, napState, by decide +kernel⟩,
  ⟨.pcie, 15, (State.reset), by decide +kernel⟩,
  ⟨.pcie, 15, (State.reset), by decide +kernel⟩⟩

theorem witness_SectorUnits :
  (∃ (c : Fin 4) (err : MemErr) (parity : Option (Fin 32 × BitVec 15)) (si so : BitVec 32) (s : State) (x : Nat × Nat), domRun s 2 = true ∧ secAvail s c = true ∧ secPick s c = some x ∧ err ≠ .uncorrectable) ∧
  (∃ (c : Fin 4) (parity : Option (Fin 32 × BitVec 15)) (si so : BitVec 32) (s : State) (x : Nat × Nat), domRun s 2 = true ∧ secAvail s c = true ∧ secPick s c = some x) ∧
  (∃ (c : Fin 4) (err : MemErr) (parity : Option (Fin 32 × BitVec 15)) (si so : BitVec 32) (s : State), (domRun s 2 = false ∨ secAvail s c = false ∨ secPick s c = none)) ∧
  (∃ (c : Fin 4) (err : MemErr) (parity : Option (Fin 32 × BitVec 15)) (si so : BitVec 32) (s : State) (r : SecRun), domRun s 2 = true ∧ secAvail s c = true ∧ secPick s c = none ∧ (secCl s c).run = some r ∧ r.done = false ∧ err ≠ .uncorrectable) ∧
  (∃ (c : Fin 4) (parity : Option (Fin 32 × BitVec 15)) (si so : BitVec 32) (s : State) (r : SecRun), domRun s 2 = true ∧ secAvail s c = true ∧ secPick s c = none ∧ (secCl s c).run = some r ∧ r.done = false) ∧
  (∃ (c : Fin 4) (err : MemErr) (parity : Option (Fin 32 × BitVec 15)) (si so : BitVec 32) (s : State), (secCl s c).run = none) :=
 ⟨⟨3, .corrected, none, 5, 7, (withProg 0 { regsAt [(rSC_STATUS 3, 8), (rSEC_CTX_MAP 15, 0x48), (rSP_OWNER 32, 0x1FF)] with boot := { secs := [(3, zeros 120 ++ [1])] }, secCtx := [(15, { begun := true })], spliceq := [(15, [(0, .start { width := 16 }), (1, .line { planes := [List.replicate 16 9] })])] }), (15, 0), by decide +kernel⟩,
  ⟨3, none, 5, 7, (withProg 0 { regsAt [(rSC_STATUS 3, 8), (rSEC_CTX_MAP 15, 0x48), (rSP_OWNER 32, 0x1FF)] with boot := { secs := [(3, zeros 120 ++ [1])] }, secCtx := [(15, { begun := true })], spliceq := [(15, [(0, .start { width := 16 }), (1, .line { planes := [List.replicate 16 9] })])] }), (15, 0), by decide +kernel⟩,
  ⟨3, .none, none, 5, 7, (withProg 0 { regsAt [(rSC_STATUS 3, 8), (rSEC_CTX_MAP 15, 0x48), (rSP_OWNER 32, 0x1FF)] with boot := { secs := [(3, zeros 120 ++ [1])] } }), by decide +kernel⟩,
  ⟨3, .none, none, 5, 7, (withProg 0 { regsAt [(rSC_STATUS 3, 8), (rSEC_CTX_MAP 15, 0x48), (rSP_OWNER 32, 0x1FF)] with boot := { secs := [(3, zeros 120 ++ [1])] }, secCl := [(3, { run := some { mj := (mjOf false), bank := 0, done := false } })] }), { mj := (mjOf false), bank := 0, done := false }, by decide +kernel⟩,
  ⟨3, none, 5, 7, (withProg 0 { regsAt [(rSC_STATUS 3, 8), (rSEC_CTX_MAP 15, 0x48), (rSP_OWNER 32, 0x1FF)] with boot := { secs := [(3, zeros 120 ++ [1])] }, secCl := [(3, { run := some { mj := (mjOf false), bank := 0, done := false } })] }), { mj := (mjOf false), bank := 0, done := false }, by decide +kernel⟩,
  ⟨0, .none, none, 5, 7, (State.reset), by decide +kernel⟩⟩

theorem witness_SectorMemoryJobs :
  (∃ (ifc : Iface) (c : Fin 4) (hi : Word) (s : State) (a : Nat), gate ifc true (rSC_MJ_PUSH_HI c) s = .open ∧ a = ((latch s ifc (rSC_MJ_PUSH_LO c)).toNat + 2 ^ 32 * hi.toNat) % 2 ^ 48 ∧ (secCl s c).queue.length < 16 ∧ (devRead (secAgent c) a 64 s).1.err = false ∧ (devRead (secAgent c) a 64 s).1.poison = false ∧ a % 64 = 0 ∧ secMjReason s c (devRead (secAgent c) a 64 s).1.data = 0) ∧
  (∃ (ifc : Iface) (c : Fin 4) (hi : Word) (s : State), gate ifc true (rSC_MJ_PUSH_HI c) s = .open ∧ 16 ≤ (secCl s c).queue.length) ∧
  (∃ (c : Fin 4) (s : State) (m : SecMj) (q : List SecMj), domRun s 2 = true ∧ secAvail s c = true ∧ (secCl s c).run = none ∧ (secCl s c).queue = m :: q ∧ (m.waitEn = true → (sem s m.waitSem).count ≠ 0) ∧ secMjChainOk s c m = true ∧ secMjBaseOk s c m.inBase = true ∧ secMjBaseOk s c m.outBase = true) ∧
  (∃ (c : Fin 4) (s : State), (domRun s 2 = false ∨ secAvail s c = false ∨ (secCl s c).run.isSome = true ∨ (secCl s c).queue = [])) ∧
  (∃ (c : Fin 4) (s : State) (m : SecMj) (q : List SecMj), domRun s 2 = true ∧ secAvail s c = true ∧ (secCl s c).run = none ∧ (secCl s c).queue = m :: q ∧ m.waitEn = true ∧ (sem s m.waitSem).count = 0) ∧
  (∃ (c : Fin 4) (s : State) (r : SecRun), domRun s 2 = true ∧ (secCl s c).run = some r ∧ r.done = true) ∧
  (∃ (c : Fin 4) (s : State), (domRun s 2 = false ∨ ∀ r, (secCl s c).run = some r → r.done = false)) :=
 ⟨⟨.pcie, 3, 1, (withMem 0x140001000 ([1, 0, 0, 0, 9, 0, 0, 0, 16, 0, 1, 0, 0, 0, 0, 0] ++ leBytes 8 0x140000000 ++ leBytes 8 64 ++ leBytes 8 0x140000040 ++ leBytes 8 64 ++ zeros 16) (setLatch .pcie (rSC_MJ_PUSH_LO 3) 0x40001000 (withProg 0 { regsAt [(rSC_STATUS 3, 8), (rSEC_CTX_MAP 15, 0x48), (rSP_OWNER 32, 0x1FF)] with boot := { secs := [(3, zeros 120 ++ [1])] } }))), 0x140001000, by decide +kernel⟩,
  ⟨.pcie, 3, 1, ({ State.reset with secCl := [(3, { queue := List.replicate 16 (mjOf false) })] }), by decide +kernel⟩,
  ⟨3, (withProg 0 { regsAt [(rSC_STATUS 3, 8), (rSEC_CTX_MAP 15, 0x48), (rSP_OWNER 32, 0x1FF)] with boot := { secs := [(3, zeros 120 ++ [1])] }, secCl := [(3, { queue := [(mjOf true)] })], sems := [(1023, { count := 1 })] }), (mjOf true), [], by decide +kernel⟩,
  ⟨3, napState, by decide +kernel⟩,
  ⟨3, (withProg 0 { regsAt [(rSC_STATUS 3, 8), (rSEC_CTX_MAP 15, 0x48), (rSP_OWNER 32, 0x1FF)] with boot := { secs := [(3, zeros 120 ++ [1])] }, secCl := [(3, { queue := [(mjOf true)] })] }), (mjOf true), [], by decide +kernel⟩,
  ⟨3, (withProg 0 { regsAt [(rSC_STATUS 3, 8), (rSEC_CTX_MAP 15, 0x48), (rSP_OWNER 32, 0x1FF)] with boot := { secs := [(3, zeros 120 ++ [1])] }, secCl := [(3, { run := some { mj := (mjOf false), bank := 0, done := true } })] }), { mj := (mjOf false), bank := 0, done := true }, by decide +kernel⟩,
  ⟨3, napState, .inl (by decide +kernel)⟩⟩

set_option maxRecDepth 100000 in
theorem witness_SectorBanks :
  (∃ (ifc : Iface) (c : Fin 4) (wsel : Bool) (force target : MemErr) (s : State), gate ifc true (rSC_PROG_CTRL c) s = .open ∧ force ≠ .uncorrectable ∧ target ≠ .uncorrectable ∧ commitWhy s c = 0) ∧
  (∃ (ifc : Iface) (c : Fin 4) (wsel : Bool) (force target : MemErr) (s : State), gate ifc true (rSC_PROG_CTRL c) s = .open ∧ force ≠ .uncorrectable ∧ target ≠ .uncorrectable ∧ commitWhy s c ≠ 0) ∧
  (∃ (c : Fin 4) (s : State) (w : SecSwap), (secCl s c).swap = some w ∧ w.e67 = false) ∧
  (∃ (c : Fin 4) (s : State), (∀ w, (secCl s c).swap = some w → w.e67 = true)) ∧
  (∃ (ifc : Iface) (c : Fin 4) (word : Fin 49152) (v : Word) (s : State), gate ifc true (rSC_BANK c word) s = .open ∧ b2n (rdB s (rSC_PROG_CTRL c) 0) ≠ secActive s c ∧ (secCl s c).swap = none) ∧
  (∃ (ifc : Iface) (c : Fin 4) (word : Fin 49152) (v : Word) (s : State), gate ifc true (rSC_BANK c word) s = .open ∧ (b2n (rdB s (rSC_PROG_CTRL c) 0) = secActive s c ∨ (secCl s c).swap ≠ none)) :=
 ⟨⟨.pcie, 3, true, .none, .none, (withProg 1 { regsAt [(rSC_STATUS 3, 8), (rSEC_CTX_MAP 15, 0x48), (rSP_OWNER 32, 0x1FF)] with boot := { secs := [(3, zeros 120 ++ [1])] }, spliceq := [(15, [(0, .start { width := 16 })])] }), by decide +kernel⟩,
  ⟨.pcie, 0, false, .none, .none, (State.reset), by decide +kernel⟩,
  ⟨3, ({ State.reset with secCl := [(3, { swap := some { restruct := false, left := [(15, 0)], memLeft := [1], began := 0 } })] }), { restruct := false, left := [(15, 0)], memLeft := [1], began := 0 }, by decide +kernel⟩,
  ⟨3, (State.reset), by decide +kernel⟩,
  ⟨.pcie, 3, 49151, 0x01020304, (regsAt [(rSC_PROG_CTRL 3, 1)]), by decide +kernel⟩,
  ⟨.pcie, 3, 0, 0x01020304, (State.reset), by decide +kernel⟩⟩

theorem witness_LensQueue :
  (∃ (ifc : Iface) (hi : Word) (s : State) (a : Nat) (r : Rd × State), gate ifc true rLENS_PUSH_HI s = .open ∧ a = ((latch s ifc rLENS_PUSH_LO).toNat + 2 ^ 32 * hi.toNat) % 2 ^ 48 ∧ s.lens.ops.length < 32 ∧ r = devRead (lensAgent a) a 128 s ∧ r.1.err = false ∧ r.1.poison = false ∧ a % 64 = 0 ∧ lensReason s r.1.data = 0) ∧
  (∃ (ifc : Iface) (hi : Word) (s : State), gate ifc true rLENS_PUSH_HI s = .open ∧ 32 ≤ s.lens.ops.length) ∧
  (∃ (s : State) (o : LensOp) (k : Nat), domRun s 1 = true ∧ (lensRes s).length < 8 ∧ lensFirst (s.lens.ops.filter (fun o => decide (o.phase = .queued) && lensAllowed s o)) = some o ∧ (upto 8).find? (fun k => (lensAt s k).isNone) = some k ∧ genOk s o.d.slot o.d.gen = true) ∧
  (∃ (s : State) (o : LensOp) (k : Nat), domRun s 1 = true ∧ (lensRes s).length < 8 ∧ lensFirst (s.lens.ops.filter (fun o => decide (o.phase = .queued) && lensAllowed s o)) = some o ∧ (upto 8).find? (fun k => (lensAt s k).isNone) = some k ∧ genOk s o.d.slot o.d.gen = false) ∧
  (∃ (slot : Fin 8) (s : State) (o : LensOp), lensAt s slot = some o ∧ o.phase = .admitting ∧ domRun s 1 = true ∧ admissionWhy s o.d = 0) ∧
  (∃ (slot : Fin 8) (s : State) (o : LensOp), lensAt s slot = some o ∧ o.phase = .admitting ∧ domRun s 1 = true ∧ admissionWhy s o.d ≠ 0) ∧
  (∃ (s : State) (o : LensOp), domRun s 1 = true ∧ lensFirst (s.lens.ops.filter (fun o => decide (o.phase = .waiting) && lensHave s o)) = some o) ∧
  (∃ (s : State), domRun s 1 = true ∧ lensFirst (s.lens.ops.filter (fun o => decide (o.phase = .waiting) && lensHave s o)) = none) ∧
  (∃ (slot : Fin 8) (s : State), domRun s 1 = false) :=
 ⟨⟨.pcie, 1, ((setLatch .pcie rLENS_PUSH_LO 0x40000000 (lensState []))), 0x140000000, (devRead (lensAgent 0x140000000) 0x140000000 128 (setLatch .pcie rLENS_PUSH_LO 0x40000000 (lensState []))), by decide +kernel⟩,
  ⟨.pcie, 1, (lensState (List.replicate 32 (lensOp .queued none))), by decide +kernel⟩,
  ⟨(lensState [(lensOp .queued none)]), (lensOp .queued none), 0, by decide +kernel⟩,
  ⟨(lensState [(lensStale .queued none)]), (lensStale .queued none), 0, by decide +kernel⟩,
  ⟨7, (lensState [(lensOp .admitting (some 7))]), (lensOp .admitting (some 7)), by decide +kernel⟩,
  ⟨7, ({ lensState [(lensOp .admitting (some 7))] with mem := [] }), (lensOp .admitting (some 7)), by decide +kernel⟩,
  ⟨({ lensState [{ lensOp .waiting (some 0) with desc := lensDesc.take 10 ++ [3, 0, 5, 0x14, 0, 0, 0, 0, 0, 0] ++ lensDesc.drop 20 }] with sems := [(5, { count := 2 })] }), { lensOp .waiting (some 0) with desc := lensDesc.take 10 ++ [3, 0, 5, 0x14, 0, 0, 0, 0, 0, 0] ++ lensDesc.drop 20 }, by decide +kernel⟩,
  ⟨(lensState [{ lensOp .waiting (some 0) with desc := lensDesc.take 10 ++ [3, 0, 5, 0x14, 0, 0, 0, 0, 0, 0] ++ lensDesc.drop 20 }]), by decide +kernel⟩,
  ⟨7, napState, by decide +kernel⟩⟩

theorem witness_LensTilesAndHalt :
  (∃ (errs : List (BitVec 48 × MemErr)) (feed out wload : BitVec 32) (idle : List (BitVec 32)) (s : State) (o : LensOp) (sw : Bool), domRun s 1 = true ∧ lensDrains s = false ∧ s.lens.tile = none ∧ rdB s rLENS_CTRL 0 = false ∧ lensChoose s = some (o, sw) ∧ genOk s o.d.slot o.d.gen = true) ∧
  (∃ (errs : List (BitVec 48 × MemErr)) (feed out wload : BitVec 32) (idle : List (BitVec 32)) (s : State) (q : Nat) (o : LensOp), domRun s 1 = true ∧ lensDrains s = false ∧ s.lens.tile = some q ∧ s.lens.ops.find? (fun o => decide (o.seq = q)) = some o ∧ genOk s o.d.slot o.d.gen = true) ∧
  (∃ (errs : List (BitVec 48 × MemErr)) (feed out wload : BitVec 32) (idle : List (BitVec 32)) (s : State) (q : Nat) (o : LensOp), domRun s 1 = true ∧ lensDrains s = false ∧ s.lens.tile = some q ∧ s.lens.ops.find? (fun o => decide (o.seq = q)) = some o ∧ genOk s o.d.slot o.d.gen = false) ∧
  (∃ (errs : List (BitVec 48 × MemErr)) (feed out wload : BitVec 32) (idle : List (BitVec 32)) (s : State) (o : LensOp) (sw : Bool), domRun s 1 = true ∧ lensDrains s = false ∧ s.lens.tile = none ∧ rdB s rLENS_CTRL 0 = false ∧ lensChoose s = some (o, sw) ∧ genOk s o.d.slot o.d.gen = false) ∧
  (∃ (errs : List (BitVec 48 × MemErr)) (feed out wload : BitVec 32) (idle : List (BitVec 32)) (s : State), domRun s 1 = true ∧ lensDrains s = false ∧ rdB s rLENS_CTRL 0 = true) ∧
  (∃ (errs : List (BitVec 48 × MemErr)) (feed out wload : BitVec 32) (idle : List (BitVec 32)) (s : State), domRun s 1 = true ∧ lensDrains s = false ∧ s.lens.tile = none ∧ rdB s rLENS_CTRL 0 = false ∧ lensChoose s = none) ∧
  (∃ (errs : List (BitVec 48 × MemErr)) (feed out wload n : BitVec 32) (s : State) (c : Fin 4), domRun s 1 = true ∧ lensDrains s = false ∧ s.lens.causes = [c]) ∧
  (∃ (slot : Fin 8) (s : State) (o : LensOp), lensAt s slot = some o ∧ o.phase = .retiring ∧ domRun s 1 = true) ∧
  (∃ (slot : Fin 8) (s : State), (∀ o, lensAt s slot = some o → o.phase ≠ .retiring)) ∧
  (∃ (errs : List (BitVec 48 × MemErr)) (feed out wload : BitVec 32) (idle : List (BitVec 32)) (slot : Fin 8) (s : State), domRun s 1 = false ∧ lensDrains s = false) ∧
  (∃ (ifc : Iface) (s : State), gate ifc true rLENS_CTRL s = .open) ∧
  (∃ (ifc : Iface) (s : State), gate ifc true rLENS_CTRL s = .open) :=
 ⟨⟨[], 1, 2, 3, [4], (lensState [(lensOp .ready (some 0))]), (lensOp .ready (some 0)), true, by decide +kernel⟩,
  ⟨[], 1, 2, 3, [4], { lensState [(lensOp .running (some 7))] with lens := { ops := [(lensOp .running (some 7))], nextSeq := 7, tile := some 3 } }, 3, (lensOp .running (some 7)), by decide +kernel⟩,
  ⟨[], 1, 2, 3, [4], { lensState [(lensStale .running (some 7))] with lens := { ops := [(lensStale .running (some 7))], nextSeq := 7, tile := some 3 } }, 3, (lensStale .running (some 7)), by decide +kernel⟩,
  ⟨[], 1, 2, 3, [4], (lensState [(lensStale .running (some 7))]), (lensStale .running (some 7)), false, by decide +kernel⟩,
  ⟨[], 1, 2, 3, [4], (regsAt [(rLENS_CTRL, 1)]), by decide +kernel⟩,
  ⟨[], 1, 2, 3, [4], (State.reset), by decide +kernel⟩,
  ⟨[], 1, 2, 3, 4, State.reset, 0, by decide +kernel⟩,
  ⟨7, (lensState [(lensOp .retiring (some 7))]), (lensOp .retiring (some 7)), by decide +kernel⟩,
  ⟨7, (lensState [(lensOp .ready (some 7))]), by decide +kernel⟩,
  ⟨[], 1, 2, 3, [4], 7, napState, by decide +kernel⟩,
  ⟨.pcie, (State.reset), by decide +kernel⟩,
  ⟨.pcie, (State.reset), by decide +kernel⟩⟩

theorem witness_ScratchpadPorts :
  (∃ (port : Fin 14) (addr : BitVec 48) (len : BitVec 12) (err : MemErr) (s : State), decodesAll s addr.toNat len.toNat = true ∧ portReaches port addr.toNat false = true ∧ ownsAll s port addr.toNat len.toNat = true) ∧
  (∃ (port : Fin 14) (addr : BitVec 48) (len : BitVec 12) (err : MemErr) (s : State), decodesAll s addr.toNat len.toNat = true ∧ portReaches port addr.toNat false = true ∧ ownsAll s port addr.toNat len.toNat = false) ∧
  (∃ (port : Fin 14) (addr : BitVec 48) (len : BitVec 12) (err : MemErr) (s : State), decodesAll s addr.toNat len.toNat = false) ∧
  (∃ (port : Fin 14) (addr : BitVec 48) (data : List Byte) (poison : Bool) (s : State), decodesAll s addr.toNat data.length = true ∧ portReaches port addr.toNat true = true ∧ ownsAll s port addr.toNat data.length = true ∧ poisonedIn s addr.toNat data.length = false) ∧
  (∃ (port : Fin 14) (addr : BitVec 48) (data : List Byte) (poison : Bool) (err : MemErr) (s : State), data ≠ [] ∧ decodesAll s addr.toNat data.length = true ∧ portReaches port addr.toNat true = true ∧ ownsAll s port addr.toNat data.length = false) ∧
  (∃ (port : Fin 14) (addr : BitVec 48) (data : List Byte) (poison : Bool) (err : MemErr) (s : State), decodesAll s addr.toNat data.length = false) :=
 ⟨⟨1, 0x1400007F1, 5, .none, ((withMem 0x1400007F0 [1, 2, 3, 4, 5, 6] (regsAt [(rSP_OWNER 32, 2), (rSP_OWNER 95, 8)]))), by decide +kernel⟩,
  ⟨1, 0x1400FFFFC, 64, .none, ((withMem 0x1400007F0 [1, 2, 3, 4, 5, 6] (regsAt [(rSP_OWNER 32, 2), (rSP_OWNER 95, 8)]))), by decide +kernel⟩,
  ⟨1, 0x143FFFFF1, 64, .none, ((withMem 0x1400007F0 [1, 2, 3, 4, 5, 6] (regsAt [(rSP_OWNER 32, 2), (rSP_OWNER 95, 8)]))), by decide +kernel⟩,
  ⟨3, 0x143FFFFFD, [9, 8, 7], true, ((withMem 0x1400007F0 [1, 2, 3, 4, 5, 6] (regsAt [(rSP_OWNER 32, 2), (rSP_OWNER 95, 8)]))), by decide +kernel⟩,
  ⟨3, 0x1400FFFFC, [1, 2], false, .none, ((withMem 0x1400007F0 [1, 2, 3, 4, 5, 6] (regsAt [(rSP_OWNER 32, 2), (rSP_OWNER 95, 8)]))), by decide +kernel⟩,
  ⟨3, 0x143FFFFFF, [1, 2], false, .none, ((withMem 0x1400007F0 [1, 2, 3, 4, 5, 6] (regsAt [(rSP_OWNER 32, 2), (rSP_OWNER 95, 8)]))), by decide +kernel⟩⟩

theorem witness_FillAndCopy :
  (∃ (ifc : Iface) (hi : Word) (s : State) (a : Nat) (r : Rd × State), gate ifc true rSP_FC_PUSH_HI s = .open ∧ a = ((latch s ifc rSP_FC_PUSH_LO).toNat + 2 ^ 32 * hi.toNat) % 2 ^ 48 ∧ s.fc.queue.length < 16 ∧ r = devRead fcAgent a 64 s ∧ r.1.err = false ∧ r.1.poison = false ∧ a % 64 = 0 ∧ fcReason s r.1.data = 0) ∧
  (∃ (ifc : Iface) (hi : Word) (s : State), gate ifc true rSP_FC_PUSH_HI s = .open ∧ 16 ≤ s.fc.queue.length) ∧
  (∃ (rows : Nat) (s : State) (c : FcCmd) (q : List FcCmd), s.fc.running = none ∧ s.fc.queue = c :: q ∧ (c.waitEn = true → (sem s c.waitSem).count ≠ 0) ∧ fcGenOk s c = true) ∧
  (∃ (rows : Nat) (s : State) (c : FcCmd) (q : List FcCmd), s.fc.running = none ∧ s.fc.queue = c :: q ∧ c.waitEn = true ∧ (sem s c.waitSem).count = 0) ∧
  (∃ (rows : Nat) (s : State) (c : FcCmd) (q : List FcCmd), s.fc.running = none ∧ s.fc.queue = c :: q ∧ c.waitEn = false ∧ fcGenOk s c = false) ∧
  (∃ (s : State) (c : FcCmd), s.fc.running = some c ∧ fcGenOk s c = true ∧ c.signalEn = false) ∧
  (∃ (s : State) (c : FcCmd), s.fc.running = some c ∧ fcGenOk s c = true ∧ c.signalEn = true) ∧
  (∃ (s : State) (c : FcCmd), s.fc.running = some c ∧ fcGenOk s c = true ∧ c.copy = false ∧ c.height = 1 ∧ s.fc.rows = 0 ∧ c.width % 4 = 0 ∧ memNo c.dst = some 1 ∧ ownsAll s 13 c.dst c.width = true) :=
 ⟨⟨.pcie, 1, ((withMem 0x140000000 ([0xD4, 1, 0, 0, 9, 0, 0, 0, 0xFF, 3, 2, 0, 0xEF, 0xBE, 0xAD, 0xDE] ++ zeros 4 ++ leBytes 4 0x40 ++ leBytes 4 8 ++ leBytes 4 2 ++ zeros 4 ++ leBytes 4 16 ++ zeros 24) (setLatch .pcie rSP_FC_PUSH_LO 0x40000000 (regsAt [(rSP_OWNER 32, 0x3FFF)])))), 0x140000000, (devRead fcAgent 0x140000000 64 (withMem 0x140000000 ([0xD4, 1, 0, 0, 9, 0, 0, 0, 0xFF, 3, 2, 0, 0xEF, 0xBE, 0xAD, 0xDE] ++ zeros 4 ++ leBytes 4 0x40 ++ leBytes 4 8 ++ leBytes 4 2 ++ zeros 4 ++ leBytes 4 16 ++ zeros 24) (setLatch .pcie rSP_FC_PUSH_LO 0x40000000 (regsAt [(rSP_OWNER 32, 0x3FFF)])))), by decide +kernel⟩,
  ⟨.pcie, 1, ({ State.reset with fc := { queue := List.replicate 16 { mem := 1, slot := 0, gen := 0, pattern := 0xDEADBEEF, src := 0x140000000, dst := 0x140000040, width := 8 } } }), by decide +kernel⟩,
  ⟨1, ({ regsAt [(rSP_OWNER 32, 0x3FFF)] with fc := { queue := [{ mem := 1, slot := 0, gen := 0, pattern := 0xDEADBEEF, src := 0x140000000, dst := 0x140000040, width := 8, waitEn := true, waitSem := 1023 }], running := none }, sems := [(1023, { count := 1 })] }), { mem := 1, slot := 0, gen := 0, pattern := 0xDEADBEEF, src := 0x140000000, dst := 0x140000040, width := 8, waitEn := true, waitSem := 1023 }, [], by decide +kernel⟩,
  ⟨1, ({ regsAt [(rSP_OWNER 32, 0x3FFF)] with fc := { queue := [{ mem := 1, slot := 0, gen := 0, pattern := 0xDEADBEEF, src := 0x140000000, dst := 0x140000040, width := 8, waitEn := true, waitSem := 1023 }], running := none } }), { mem := 1, slot := 0, gen := 0, pattern := 0xDEADBEEF, src := 0x140000000, dst := 0x140000040, width := 8, waitEn := true, waitSem := 1023 }, [], by decide +kernel⟩,
  ⟨1, ({ regsAt [(rSP_OWNER 32, 0x3FFF)] with fc := { queue := [{ mem := 1, slot := 0, gen := 1, pattern := 0xDEADBEEF, src := 0x140000000, dst := 0x140000040, width := 8 }], running := none } }), { mem := 1, slot := 0, gen := 1, pattern := 0xDEADBEEF, src := 0x140000000, dst := 0x140000040, width := 8 }, [], by decide +kernel⟩,
  ⟨({ regsAt [(rSP_OWNER 32, 0x3FFF)] with fc := { queue := [], running := some { mem := 1, slot := 0, gen := 0, pattern := 0xDEADBEEF, src := 0x140000000, dst := 0x140000040, width := 8 } } }), { mem := 1, slot := 0, gen := 0, pattern := 0xDEADBEEF, src := 0x140000000, dst := 0x140000040, width := 8 }, by decide +kernel⟩,
  ⟨({ regsAt [(rSP_OWNER 32, 0x3FFF)] with fc := { queue := [], running := some { mem := 1, slot := 0, gen := 0, pattern := 0xDEADBEEF, src := 0x140000000, dst := 0x140000040, width := 8, signalEn := true, signalSem := 1023 } }, sems := [(1023, { count := 65535 })] }), { mem := 1, slot := 0, gen := 0, pattern := 0xDEADBEEF, src := 0x140000000, dst := 0x140000040, width := 8, signalEn := true, signalSem := 1023 }, by decide +kernel⟩,
  ⟨({ regsAt [(rSP_OWNER 32, 0x3FFF)] with fc := { queue := [], running := some { mem := 1, slot := 0, gen := 0, pattern := 0xDEADBEEF, src := 0x140000000, dst := 0x140000040, width := 8 } } }), { mem := 1, slot := 0, gen := 0, pattern := 0xDEADBEEF, src := 0x140000000, dst := 0x140000040, width := 8 }, by decide +kernel⟩⟩

theorem witness_SemaphoresAndCredits :
  (∃ (ifc : Iface) (w : Fin 64) (v : Word) (s : State), gate ifc true (rCRW_GRANT w) s = .open) :=
  ⟨.pcie, 63, 0xFFFF, (State.reset), by decide +kernel⟩

theorem witness_LanternControl :
  (∃ (ifc : Iface) (n : Fin 18) (s : State), gate ifc true (rLC_CTRL n) s = .open ∧ lanRuns s n = true ∧ (lan s n).interruptible = true ∧ winner s n ((lan s n).landAt (lan s n).n).psw = none) ∧
  (∃ (ifc : Iface) (n : Fin 18) (s : State), gate ifc true (rLC_CTRL n) s = .open ∧ rdB s (rLC_CTRL n) 0 = true) ∧
  (∃ (ifc : Iface) (n : Fin 18) (halt : Bool) (s : State), gate ifc true (rLC_CTRL n) s = .open ∧ lanInReset s n = false) ∧
  (∃ (ifc : Iface) (n : Fin 18) (halt : Bool) (s : State), gate ifc true (rLC_CTRL n) s = .open ∧ lanInReset s n = true ∧ rdB s (rLC_CTRL n) 0 = false) ∧
  (∃ (ifc : Iface) (n : Fin 18) (v : Word) (s : State), gate ifc true (rLC_RAISE_LO n) s = .open) ∧
  (∃ (ifc : Iface) (n : Fin 18) (v : Word) (s : State), gate ifc true (rLC_RAISE_HI n) s = .open) ∧
  (∃ (n : Fin 18) (off : BitVec 24) (b : List Byte) (len : BitVec 8) (displaced : Bool) (err : MemErr) (s : State), domOk s 4 = true ∧ decodesAll s (lanternBase n + off.toNat) b.length = true ∧ (err ≠ .uncorrectable ∨ (off.toNat % 8 = 0 ∧ b.length % 8 = 0))) ∧
  (∃ (n : Fin 18) (off : BitVec 24) (len : BitVec 8) (displaced : Bool) (err : MemErr) (s : State), domOk s 4 = true ∧ decodesAll s (lanternBase n + off.toNat) len.toNat = true ∧ err ≠ .uncorrectable) ∧
  (∃ (n : Fin 18) (off : BitVec 24) (len : BitVec 8) (displaced : Bool) (s : State), domOk s 4 = true ∧ decodesAll s (lanternBase n + off.toNat) len.toNat = true) ∧
  (∃ (n : Fin 18) (off : BitVec 24) (w : Option (List Byte)) (len : BitVec 8) (displaced : Bool) (err : MemErr) (s : State), decodesAll s (lanternBase n + off.toNat) (match w with | some b => b.length | none => len.toNat) = false) :=
 ⟨⟨.pcie, 17, ({ lanternState [0x80030880] { pc := 0x40 } with resv := [(17, 0x1000000000), (3, 0)] }), by decide +kernel⟩,
  ⟨.pcie, 17, (withRegs [(rLC_CTRL 17, 1)] (lanternState [0x80030880] { pc := 0x40, stopped := true })), by decide +kernel⟩,
  ⟨.pcie, 17, true, (withRegs [(rLC_PEND_LO 17, 0x12345), (rLC_PEND_HI 17, 7)] ({ lanternState [0x80030880] { pc := 0x40 } with resv := [(17, 0x1000000000), (3, 0)] })), by decide +kernel⟩,
  ⟨.pcie, 17, false, (lanternState [0x80030880] { pc := 0x40, resetTill := 200 }), by decide +kernel⟩,
  ⟨.pcie, 17, 0x100, (regsAt [(rDEV_CAP1, 0x3FFFF)]), by decide +kernel⟩,
  ⟨.pcie, 17, 0x1, (setLatch .pcie (rLC_RAISE_LO 17) 0x3FF (regsAt [(rDEV_CAP1, 0x3FFFF)])), by decide +kernel⟩,
  ⟨17, 0x7FFFE, [1, 2], 0, true, .none, (lanternState [0x80030880] { pc := 0xFFFC, sreg := [(1, 5), (2, 7)] }), by decide +kernel⟩,
  ⟨17, 0x7FFFE, 2, true, .corrected, (lanternState [0x80030880] { pc := 0xFFFC, sreg := [(1, 5), (2, 7)] }), by decide +kernel⟩,
  ⟨17, 0x7FFFE, 2, true, (lanternState [0x80030880] { pc := 0xFFFC, sreg := [(1, 5), (2, 7)] }), by decide +kernel⟩,
  ⟨17, 0xFFFFFF, (some [1, 2]), 0, false, .none, State.reset, by decide +kernel⟩⟩

theorem witness_LanternIssue :
  (∃ (n : Fin 18) (err0 err1 : MemErr) (s : State) (l : Lan) (ws : List Nat) (ys : List (LSyl × LEff)), lanRuns s n = true ∧ (lan s n).posts = [] ∧ l = { (lan s n).landAt (lan s n).n with seen := false, fence := false } ∧ l.lbPhase = .none ∧ ((lan s n).landAt (lan s n).n).fence = false ∧ l.longs.any (fun o => decide (o.op = .swait)) = false ∧ winner s n l.psw = none ∧ rdB s (rLC_CTRL n) 0 = false ∧ ws = imemBundle s n l.pc ∧ (bundleOf ws).bind (evalAll l l.pc (4 * ws.length) s.free) = some ys ∧ bundleLegal l ys = true ∧ bundleWaits l (ys.map (fun y => y.2)) = false ∧ ys.all (fun y => decide (y.2.flow = .next)) = true ∧ ys.any (fun y => isSwait y.1) = false ∧ ys.all (fun y => match y.2.store with | some (loc, _) => loc | none => true) = true ∧ (l.brAt = 0 ∨ l.n ≠ l.brAt + 1) ∧ l.pswBit 6 = false ∧ err0 ≠ .uncorrectable ∧ err1 ≠ .uncorrectable) ∧
  (∃ (n : Fin 18) (err0 err1 : MemErr) (s : State) (l : Lan) (ws : List Nat), lanRuns s n = true ∧ (lan s n).posts = [] ∧ l = { (lan s n).landAt (lan s n).n with seen := false, fence := false } ∧ l.lbPhase = .none ∧ ((lan s n).landAt (lan s n).n).fence = false ∧ l.longs.any (fun o => decide (o.op = .swait)) = false ∧ winner s n l.psw = none ∧ rdB s (rLC_CTRL n) 0 = false ∧ ws = imemBundle s n l.pc ∧ (bundleOf ws).bind (evalAll l l.pc (4 * ws.length) s.free) = none ∧ (l.brAt = 0 ∨ l.n ≠ l.brAt + 1) ∧ l.pswBit 6 = false) ∧
  (∃ (n : Fin 18) (err0 err1 : MemErr) (s : State) (l : Lan) (ws : List Nat) (ys : List (LSyl × LEff)), lanRuns s n = true ∧ (lan s n).posts = [] ∧ l = { (lan s n).landAt (lan s n).n with seen := false, fence := false } ∧ l.lbPhase = .none ∧ ((lan s n).landAt (lan s n).n).fence = false ∧ l.longs.any (fun o => decide (o.op = .swait)) = false ∧ winner s n l.psw = none ∧ rdB s (rLC_CTRL n) 0 = false ∧ ws = imemBundle s n l.pc ∧ (bundleOf ws).bind (evalAll l l.pc (4 * ws.length) s.free) = some ys ∧ bundleLegal l ys = true ∧ bundleWaits l (ys.map (fun y => y.2)) = true) ∧
  (∃ (n : Fin 18) (ierr err0 err1 : MemErr) (s : State) (l : Lan), lanRuns s n = true ∧ (lan s n).posts = [] ∧ l = (lan s n).landAt (lan s n).n ∧ l.longs.any (fun o => decide (o.op = .swait)) = false ∧ winner s n l.psw = none ∧ l.interruptible = true ∧ rdB s (rLC_CTRL n) 0 = true) ∧
  (∃ (n : Fin 18) (ierr err0 err1 : MemErr) (s : State), lanRuns s n = false ∧ (lan s n).posts = []) :=
 ⟨⟨17, .none, .corrected, (lanternState [0x80030880] { pc := 0xFFFC, sreg := [(1, 5), (2, 7)] }), (issuing (lanternState [0x80030880] { pc := 0xFFFC, sreg := [(1, 5), (2, 7)] })), (imemBundle (lanternState [0x80030880] { pc := 0xFFFC, sreg := [(1, 5), (2, 7)] }) 17 (issuing (lanternState [0x80030880] { pc := 0xFFFC, sreg := [(1, 5), (2, 7)] })).pc), (nextEffects (lanternState [0x80030880] { pc := 0xFFFC, sreg := [(1, 5), (2, 7)] })), by decide +kernel⟩,
  ⟨17, .none, .none, (lanternState [0xF0000000] { pc := 0x40 }), (issuing (lanternState [0xF0000000] { pc := 0x40 })), (imemBundle (lanternState [0xF0000000] { pc := 0x40 }) 17 (issuing (lanternState [0xF0000000] { pc := 0x40 })).pc), by decide +kernel⟩,
  ⟨17, .none, .none, (lanternState [0x80030880] { pc := 0x40, longs := [{ op := .unit 5, dst := .s 1, pc := 0 }] }), (issuing (lanternState [0x80030880] { pc := 0x40, longs := [{ op := .unit 5, dst := .s 1, pc := 0 }] })), (imemBundle (lanternState [0x80030880] { pc := 0x40, longs := [{ op := .unit 5, dst := .s 1, pc := 0 }] }) 17 (issuing (lanternState [0x80030880] { pc := 0x40, longs := [{ op := .unit 5, dst := .s 1, pc := 0 }] })).pc), (nextEffects (lanternState [0x80030880] { pc := 0x40, longs := [{ op := .unit 5, dst := .s 1, pc := 0 }] })), by decide +kernel⟩,
  ⟨17, .none, .none, .none, (withRegs [(rLC_CTRL 17, 1)] (lanternState [0x80030880] { pc := 0x40 })), ((lan (withRegs [(rLC_CTRL 17, 1)] (lanternState [0x80030880] { pc := 0x40 })) 17).landAt (lan (withRegs [(rLC_CTRL 17, 1)] (lanternState [0x80030880] { pc := 0x40 })) 17).n), by decide +kernel⟩,
  ⟨0, .none, .none, .none, (State.reset), by decide +kernel⟩⟩

theorem witness_LanternScalarResults :
  (∃ (l : Lan) (pc len fb d a b : Nat), d < 32 ∧ a < 32 ∧ b < 32) ∧
  (∃ (l : Lan) (pc len fb d i : Nat), d < 32 ∧ i < 1024) ∧
  (∃ (l : Lan) (pc len fb v p q : Nat), v < 1024 ∧ p < 32 ∧ q < 32) ∧
  (∃ (l : Lan) (pc len fb k : Nat), k < 2 ^ 21 ∧ pc + 4 * k < 65536) ∧
  (∃ (l : Lan) (i v at_ due n : Nat), l.writes = [{ dst := .s i, val := v, at_ := at_, due := due }]) :=
 ⟨⟨{ sreg := [(1, 0xFFFFFFFFFFFFFFFF), (2, 7)] }, 0, 4, 0, 31, 1, 2, by decide +kernel⟩,
  ⟨{ sreg := [(1, 0xFFFFFFFFFFFFFFFF), (2, 7)] }, 0, 4, 0, 31, 1023, by decide +kernel⟩,
  ⟨{ sreg := [(1, 0xFFFFFFFFFFFFFFFF), (2, 7)] }, 0, 4, 0, 1023, 1, 31, by decide +kernel⟩,
  ⟨{ sreg := [(1, 0xFFFFFFFFFFFFFFFF), (2, 7)] }, 65532, 4, 0, 0, by decide +kernel⟩,
  ⟨{ writes := [{ dst := .s 31, val := 2 ^ 64, at_ := 5, due := 7 }] }, 31, (2 ^ 64), 5, 7, 7, by decide +kernel⟩⟩

theorem witness_LanternInterruptsAndLongs :
  (∃ (n : Fin 18) (ierr : MemErr) (s : State) (l : Lan) (src f v : Nat), ierr ≠ .uncorrectable ∧ lanRuns s n = true ∧ ((lan s n).landAt (lan s n).n).interruptible = true ∧ frameWaits ((lan s n).landAt (lan s n).n) = false ∧ winner s n ((lan s n).landAt (lan s n).n).psw = some src ∧ l = ((lan s n).landAt (lan s n).n).drain ∧ f = addOff (l.getA 15 / 64 * 64) (-64) ∧ isLocal f 64 = true ∧ rdB s (rLC_CTRL n) 0 = false ∧ v = memLe s (lanternBase n + 0x800000 + 4 * src) 4 % 65536 ∧ v % 4 = 0) ∧
  (∃ (n : Fin 18) (s : State) (src : Nat), lanRuns s n = true ∧ ((lan s n).landAt (lan s n).n).interruptible = true ∧ frameWaits ((lan s n).landAt (lan s n).n) = false ∧ winner s n ((lan s n).landAt (lan s n).n).psw = some src) ∧
  (∃ (n : Fin 18) (ierr : MemErr) (s : State), (lanRuns s n = false ∨ ((lan s n).landAt (lan s n).n).interruptible = false ∨ frameWaits ((lan s n).landAt (lan s n).n) = true ∨ winner s n ((lan s n).landAt (lan s n).n).psw = none)) ∧
  (∃ (n : Fin 18) (err : MemErr) (s : State) (o : LLong) (v : Nat), lanternActive s n = true ∧ domRun s 4 = true ∧ (lan s n).longs.find? (fun o => isUnit o) = some o ∧ o.op = .unit v ∧ o.tag = none) ∧
  (∃ (n : Fin 18) (err : MemErr) (s : State) (o : LLong) (v : Nat), lanternActive s n = true ∧ domRun s 4 = true ∧ (lan s n).posts = [] ∧ (lan s n).longs.find? (fun o => !isUnit o) = some o ∧ o.op = .sc v ∧ o.tag = none ∧ decodesAll s o.addr o.z = true ∧ s.resv.contains (n.val, o.addr / 64 * 64) = false) ∧
  (∃ (n : Fin 18) (err : MemErr) (s : State) (o : LLong) (v : Nat), lanternActive s n = true ∧ domRun s 4 = true ∧ (lan s n).posts = [] ∧ (lan s n).longs.find? (fun o => !isUnit o) = some o ∧ o.op = .sc v ∧ o.tag = none ∧ decodesAll s o.addr o.z = true ∧ s.resv.contains (n.val, o.addr / 64 * 64) = true ∧ (lanWrite n o.addr (leBytes o.z v) s).1 = true) ∧
  (∃ (n : Fin 18) (mem : Bool) (err : MemErr) (s : State), domRun s 4 = false) ∧
  (∃ (n : Fin 18) (mem : Bool) (err : MemErr) (s : State), (lan s n).longs = []) :=
 ⟨⟨17, .none, (withRegs [(rLC_PEND_LO 17, 0x400), (rLC_PRIO 17 1, 0x100)] (withMem (lanternBase 17 + 0x800000 + 40) [0x80, 0] (lanternState [0x80030880] { pc := 0x40, psw := 1, areg := [(15, 0x47)], sreg := [(0, 9)] }))), ((lan (withRegs [(rLC_PEND_LO 17, 0x400), (rLC_PRIO 17 1, 0x100)] (withMem (lanternBase 17 + 0x800000 + 40) [0x80, 0] (lanternState [0x80030880] { pc := 0x40, psw := 1, areg := [(15, 0x47)], sreg := [(0, 9)] }))) 17).landAt (lan (withRegs [(rLC_PEND_LO 17, 0x400), (rLC_PRIO 17 1, 0x100)] (withMem (lanternBase 17 + 0x800000 + 40) [0x80, 0] (lanternState [0x80030880] { pc := 0x40, psw := 1, areg := [(15, 0x47)], sreg := [(0, 9)] }))) 17).n).drain, 10, 0, 0x80, by decide +kernel⟩,
  ⟨17, (withRegs [(rLC_PEND_LO 17, 0x400), (rLC_PRIO 17 1, 0x100)] (withMem (lanternBase 17 + 0x800000 + 40) [0x80, 0] (lanternState [0x80030880] { pc := 0x40, psw := 1, areg := [(15, 0x47)], sreg := [(0, 9)] }))), 10, by decide +kernel⟩,
  ⟨17, .none, (lanternState [0x80030880] { pc := 0xFFFC, sreg := [(1, 5), (2, 7)] }), by decide +kernel⟩,
  ⟨17, .none, (lanternState [0x80030880] { longs := [{ op := .sc 5, dst := .s 31, addr := 0x140000FF8, z := 8, pc := 0 }, { op := .unit 5, dst := .s 31, pc := 0 }] }), { op := .unit 5, dst := .s 31, pc := 0 }, 5, by decide +kernel⟩,
  ⟨17, .none, ({ lanternState [0x80030880] { longs := [{ op := .unit 5, dst := .s 31, pc := 0 }, { op := .sc 5, dst := .s 31, addr := 0x140000FF8, z := 8, pc := 0 }] } with resv := [(17, 0x140000F80), (16, 0x140000FC0)] }), { op := .sc 5, dst := .s 31, addr := 0x140000FF8, z := 8, pc := 0 }, 5, by decide +kernel⟩,
  ⟨17, .none, (withRegs [(rSP_OWNER 32, 0x3FFF)] ({ lanternState [0x80030880] { longs := [{ op := .unit 5, dst := .s 31, pc := 0 }, { op := .sc 5, dst := .s 31, addr := 0x140000FF8, z := 8, pc := 0 }] } with resv := [(16, 0x140000FC0), (17, 0x140000FC0)] })), { op := .sc 5, dst := .s 31, addr := 0x140000FF8, z := 8, pc := 0 }, 5, by decide +kernel⟩,
  ⟨17, true, .none, napState, by decide +kernel⟩,
  ⟨17, true, .none, (lanternState [0x80030880] { pc := 0xFFFC, sreg := [(1, 5), (2, 7)] }), by decide +kernel⟩⟩

theorem witness_DmaChainsStart :
  (∃ (ifc : Iface) (c : Fin 32) (hi : Word) (s : State), gate ifc true (rCH_HEAD_HI c) s = .open ∧ chState s c = 0) ∧
  (∃ (ifc : Iface) (c : Fin 32) (hi : Word) (s : State), gate ifc true (rCH_HEAD_HI c) s = .open ∧ chState s c ≠ 0) ∧
  (∃ (c : Fin 32) (s : State) (a : Nat) (r : Rd × State), chState s c = 1 ∧ (dmaCh s c).phase ≠ .reread ∧ (dmaCh s c).waiting = false ∧ a = chCur s c ∧ a % 64 = 0 ∧ descAt s a = true ∧ regionOf a ≠ .host ∧ r = devRead (dmaAgent s c) a 64 (setChDb c false s) ∧ r.1.err = false) ∧
  (∃ (c : Fin 32) (s : State) (a : Nat) (d : List Byte) (q : List (Nat × List Byte)), chState s c = 2 ∧ (dmaCh s c).burst = (a, d) :: q ∧ (sem s (leAt 0x30 2 d % 1024)).count ≠ 0 ∧ burstGenOk s (dmaCh s c) = true ∧ (burstSpans (dmaCh s c) false).all (fun p => decide (regionOf p.1 ≠ .host)) = true) ∧
  (∃ (c : Fin 32) (s : State) (a : Nat) (d : List Byte) (q : List (Nat × List Byte)), chState s c = 2 ∧ (dmaCh s c).burst = (a, d) :: q ∧ (sem s (leAt 0x30 2 d % 1024)).count = 0) ∧
  (∃ (ifc : Iface) (c : Fin 32) (s : State), gate ifc true (rCH_DOORBELL c) s = .open ∧ chState s c ≠ 5) ∧
  (∃ (ifc : Iface) (c : Fin 32) (s : State), gate ifc true (rCH_DOORBELL c) s = .open ∧ chState s c = 5) ∧
  (∃ (c : Fin 32) (s : State) (a : Nat) (r : Rd × State), chState s c = 1 ∧ (dmaCh s c).phase = .reread ∧ (dmaCh s c).waiting = false ∧ a = chCur s c + 0x20 ∧ descAt s (a / 64 * 64) = true ∧ regionOf a ≠ .host ∧ r = devRead (dmaAgent s c) a 8 s ∧ r.1.err = false ∧ chDb s c = false) :=
 ⟨⟨.pcie, 31, 1, (setLatch .pcie (rCH_HEAD_LO 31) 0x40000000 ({ regsAt [(rSP_OWNER 32, 0x3FFF), (rCH_STATUS 31, 0)] with dma := [(31, { moved := 5 })] })), by decide +kernel⟩,
  ⟨.pcie, 31, 1, (setLatch .pcie (rCH_HEAD_LO 31) 0x40000000 ({ regsAt [(rSP_OWNER 32, 0x3FFF), (rCH_STATUS 31, 5)] with dma := [(31, { })] })), by decide +kernel⟩,
  ⟨31, (withMem 0x140000000 (leBytes 4 0x480 ++ leBytes 4 4 ++ zeros 8 ++ leBytes 8 0x140000040 ++ leBytes 8 0x140000080 ++ leBytes 8 1 ++ zeros 8 ++ leBytes 2 0 ++ zeros 14) ({ regsAt [(rSP_OWNER 32, 0x3FFF), (rCH_STATUS 31, 1), (rCH_CUR_LO 31, 0x40000000), (rCH_CUR_LO 31 + 4, 1)] with dma := [(31, { })] })), 0x140000000, (devRead (dmaAgent (withMem 0x140000000 (leBytes 4 0x480 ++ leBytes 4 4 ++ zeros 8 ++ leBytes 8 0x140000040 ++ leBytes 8 0x140000080 ++ leBytes 8 1 ++ zeros 8 ++ leBytes 2 0 ++ zeros 14) ({ regsAt [(rSP_OWNER 32, 0x3FFF), (rCH_STATUS 31, 1), (rCH_CUR_LO 31, 0x40000000), (rCH_CUR_LO 31 + 4, 1)] with dma := [(31, { })] })) 31) 0x140000000 64 (setChDb 31 false (withMem 0x140000000 (leBytes 4 0x480 ++ leBytes 4 4 ++ zeros 8 ++ leBytes 8 0x140000040 ++ leBytes 8 0x140000080 ++ leBytes 8 1 ++ zeros 8 ++ leBytes 2 0 ++ zeros 14) ({ regsAt [(rSP_OWNER 32, 0x3FFF), (rCH_STATUS 31, 1), (rCH_CUR_LO 31, 0x40000000), (rCH_CUR_LO 31 + 4, 1)] with dma := [(31, { })] })))), by decide +kernel⟩,
  ⟨31, ({ regsAt [(rSP_OWNER 32, 0x3FFF), (rCH_STATUS 31, 2)] with dma := [(31, { burst := [(0x140000000, (leBytes 4 0x480 ++ leBytes 4 4 ++ zeros 8 ++ leBytes 8 0x140000040 ++ leBytes 8 0x140000080 ++ leBytes 8 1 ++ zeros 8 ++ leBytes 2 1023 ++ zeros 14))] })], sems := [(1023, { count := 1 })] }), 0x140000000, (leBytes 4 0x480 ++ leBytes 4 4 ++ zeros 8 ++ leBytes 8 0x140000040 ++ leBytes 8 0x140000080 ++ leBytes 8 1 ++ zeros 8 ++ leBytes 2 1023 ++ zeros 14), [], by decide +kernel⟩,
  ⟨31, ({ regsAt [(rSP_OWNER 32, 0x3FFF), (rCH_STATUS 31, 2)] with dma := [(31, { burst := [(0x140000000, (leBytes 4 0x480 ++ leBytes 4 4 ++ zeros 8 ++ leBytes 8 0x140000040 ++ leBytes 8 0x140000080 ++ leBytes 8 1 ++ zeros 8 ++ leBytes 2 1023 ++ zeros 14))] })], sems := [(1023, { count := 0 })] }), 0x140000000, (leBytes 4 0x480 ++ leBytes 4 4 ++ zeros 8 ++ leBytes 8 0x140000040 ++ leBytes 8 0x140000080 ++ leBytes 8 1 ++ zeros 8 ++ leBytes 2 1023 ++ zeros 14), [], by decide +kernel⟩,
  ⟨.pcie, 31, ({ regsAt [(rSP_OWNER 32, 0x3FFF), (rCH_STATUS 31, 3)] with dma := [(31, { })] }), by decide +kernel⟩,
  ⟨.pcie, 31, ({ regsAt [(rSP_OWNER 32, 0x3FFF), (rCH_STATUS 31, 5 + 8)] with dma := [(31, { moved := 9 })] }), by decide +kernel⟩,
  ⟨31, (withMem 0x140000020 (leBytes 8 0x140000FC0) ({ regsAt [(rSP_OWNER 32, 0x3FFF), (rCH_STATUS 31, 1), (rCH_CUR_LO 31, 0x40000000), (rCH_CUR_LO 31 + 4, 1)] with dma := [(31, { phase := .reread })] })), 0x140000020, (devRead (dmaAgent (withMem 0x140000020 (leBytes 8 0x140000FC0) ({ regsAt [(rSP_OWNER 32, 0x3FFF), (rCH_STATUS 31, 1), (rCH_CUR_LO 31, 0x40000000), (rCH_CUR_LO 31 + 4, 1)] with dma := [(31, { phase := .reread })] })) 31) 0x140000020 8 (withMem 0x140000020 (leBytes 8 0x140000FC0) ({ regsAt [(rSP_OWNER 32, 0x3FFF), (rCH_STATUS 31, 1), (rCH_CUR_LO 31, 0x40000000), (rCH_CUR_LO 31 + 4, 1)] with dma := [(31, { phase := .reread })] }))), by decide +kernel⟩⟩

theorem witness_DmaTransfers :
  (∃ (c : Fin 32) (err : MemErr) (early : BitVec 32) (s : State) (x : Dma) (a n : Nat) (d : List Byte), chState s c = 3 ∧ dmaCh s c = x ∧ x.waiting = false ∧ x.got = none ∧ x.burst = [(a, d)] ∧ burstGenOk s x = true ∧ dTwoD d = false ∧ dCtrl d 1 = false ∧ dCtrl d 2 = false ∧ dCtrl d 3 = false ∧ dCheck d = false ∧ dChain d = false ∧ dCtrl d 11 = false ∧ n = dWidth d ∧ 0 < n ∧ (∀ k, k < n → regionOf (dSrc d + k) = .am ∧ decodes s (dSrc d + k) = true ∧ ownsBank s 11 (dSrc d + k) = true) ∧ (∀ k, k < n → regionOf (dDst d + k) = .am ∧ decodes s (dDst d + k) = true ∧ ownsBank s 11 (dDst d + k) = true) ∧ (dSrc d + n ≤ dDst d ∨ dDst d + n ≤ dSrc d) ∧ chDb s c = false ∧ domOk s 0 = true) ∧
  (∃ (c : Fin 32) (err : MemErr) (s : State) (x : Dma) (a : Nat) (d : List Byte), chState s c = 3 ∧ dmaCh s c = x ∧ x.waiting = false ∧ x.burst = [(a, d)] ∧ burstGenOk s x = false ∧ dCtrl d 11 = false ∧ chDb s c = false) ∧
  (∃ (c : Fin 32) (s : State) (x : Dma), chState s c = 4 ∧ dmaCh s c = x ∧ x.phase = .readback ∧ x.backOk = true ∧ regionOf (lastByte x) ≠ .host ∧ (devRead (dmaAgent s c) (lastByte x / 64 * 64) 64 s).1.err = false ∧ burstGenOk s x = true ∧ x.burst.any (fun b => dCtrl b.2 11) = true) ∧
  (∃ (c : Fin 32) (s : State), chState s c ≠ 4) ∧
  (∃ (c : Fin 32) (s : State) (x : Dma) (a : Nat) (d : List Byte), chState s c = 4 ∧ dmaCh s c = x ∧ x.phase = .statusWb ∧ x.burst = [(a, d)] ∧ dCtrl d 11 = true ∧ burstGenOk s x = true ∧ (putStatus c a (doneBits x 0) s).1 = true ∧ chDb s c = false) :=
 ⟨⟨31, .none, 0, (withMem 0x140000040 [1, 2, 3, 4, 5] ({ regsAt [(rSP_OWNER 32, 0x3FFF), (rCH_STATUS 31, 3)] with dma := [(31, { burst := [(0x140000000, (leBytes 4 0x400 ++ leBytes 4 4 ++ zeros 8 ++ leBytes 8 0x140000040 ++ leBytes 8 0x140000080 ++ leBytes 8 1 ++ zeros 8 ++ leBytes 2 0 ++ zeros 14))] })] })), { burst := [(0x140000000, (leBytes 4 0x400 ++ leBytes 4 4 ++ zeros 8 ++ leBytes 8 0x140000040 ++ leBytes 8 0x140000080 ++ leBytes 8 1 ++ zeros 8 ++ leBytes 2 0 ++ zeros 14))] }, 0x140000000, 4, (leBytes 4 0x400 ++ leBytes 4 4 ++ zeros 8 ++ leBytes 8 0x140000040 ++ leBytes 8 0x140000080 ++ leBytes 8 1 ++ zeros 8 ++ leBytes 2 0 ++ zeros 14), by decide +kernel⟩,
  ⟨31, .none, ({ regsAt [(rSP_OWNER 32, 0x3FFF), (rCH_STATUS 31, 3)] with dma := [(31, { burst := [(0x140000000, (leBytes 4 0 ++ leBytes 4 4 ++ zeros 8 ++ leBytes 8 0x140000040 ++ leBytes 8 0x140000080 ++ leBytes 8 1 ++ [0, 0, 1, 0] ++ zeros 20))] })] }), { burst := [(0x140000000, (leBytes 4 0 ++ leBytes 4 4 ++ zeros 8 ++ leBytes 8 0x140000040 ++ leBytes 8 0x140000080 ++ leBytes 8 1 ++ [0, 0, 1, 0] ++ zeros 20))] }, 0x140000000, (leBytes 4 0 ++ leBytes 4 4 ++ zeros 8 ++ leBytes 8 0x140000040 ++ leBytes 8 0x140000080 ++ leBytes 8 1 ++ [0, 0, 1, 0] ++ zeros 20), by decide +kernel⟩,
  ⟨31, ({ regsAt [(rSP_OWNER 32, 0x3FFF), (rCH_STATUS 31, 4)] with dma := [(31, { phase := .readback, burst := [(0x140000000, (leBytes 4 0xc08 ++ leBytes 4 4 ++ zeros 8 ++ leBytes 8 0x140000040 ++ leBytes 8 0x140000080 ++ leBytes 8 1 ++ zeros 8 ++ leBytes 2 0 ++ zeros 14))], backOk := true })] }), { phase := .readback, burst := [(0x140000000, (leBytes 4 0xc08 ++ leBytes 4 4 ++ zeros 8 ++ leBytes 8 0x140000040 ++ leBytes 8 0x140000080 ++ leBytes 8 1 ++ zeros 8 ++ leBytes 2 0 ++ zeros 14))], backOk := true }, by decide +kernel⟩,
  ⟨31, State.reset, by decide +kernel⟩,
  ⟨31, ({ regsAt [(rSP_OWNER 32, 0x3FFF), (rCH_STATUS 31, 4)] with dma := [(31, { phase := .statusWb, burst := [(0x140000000, (leBytes 4 0xc00 ++ leBytes 4 4 ++ zeros 8 ++ leBytes 8 0x140000040 ++ leBytes 8 0x140000080 ++ leBytes 8 1 ++ zeros 8 ++ leBytes 2 0 ++ zeros 14))] })] }), { phase := .statusWb, burst := [(0x140000000, (leBytes 4 0xc00 ++ leBytes 4 4 ++ zeros 8 ++ leBytes 8 0x140000040 ++ leBytes 8 0x140000080 ++ leBytes 8 1 ++ zeros 8 ++ leBytes 2 0 ++ zeros 14))] }, 0x140000000, (leBytes 4 0xc00 ++ leBytes 4 4 ++ zeros 8 ++ leBytes 8 0x140000040 ++ leBytes 8 0x140000080 ++ leBytes 8 1 ++ zeros 8 ++ leBytes 2 0 ++ zeros 14), by decide +kernel⟩⟩

theorem witness_DmaStopsAndCommands :
  (∃ (c : Fin 32) (write : Bool) (k : BitVec 24) (s : State), chState s c = 3 ∧ (dmaCh s c).waiting = false ∧ burstGenOk s (dmaCh s c) = true) ∧
  (∃ (ifc : Iface) (c : Fin 32) (s : State), gate ifc true (rCH_CMD c) s = .open ∧ chState s c = 6) ∧
  (∃ (ifc : Iface) (c : Fin 32) (s : State), gate ifc true (rCH_CMD c) s = .open ∧ chState s c ≠ 6) ∧
  (∃ (ifc : Iface) (c : Fin 32) (s : State) (a : Nat) (d : List Byte), gate ifc true (rCH_CMD c) s = .open ∧ chState s c = 6 ∧ rdF s (rCH_STATUS c) 7 4 ≠ 1 ∧ (dmaCh s c).burst = [(a, d)] ∧ dCtrl d 11 = false ∧ chDb s c = false) ∧
  (∃ (ifc : Iface) (c : Fin 32) (s : State), gate ifc true (rCH_CMD c) s = .open ∧ chState s c = 6 ∧ rdF s (rCH_STATUS c) 7 4 = 1) ∧
  (∃ (ifc : Iface) (c : Fin 32) (s : State), gate ifc true (rCH_CMD c) s = .open ∧ chState s c ≠ 0) ∧
  (∃ (ifc : Iface) (c : Fin 32) (s : State), gate ifc true (rCH_CMD c) s = .open ∧ chState s c = 0) ∧
  (∃ (c : Fin 32) (s : State), chState s c = 7) ∧
  (∃ (c : Fin 32) (s : State), chState s c ≠ 7) :=
 ⟨⟨31, true, 0xFFFFFF, ({ regsAt [(rSP_OWNER 32, 0x3FFF), (rCH_STATUS 31, 3)] with dma := [(31, { burst := [(0x140000000, (leBytes 4 0x400 ++ leBytes 4 4 ++ zeros 8 ++ leBytes 8 0x140000040 ++ leBytes 8 0x140000080 ++ leBytes 8 1 ++ zeros 8 ++ leBytes 2 0 ++ zeros 14))] })] }), by decide +kernel⟩,
  ⟨.pcie, 31, ({ regsAt [(rSP_OWNER 32, 0x3FFF), (rCH_STATUS 31, 6)] with dma := [(31, { moved := 5 })] }), by decide +kernel⟩,
  ⟨.pcie, 31, ({ regsAt [(rSP_OWNER 32, 0x3FFF), (rCH_STATUS 31, 5)] with dma := [(31, {  })] }), by decide +kernel⟩,
  ⟨.pcie, 31, ({ regsAt [(rSP_OWNER 32, 0x3FFF), (rCH_STATUS 31, 6 + 64)] with dma := [(31, { burst := [(0x140000000, (leBytes 4 0x400 ++ leBytes 4 4 ++ zeros 8 ++ leBytes 8 0x140000040 ++ leBytes 8 0x140000080 ++ leBytes 8 1 ++ zeros 8 ++ leBytes 2 0 ++ zeros 14))] })] }), 0x140000000, (leBytes 4 0x400 ++ leBytes 4 4 ++ zeros 8 ++ leBytes 8 0x140000040 ++ leBytes 8 0x140000080 ++ leBytes 8 1 ++ zeros 8 ++ leBytes 2 0 ++ zeros 14), by decide +kernel⟩,
  ⟨.pcie, 31, ({ regsAt [(rSP_OWNER 32, 0x3FFF), (rCH_STATUS 31, 6 + 16)] with dma := [(31, {  })] }), by decide +kernel⟩,
  ⟨.pcie, 31, ({ regsAt [(rSP_OWNER 32, 0x3FFF), (rCH_STATUS 31, 3)] with dma := [(31, { waiting := true })], pcie := { reads := [{ req := .dma 31, tag := 3, off := 0, len := 4 }, { req := .dma 30, tag := 4, off := 0, len := 4 }] } }), by decide +kernel⟩,
  ⟨.pcie, 31, ({ regsAt [(rSP_OWNER 32, 0x3FFF), (rCH_STATUS 31, 0)] with dma := [(31, {  })] }), by decide +kernel⟩,
  ⟨31, ({ regsAt [(rSP_OWNER 32, 0x3FFF), (rCH_STATUS 31, 7)] with dma := [(31, {  })] }), by decide +kernel⟩,
  ⟨31, ({ regsAt [(rSP_OWNER 32, 0x3FFF), (rCH_STATUS 31, 6)] with dma := [(31, {  })] }), by decide +kernel⟩⟩

theorem witness_DramRequests :
  (∃ (cls : Fin 4) (addr : BitVec 48) (len : Fin 257) (s : State), reqOk addr.toNat len.val = true ∧ decodesAll s addr.toNat len.val = true ∧ mayTake 2048 128 (s.ddr.reads.map (fun r => r.cls)) cls.val = true) ∧
  (∃ (cls : Fin 4) (addr : BitVec 48) (len : Fin 257) (s : State), reqOk addr.toNat len.val = true ∧ decodesAll s addr.toNat len.val = true ∧ mayTake 2048 128 (s.ddr.reads.map (fun r => r.cls)) cls.val = false) ∧
  (∃ (cls : Fin 4) (addr : BitVec 48) (len : Fin 257) (s : State), reqOk addr.toNat len.val = false) ∧
  (∃ (cls : Fin 4) (addr : BitVec 48) (len : Fin 257) (s : State), reqOk addr.toNat len.val = true ∧ decodesAll s addr.toNat len.val = false) ∧
  (∃ (cls : Fin 4) (addr : BitVec 48) (data : List Byte) (head tail : MemErr) (s : State), reqOk addr.toNat data.length = true ∧ decodesAll s addr.toNat data.length = true ∧ mayTake 512 64 (s.ddr.writes.map (fun w => w.cls)) cls.val = true ∧ tget false s.poison (addr.toNat / 8 * 8) = false ∧ tget false s.poison ((addr.toNat + data.length - 1) / 8 * 8) = false ∧ head ≠ .uncorrectable ∧ tail ≠ .uncorrectable) ∧
  (∃ (cls : Fin 4) (addr : BitVec 48) (data : List Byte) (tail : MemErr) (s : State), reqOk addr.toNat data.length = true ∧ decodesAll s addr.toNat data.length = true ∧ mayTake 512 64 (s.ddr.writes.map (fun w => w.cls)) cls.val = true ∧ inlineEcc s = true ∧ blockValid s addr.toNat = true ∧ addr.toNat % 8 ≠ 0) ∧
  (∃ (cls : Fin 4) (addr : BitVec 48) (data : List Byte) (head tail : MemErr) (s : State), reqOk addr.toNat data.length = true ∧ decodesAll s addr.toNat data.length = true ∧ mayTake 512 64 (s.ddr.writes.map (fun w => w.cls)) cls.val = false) ∧
  (∃ (cls : Fin 4) (addr : BitVec 48) (data : List Byte) (head tail : MemErr) (s : State), reqOk addr.toNat data.length = false) ∧
  (∃ (cls : Fin 4) (addr : BitVec 48) (data : List Byte) (head tail : MemErr) (s : State), reqOk addr.toNat data.length = true ∧ decodesAll s addr.toNat data.length = false) ∧
  (∃ (k : Fin 2048) (link : List (Fin 4 × MemErr)) (ecc : List (Fin 32 × MemErr)) (waited : BitVec 32) (s : State) (x : DdrReq), s.ddr.reads[k.val]? = some x ∧ ddrState s = 2 ∧ s.ddr.readWait = []) ∧
  (∃ (k : Fin 2048) (link : List (Fin 4 × MemErr)) (ecc : List (Fin 32 × MemErr)) (waited : BitVec 32) (s : State), (s.ddr.reads[k.val]? = none ∨ ddrState s ≠ 2)) ∧
  (∃ (k : Fin 512) (corrected : Bool) (waited : BitVec 32) (s : State), k.val < s.ddr.writes.length ∧ ddrState s = 2 ∧ s.ddr.writeWait = []) ∧
  (∃ (k : Fin 512) (corrected : Bool) (waited : BitVec 32) (s : State), (s.ddr.writes.length ≤ k.val ∨ ddrState s ≠ 2)) :=
 ⟨⟨3, 0x10000FFF00, 256, ({ regsAt [(rDDR_USABLE, 1), (rDDR_STATUS, 2)] with free := 0 }), by decide +kernel⟩,
  ⟨3, 0x1000000000, 1, ({ regsAt [(rDDR_USABLE, 1), (rDDR_STATUS, 2)] with free := 0, ddr := { reads := List.replicate 1920 { cls := 1, addr := 0x1000000000, len := 1 } } }), by decide +kernel⟩,
  ⟨3, 0x10000000FF, 2, State.reset, by decide +kernel⟩,
  ⟨3, 0x1000100000, 1, ({ regsAt [(rDDR_USABLE, 1), (rDDR_STATUS, 2)] with free := 0 }), by decide +kernel⟩,
  ⟨3, 0x10000FFFFE, [1, 2], .none, .corrected, ({ regsAt [(rDDR_USABLE, 1), (rDDR_STATUS, 2)] with free := 0 }), by decide +kernel⟩,
  ⟨3, 0x1000000001, [1, 2], .none, ({ regsAt [(rDDR_USABLE, 1), (rDDR_STATUS, 2), (rDDR_CFG, 0x90000)] with ddrValid := [(0, true)] }), by decide +kernel⟩,
  ⟨3, 0x10000FFFFE, [1, 2], .none, .none, ({ regsAt [(rDDR_USABLE, 1), (rDDR_STATUS, 2)] with free := 0, ddr := { writes := List.replicate 448 { cls := 1, addr := 0x1000000000, len := 1 } } }), by decide +kernel⟩,
  ⟨3, 0x10000000FF, [1, 2], .none, .none, ({ regsAt [(rDDR_USABLE, 1), (rDDR_STATUS, 2)] with free := 0 }), by decide +kernel⟩,
  ⟨3, 0x1000100000, [1], .none, .none, ({ regsAt [(rDDR_USABLE, 1), (rDDR_STATUS, 2)] with free := 0 }), by decide +kernel⟩,
  ⟨1, [(3, .corrected)], [(31, .uncorrectable)], 9, ({ regsAt [(rDDR_USABLE, 1), (rDDR_STATUS, 2)] with free := 0, ddr := { reads := [{ cls := 1, addr := 0x1000000000, len := 1 }, { cls := 0, addr := 0x1000000000, len := 5, data := [1, 2, 3, 4, 5] }] } }), { cls := 0, addr := 0x1000000000, len := 5, data := [1, 2, 3, 4, 5] }, by decide +kernel⟩,
  ⟨1, [], [], 9, ({ regsAt [(rDDR_USABLE, 1), (rDDR_STATUS, 2)] with free := 0, ddr := { reads := [{ cls := 1, addr := 0x1000000000, len := 1 }] } }), by decide +kernel⟩,
  ⟨1, true, 9, ({ regsAt [(rDDR_USABLE, 1), (rDDR_STATUS, 2)] with free := 0, ddr := { writes := [{ cls := 0, addr := 0x1000000000, len := 1 }, { cls := 1, addr := 0x1000000000, len := 1 }] } }), by decide +kernel⟩,
  ⟨2, true, 9, ({ regsAt [(rDDR_USABLE, 1), (rDDR_STATUS, 2)] with free := 0, ddr := { writes := [{ cls := 0, addr := 0x1000000000, len := 1 }, { cls := 1, addr := 0x1000000000, len := 1 }] } }), by decide +kernel⟩⟩

theorem witness_DramUpkeep :
  (∃ (s : State) (b : Nat), ddrState s = 2 ∧ inlineEcc s = true ∧ ddrWaits s = false ∧ nextBlock s = some b) ∧
  (∃ (s : State), (ddrState s ≠ 2 ∨ inlineEcc s = false ∨ ddrWaits s = true ∨ nextBlock s = none)) ∧
  (∃ (err : List (Fin 8 × MemErr)) (s : State), (ddrState s ≠ 2 ∨ inlineEcc s = false ∨ rdB s rDDR_CFG 19 = false ∨ ddrWaits s = true)) ∧
  (∃ (err : List (Fin 8 × MemErr)) (s : State), ddrState s = 2 ∧ inlineEcc s = true ∧ rdB s rDDR_CFG 19 = true ∧ ddrBlocks s ≠ 0 ∧ ddrWaits s = false) ∧
  (∃ (r0 r1 r2 r3 r4 r5 : RefreshRate) (f : BitVec 8) (s : State), ddrState s = 2) ∧
  (∃ (s : State), ddrState s = 2 ∧ s.ddr.deferred = false) ∧
  (∃ (s : State), ddrState s = 2 ∧ (s.ddr.lastFull = 0 ∨ s.ddr.lastFull + 100 * aonMs ≤ s.clock.aon + 1)) ∧
  (∃ (s : State), ddrState s = 2 ∧ s.ddr.lastFull ≠ 0 ∧ s.clock.aon + 1 < s.ddr.lastFull + 100 * aonMs) ∧
  (∃ (s : State), ddrState s = 2 ∧ s.ddr.deferred = true) ∧
  (∃ (s : State), (ddrState s ≠ 2 ∨ s.ddr.deferred = false)) ∧
  (∃ (s : State), ddrState s = 5) ∧
  (∃ (s : State), ddrState s ≠ 5) ∧
  (∃ (ch : Fin 24) (s : State), ddrState s = 2 ∧ s.power.state ≠ .deep ∧ (s.ddr.reads ++ s.ddr.readWait ++ s.ddr.writes ++ s.ddr.writeWait).any (fun x => decide ((x.addr - dramBase) / 256 % 24 = ch.val)) = false) :=
 ⟨⟨({ regsAt [(rDDR_USABLE, 1), (rDDR_STATUS, 2), (rDDR_CFG, 0x90000)] with free := 0 }), 0, by decide +kernel⟩,
  ⟨({ regsAt [(rDDR_USABLE, 1), (rDDR_STATUS, 2)] with free := 0 }), by decide +kernel⟩,
  ⟨[(7, .corrected)], State.reset, by decide +kernel⟩,
  ⟨[(7, .corrected)], ({ regsAt [(rDDR_USABLE, 1), (rDDR_STATUS, 2), (rDDR_CFG, 0x90000)] with free := 0, ddr := { patrol := 16383 } }), by decide +kernel⟩,
  ⟨.x1, .x1, .x1, .x1, .x1, .x4, 3, ({ regsAt [(rDDR_USABLE, 1), (rDDR_STATUS, 2)] with free := 0 }), by decide +kernel⟩,
  ⟨({ regsAt [(rDDR_USABLE, 1), (rDDR_STATUS, 2)] with free := 0, ddr := { turn := 23 } }), by decide +kernel⟩,
  ⟨({ regsAt [(rDDR_USABLE, 1), (rDDR_STATUS, 2)] with free := 0, ddr := { deferred := true, lastFull := 1 }, clock := { aon := 100 * aonMs } }), by decide +kernel⟩,
  ⟨({ regsAt [(rDDR_USABLE, 1), (rDDR_STATUS, 2)] with free := 0, ddr := { lastFull := 1 }, clock := { aon := 100 * aonMs - 1 } }), by decide +kernel⟩,
  ⟨({ regsAt [(rDDR_USABLE, 1), (rDDR_STATUS, 2)] with free := 0, ddr := { deferred := true } }), by decide +kernel⟩,
  ⟨({ regsAt [(rDDR_USABLE, 1), (rDDR_STATUS, 2)] with free := 0 }), by decide +kernel⟩,
  ⟨({ regsAt [(rDDR_USABLE, 1), (rDDR_STATUS, 2), (rDDR_STATUS, 5)] with free := 0 }), by decide +kernel⟩,
  ⟨({ regsAt [(rDDR_USABLE, 1), (rDDR_STATUS, 2)] with free := 0 }), by decide +kernel⟩,
  ⟨23, ({ regsAt [(rDDR_USABLE, 1), (rDDR_STATUS, 2)] with free := 0, ddr := { writeWait := [{ cls := 1, addr := 0x1000000000, len := 1 }] } }), by decide +kernel⟩⟩

theorem witness_BandwidthRegulator :
  (∃ (s : State), rdF s rREGUL_STATUS 3 0 = 0) ∧
  (∃ (s : State), rdF s rREGUL_STATUS 3 0 ≠ 0) :=
 ⟨⟨({ regsAt [(rDDR_USABLE, 1), (rDDR_STATUS, 2), (rREGUL_STATUS, 16)] with free := 0 }), by decide +kernel⟩,
  ⟨({ regsAt [(rDDR_USABLE, 1), (rDDR_STATUS, 2), (rREGUL_STATUS, 17)] with free := 0 }), by decide +kernel⟩⟩

theorem witness_PcieLinkAndReads :
  (∃ (speed : Fin 5) (width : Fin 4) (s : State), domOk s 6 = true ∧ s.pcie.enabled = true ∧ rdB s rPCIE_LINK 0 = false) ∧
  (∃ (speed : Fin 5) (width : Fin 4) (s : State), (domOk s 6 = false ∨ s.pcie.enabled = false ∨ rdB s rPCIE_LINK 0 = true)) ∧
  (∃ (s : State), domOk s 6 = true) ∧
  (∃ (s : State), domOk s 6 = false) ∧
  (∃ (q : CfgReq) (s : State), domOk s 6 = true ∧ rdB s rPCIE_LINK 0 = true) ∧
  (∃ (q : CfgReq) (s : State), (domOk s 6 = false ∨ rdB s rPCIE_LINK 0 = false)) ∧
  (∃ (b2 : Bool) (s : State), domOk s 6 = true ∧ rdB s rPCIE_LINK 0 = true) ∧
  (∃ (s : State), domOk s 6 = true ∧ rdB s rPCIE_LINK 0 = true) ∧
  (∃ (b2 : Bool) (v : BitVec 64) (s : State), domOk s 6 = true ∧ rdB s rPCIE_LINK 0 = true) ∧
  (∃ (m : Fin 3) (r : Fin 6) (s : State), domOk s 6 = true ∧ rdB s rPCIE_LINK 0 = true) ∧
  (∃ (m b : Bool) (s : State), domOk s 6 = true ∧ rdB s rPCIE_LINK 0 = true) ∧
  (∃ (tag : Fin 1024) (ok ep : Bool) (data : List Byte) (s : State), readOf s tag = none) ∧
  (∃ (tag : Fin 1024) (ok ep : Bool) (data : List Byte) (s : State) (r : PcieRead), readOf s tag = some r) ∧
  (∃ (tag : Fin 1024) (ep : Bool) (data : List Byte) (s : State) (r : PcieRead) (p : Nat × Nat) (q : List (Nat × Nat)), readOf s tag = some r ∧ r.rest = p :: q ∧ hostUp s = true) ∧
  (∃ (tag : Fin 1024) (ep : Bool) (data : List Byte) (s : State) (r : PcieRead), readOf s tag = some r ∧ r.rest = [] ∧ (s.pcie.wait = [] ∨ hostUp s = true) ∧ (∀ q ∈ s.pcie.wait, q.tag ≠ tag.val)) ∧
  (∃ (tag : Fin 1024) (ep : Bool) (data : List Byte) (s : State) (r : PcieRead), readOf s tag = some r ∧ (s.pcie.wait = [] ∨ hostUp s = true) ∧ (∀ q ∈ s.pcie.wait, q.tag ≠ tag.val)) ∧
  (∃ (tag : Fin 1024) (ep : Bool) (data : List Byte) (s : State) (r : PcieRead) (n : Fin 18), readOf s tag = some r ∧ r.req = .lantern n ∧ r.rest ≠ [] ∧ hostUp s = false ∧ s.pcie.wait = []) :=
 ⟨⟨4, 3, (State.reset), by decide +kernel⟩,
  ⟨4, 3, ({ regsAt [(rPCIE_LINK, 1)] with pcie := { } }), by decide +kernel⟩,
  ⟨({ regsAt [(rPCIE_LINK, 1)] with pcie := { memEn := true, bar2 := 2 ^ 34, reads := [{ req := .lantern 17, tag := 255, off := 0, len := 4 }] } }), by decide +kernel⟩,
  ⟨(regsAt [(rFLT_DOM 6, 1)]), by decide +kernel⟩,
  ⟨.readSerial, regsAt [(rPCIE_LINK, 1)], by decide +kernel⟩,
  ⟨.readSerial, (State.reset), by decide +kernel⟩,
  ⟨true, regsAt [(rPCIE_LINK, 1)], by decide +kernel⟩,
  ⟨({ regsAt [(rPCIE_LINK, 1)] with pcie := { }, fuses := { serial := 2 ^ 32 + 5 } }), by decide +kernel⟩,
  ⟨true, 0xFFFFFFFFFFFFFFFF, regsAt [(rPCIE_LINK, 1)], by decide +kernel⟩,
  ⟨2, 5, regsAt [(rPCIE_LINK, 1)], by decide +kernel⟩,
  ⟨true, true, ({ regsAt [(rPCIE_LINK, 1)] with pcie := { } }), by decide +kernel⟩,
  ⟨255, true, false, [], regsAt [(rPCIE_LINK, 1)], by decide +kernel⟩,
  ⟨255, true, true, [1, 2, 3, 4], { regsAt [(rPCIE_LINK, 1)] with pcie := { reads := [{ req := .lantern 17, tag := 255, off := 0, len := 4 }] } }, { req := .lantern 17, tag := 255, off := 0, len := 4 }, by decide +kernel⟩,
  ⟨255, false, [1, 2, 3, 4], { regsAt [(rPCIE_LINK, 1)] with pcie := { busMaster := true, reads := [{ req := .dma 31, tag := 255, off := 4, len := 4, rest := [(8, 4)] }] } }, { req := .dma 31, tag := 255, off := 4, len := 4, rest := [(8, 4)] }, (8, 4), [], by decide +kernel⟩,
  ⟨255, true, [1, 2, 3, 4], { regsAt [(rPCIE_LINK, 1)] with pcie := { reads := [{ req := .lantern 17, tag := 255, off := 0, len := 4 }] } }, { req := .lantern 17, tag := 255, off := 0, len := 4 }, by decide +kernel⟩,
  ⟨255, true, [1, 2, 3, 4], { regsAt [(rPCIE_LINK, 1)] with pcie := { reads := [{ req := .dma 31, tag := 255, off := 4, len := 4, rest := [(8, 4)] }] } }, { req := .dma 31, tag := 255, off := 4, len := 4, rest := [(8, 4)] }, by decide +kernel⟩,
  ⟨255, true, [1, 2, 3, 4], { regsAt [(rPCIE_LINK, 1)] with pcie := { reads := [{ req := .lantern 17, tag := 255, off := 4092, len := 4, rest := [(4096, 4)] }] } }, { req := .lantern 17, tag := 255, off := 4092, len := 4, rest := [(4096, 4)] }, 17, by decide +kernel⟩⟩

theorem witness_PcieInbound :
  (∃ (off : BitVec 34) (len : Fin 4097) (s : State), pcieHears s = true ∧ pcieClaims s = true ∧ off.toNat + len.val ≤ 2 ^ 28) ∧
  (∃ (off : BitVec 34) (len : Fin 4097) (s : State), pcieHears s = true ∧ pcieClaims s = true ∧ off.toNat + len.val ≤ 2 ^ 34 ∧ bar2Barred (bar2Addr s off.toNat) len = false ∧ (devRead pcieAgent (bar2Addr s off.toNat) len s).1.err = false) ∧
  (∃ (off : BitVec 34) (data : List Byte) (s : State), pcieHears s = true ∧ pcieClaims s = true ∧ off.toNat + data.length ≤ 2 ^ 34 ∧ data ≠ [] ∧ regionOf (bar2Addr s off.toNat) = .dram ∧ decodesAll s (bar2Addr s off.toNat) data.length = true ∧ domOk s 0 = true ∧ poisonedIn s (bar2Addr s off.toNat) data.length = false) ∧
  (∃ (off : BitVec 34) (data : List Byte) (s : State), pcieHears s = true ∧ pcieClaims s = true ∧ off.toNat + data.length ≤ 2 ^ 28) ∧
  (∃ (bar2 : Bool) (off : BitVec 34) (len : Fin 4097) (s : State), pcieHears s = true ∧ pcieClaims s = false) ∧
  (∃ (bar2 ep : Bool) (off : BitVec 34) (data : List Byte) (s : State), pcieHears s = true ∧ pcieClaims s = false) ∧
  (∃ (bar2 ep : Bool) (off : BitVec 34) (len : Fin 4097) (data : List Byte) (s : State), pcieHears s = false) :=
 ⟨⟨0xFFFFFFC, 4, ({ regsAt [(rPCIE_LINK, 1)] with pcie := { memEn := true } }), by decide +kernel⟩,
  ⟨0x3FFFFFFFC, 4, ({ regsAt [(rPCIE_LINK, 1), (rPCIE_BAR2_BASE, 64), (rDDR_USABLE, 0x8000)] with pcie := { memEn := true } }), by decide +kernel⟩,
  ⟨0x3FFFFFFFE, [7, 8], ({ regsAt [(rPCIE_LINK, 1), (rPCIE_BAR2_BASE, 64), (rDDR_USABLE, 0x8000)] with pcie := { memEn := true } }), by decide +kernel⟩,
  ⟨0, [1, 2, 3, 4], ({ regsAt [(rPCIE_LINK, 1)] with pcie := { memEn := true } }), by decide +kernel⟩,
  ⟨true, 0, 4, ({ regsAt [(rPCIE_LINK, 1)] with pcie := {  } }), by decide +kernel⟩,
  ⟨false, true, 0, [1, 2, 3, 4], ({ regsAt [(rPCIE_LINK, 1)] with pcie := {  } }), by decide +kernel⟩,
  ⟨true, false, 0, 4, [], (State.reset), by decide +kernel⟩⟩

theorem witness_DoorbellsAndMessages :
  (∃ (ifc : Iface) (v : Word) (s : State), gate ifc true rPCIE_BAR2_BASE s = .open) ∧
  (∃ (ifc : Iface) (v : Word) (s : State), gate ifc true rPCIE_HDB s = .open ∧ v ≠ 0) ∧
  (∃ (ifc : Iface) (s : State), gate ifc true rPCIE_HDB s = .open) ∧
  (∃ (ifc : Iface) (v : Word) (s : State), gate ifc true rPCIE_MSIX_RAISE s = .open ∧ s.pcie.msixEn = false) ∧
  (∃ (ifc : Iface) (k : Nat) (s : State), 1 ≤ k ∧ k < 32 ∧ gate ifc true rPCIE_MSIX_RAISE s = .open ∧ msixOpen s k = true) :=
 ⟨⟨.pcie, 0xFFFFFFFF, (State.reset), by decide +kernel⟩,
  ⟨.pcie, 0x80000001, (regsAt [(rPCIE_HDB_CFG, 0x31), (rDEV_CAP1, 0x3FFFF), (rPCIE_HDB_PEND, 2)]), by decide +kernel⟩,
  ⟨.pcie, (State.reset), by decide +kernel⟩,
  ⟨.pcie, 0xFFFFFFFF, (State.reset), by decide +kernel⟩,
  ⟨.pcie, 31, ({ regsAt [(rPCIE_LINK, 1), (rMSIX_CTRL 31, 0), (rMSIX_MSG 31 0, 0xFEE00000), (rMSIX_MSG 31 2, 77)] with pcie := { busMaster := true, msixEn := true } }), by decide +kernel⟩⟩

theorem witness_LinksAndFrames :
  (∃ (k : Fin 9) (s : State), domOk s 5 = true ∧ rdB s (ifPage k) 0 = true) ∧
  (∃ (k : Fin 9) (s : State), (domOk s 5 = false ∨ rdB s (ifPage k) 0 = false)) ∧
  (∃ (k : Fin 9) (fec : Fin 3) (s : State), domOk s 5 = true ∧ ifExists s k = true ∧ rdB s (ifPage k + 4) 0 = true ∧ rdB s (ifPage k) 0 = false) ∧
  (∃ (k : Fin 9) (fec : Fin 3) (s : State), (domOk s 5 = false ∨ ifExists s k = false ∨ rdB s (ifPage k + 4) 0 = false ∨ rdB s (ifPage k) 0 = true)) ∧
  (∃ (k : Fin 9) (ok : Bool) (b : List Byte) (err : Fin 17) (s : State), ifUp s k = false) ∧
  (∃ (k : Fin 9) (ok : Bool) (b : List Byte) (err : Fin 17) (s : State), ifUp s k = true ∧ 9216 < b.length + 4) ∧
  (∃ (k : Fin 9) (b : List Byte) (err : Fin 17) (s : State), ifUp s k = true ∧ b.length + 4 ≤ 9216) ∧
  (∃ (k : Fin 9) (b : List Byte) (err : Fin 17) (s : State), ifUp s k = true ∧ b.length + 4 ≤ 9216 ∧ (frameParse b).type = 0x8808 ∧ rdB s (ifPage k + 4) 1 = true) ∧
  (∃ (k : Fin 9) (b : List Byte) (err : Fin 17) (s : State), ifUp s k = true ∧ b.length + 4 ≤ 9216 ∧ ((frameParse b).type ≠ 0x8808 ∨ rdB s (ifPage k + 4) 1 = false) ∧ (b.length + 4 < 64 ∨ ((frameParse b).dst ≠ ifMac s k ∧ (frameParse b).dst ≠ 0xFFFFFFFFFFFF ∧ ptpMacs.contains (frameParse b).dst = false) ∨ (nbit (ifVlan s k) 15 = true ∧ (frameParse b).vid ≠ some (ifVlan s k % 4096)) ∨ (nbit (ifVlan s k) 15 = false ∧ (frameParse b).vid ≠ none))) ∧
  (∃ (k : Fin 9) (b : List Byte) (err : Fin 17) (s : State), ifUp s k = true ∧ b.length + 4 ≤ 9216 ∧ 64 ≤ b.length + 4 ∧ ((frameParse b).type ≠ 0x8808 ∨ rdB s (ifPage k + 4) 1 = false) ∧ (frameParse b).type ≠ 0x88F7 ∧ udpParse (frameParse b) b = none ∧ ((frameParse b).dst = ifMac s k ∨ (frameParse b).dst = 0xFFFFFFFFFFFF ∨ ptpMacs.contains (frameParse b).dst = true) ∧ (frameParse b).vid = (if nbit (ifVlan s k) 15 then some (ifVlan s k % 4096) else none) ∧ ringRoom s) :=
 ⟨⟨8, ((netState 0 0 [] {})), by decide +kernel⟩,
  ⟨8, (State.reset), by decide +kernel⟩,
  ⟨8, 2, ((netState 0 0 [(ifPage 8, 0)] {})), by decide +kernel⟩,
  ⟨1, 0, ((netState 0 0 [(ifPage 1 + 4, 1)] {})), by decide +kernel⟩,
  ⟨8, true, [], 0, (State.reset), by decide +kernel⟩,
  ⟨8, true, (zeros 9213), 0, ((netState 0 0 [] {})), by decide +kernel⟩,
  ⟨8, (zeros 9212), 0, ((netState 0 0 [] {})), by decide +kernel⟩,
  ⟨8, ([1, 0x80, 0xC2, 0, 0, 1] ++ zeros 6 ++ [0x88, 0x08] ++ zeros 50), 0, ((netState 0 0 [(ifPage 8 + 4, 3)] {})), by decide +kernel⟩,
  ⟨8, ([2, 0, 0, 0, 0, 9] ++ zeros 60), 0, ((netState 0 0 [] {})), by decide +kernel⟩,
  ⟨8, ([2, 0, 0, 0, 0, 8] ++ zeros 6 ++ [0x12, 0x34] ++ zeros 60), 16, ((netState 0 0 [] {})), by unfold ringRoom; decide +kernel⟩⟩

theorem witness_PtpTime :
  (∃ (t1 corr : BitVec 64) (err : Fin 17) (s : State), ifUp s (ptpIf s) = true) ∧
  (∃ (t1 corr : BitVec 64) (err : Fin 17) (s : State), ifUp s (ptpIf s) = false) ∧
  (∃ (port : BitVec 80) (q : BitVec 16) (corr : BitVec 64) (err : Fin 17) (s : State), ifUp s (ptpIf s) = true ∧ ptpMaster s = true ∧ ptpP2p s = false) ∧
  (∃ (port : BitVec 80) (q : BitVec 16) (corr : BitVec 64) (err : Fin 17) (s : State), (ifUp s (ptpIf s) = false ∨ ptpMaster s = false ∨ ptpP2p s = true)) ∧
  (∃ (port : BitVec 80) (q : BitVec 16) (corr : BitVec 64) (err : Fin 17) (s : State), ifUp s (ptpIf s) = true ∧ ptpP2p s = true) ∧
  (∃ (q : BitVec 16) (t4 corr : BitVec 64) (err : Fin 17) (s : State) (t3 : Int), ifUp s (ptpIf s) = true ∧ ptpP2p s = false ∧ s.net.ptp.req = some (q.toNat, t3)) ∧
  (∃ (q : BitVec 16) (t2 t3 corr : BitVec 64) (err : Fin 17) (s : State) (t1 : Int), ifUp s (ptpIf s) = true ∧ ptpP2p s = true ∧ s.net.ptp.req = some (q.toNat, t1)) ∧
  (∃ (q : BitVec 16) (a b c : BitVec 64) (err : Fin 17) (s : State), s.net.ptp.req = none) ∧
  (∃ (err : Fin 17) (s : State), ptpMaster s = true ∧ ifUp s (ptpIf s) = true) ∧
  (∃ (err : Fin 17) (s : State), (ptpMaster s = false ∨ ifUp s (ptpIf s) = false)) ∧
  (∃ (s : State), domOk s 5 = true) ∧
  (∃ (s : State), domOk s 5 = false) ∧
  (∃ (ifc : Iface) (hi : Word) (s : State), gate ifc true rPTP_STEP_HI s = .open) ∧
  (∃ (s : State), domOk s 5 = true) ∧
  (∃ (s : State), domOk s 5 = false) :=
 ⟨⟨999908, 0xFFFFFFFFFFFFFFFF, 0, ({ (netState 0 0 [(rPTP_THR, 0x1F40064), (rPTP_STATUS, 1)] { ptp := { good := 3 } }) with clock := { dtime := 1000000 } }), by decide +kernel⟩,
  ⟨0, 0, 0, (State.reset), by decide +kernel⟩,
  ⟨5, 6, 7, 8, ({ (netState 0 16 [(rPTP_THR, 0x1F40064), (rPTP_CFG, 1)] {}) with clock := { dtime := 1000000 } }), by decide +kernel⟩,
  ⟨5, 6, 7, 8, ({ (netState 0 20 [(rPTP_THR, 0x1F40064), (rPTP_CFG, 1)] {}) with clock := { dtime := 1000000 } }), by decide +kernel⟩,
  ⟨5, 6, 7, 8, ({ (netState 0 4 [(rPTP_THR, 0x1F40064)] {}) with clock := { dtime := 1000000 } }), by decide +kernel⟩,
  ⟨5, 0x100, 0, 8, ({ (netState 0 0 [(rPTP_THR, 0x1F40064)] { ptp := { req := some (5, 0), t2 := 2 } }) with clock := { dtime := 1000000 } }), 0, by decide +kernel⟩,
  ⟨5, 10, 18, 0, 8, ({ (netState 0 4 [(rPTP_THR, 0x1F40064)] { ptp := { req := some (5, 999990) } }) with clock := { dtime := 1000000 } }), 999990, by decide +kernel⟩,
  ⟨0xFFFF, 1, 2, 3, 4, ({ (netState 0 4 [(rPTP_THR, 0x1F40064)] {}) with clock := { dtime := 1000000 } }), by decide +kernel⟩,
  ⟨0, ({ (netState 0 16 [(rPTP_THR, 0x1F40064), (rPTP_CFG, 1)] {}) with clock := { dtime := 1000000 } }), by decide +kernel⟩,
  ⟨0, ({ (netState 0 16 [(rPTP_THR, 0x1F40064)] {}) with clock := { dtime := 1000000 } }), by decide +kernel⟩,
  ⟨({ (netState 0 0 [(rPTP_THR, 0x1F40064), (rPTP_STATUS, 3)] {}) with clock := { dtime := 1000000 } }), by decide +kernel⟩,
  ⟨(regsAt [(rFLT_DOM 5, 1)]), by decide +kernel⟩,
  ⟨.pcie, 0xFFFFFFFF, (setLatch .pcie rPTP_STEP_LO 0xFFFFFFFF State.reset), by decide +kernel⟩,
  ⟨({ (netState 0 0 [(rPTP_THR, 0x1F40064), (rPTP_PAIR_SEQ, 0xFFFFFFFF)] {}) with clock := { dtime := 1000000 } }), by decide +kernel⟩,
  ⟨(regsAt [(rFLT_DOM 5, 1)]), by decide +kernel⟩⟩

theorem witness_CtpArrival :
  (∃ (b : Bool) (x : Nat × (CtpIn → Instr)) (m : CtpIn) (s : State), x ∈ ctpCommands b ∧ ifUp s m.ifc = false) ∧
  (∃ (b : Bool) (x : Nat × (CtpIn → Instr)) (m : CtpIn) (s : State), x ∈ ctpCommands b ∧ ifUp s m.ifc = true ∧ payloadOk (ctpMsgOf m x.1) = false) ∧
  (∃ (b : Bool) (x : Nat × (CtpIn → Instr)) (m : CtpIn) (s : State), x ∈ ctpCommands b ∧ ifUp s m.ifc = true ∧ payloadOk (ctpMsgOf m x.1) = true ∧ msgGrouped (ctpMsgOf m x.1) = true ∧ x.1 ≠ 12 ∧ x.1 ≠ 13 ∧ msgMember s (ctpPeerOf m) (ctpMsgOf m x.1) = none) ∧
  (∃ (x : Nat × (CtpIn → Instr)) (m : CtpIn) (s : State) (k : Nat) (a : Assoc) (r : RxState) (y : Nat × CtpMsg), x ∈ ctpCommands false ∧ ctpReliable (ctpMsgOf m x.1) = true ∧ ctpMet m x.1 k a s ∧ a.rx = some r ∧ r.serial = m.serial.toNat ∧ 2 ^ 32 - 64 ≤ (m.seq.toNat + 2 ^ 32 - r.next) % 2 ^ 32 ∧ m.seq.toNat ∉ r.skipped ∧ r.answers.find? (fun y => decide (y.1 = m.seq.toNat)) = some y) ∧
  (∃ (x : Nat × (CtpIn → Instr)) (m : CtpIn) (s : State) (k : Nat) (a : Assoc) (r : RxState), x ∈ ctpCommands false ∧ ctpReliable (ctpMsgOf m x.1) = true ∧ ctpMet m x.1 k a s ∧ a.rx = some r ∧ r.serial = m.serial.toNat ∧ 1 ≤ (m.seq.toNat + 2 ^ 32 - r.next) % 2 ^ 32 ∧ (m.seq.toNat + 2 ^ 32 - r.next) % 2 ^ 32 ≤ 63 ∧ r.held.any (fun h => decide (h.msg.seq = m.seq.toNat)) = false) ∧
  (∃ (x : Nat × (CtpIn → Instr)) (m : CtpIn) (s : State) (k : Nat) (a : Assoc) (r : RxState), x ∈ ctpCommands false ∧ ctpReliable (ctpMsgOf m x.1) = true ∧ ctpMet m x.1 k a s ∧ a.rx = some r ∧ r.serial = m.serial.toNat ∧ 64 ≤ (m.seq.toNat + 2 ^ 32 - r.next) % 2 ^ 32 ∧ (m.seq.toNat + 2 ^ 32 - r.next) % 2 ^ 32 < 2 ^ 32 - 64) :=
 ⟨⟨true, (15, .leave), (ctpIn 0 9 1 0 [0]), (State.reset), ⟨by simp [ctpCommands], by decide +kernel⟩⟩,
  ⟨true, (1, .beacon), { (ctpIn 0 9 1 0 []) with block := [1] }, ((netState 0 0 [] (mateNet 0 (mateAssoc 0)))), ⟨by simp [ctpCommands], by decide +kernel⟩⟩,
  ⟨true, (15, .leave), { grouped (ctpIn 0 9 1 0 [0]) with epoch := 7 }, ((netState 0 0 [(rGRP_STATUS, 0x203)] (mateNet 0 (mateAssoc 0)))), ⟨by simp [ctpCommands], by decide +kernel⟩⟩,
  ⟨(5, .regWrite), (ctpIn 0 4294967230 1 1 (zeros 8)), ((netState 0 0 [] (mateNet 0 { mateAssoc 0 with rx := some { next := 2 ^ 32 - 2, serial := 77, answers := [(2 ^ 32 - 66, { type := 2, seq := 8 })] } }))), 63, { mateAssoc 0 with rx := some { next := 2 ^ 32 - 2, serial := 77, answers := [(2 ^ 32 - 66, { type := 2, seq := 8 })] } }, { next := 2 ^ 32 - 2, serial := 77, answers := [(2 ^ 32 - 66, { type := 2, seq := 8 })] }, (2 ^ 32 - 66, { type := 2, seq := 8 }), ⟨by simp [ctpCommands], by unfold ctpMet; decide +kernel⟩⟩,
  ⟨(11, .msg), (ctpIn 0 72 1 0 []), ((netState 0 0 [] (mateNet 0 (mateAssoc 0)))), 63, (mateAssoc 0), { next := 9, serial := 77 }, ⟨by simp [ctpCommands], by unfold ctpMet; decide +kernel⟩⟩,
  ⟨(11, .msg), (ctpIn 0 4294967240 1 0 []), ((netState 0 0 [] (mateNet 0 (mateAssoc 0)))), 63, (mateAssoc 0), { next := 9, serial := 77 }, ⟨by simp [ctpCommands], by unfold ctpMet; decide +kernel⟩⟩⟩

theorem witness_BeaconsAndAnswers :
  (∃ (m : CtpIn) (s : State) (k j : Nat) (a : Assoc), ctpMet m 1 k a s ∧ peerMember s (ctpPeerOf m) = some j ∧ m.member.toNat % 8 = j) ∧
  (∃ (m : CtpIn) (s : State) (k : Nat) (a : Assoc), ctpMet m 1 k a s ∧ peerMember s (ctpPeerOf m) = none) ∧
  (∃ (m : CtpIn) (s : State) (k : Nat) (a : Assoc) (x : TxMsg), ctpMet m 2 k a s ∧ findTx s k m.seq.toNat = some x ∧ a.backlog = []) ∧
  (∃ (m : CtpIn) (s : State) (k : Nat) (a : Assoc), ctpMet m 2 k a s ∧ findTx s k m.seq.toNat = none) ∧
  (∃ (m : CtpIn) (b : Bool) (s : State) (k n : Nat) (a : Assoc) (x : TxMsg), ctpMet m 9 k a s ∧ findTx s k m.seq.toNat = some x ∧ a.backlog = [] ∧ x.desc = some n ∧ leAt 0 1 m.payload ≠ 4 ∧ leAt 0 1 m.payload < 16) ∧
  (∃ (m : CtpIn) (s : State) (k n : Nat) (a : Assoc) (x : TxMsg), ctpMet m 9 k a s ∧ findTx s k m.seq.toNat = some x ∧ a.backlog = [] ∧ x.desc = some n ∧ leAt 0 1 m.payload = 4) ∧
  (∃ (m : CtpIn) (s : State) (k n : Nat) (a : Assoc) (x : TxMsg) (d : TxDesc), ctpMet m 9 k a s ∧ findTx s k m.seq.toNat = some x ∧ a.backlog = [] ∧ a.unacked.length ≤ 64 ∧ x.desc = some n ∧ leAt 0 1 m.payload = 4 ∧ findDesc s n = some d ∧ descStale s d = false) ∧
  (∃ (m : CtpIn) (s : State) (k : Nat) (a : Assoc) (x : TxMsg), ctpMet m 13 k a s ∧ findTx s k m.seq.toNat = some x ∧ a.backlog = [] ∧ ownMember s ≠ 0 ∧ 1 < groupSize s ∧ leAt 0 1 m.payload = 0) ∧
  (∃ (m : CtpIn) (s : State) (k : Nat) (a : Assoc) (x : TxMsg), ctpMet m 13 k a s ∧ findTx s k m.seq.toNat = some x ∧ a.backlog = [] ∧ ownMember s ≠ 0 ∧ 1 < groupSize s ∧ leAt 0 1 m.payload ≠ 0 ∧ leAt 0 1 m.payload < 16) :=
 ⟨⟨(ctpIn 0 9 0 0 (leBytes 4 0 ++ zeros 4 ++ leBytes 8 5 ++ zeros 8 ++ leBytes 8 0 ++ leBytes 8 0)), ({ (netState 0 0 [] (mateNet 0 (mateAssoc 0))) with clock := { dtime := 1000 } }), 63, 1, (mateAssoc 0), by unfold ctpMet; decide +kernel⟩,
  ⟨{ (ctpIn 0 9 0 0 (leBytes 4 0 ++ zeros 4 ++ leBytes 8 5 ++ zeros 8 ++ leBytes 8 0 ++ leBytes 8 0)) with addr := 55 }, ((netState 0 0 [] (mateNet 0 { mateAssoc 0 with peer := { mateOf 0 with addr := 55 } }))), 63, { mateAssoc 0 with peer := { mateOf 0 with addr := 55 } }, by unfold ctpMet; decide +kernel⟩,
  ⟨(ctpIn 0 0xFFFFFFFF 0 0 []), ((netState 0 0 [] { (mateNet 0 { mateAssoc 0 with unacked := [{ msg := { type := 7, seq := 0xFFFFFFFF, payload := zeros 12 }, retx := 1, desc := some 3, dest := 1 }] }) with descs := [{ num := 3, idx := some 0, type := 1, left := 1, mask := 2, window := 9 }] })), 63, { mateAssoc 0 with unacked := [{ msg := { type := 7, seq := 0xFFFFFFFF, payload := zeros 12 }, retx := 1, desc := some 3, dest := 1 }] }, { msg := { type := 7, seq := 0xFFFFFFFF, payload := zeros 12 }, retx := 1, desc := some 3, dest := 1 }, by unfold ctpMet; decide +kernel⟩,
  ⟨(ctpIn 0 4 0 0 []), ((netState 0 0 [] { (mateNet 0 { mateAssoc 0 with unacked := [{ msg := { type := 7, seq := 5, payload := zeros 12 }, retx := 1, desc := some 3, dest := 1 }] }) with descs := [{ num := 3, idx := some 0, type := 1, left := 1, mask := 2, window := 9 }] })), 63, { mateAssoc 0 with unacked := [{ msg := { type := 7, seq := 5, payload := zeros 12 }, retx := 1, desc := some 3, dest := 1 }] }, by unfold ctpMet; decide +kernel⟩,
  ⟨(ctpIn 0 5 0 0 [15, 0, 0, 0]), false, ((netState 0 0 [] { (mateNet 0 { mateAssoc 0 with unacked := [{ msg := { type := 7, seq := 5, payload := zeros 12 }, retx := 1, desc := some 3, dest := 1 }] }) with descs := [{ num := 3, idx := some 0, type := 1, left := 1, mask := 2, window := 9 }] })), 63, 3, { mateAssoc 0 with unacked := [{ msg := { type := 7, seq := 5, payload := zeros 12 }, retx := 1, desc := some 3, dest := 1 }] }, { msg := { type := 7, seq := 5, payload := zeros 12 }, retx := 1, desc := some 3, dest := 1 }, by unfold ctpMet; decide +kernel⟩,
  ⟨(ctpIn 0 5 0 0 [4, 0, 0, 0]), ((netState 0 0 [] { (mateNet 0 { mateAssoc 0 with unacked := [{ msg := { type := 7, seq := 5, payload := zeros 12 }, retx := 1, desc := some 3, dest := 1 }] }) with descs := [{ num := 3, idx := some 0, type := 1, left := 1, mask := 2, window := 9 }] })), 63, 3, { mateAssoc 0 with unacked := [{ msg := { type := 7, seq := 5, payload := zeros 12 }, retx := 1, desc := some 3, dest := 1 }] }, { msg := { type := 7, seq := 5, payload := zeros 12 }, retx := 1, desc := some 3, dest := 1 }, by unfold ctpMet; decide +kernel⟩,
  ⟨(ctpIn 0 5 0 0 [4, 0, 0, 0]), ((netState 0 0 [] { (mateNet 0 { mateAssoc 0 with unacked := [{ msg := { type := 7, seq := 5, payload := zeros 12 }, retx := 1, desc := some 3, dest := 1 }] }) with descs := [{ num := 3, idx := some 0, type := 1, left := 1, mask := 2, window := 9 }] })), 63, 3, { mateAssoc 0 with unacked := [{ msg := { type := 7, seq := 5, payload := zeros 12 }, retx := 1, desc := some 3, dest := 1 }] }, { msg := { type := 7, seq := 5, payload := zeros 12 }, retx := 1, desc := some 3, dest := 1 }, { num := 3, idx := some 0, type := 1, left := 1, mask := 2, window := 9 }, by unfold ctpMet; decide +kernel⟩,
  ⟨(ctpIn 1 5 0 0 [0, 255]), ((netState 1 0 [(rGRP_STATUS, 1)] (mateNet 1 { mateAssoc 1 with unacked := [{ msg := { type := 7, seq := 5, payload := zeros 12 }, retx := 1, desc := none, dest := 1 }] }))), 63, { mateAssoc 1 with unacked := [{ msg := { type := 7, seq := 5, payload := zeros 12 }, retx := 1, desc := none, dest := 1 }] }, { msg := { type := 7, seq := 5, payload := zeros 12 }, retx := 1, desc := none, dest := 1 }, by unfold ctpMet; decide +kernel⟩,
  ⟨(ctpIn 1 5 0 0 [15, 0]), ((netState 1 0 [(rGRP_STATUS, 1)] (mateNet 1 { mateAssoc 1 with unacked := [{ msg := { type := 7, seq := 5, payload := zeros 12 }, retx := 1, desc := none, dest := 1 }] }))), 63, { mateAssoc 1 with unacked := [{ msg := { type := 7, seq := 5, payload := zeros 12 }, retx := 1, desc := none, dest := 1 }] }, { msg := { type := 7, seq := 5, payload := zeros 12 }, retx := 1, desc := none, dest := 1 }, by unfold ctpMet; decide +kernel⟩⟩

theorem witness_RegisterAccessOverTheNetwork :
  (∃ (m : CtpIn) (s : State) (k : Nat) (a : Assoc) (x : RxState), ctpNext m 4 k a x s) ∧
  (∃ (m : CtpIn) (s : State) (k : Nat) (a : Assoc) (x : RxState) (r : RegRow) (ix : List Nat), ctpNext m 5 k a x s ∧ m.channel.toNat = 1 ∧ leAt 0 4 m.payload % 4 = 0 ∧ gate (ifSource m.ifc) true (leAt 0 4 m.payload) s = .open ∧ regAt (leAt 0 4 m.payload) = some (r, ix) ∧ r.half = 0 ∧ r.base ∉ ownEffectBases ∧ shadowCtrlOf (leAt 0 4 m.payload) = none ∧ deadZ s (leAt 0 4 m.payload) = false ∧ deadIf s (leAt 0 4 m.payload) = false ∧ isLogReg (leAt 0 4 m.payload) = false ∧ leAt 0 4 m.payload ∉ [rCTP_CNT 0, rCTP_CNT 1, ifPage m.ifc + 0x40]) :=
 ⟨⟨(ctpIn 0 9 1 1 (leBytes 4 0x20)), ((netState 0 0 [] (mateNet 0 (mateAssoc 0)))), 63, (mateAssoc 0), { next := 9, serial := 77 }, by unfold ctpNext ctpMet; decide +kernel⟩,
  ⟨(ctpIn 0 9 1 1 (leBytes 4 (rLC_PRIO 17 7) ++ leBytes 4 0xFFFFFFFF)), ((netState 0 0 [(rDEV_CAP1, 0x3FFFF)] (mateNet 0 (mateAssoc 0)))), 63, (mateAssoc 0), { next := 9, serial := 77 }, (rowOf (rLC_PRIO 17 7)), (ixOf (rLC_PRIO 17 7)), by unfold ctpNext ctpMet; decide +kernel⟩⟩

theorem witness_RemoteWritesAndCredit :
  (∃ (m : CtpIn) (s : State) (k j : Nat) (a : Assoc) (x : RxState), ctpNext m 7 k a x s ∧ m.channel.toNat < 64 ∧ crwOpen s m.channel.toNat = true ∧ msgMember s (ctpPeerOf m) (ctpMsgOf m 7) = some j ∧ crwReason s m.channel.toNat j ((crwRange s m.channel.toNat).1 + leAt 0 4 m.payload) (m.payload.length - 8) = 0 ∧ rdF s (rCRW_CFG m.channel.toNat) 2 1 = 1 ∧ nbit m.flags.toNat 3 = false ∧ domOk s 0 = true ∧ decodesAll s (amBase + ((crwRange s m.channel.toNat).1 + leAt 0 4 m.payload)) (m.payload.length - 8) = true ∧ ownsAll s 12 (amBase + ((crwRange s m.channel.toNat).1 + leAt 0 4 m.payload)) (m.payload.length - 8) = true ∧ regionOf (amBase + ((crwRange s m.channel.toNat).1 + leAt 0 4 m.payload)) = .am) ∧
  (∃ (m : CtpIn) (s : State) (k j : Nat) (a : Assoc) (x : RxState), ctpNext m 7 k a x s ∧ m.channel.toNat < 64 ∧ crwOpen s m.channel.toNat = true ∧ msgMember s (ctpPeerOf m) (ctpMsgOf m 7) = some j ∧ crwReason s m.channel.toNat j ((crwRange s m.channel.toNat).1 + leAt 0 4 m.payload) (m.payload.length - 8) ≠ 0) ∧
  (∃ (m : CtpIn) (s : State) (k : Nat) (a : Assoc) (x : RxState), ctpNext m 8 k a x s ∧ (∀ d ∈ s.net.descs, d.window = m.channel.toNat → ∀ w ∈ d.waits, w.1.addr = m.addr.toNat → w.1.ifc ≠ m.ifc)) ∧
  (∃ (m : CtpIn) (s : State) (k bit : Nat) (a : Assoc) (x : RxState) (d : TxDesc) (w : CtpMsg), ctpNext m 8 k a x s ∧ s.net.descs = [d] ∧ d.window = m.channel.toNat ∧ d.waits = [(ctpPeerOf m, bit)] ∧ d.msg = some w ∧ w.type = 7 ∧ descStale s d = false ∧ a.unacked = [] ∧ a.backlog = []) ∧
  (∃ (m : CtpIn) (s : State) (k j : Nat) (a : Assoc) (x : RxState), ctpNext m 10 k a x s ∧ m.channel.toNat < 64 ∧ crwOpen s m.channel.toNat = true ∧ msgMember s (ctpPeerOf m) (ctpMsgOf m 10) = some j ∧ (rdB s (rCRW_CFG m.channel.toNat) 7 = true ∨ rdF s (rCRW_CFG m.channel.toNat) 6 4 = j) ∧ leAt 0 4 m.payload + leAt 4 4 m.payload ≤ (crwRange s m.channel.toNat).2 ∧ rdB s (rCRW_CFG m.channel.toNat) 3 = false ∧ rdF s (rCRW_CFG m.channel.toNat) 2 1 = 1 ∧ 0 < leAt 4 4 m.payload ∧ decodesAll s (amBase + ((crwRange s m.channel.toNat).1 + leAt 0 4 m.payload)) (leAt 4 4 m.payload) = true) :=
 ⟨⟨(grouped (ctpIn 0 9 1 63 (leBytes 4 0xFFC ++ zeros 4 ++ [1, 2, 3, 4]))), ((netState 0 0 [(rGRP_STATUS, 0x203), (rSP_OWNER 95, 0x3FFF), (rCRW_CFG 63, 0x13), (rCRW_BASE 63, 0x3FFF000), (rCRW_SIZE 63, 1), (rCRW_CREDITS 63, 1)] (mateNet 0 (mateAssoc 0)))), 63, 1, (mateAssoc 0), { next := 9, serial := 77 }, by unfold ctpNext ctpMet; decide +kernel⟩,
  ⟨(grouped (ctpIn 0 9 1 63 (leBytes 4 0xFFC ++ zeros 4 ++ [1, 2, 3, 4]))), ((netState 0 0 [(rGRP_STATUS, 0x203), (rSP_OWNER 95, 0x3FFF), (rCRW_CFG 63, 0x13), (rCRW_BASE 63, 0x3FFF000), (rCRW_SIZE 63, 1), (rCRW_CREDITS 63, 0)] (mateNet 0 (mateAssoc 0)))), 63, 1, (mateAssoc 0), { next := 9, serial := 77 }, by unfold ctpNext ctpMet; decide +kernel⟩,
  ⟨(ctpIn 0 9 1 63 [1, 0]), ((netState 0 0 [] (mateNet 0 (mateAssoc 0)))), 63, (mateAssoc 0), { next := 9, serial := 77 }, by unfold ctpNext ctpMet; decide +kernel⟩,
  ⟨(ctpIn 0 9 1 63 [1, 0]), ((netState 0 0 [] { (mateNet 0 (mateAssoc 0)) with descs := [{ num := 3, idx := some 0, type := 1, left := 1, mask := 2, window := 63, waits := [(mateOf 0, 1)], msg := some { type := 7, channel := 63, payload := zeros 12 } }] })), 63, 1, (mateAssoc 0), { next := 9, serial := 77 }, { num := 3, idx := some 0, type := 1, left := 1, mask := 2, window := 63, waits := [(mateOf 0, 1)], msg := some { type := 7, channel := 63, payload := zeros 12 } }, { type := 7, channel := 63, payload := zeros 12 }, by unfold ctpNext ctpMet; decide +kernel⟩,
  ⟨(grouped (ctpIn 0 9 1 63 (leBytes 4 0xF80 ++ leBytes 4 0x80))), ((netState 0 0 [(rGRP_STATUS, 0x203), (rSP_OWNER 95, 0x3FFF), (rCRW_CFG 63, 0x13), (rCRW_BASE 63, 0x3FFF000), (rCRW_SIZE 63, 1), (rCRW_CREDITS 63, 0)] (mateNet 0 (mateAssoc 0)))), 63, 1, (mateAssoc 0), { next := 9, serial := 77 }, by unfold ctpNext ctpMet; decide +kernel⟩⟩

theorem witness_GroupMessages :
  (∃ (m : CtpIn) (s : State) (k : Nat) (a : Assoc) (x : RxState), ctpNext m 11 k a x s ∧ nbit m.flags.toNat 0 = true ∧ nbit m.flags.toNat 7 = false ∧ ringRoom s) ∧
  (∃ (m : CtpIn) (s : State) (k : Nat) (a : Assoc), ctpMet m 11 k a s ∧ nbit m.flags.toNat 0 = false ∧ nbit m.flags.toNat 7 = false ∧ ringRoom s) ∧
  (∃ (m : CtpIn) (s : State) (k : Nat) (a : Assoc) (x : RxState), ctpNext m 11 k a x s ∧ nbit m.flags.toNat 0 = true ∧ nbit m.flags.toNat 7 = false ∧ ¬ ringRoom s) ∧
  (∃ (m : CtpIn) (s : State) (k : Nat) (a : Assoc) (x : RxState), ctpNext m 11 k a x s ∧ nbit m.flags.toNat 0 = true ∧ nbit m.flags.toNat 7 = true ∧ genOk s (m.slot.toNat % 16) m.gen.toNat = false) ∧
  (∃ (m : CtpIn) (s : State) (k : Nat) (a : Assoc) (x : RxState), ctpNext m 12 k a x s ∧ joinReason (ctpMsgOf m 12) s = 0) ∧
  (∃ (m : CtpIn) (s : State) (k : Nat) (a : Assoc) (x : RxState), ctpNext m 12 k a x s ∧ joinReason (ctpMsgOf m 12) s ≠ 0) ∧
  (∃ (m : CtpIn) (s : State) (k : Nat) (a : Assoc) (x : RxState), ctpNext m 14 k a x s) ∧
  (∃ (m : CtpIn) (s : State) (k j : Nat) (a : Assoc) (x : RxState), ctpNext m 15 k a x s ∧ grpState s = 3 ∧ peerMember s (ctpPeerOf m) = some j) :=
 ⟨⟨(ctpIn 0 9 1 0 []), ((netState 0 0 [] (mateNet 0 (mateAssoc 0)))), 63, (mateAssoc 0), { next := 9, serial := 77 }, by unfold ctpNext ctpMet ringRoom; decide +kernel⟩,
  ⟨(ctpIn 0 9 0 0 []), ((netState 0 0 [] (mateNet 0 (mateAssoc 0)))), 63, (mateAssoc 0), by unfold ctpMet ringRoom; decide +kernel⟩,
  ⟨(ctpIn 0 9 1 0 []), ((netState 0 0 [(rCTP_RXQ_PROD, 64)] (mateNet 0 (mateAssoc 0)))), 63, (mateAssoc 0), { next := 9, serial := 77 }, by unfold ctpNext ctpMet ringRoom; decide +kernel⟩,
  ⟨{ (ctpIn 0 9 129 0 []) with gen := 1 }, ((netState 0 0 [] (mateNet 0 (mateAssoc 0)))), 63, (mateAssoc 0), { next := 9, serial := 77 }, by unfold ctpNext ctpMet; decide +kernel⟩,
  ⟨(ctpIn 0 9 1 0 (zeros 32 ++ leBytes 4 9 ++ leBytes 4 7 ++ [0, 1])), ((netState 0 0 [(rGRP_STATUS, 3), (rPTP_STATUS, 1)] (mateNet 0 (mateAssoc 0)))), 63, (mateAssoc 0), { next := 9, serial := 77 }, by unfold ctpNext ctpMet; decide +kernel⟩,
  ⟨(ctpIn 0 9 1 0 (zeros 32 ++ leBytes 4 9 ++ leBytes 4 7 ++ [0, 1])), ((netState 0 0 [(rGRP_STATUS, 3)] (mateNet 0 (mateAssoc 0)))), 63, (mateAssoc 0), { next := 9, serial := 77 }, by unfold ctpNext ctpMet; decide +kernel⟩,
  ⟨(ctpIn 0 9 1 0 (leBytes 8 61000)), ({ (netState 0 0 [] (mateNet 0 (mateAssoc 0))) with clock := { dtime := 1000 } }), 63, (mateAssoc 0), { next := 9, serial := 77 }, by unfold ctpNext ctpMet; decide +kernel⟩,
  ⟨(grouped (ctpIn 0 9 1 0 [1])), ((netState 0 0 [(rGRP_STATUS, 0x203)] (mateNet 0 (mateAssoc 0)))), 63, 1, (mateAssoc 0), { next := 9, serial := 77 }, by unfold ctpNext ctpMet; decide +kernel⟩⟩

theorem witness_SendRing :
  (∃ (s : State) (k j : Nat) (p : Peer) (a : Assoc) (b : List Byte), sendReady 3 k j p a b s ∧ deviceOos s = false ∧ fitsMtu s p (leAt 0xC 2 b) true = true ∧ (cuEntry s (leAt 2 1 b % 4) (rdF s (rCTP_DEST_CFG k) 31 16)).isSome = true) ∧
  (∃ (s : State) (k j : Nat) (p : Peer) (a : Assoc) (b : List Byte), sendReady 7 k j p a b s ∧ fitsMtu s p (8 + leAt 0xC 2 b) (nbit (leAt 1 1 b) 2) = true ∧ (nbit (leAt 1 1 b) 2 = true → (cuEntry s (leAt 2 1 b % 4) (leAt 0x1C 2 b)).isSome = true)) ∧
  (∃ (s : State) (k j : Nat) (p : Peer) (a : Assoc) (b : List Byte), sendReady 0xB k j p a b s ∧ nbit (leAt 1 1 b) 0 = true ∧ fitsMtu s p (leAt 0xC 2 b) (nbit (leAt 1 1 b) 2) = true ∧ (nbit (leAt 1 1 b) 2 = true → (cuEntry s (leAt 2 1 b % 4) (leAt 0x1C 2 b)).isSome = true)) ∧
  (∃ (s : State) (k j : Nat) (p : Peer) (a : Assoc) (b : List Byte), sendReady 0xB k j p a b s ∧ nbit (leAt 1 1 b) 0 = false ∧ fitsMtu s p (leAt 0xC 2 b) (nbit (leAt 1 1 b) 2) = true ∧ (nbit (leAt 1 1 b) 2 = true → (cuEntry s (leAt 2 1 b % 4) (leAt 0x1C 2 b)).isSome = true) ∧ ifUp s p.ifc = true ∧ s.net.hold = false ∧ s.net.skip = false) ∧
  (∃ (s : State) (k j : Nat) (p : Peer) (a : Assoc) (b : List Byte), sendReady 0xE k j p a b s ∧ fitsMtu s p 8 (nbit (leAt 1 1 b) 2) = true ∧ (nbit (leAt 1 1 b) 2 = true → (cuEntry s (leAt 2 1 b % 4) (leAt 0x1C 2 b)).isSome = true)) ∧
  (∃ (s : State) (x : Nat × Instr), x ∈ sendCommands ∧ deviceOos s = false ∧ domOk s 5 = true ∧ s.net.taken ≠ rdn s rCTP_TXQ_PROD ∧ (regionOf (txHead s) = .am ∨ regionOf (txHead s) = .dram) ∧ decodesAll s (txHead s) 64 = true ∧ cleanRead s (txHead s) 64 ∧ (memByte s (txHead s)).toNat = x.1 ∧ descBad s (memBytes s (txHead s) 64) = true) ∧
  (∃ (s : State) (x : Nat × Instr), x ∈ sendCommands ∧ (domOk s 5 = false ∨ s.net.taken = rdn s rCTP_TXQ_PROD)) ∧
  (∃ (s : State), deviceOos s = true) :=
 ⟨⟨({ withMem 0x140000000 (([3, 0, 3, 7, 15, 0, 0, 0, 0, 0, 0, 0] ++ leBytes 2 8 ++ leBytes 2 0 ++ leBytes 8 0x140000100 ++ leBytes 4 16 ++ leBytes 4 55 ++ leBytes 8 0 ++ zeros 24) ++ zeros 192 ++ [1, 2, 3, 4, 5, 6, 7, 8]) (netState 0 0 [(rSP_OWNER 32, 0x3FFF), (rCTP_TXQ_BASE_LO, 0x40000000), (rCTP_TXQ_BASE_LO + 4, 1), (rCTP_TXQ_PROD, 0), (rCTP_DEST_CFG 7, 0x370001), (rCTP_DEST_IP 7 0, 101), (rCU_ENT_ID 3 15, 0x10037)] { mateNet 0 (mateAssoc 0) with taken := 0xFFFFFFC0, descs := [{ num := 8, idx := none, type := 0xB }] }) with jobs := [(15, { state := .processing, jobId := 0x08070605 })] }), 7, 63, (mateOf 0), (mateAssoc 0), ([3, 0, 3, 7, 15, 0, 0, 0, 0, 0, 0, 0] ++ leBytes 2 8 ++ leBytes 2 0 ++ leBytes 8 0x140000100 ++ leBytes 4 16 ++ leBytes 4 55 ++ leBytes 8 0 ++ zeros 24), by unfold sendReady cleanRead; decide +kernel⟩,
  ⟨(withMem 0x140000000 (([7, 0, 3, 7, 0, 0, 0, 0, 0, 0, 0, 0] ++ leBytes 2 8 ++ leBytes 2 63 ++ leBytes 8 0x140000100 ++ leBytes 4 16 ++ leBytes 4 55 ++ leBytes 8 0 ++ zeros 24) ++ zeros 192 ++ [1, 2, 3, 4, 5, 6, 7, 8]) (netState 0 0 [(rSP_OWNER 32, 0x3FFF), (rCTP_TXQ_BASE_LO, 0x40000000), (rCTP_TXQ_BASE_LO + 4, 1), (rCTP_TXQ_PROD, 0), (rCTP_DEST_CFG 7, 0x370001), (rCTP_DEST_IP 7 0, 101), (rCU_ENT_ID 3 15, 0x10037)] { mateNet 0 (mateAssoc 0) with taken := 0xFFFFFFC0, descs := [{ num := 8, idx := none, type := 0xB }] })), 7, 63, (mateOf 0), (mateAssoc 0), ([7, 0, 3, 7, 0, 0, 0, 0, 0, 0, 0, 0] ++ leBytes 2 8 ++ leBytes 2 63 ++ leBytes 8 0x140000100 ++ leBytes 4 16 ++ leBytes 4 55 ++ leBytes 8 0 ++ zeros 24), by unfold sendReady cleanRead; decide +kernel⟩,
  ⟨(withMem 0x140000000 (([11, 1, 3, 7, 0, 0, 0, 0, 0, 0, 0, 0] ++ leBytes 2 0 ++ leBytes 2 0 ++ leBytes 8 0x140000100 ++ leBytes 4 16 ++ leBytes 4 55 ++ leBytes 8 0 ++ zeros 24) ++ zeros 192 ++ [1, 2, 3, 4, 5, 6, 7, 8]) (netState 0 0 [(rSP_OWNER 32, 0x3FFF), (rCTP_TXQ_BASE_LO, 0x40000000), (rCTP_TXQ_BASE_LO + 4, 1), (rCTP_TXQ_PROD, 0), (rCTP_DEST_CFG 7, 0x370001), (rCTP_DEST_IP 7 0, 101), (rCU_ENT_ID 3 15, 0x10037)] { mateNet 0 (mateAssoc 0) with taken := 0xFFFFFFC0, descs := [{ num := 8, idx := none, type := 0xB }] })), 7, 63, (mateOf 0), (mateAssoc 0), ([11, 1, 3, 7, 0, 0, 0, 0, 0, 0, 0, 0] ++ leBytes 2 0 ++ leBytes 2 0 ++ leBytes 8 0x140000100 ++ leBytes 4 16 ++ leBytes 4 55 ++ leBytes 8 0 ++ zeros 24), by unfold sendReady cleanRead; decide +kernel⟩,
  ⟨(withMem 0x140000000 (([11, 0, 3, 7, 0, 0, 0, 0, 0, 0, 0, 0] ++ leBytes 2 8 ++ leBytes 2 0 ++ leBytes 8 0x140000100 ++ leBytes 4 16 ++ leBytes 4 55 ++ leBytes 8 0 ++ zeros 24) ++ zeros 192 ++ [1, 2, 3, 4, 5, 6, 7, 8]) (netState 0 0 [(rSP_OWNER 32, 0x3FFF), (rCTP_TXQ_BASE_LO, 0x40000000), (rCTP_TXQ_BASE_LO + 4, 1), (rCTP_TXQ_PROD, 0), (rCTP_DEST_CFG 7, 0x370001), (rCTP_DEST_IP 7 0, 101), (rCU_ENT_ID 3 15, 0x10037)] { mateNet 0 (mateAssoc 0) with taken := 0xFFFFFFC0, descs := [{ num := 8, idx := none, type := 0xB }] })), 7, 63, (mateOf 0), (mateAssoc 0), ([11, 0, 3, 7, 0, 0, 0, 0, 0, 0, 0, 0] ++ leBytes 2 8 ++ leBytes 2 0 ++ leBytes 8 0x140000100 ++ leBytes 4 16 ++ leBytes 4 55 ++ leBytes 8 0 ++ zeros 24), by unfold sendReady cleanRead; decide +kernel⟩,
  ⟨(withMem 0x140000000 (([14, 0, 3, 7, 0, 0, 0, 0, 0, 0, 0, 0] ++ leBytes 2 0 ++ leBytes 2 0 ++ leBytes 8 0 ++ leBytes 4 16 ++ leBytes 4 55 ++ leBytes 8 12345 ++ zeros 24) ++ zeros 192 ++ [1, 2, 3, 4, 5, 6, 7, 8]) (netState 0 0 [(rSP_OWNER 32, 0x3FFF), (rCTP_TXQ_BASE_LO, 0x40000000), (rCTP_TXQ_BASE_LO + 4, 1), (rCTP_TXQ_PROD, 0), (rCTP_DEST_CFG 7, 0x370001), (rCTP_DEST_IP 7 0, 101), (rCU_ENT_ID 3 15, 0x10037)] { mateNet 0 (mateAssoc 0) with taken := 0xFFFFFFC0, descs := [{ num := 8, idx := none, type := 0xB }] })), 7, 63, (mateOf 0), (mateAssoc 0), ([14, 0, 3, 7, 0, 0, 0, 0, 0, 0, 0, 0] ++ leBytes 2 0 ++ leBytes 2 0 ++ leBytes 8 0 ++ leBytes 4 16 ++ leBytes 4 55 ++ leBytes 8 12345 ++ zeros 24), by unfold sendReady cleanRead; decide +kernel⟩,
  ⟨(withMem 0x140000000 (([3, 32, 3, 7, 0, 0, 0, 0, 0, 0, 0, 0] ++ leBytes 2 8 ++ leBytes 2 0 ++ leBytes 8 0x140000100 ++ leBytes 4 16 ++ leBytes 4 55 ++ leBytes 8 0 ++ zeros 24) ++ zeros 192 ++ [1, 2, 3, 4, 5, 6, 7, 8]) (netState 0 0 [(rSP_OWNER 32, 0x3FFF), (rCTP_TXQ_BASE_LO, 0x40000000), (rCTP_TXQ_BASE_LO + 4, 1), (rCTP_TXQ_PROD, 0), (rCTP_DEST_CFG 7, 0x370001), (rCTP_DEST_IP 7 0, 101), (rCU_ENT_ID 3 15, 0x10037)] { mateNet 0 (mateAssoc 0) with taken := 0xFFFFFFC0, descs := [{ num := 8, idx := none, type := 0xB }] })), (3, .sendDecision), by unfold cleanRead; decide +kernel⟩,
  ⟨State.reset, (3, .sendDecision), by decide +kernel⟩,
  ⟨(regsAt [(rDEV_STATE, 2)]), by decide +kernel⟩⟩

theorem witness_DescriptorsAndRetries :
  (∃ (k : Fin 4096) (s : State) (d : TxDesc), txDescAt s k = some d ∧ domOk s 5 = true ∧ d.left = 0) ∧
  (∃ (k : Fin 4096) (s : State), (txDescAt s k = none ∨ domOk s 5 = false)) ∧
  (∃ (k : Fin 4096) (s : State) (d : TxDesc), txDescAt s k = some d ∧ d.left ≠ 0) ∧
  (∃ (k : Fin 4096) (s : State) (d : TxDesc), txDescAt s k = some d ∧ domOk s 5 = true ∧ d.waits ≠ []) ∧
  (∃ (k : Fin 4096) (s : State) (d : TxDesc), txDescAt s k = some d ∧ d.waits = []) ∧
  (∃ (k : Fin 64) (q : Word) (s : State) (a : Assoc) (x : TxMsg), domOk s 5 = true ∧ assoc s k = some a ∧ findTx s k q.toNat = some x ∧ x.retx < 3 ∧ x.out = true ∧ (∀ n, x.desc = some n → ∃ d, findDesc s n = some d ∧ descStale s d = false)) ∧
  (∃ (k : Fin 64) (q : Word) (s : State), (domOk s 5 = false ∨ findTx s k q.toNat = none)) ∧
  (∃ (k : Fin 64) (q : Word) (s : State) (x : TxMsg), findTx s k q.toNat = some x ∧ (3 ≤ x.retx ∨ x.out = false)) ∧
  (∃ (k : Fin 64) (q : Word) (s : State) (a : Assoc) (x : TxMsg), domOk s 5 = true ∧ assoc s k = some a ∧ a.backlog = [] ∧ findTx s k q.toNat = some x ∧ x.retx = 3 ∧ x.msg.type ≠ 7) ∧
  (∃ (k : Fin 64) (q : Word) (s : State) (a : Assoc) (x : TxMsg), domOk s 5 = true ∧ assoc s k = some a ∧ a.backlog = [] ∧ a.unacked = [x] ∧ x.msg.seq = q.toNat ∧ x.retx = 3 ∧ x.msg.type = 7) ∧
  (∃ (k : Fin 64) (s : State) (a : Assoc) (x : RxState) (h : HeldMsg), domOk s 5 = true ∧ assoc s k = some a ∧ a.rx = some x ∧ x.held = [h] ∧ x.next < 2 ^ 32 ∧ h.msg.seq < 2 ^ 32 ∧ (h.msg.seq + 2 ^ 32 - x.next) % 2 ^ 32 ≤ 63 ∧ h.msg.type ≠ 5 ∧ h.msg.type ≠ 4) ∧
  (∃ (k : Fin 64) (s : State), (domOk s 5 = false ∨ rxOf s k = none ∨ (rxOf s k).map (fun x => x.held) = some [])) :=
 ⟨⟨1, ({ netState 0 0 [(rSP_OWNER 32, 0x3FFF)] { descs := [{ num := 1, idx := some 4, type := 3, left := 1 }, { num := 3, idx := some 5, at_ := 0x140000FC0, type := 0xB, seq := some 9, left := 0, mask := 6, acked := 6, status := 0 }] } with jobs := [(15, { state := .sent, gen := 255 })] }), { num := 3, idx := some 5, at_ := 0x140000FC0, type := 0xB, seq := some 9, left := 0, mask := 6, acked := 6, status := 0 }, by decide +kernel⟩,
  ⟨4095, (State.reset), by decide +kernel⟩,
  ⟨1, (netState 0 0 [(rSP_OWNER 32, 0x3FFF)] { descs := [{ num := 1, idx := some 4, type := 3, left := 1 }, { num := 3, idx := some 5, at_ := 0x140000FC0, type := 0xB, seq := some 9, left := 1, mask := 6, acked := 2, status := 0 }] }), { num := 3, idx := some 5, at_ := 0x140000FC0, type := 0xB, seq := some 9, left := 1, mask := 6, acked := 2, status := 0 }, by decide +kernel⟩,
  ⟨1, (netState 0 0 [(rSP_OWNER 32, 0x3FFF)] { descs := [{ num := 1, idx := some 4, type := 3, left := 1 }, { num := 3, idx := some 5, at_ := 0x140000FC0, type := 0xB, seq := some 9, left := 1, mask := 6, acked := 2, status := 260, waits := [(mateOf 0, 2)], window := 9 }] }), { num := 3, idx := some 5, at_ := 0x140000FC0, type := 0xB, seq := some 9, left := 1, mask := 6, acked := 2, status := 260, waits := [(mateOf 0, 2)], window := 9 }, by decide +kernel⟩,
  ⟨1, (netState 0 0 [(rSP_OWNER 32, 0x3FFF)] { descs := [{ num := 1, idx := some 4, type := 3, left := 1 }, { num := 3, idx := some 5, at_ := 0x140000FC0, type := 0xB, seq := some 9, left := 1, mask := 6, acked := 2, status := 0 }] }), { num := 3, idx := some 5, at_ := 0x140000FC0, type := 0xB, seq := some 9, left := 1, mask := 6, acked := 2, status := 0 }, by decide +kernel⟩,
  ⟨63, 0xFFFFFFFF, (netState 0 0 [] { mateNet 0 { mateAssoc 0 with unacked := [{ msg := { type := 11, seq := 5, channel := 9, payload := leBytes 4 64 ++ zeros 16 }, retx := 0, desc := none }, { msg := { type := 11, seq := 0xFFFFFFFF, channel := 9, payload := leBytes 4 64 ++ zeros 16 }, retx := 2, desc := some 3 }] } with descs := [{ num := 3, idx := some 5, type := 0xB, left := 1 }] }), { mateAssoc 0 with unacked := [{ msg := { type := 11, seq := 5, channel := 9, payload := leBytes 4 64 ++ zeros 16 }, retx := 0, desc := none }, { msg := { type := 11, seq := 0xFFFFFFFF, channel := 9, payload := leBytes 4 64 ++ zeros 16 }, retx := 2, desc := some 3 }] }, { msg := { type := 11, seq := 0xFFFFFFFF, channel := 9, payload := leBytes 4 64 ++ zeros 16 }, retx := 2, desc := some 3 }, ⟨by decide +kernel, by decide +kernel, by decide +kernel, by decide +kernel, rfl, by intro n h; cases h; exact ⟨_, rfl, by decide +kernel⟩⟩⟩,
  ⟨63, 4, (netState 0 0 [] { mateNet 0 { mateAssoc 0 with unacked := [{ msg := { type := 11, seq := 5, channel := 9, payload := leBytes 4 64 ++ zeros 16 }, retx := 0, desc := none }] } with descs := [] }), by decide +kernel⟩,
  ⟨63, 0xFFFFFFFF, (netState 0 0 [] { mateNet 0 { mateAssoc 0 with unacked := [{ msg := { type := 11, seq := 0xFFFFFFFF, channel := 9, payload := leBytes 4 64 ++ zeros 16 }, retx := 3, desc := none }] } with descs := [] }), { msg := { type := 11, seq := 0xFFFFFFFF, channel := 9, payload := leBytes 4 64 ++ zeros 16 }, retx := 3, desc := none }, by decide +kernel⟩,
  ⟨63, 0xFFFFFFFF, (netState 0 0 [] { mateNet 0 { mateAssoc 0 with unacked := [{ msg := { type := 11, seq := 5, channel := 9, payload := leBytes 4 64 ++ zeros 16 }, retx := 0, desc := none }, { msg := { type := 11, seq := 0xFFFFFFFF, channel := 9, payload := leBytes 4 64 ++ zeros 16 }, retx := 3, desc := some 3 }] } with descs := [{ num := 3, idx := some 5, type := 0xB, left := 1 }] }), { mateAssoc 0 with unacked := [{ msg := { type := 11, seq := 5, channel := 9, payload := leBytes 4 64 ++ zeros 16 }, retx := 0, desc := none }, { msg := { type := 11, seq := 0xFFFFFFFF, channel := 9, payload := leBytes 4 64 ++ zeros 16 }, retx := 3, desc := some 3 }] }, { msg := { type := 11, seq := 0xFFFFFFFF, channel := 9, payload := leBytes 4 64 ++ zeros 16 }, retx := 3, desc := some 3 }, by decide +kernel⟩,
  ⟨63, 0xFFFFFFFF, (netState 0 0 [] { mateNet 0 { mateAssoc 0 with unacked := [{ msg := { type := 7, seq := 0xFFFFFFFF, channel := 9, payload := leBytes 4 64 ++ zeros 16 }, retx := 3, desc := some 3 }] } with descs := [{ num := 3, idx := some 5, type := 0xB, left := 1 }] }), { mateAssoc 0 with unacked := [{ msg := { type := 7, seq := 0xFFFFFFFF, channel := 9, payload := leBytes 4 64 ++ zeros 16 }, retx := 3, desc := some 3 }] }, { msg := { type := 7, seq := 0xFFFFFFFF, channel := 9, payload := leBytes 4 64 ++ zeros 16 }, retx := 3, desc := some 3 }, by decide +kernel⟩,
  ⟨63, (netState 0 0 [] { mateNet 0 { mateAssoc 0 with rx := some { next := 9, serial := 77, held := [{ msg := { type := 14, seq := 72, payload := zeros 8 }, answered := true, checkOk := true }] } } with descs := [] }), { mateAssoc 0 with rx := some { next := 9, serial := 77, held := [{ msg := { type := 14, seq := 72, payload := zeros 8 }, answered := true, checkOk := true }] } }, { next := 9, serial := 77, held := [{ msg := { type := 14, seq := 72, payload := zeros 8 }, answered := true, checkOk := true }] }, { msg := { type := 14, seq := 72, payload := zeros 8 }, answered := true, checkOk := true }, by decide +kernel⟩,
  ⟨63, (netState 0 0 [] { mateNet 0 (mateAssoc 0) with descs := [] }), by decide +kernel⟩⟩

theorem witness_GroupAndBeacons :
  (∃ (s : State), domOk s 5 = true ∧ s.fuses.keeperBad % 4 = 0 ∧ (isReady s = true ∨ deviceOos s = true)) ∧
  (∃ (s : State), (domOk s 5 = false ∨ s.fuses.keeperBad % 4 ≠ 0 ∨ (isReady s = false ∧ deviceOos s = false))) ∧
  (∃ (m : Fin 8) (s : State), domOk s 5 = true ∧ 1 < groupSize s ∧ memberBit s m = true ∧ grpState s = 3 ∧ (mate s m).seen + 12500 ≤ s.clock.aon) ∧
  (∃ (s : State), domOk s 5 = true ∧ 1 < groupSize s ∧ memberBit s 0 = true ∧ (grpState s = 1 ∨ grpState s = 2 ∨ grpState s = 4) ∧ (mate s 0).seen + 12500 ≤ s.clock.aon) ∧
  (∃ (m : Fin 8) (s : State), (domOk s 5 = false ∨ groupSize s ≤ 1 ∨ memberBit s m = false ∨ s.clock.aon < (mate s m).seen + 12500)) ∧
  (∃ (s : State) (k : Nat) (a : Assoc), domOk s 5 = true ∧ 1 < groupSize s ∧ ownMember s ≠ 0 ∧ (((grpState s = 1 ∨ grpState s = 4) ∧ s.net.joinSent = true) ∨ (grpState s = 5 ∧ (rdF s rGRP_STATUS 7 4 = 6 ∨ rdF s rGRP_STATUS 7 4 = 7))) ∧ findAssoc s (memberPeer s 0) = some k ∧ assoc s k = some a ∧ a.backlog = [] ∧ a.unacked.length < 64) ∧
  (∃ (s : State), (domOk s 5 = false ∨ groupSize s ≤ 1 ∨ ownMember s = 0 ∨ grpState s = 0 ∨ grpState s = 2 ∨ grpState s = 3 ∨ (grpState s = 1 ∧ s.net.joinSent = false))) ∧
  (∃ (s : State), domOk s 5 = true ∧ s.net.wakeAsked = false ∧ rd64 s rGRP_WAKE_T_LO ≠ 0 ∧ rd64 s rGRP_WAKE_T_LO ≤ dtime s + 60000) ∧
  (∃ (s : State), (domOk s 5 = false ∨ s.net.wakeAsked = true ∨ rd64 s rGRP_WAKE_T_LO = 0 ∨ dtime s + 60000 < rd64 s rGRP_WAKE_T_LO)) ∧
  (∃ (s : State), domOk s 5 = true ∧ rd64 s rGRP_WAKE_T_LO ≠ 0 ∧ rd64 s rGRP_WAKE_T_LO ≤ dtime s) ∧
  (∃ (s : State), (domOk s 5 = false ∨ rd64 s rGRP_WAKE_T_LO = 0 ∨ dtime s < rd64 s rGRP_WAKE_T_LO)) ∧
  (∃ (s : State), domOk s 5 = true ∧ s.net.hold = true ∧ s.net.slotAt ≤ dtime s) ∧
  (∃ (s : State), (domOk s 5 = false ∨ s.net.hold = false ∨ dtime s < s.net.slotAt)) ∧
  (∃ (ifc : Iface) (s : State) (k : Nat) (a : Assoc), gate ifc true rGRP_CTRL s = .open ∧ 1 < groupSize s ∧ ownMember s ≠ 0 ∧ (grpState s = 4 ∨ grpState s = 5) ∧ findAssoc s (memberPeer s 0) = some k ∧ assoc s k = some a ∧ a.backlog = [] ∧ a.unacked.length < 64) ∧
  (∃ (ifc : Iface) (s : State), gate ifc true rGRP_CTRL s = .open ∧ (groupSize s ≤ 1 ∨ ownMember s = 0 ∨ (grpState s ≠ 4 ∧ grpState s ≠ 5))) ∧
  (∃ (ifc : Iface) (s : State), gate ifc true rGRP_CTRL s = .open ∧ 1 < groupSize s) ∧
  (∃ (ifc : Iface) (s : State), gate ifc true rGRP_CTRL s = .open ∧ groupSize s ≤ 1) :=
 ⟨⟨(netState 0 0 [(rDEV_STATE, 1), (rCTP_DEST_CFG 7, 0x3), (rCTP_DEST_IP 7 0, 101)] { assocs := [(63, some (mateAssoc 0))] }), by decide +kernel⟩,
  ⟨(State.reset), by decide +kernel⟩,
  ⟨1, ({ netState 0 0 [(rGRP_STATUS, 0x203)] {} with clock := { aon := 12500 } }), by decide +kernel⟩,
  ⟨({ netState 1 0 [(rGRP_STATUS, 0x101)] {} with clock := { aon := 12500 } }), by decide +kernel⟩,
  ⟨7, (netState 0 0 [(rGRP_STATUS, 0x203)] {}), by decide +kernel⟩,
  ⟨(netState 1 0 [(rGRP_STATUS, 1)] { assocs := [(63, some (mateAssoc 1))], joinSent := true }), 63, (mateAssoc 1), by decide +kernel⟩,
  ⟨(netState 1 0 [(rGRP_STATUS, 1)] {}), by decide +kernel⟩,
  ⟨({ netState 1 0 [(rGRP_WAKE_T_LO + 4, 1)] {} with clock := { dtime := 0xFFFF15A0 } }), by decide +kernel⟩,
  ⟨(State.reset), by decide +kernel⟩,
  ⟨({ netState 0 0 [(rGRP_WAKE_T_LO, 1), (rGRP_STATUS, 3), (rPTP_OFFSET, 20001)] {} with clock := { dtime := 1 } }), by decide +kernel⟩,
  ⟨(State.reset), by decide +kernel⟩,
  ⟨(netState 0 0 [] { hold := true, skip := true, waiting := [(mateOf 0, { type := 11 }, none)] }), by decide +kernel⟩,
  ⟨(State.reset), by decide +kernel⟩,
  ⟨.pcie, (netState 1 0 [(rGRP_STATUS, 4)] { assocs := [(63, some (mateAssoc 1))] }), 63, (mateAssoc 1), by decide +kernel⟩,
  ⟨.pcie, (State.reset), by decide +kernel⟩,
  ⟨.pcie, (netState 1 0 [(rGRP_STATUS, 0x62)] {}), by decide +kernel⟩,
  ⟨.pcie, (State.reset), by decide +kernel⟩⟩

theorem witness_FencesAndRestores :
  (∃ (ifc : Iface) (d : Fin 6) (s : State), gate ifc true (rFLT_DOM (d.val + 1)) s = .open ∧ (domState s (d.val + 1) = 0 ∨ domState s (d.val + 1) = 3)) ∧
  (∃ (ifc : Iface) (d : Fin 6) (s : State), gate ifc true (rFLT_DOM (d.val + 1)) s = .open ∧ (domState s (d.val + 1) = 1 ∨ domState s (d.val + 1) = 2)) ∧
  (∃ (d : Fin 6) (s : State), fencePhase s (d.val + 1) = .draining ∧ resetsInWindow s (d.val + 1) < 4 ∧ drainOwes s (d.val + 1) = false) ∧
  (∃ (s : State), s.lens.tile ≠ none) ∧
  (∃ (errs : List (BitVec 48 × MemErr)) (feed out wload : BitVec 32) (idle : List (BitVec 32)) (s : State) (q : Nat) (o : LensOp), fencePhase s 1 = .draining ∧ d0InReset s = false ∧ s.power.state ≠ .nap ∧ s.lens.tile = some q ∧ s.lens.ops.find? (fun o => decide (o.seq = q)) = some o ∧ genOk s o.d.slot o.d.gen = true) ∧
  (∃ (d : Fin 6) (s : State), fencePhase s (d.val + 1) = .draining ∧ drainOwes s (d.val + 1) = false ∧ 4 ≤ resetsInWindow s (d.val + 1)) ∧
  (∃ (d : Fin 6) (s : State), fencePhase s (d.val + 1) ≠ .draining) ∧
  (∃ (d : Fin 6) (s : State), fencePhase s (d.val + 1) = .restoring ∧ (d.val = 3 → deviceOos s = false) ∧ reloadOk s (d.val + 1) = true ∧ (d.val = 0 → (availOf (repairEntries s (sec s 1))).lensOk = true)) ∧
  (∃ (d : Fin 6) (s : State), fencePhase s (d.val + 1) = .restoring ∧ (d.val = 3 → deviceOos s = false) ∧ reloadOk s (d.val + 1) = false) ∧
  (∃ (d : Fin 6) (s : State), fencePhase s (d.val + 1) ≠ .restoring) ∧
  (∃ (ifc : Iface) (d : Fin 6) (s : State), gate ifc true (rFLT_DOM (d.val + 1)) s = .open ∧ domState s (d.val + 1) = 3 ∧ rdB s (rFLT_DOM (d.val + 1)) 5 = false ∧ rwinCount s (d.val + 1) ≤ 3) ∧
  (∃ (ifc : Iface) (d : Fin 6) (s : State), gate ifc true (rFLT_DOM (d.val + 1)) s = .open ∧ (domState s (d.val + 1) ≠ 3 ∨ rdB s (rFLT_DOM (d.val + 1)) 5 = true ∨ 3 < rwinCount s (d.val + 1))) :=
 ⟨⟨.pcie, 5, (regsAt [(rFLT_DOM 6, 0)]), by decide +kernel⟩,
  ⟨.pcie, 5, (regsAt [(rFLT_DOM 6, 1)]), by decide +kernel⟩,
  ⟨5, ({ regsAt [(rFLT_DOM 6, 1)] with fault := { fence := [(6, .draining)] }, clock := { aon := 8000000000 }, ports := [(7, { opened := true })], lan := [(1, { pc := 4 })] }), by decide +kernel⟩,
  ⟨{ lensState [(lensOp .running (some 7))] with lens := { ops := [(lensOp .running (some 7))], tile := some 3 } }, by decide +kernel⟩,
  ⟨[], 1, 2, 3, [4], { lensState [(lensOp .running (some 7))] with lens := { ops := [(lensOp .running (some 7))], tile := some 3 }, fault := { fence := [(1, .draining)] } }, 3, (lensOp .running (some 7)), by decide +kernel⟩,
  ⟨5, ({ regsAt [(rFLT_DOM 6, 1)] with fault := { fence := [(6, .draining)] }, prec := { hist := [(6, [5, 4, 3])] }, clock := { aon := 5 } }), by decide +kernel⟩,
  ⟨0, (State.reset), by decide +kernel⟩,
  ⟨0, ({ regsAt [(rFLT_DOM 1, 2)] with fault := { fence := [(1, .restoring)] } }), by decide +kernel⟩,
  ⟨1, ({ regsAt [(rFLT_DOM 2, 2)] with fault := { fence := [(2, .restoring)] }, boot := { staged := true } }), by decide +kernel⟩,
  ⟨5, ({ regsAt [(rFLT_DOM 6, 1)] with fault := { fence := [(6, .draining)] } }), by decide +kernel⟩,
  ⟨.pcie, 5, ({ regsAt [(rFLT_DOM 6, 3)] with prec := { hist := [(6, [3, 2, 1])] }, clock := { aon := 5 } }), by decide +kernel⟩,
  ⟨.pcie, 5, (State.reset), by decide +kernel⟩⟩

theorem witness_DeviceResetsAndService :
  (∃ (ifc : Iface) (env : BootEnv) (s : State), gate ifc true (rFLT_DOM 0) s = .open) ∧
  (∃ (env : BootEnv) (s : State), s.fault.fatal = true) ∧
  (∃ (env : BootEnv) (s : State), s.fault.fatal = false) ∧
  (∃ (ifc : Iface) (hi : Word) (env : BootEnv) (s : State), gate ifc true rFLT_OOS_CLEAR_HI s = .open ∧ (latch s ifc rFLT_OOS_CLEAR_LO).toNat + 2 ^ 32 * hi.toNat = s.fuses.serial ∧ rdB s rFLT_OOS_STATUS 0 = true ∧ rdB s rFLT_OOS_STATUS 1 = true ∧ (s.fault.fatal = false ∨ resetsInWindow s 0 < 3)) ∧
  (∃ (ifc : Iface) (hi : Word) (env : BootEnv) (s : State), gate ifc true rFLT_OOS_CLEAR_HI s = .open ∧ ((latch s ifc rFLT_OOS_CLEAR_LO).toNat + 2 ^ 32 * hi.toNat ≠ s.fuses.serial ∨ rdB s rFLT_OOS_STATUS 0 = false ∨ rdB s rFLT_OOS_STATUS 1 = false)) ∧
  (∃ (ifc : Iface) (s : State), gate ifc true rFLT_REPAIR_CTRL s = .open ∧ rdB s rFLT_REPAIR_CTRL 0 = true) ∧
  (∃ (ifc : Iface) (s : State), gate ifc true rFLT_REPAIR_CTRL s = .open ∧ rdB s rFLT_REPAIR_CTRL 0 = false ∧ repValid (wordBytes s (rFLT_REPAIR_ENTRY 0) 4) = false) ∧
  (∃ (ifc : Iface) (s : State), gate ifc true rFLT_REPAIR_CTRL s = .open ∧ rdB s rFLT_REPAIR_CTRL 0 = false ∧ repValid (wordBytes s (rFLT_REPAIR_ENTRY 0) 4) = true ∧ 64 ≤ s.prec.repairs.length) ∧
  (∃ (ifc : Iface) (s : State), gate ifc true rFLT_REPAIR_CTRL s = .open ∧ rdB s rFLT_REPAIR_CTRL 0 = false ∧ repValid (wordBytes s (rFLT_REPAIR_ENTRY 0) 4) = true ∧ s.prec.repairs.length < 64) :=
 ⟨⟨.pcie, { train := .failed 23 6 }, ({ regsAt [(rDEV_STATE, 1)] with clock := { aon := 5 }, jobs := [(15, { state := .sent, gen := 255 })] }), by decide +kernel⟩,
  ⟨{ train := .ok, flashBad := 3 }, ({ regsAt [(rDEV_STATE, 1)] with fault := { fatal := true }, jobs := [(15, { state := .sent, gen := 255 })] }), by decide +kernel⟩,
  ⟨{ train := .ok }, (State.reset), by decide +kernel⟩,
  ⟨.pcie, 2, { train := .ok, flashBad := 3 }, (setLatch .pcie rFLT_OOS_CLEAR_LO 7 { regsAt [(rFLT_OOS_STATUS, 3), (rDEV_STATE, 2)] with fuses := { serial := 2 ^ 33 + 7 }, prec := { latched := true }, jobs := [(15, { state := .sent, gen := 255 })] }), by decide +kernel⟩,
  ⟨.pcie, 2, { train := .ok }, ({ regsAt [(rFLT_OOS_STATUS, 3)] with fuses := { serial := 2 ^ 33 + 7 } }), by decide +kernel⟩,
  ⟨.pcie, (regsAt [(rFLT_REPAIR_CTRL, 1)]), by decide +kernel⟩,
  ⟨.pcie, (State.reset), by decide +kernel⟩,
  ⟨.pcie, ({ regsAt [(rFLT_REPAIR_ENTRY 0, 0x10F0001)] with prec := { repairs := List.replicate 64 (zeros 16) } }), by decide +kernel⟩,
  ⟨.pcie, ({ regsAt [(rFLT_REPAIR_ENTRY 0, 0x10F0001)] with prec := { repairs := List.replicate 63 (zeros 16) } }), by decide +kernel⟩⟩

theorem witness_SensorsSuppliesAndClocks :
  (∃ (tj : BitVec 12) (env : BootEnv) (s : State), s.boot.phase ≠ .heldHot) ∧
  (∃ (tj : BitVec 12) (env : BootEnv) (s : State), s.boot.phase = .heldHot) ∧
  (∃ (n : Fin 16) (s : State), n.val ≠ 2 ∧ (n.val < 8 ∨ nbit s.fuses.banks (n.val - 8) = true)) ∧
  (∃ (n : Fin 16) (s : State), (n.val = 2 ∨ (8 ≤ n.val ∧ nbit s.fuses.banks (n.val - 8) = false))) ∧
  (∃ (p : Fin 6) (s : State), rdB s rPWR_PLL p = true ∧ s.power.state ≠ .deep) ∧
  (∃ (p : Fin 6) (s : State), rdB s rPWR_PLL p = false) ∧
  (∃ (p : Fin 6) (s : State), s.power.state = .deep) :=
 ⟨⟨400, { train := .ok, flashBad := 3 }, ({ State.reset with power := { level := 0 } }), by decide +kernel⟩,
  ⟨2047, { train := .ok, flashBad := 3 }, ({ State.reset with boot := { phase := .heldHot } }), by decide +kernel⟩,
  ⟨0, (State.reset), by decide +kernel⟩,
  ⟨15, { State.reset with fuses := { banks := 0x7F } }, by decide +kernel⟩,
  ⟨5, (regsAt [(rPWR_PLL, 63)]), by decide +kernel⟩,
  ⟨5, (State.reset), by decide +kernel⟩,
  ⟨1, { regsAt [(rPWR_PLL, 2)] with power := { state := .deep } }, by decide +kernel⟩⟩

theorem witness_NewerSequence :
  (∃ (a b : Nat), a < 2 ^ 32 ∧ b < 2 ^ 32) ∧
  (∃ (a b : Nat), a < 2 ^ 32 ∧ b < 2 ^ 32) ∧
  (∃ (env : BootEnv) (s : State), slotHeader s env.flashBad 0 = none ∧ slotHeader s env.flashBad 1 = none ∧ seqNewer (leAt 0xC 4 (flashBytes s 0x1000000 16)) (leAt 0xC 4 (flashBytes s 0 16)) = false) :=
 ⟨⟨2147483648, 0, by decide +kernel⟩,
  ⟨2147483647, 0, by decide +kernel⟩,
  ⟨{ train := .ok }, (withFlash 0x1000000 (imgBytes.take 64) (withFlash 0 (imgBytes.take 64) State.reset)), ⟨by decide +kernel, by decide +kernel, by decide +kernel⟩⟩⟩

end Sys2Proof.Tests
end

/-! SUPPORT. What every command keeps: the queue, the fuses and the canonical form. Each operation of the model gets one
rule, named after it in the namespace `Keeps`: from `h : Keeps s₀ s`, the rule `h.op` gives `Keeps s₀ (op … s)`. The proof
of a composite operation is then the chain of the rules of its parts, in the order of its definition. -/

namespace Sys2Proof.Machine

open Sys2Proof

/-! ### The relation -/

/-- From `s₀` to `s` the queue and the fuses are the same, and the canonical form is kept. -/
def Keeps (s₀ s : State) : Prop :=
  s.pending = s₀.pending ∧ s.fuses = s₀.fuses ∧ (s₀.canonical → s.canonical)

/-- The outcome is a next state, and it keeps what `s₀` has. -/
def KeepsNext (s₀ : State) (o : Host.Outcome State Fault Refusal) : Prop := ∃ t, o = .next t ∧ Keeps s₀ t

/-! ### Sparse tables -/

section
variable {α : Type} [DecidableEq α] {d : Nat → α}

/-- A filter of a table in canonical form is in canonical form. -/
theorem twfFrom_filter (p : Nat × α → Bool) {lo : Nat} {t : Tab α} (w : twfFrom d lo t = true) :
    twfFrom d lo (t.filter p) = true := by
  induction t generalizing lo with
  | nil => rfl
  | cons e t ih =>
    obtain ⟨k, v⟩ := e
    simp only [twfFrom, Bool.and_eq_true, decide_eq_true_eq] at w
    obtain ⟨⟨hlo, hv⟩, ht⟩ := w
    by_cases hp : p (k, v) = true
    · simp [hp, twfFrom, hlo, hv, ih ht]
    · simpa [hp] using ih (twfFrom_mono d lo (k + 1) t (by omega) ht)

/-- Writes in a row keep the canonical form. -/
theorem twf_foldl_tput {β : Type} {key : β → Nat} {val : β → α} (l : List β) {t : Tab α} (w : twf d t = true) :
    twf d (l.foldl (fun t x => tput (d (key x)) t (key x) (val x)) t) = true := by
  induction l generalizing t with
  | nil => exact w
  | cons x l ih => exact ih (tput_wf d t _ _ w)

end

/-! ### Composition -/

namespace Keeps

section
variable {s₀ s : State}

protected theorem refl (s : State) : Keeps s s := ⟨rfl, rfl, id⟩

protected theorem ite {c : Prop} [Decidable c] {a b : State} (ha : Keeps s₀ a) (hb : Keeps s₀ b) :
    Keeps s₀ (if c then a else b) := by
  split
  exacts [ha, hb]

protected theorem iteFst {α : Type} {c : Prop} [Decidable c] {a b : State × α} (ha : Keeps s₀ a.1) (hb : Keeps s₀ b.1) :
    Keeps s₀ (if c then a else b).1 := by
  split
  exacts [ha, hb]

protected theorem iteSnd {α : Type} {c : Prop} [Decidable c] {a b : α × State} (ha : Keeps s₀ a.2) (hb : Keeps s₀ b.2) :
    Keeps s₀ (if c then a else b).2 := by
  split
  exacts [ha, hb]

protected theorem iteSndSnd {α β : Type} {c : Prop} [Decidable c] {a b : α × β × State} (ha : Keeps s₀ a.2.2)
    (hb : Keeps s₀ b.2.2) : Keeps s₀ (if c then a else b).2.2 := by
  split
  exacts [ha, hb]

/-- A fold keeps when each of its steps does; `st` is the state that the accumulator carries. -/
protected theorem foldlOn {α β : Type} {st : α → State} {f : α → β → α} {l : List β} {a : α}
    (h : Keeps s₀ (st a)) (hf : ∀ {a x}, Keeps s₀ (st a) → Keeps s₀ (st (f a x))) : Keeps s₀ (st (l.foldl f a)) := by
  induction l generalizing a with
  | nil => exact h
  | cons x l ih => exact ih (hf h)

protected theorem foldl {β : Type} {f : State → β → State} {l : List β} (h : Keeps s₀ s)
    (hf : ∀ {s x}, Keeps s₀ s → Keeps s₀ (f s x)) : Keeps s₀ (l.foldl f s) :=
  Keeps.foldlOn (st := id) h hf

protected theorem foldlSnd {α β : Type} {f : α × State → β → α × State} {l : List β} {a : α × State}
    (h : Keeps s₀ a.2) (hf : ∀ {a x}, Keeps s₀ a.2 → Keeps s₀ (f a x).2) : Keeps s₀ (l.foldl f a).2 :=
  Keeps.foldlOn (st := Prod.snd) h hf

end

end Keeps

namespace KeepsNext

section
variable {s₀ t : State} {a b : Host.Outcome State Fault Refusal}

protected theorem next (h : Keeps s₀ t) : KeepsNext s₀ (.next t) := ⟨t, rfl, h⟩

protected theorem ite {c : Prop} [Decidable c] (ha : KeepsNext s₀ a) (hb : KeepsNext s₀ b) :
    KeepsNext s₀ (if c then a else b) := by
  split
  exacts [ha, hb]

end

end KeepsNext

section
variable {s₀ s : State}

/-! ### Updates of the state's fields -/

/-- An update of the other fields than the queue, the fuses and the tables of the canonical form. -/
protected theorem Keeps.others {latches : Tab Word} {clock : Clock} {boot : Boot} {jobs : Tab Job} {keeper : Keeper}
    {flashOp : Option FlashOp} {prec : Prec} {power : Power} {fault : FaultSt} {pcie : Pcie} {frames : Tab Nat}
    {ports : Tab Port} {pipeq : Tab (List PipeItem)} {pctx : Tab PCtx} {pipeTurn : Tab Nat} {stage : Tab Nat}
    {spliceq : Tab (List (Nat × PipeItem))} {secCl : Tab SecCl} {secCtx : Tab SecCtx} {spliceTurn : Nat}
    {secPois : Tab Bool} {lens : Lens} {sems : Tab Sem} {fc : Fc} {lan : Tab Lan} {resv : List (Nat × Nat)}
    {dma : Tab Dma} {regul : Regul} {ddrValid : Tab Bool} {ddr : Ddr} {net : Net} {resp : Resp} {free : Nat}
    {limits : Tab Nat} (h : Keeps s₀ s) :
    Keeps s₀ { s with
      latches := latches, clock := clock, boot := boot, jobs := jobs, keeper := keeper,
      flashOp := flashOp, prec := prec, power := power, fault := fault, pcie := pcie, frames := frames,
      ports := ports, pipeq := pipeq, pctx := pctx, pipeTurn := pipeTurn, stage := stage, spliceq := spliceq,
      secCl := secCl, secCtx := secCtx, spliceTurn := spliceTurn, secPois := secPois, lens := lens, sems := sems,
      fc := fc, lan := lan, resv := resv, dma := dma, regul := regul, ddrValid := ddrValid, ddr := ddr, net := net,
      resp := resp, free := free, limits := limits } :=
  h

protected theorem Keeps.setMem {m : Tab Byte} (h : Keeps s₀ s) (w : Memory.wf s.mem = true → Memory.wf m = true) :
    Keeps s₀ { s with mem := m } := by
  obtain ⟨hp, hf, hc⟩ := h
  refine ⟨hp, hf, fun c => ?_⟩
  obtain ⟨hmem, hrest⟩ := hc c
  exact ⟨w hmem, hrest⟩

protected theorem Keeps.setFlashTable {m : Tab Byte} (h : Keeps s₀ s)
    (w : twf (fun _ => (255 : Byte)) s.flash = true → twf (fun _ => (255 : Byte)) m = true) :
    Keeps s₀ { s with flash := m } := by
  obtain ⟨hp, hf, hc⟩ := h
  refine ⟨hp, hf, fun c => ?_⟩
  obtain ⟨hmem, hflash, hrest⟩ := hc c
  exact ⟨hmem, w hflash, hrest⟩

protected theorem Keeps.setRegs {m : Tab Word} (h : Keeps s₀ s) (w : twf resetVal s.regs = true → twf resetVal m = true) :
    Keeps s₀ { s with regs := m } := by
  obtain ⟨hp, hf, hc⟩ := h
  refine ⟨hp, hf, fun c => ?_⟩
  obtain ⟨hmem, hflash, hregs, hrest⟩ := hc c
  exact ⟨hmem, hflash, w hregs, hrest⟩

protected theorem Keeps.setPoisonTable {m : Tab Bool} (h : Keeps s₀ s)
    (w : twf (fun _ => false) s.poison = true → twf (fun _ => false) m = true) : Keeps s₀ { s with poison := m } := by
  obtain ⟨hp, hf, hc⟩ := h
  refine ⟨hp, hf, fun c => ?_⟩
  obtain ⟨hmem, hflash, hregs, hpoison, hbank⟩ := hc c
  exact ⟨hmem, hflash, hregs, w hpoison, hbank⟩

/-- The program banks of the Sector engine change, and what the engine holds beside them. -/
protected theorem Keeps.setSecBank {m : Tab Byte} {pois : Tab Bool} {cl : Tab SecCl} {cx : Tab SecCtx}
    {q : Tab (List (Nat × PipeItem))} (h : Keeps s₀ s)
    (w : twf (fun _ => (0 : Byte)) s.secBank = true → twf (fun _ => (0 : Byte)) m = true) :
    Keeps s₀ { s with secBank := m, secPois := pois, secCl := cl, secCtx := cx, spliceq := q } := by
  obtain ⟨hp, hf, hc⟩ := h
  refine ⟨hp, hf, fun c => ?_⟩
  obtain ⟨hmem, hflash, hregs, hpoison, hbank⟩ := hc c
  exact ⟨hmem, hflash, hregs, hpoison, w hbank⟩

/-! ### Registers, counters, events and jobs -/

protected theorem Keeps.wr {off : Nat} {v : Word} (h : Keeps s₀ s) : Keeps s₀ (wr off v s) :=
  h.setRegs (tput_wf resetVal s.regs off v)

protected theorem Keeps.wrn {off v : Nat} (h : Keeps s₀ s) : Keeps s₀ (wrn off v s) := h.wr

protected theorem Keeps.wrF {off hi lo v : Nat} (h : Keeps s₀ s) : Keeps s₀ (wrF off hi lo v s) := h.wr

protected theorem Keeps.wrB {off i : Nat} {b : Bool} (h : Keeps s₀ s) : Keeps s₀ (wrB off i b s) := h.wr

protected theorem Keeps.wr64 {lo v : Nat} (h : Keeps s₀ s) : Keeps s₀ (wr64 lo v s) := h.wrn.wrn

protected theorem Keeps.bump {off n : Nat} (h : Keeps s₀ s) : Keeps s₀ (bump off n s) := h.wrn

protected theorem Keeps.bumpW {off n : Nat} (h : Keeps s₀ s) : Keeps s₀ (bumpW off n s) := h.wrn

protected theorem Keeps.wrWords {off : Nat} {vs : List Nat} (h : Keeps s₀ s) : Keeps s₀ (wrWords off vs s) := by
  induction vs generalizing off s with
  | nil => exact h
  | cons v t ih => exact ih h.wrn

protected theorem Keeps.onlyIf {b : Bool} {f : State → State} (h : Keeps s₀ s)
    (hf : ∀ {s}, Keeps s₀ s → Keeps s₀ (f s)) : Keeps s₀ (onlyIf b f s) :=
  .ite (hf h) h

protected theorem Keeps.forAll {α : Type} {l : List α} {f : α → State → State} (h : Keeps s₀ s)
    (hf : ∀ {x s}, Keeps s₀ s → Keeps s₀ (f x s)) : Keeps s₀ (forAll l f s) :=
  h.foldl fun h => hf h

protected theorem Keeps.answer {ws : List Word} (h : Keeps s₀ s) : Keeps s₀ (answer ws s) := h.others

protected theorem Keeps.answerErr {n : Nat} (h : Keeps s₀ s) : Keeps s₀ (answerErr n s) := h.others

protected theorem Keeps.takeFree (h : Keeps s₀ s) : Keeps s₀ (takeFree s).2 := h.others

protected theorem Keeps.limited {key period : Nat} {f : State → State} (h : Keeps s₀ s)
    (hf : ∀ {s}, Keeps s₀ s → Keeps s₀ (f s)) : Keeps s₀ (limited key period f s) :=
  .ite (hf h.others) h

protected theorem Keeps.assertSrc {n src : Nat} (h : Keeps s₀ s) : Keeps s₀ (assertSrc n src s) :=
  .ite (.ite h.wrB h.wrB) h

protected theorem Keeps.assertRouted {off lo src : Nat} (h : Keeps s₀ s) : Keeps s₀ (assertRouted off lo src s) :=
  .ite h.assertSrc h

protected theorem Keeps.msixSend {v : Nat} (h : Keeps s₀ s) : Keeps s₀ (msixSend v s) := h.others.wrB.bumpW

protected theorem Keeps.msixAssert {v : Nat} (h : Keeps s₀ s) : Keeps s₀ (msixAssert v s) := .ite h.msixSend h.wrB

protected theorem Keeps.msixRelease (h : Keeps s₀ s) : Keeps s₀ (msixRelease s) :=
  h.forAll fun h => .ite h.msixSend h

protected theorem Keeps.reachRef {r : JobRef} (h : Keeps s₀ s) : Keeps s₀ (reachRef r s) :=
  .ite h.others (.ite h.others h)

protected theorem Keeps.reachJob {e : Event} (h : Keeps s₀ s) : Keeps s₀ (reachJob e s) := by
  unfold reachJob
  split
  exacts [.ite h.reachRef h, h]

protected theorem Keeps.raiseNow {e : Event} {dt : Nat} {unsure : Bool} (h : Keeps s₀ s) :
    Keeps s₀ (raiseNow e dt unsure s) := by
  unfold raiseNow
  extract_lets cfg s1 s2 s3 s4 s5 s6 s7
  have h4 : Keeps s₀ s4 := (h.reachJob.bump.bumpW.onlyIf fun h => h.wrWords.wrn).onlyIf fun h => h.wrWords.wrn
  have h7 : Keeps s₀ s7 := ((h4.onlyIf fun h => h.msixAssert).onlyIf fun h => h.assertSrc).onlyIf fun h => h.others
  exact .ite h7.others h7

protected theorem Keeps.raiseEvt {e : Event} (h : Keeps s₀ s) : Keeps s₀ (raiseEvt e s) :=
  .ite (.ite h.others h.others.bump) h.raiseNow

protected theorem Keeps.raiseE {num dom : Nat} (h : Keeps s₀ s) : Keeps s₀ (raiseE num dom s) := h.raiseEvt

protected theorem Keeps.raiseA {num dom addr : Nat} (h : Keeps s₀ s) : Keeps s₀ (raiseA num dom addr s) :=
  h.raiseEvt

protected theorem Keeps.raiseJ {num dom : Nat} {j : Option JobRef} {addr : Nat} (h : Keeps s₀ s) :
    Keeps s₀ (raiseJ num dom j addr s) :=
  h.raiseEvt

protected theorem Keeps.raiseFatal {d cause : Nat} (h : Keeps s₀ s) : Keeps s₀ (raiseFatal d cause s) := h.raiseEvt

protected theorem Keeps.decodeErr {who addr : Nat} (h : Keeps s₀ s) : Keeps s₀ (decodeErr who addr s) :=
  h.bump.limited fun h => h.raiseEvt

protected theorem Keeps.journalAt {st : Nat × Bool} {i : Iface} {flags off : Nat} {old new : Word} (h : Keeps s₀ s)
    : Keeps s₀ (journalAt st i flags off old new s) :=
  .ite (.wrn (.others (h.wrWords.onlyIf fun h => h.wrn))) h

protected theorem Keeps.journal {i : Iface} {flags off : Nat} {old new : Word} (h : Keeps s₀ s) :
    Keeps s₀ (journal i flags off old new s) :=
  h.journalAt

protected theorem Keeps.setLan {n : Nat} {l : Lan} (h : Keeps s₀ s) : Keeps s₀ (setLan n l s) := h.others

protected theorem Keeps.unreserve {a len : Nat} (h : Keeps s₀ s) : Keeps s₀ (unreserve a len s) := .ite h h.others

protected theorem Keeps.setSem {n : Nat} {x : Sem} (h : Keeps s₀ s) : Keeps s₀ (setSem n x s) := h.others

protected theorem Keeps.semLoad {n c : Nat} (h : Keeps s₀ s) : Keeps s₀ (semLoad n c s) :=
  h.unreserve.setSem.onlyIf fun h => h.assertSrc

protected theorem Keeps.semRelease {n k : Nat} (h : Keeps s₀ s) : Keeps s₀ (semRelease n k s) :=
  .ite (h.semLoad.bump.limited fun h => h.raiseE) h.semLoad

protected theorem Keeps.semTake {n : Nat} (h : Keeps s₀ s) : Keeps s₀ (semTake n s) := .ite h.setSem h

protected theorem Keeps.setJob {k : Nat} {j : Job} (h : Keeps s₀ s) : Keeps s₀ (setJob k j s) := h.others

protected theorem Keeps.genAdvance {k : Nat} (h : Keeps s₀ s) : Keeps s₀ (genAdvance k s) := h.setJob

protected theorem Keeps.setByte {a : Nat} {b : Byte} (h : Keeps s₀ s) : Keeps s₀ (setByte a b s) :=
  h.setMem (setByte_memWf a b s)

protected theorem Keeps.setBytes {a : Nat} {bs : List Byte} (h : Keeps s₀ s) : Keeps s₀ (setBytes a bs s) := by
  induction bs generalizing a s with
  | nil => exact h
  | cons b t ih => exact ih h.setByte

protected theorem Keeps.setPoison {b : Nat} {v : Bool} (h : Keeps s₀ s) : Keeps s₀ (setPoison b v s) :=
  h.setPoisonTable (tput_wf (fun _ => false) s.poison b v)

protected theorem Keeps.markUnit {a len : Nat} {dirty : Bool} {u : Nat × Nat} (h : Keeps s₀ s) :
    Keeps s₀ (markUnit a len dirty u s) :=
  .ite h.setPoison (.ite h.setPoison h)

protected theorem Keeps.storeBytes {a : Nat} {bs : List Byte} {dirty : Bool} (h : Keeps s₀ s) :
    Keeps s₀ (storeBytes a bs dirty s) :=
  h.unreserve.setBytes.forAll fun h => h.markUnit

protected theorem Keeps.storeLe {a n v : Nat} (h : Keeps s₀ s) : Keeps s₀ (storeLe a n v s) := h.storeBytes

protected theorem Keeps.tick (h : Keeps s₀ s) : Keeps s₀ (tick s) := h.others

/-! ### Register accesses (R61 to R75) -/

protected theorem Keeps.logWrite {st : Nat × Bool} {i : Iface} {off : Nat} {old : Word} {v : Word} {ok : Bool}
    (h : Keeps s₀ s) : Keeps s₀ (logWrite st i off old v ok s) :=
  .ite (.ite h h.journalAt) (h.bump.onlyIf fun h => h.journalAt)

protected theorem Keeps.setLatch {i : Iface} {lo : Nat} {v : Word} (h : Keeps s₀ s) : Keeps s₀ (setLatch i lo v s) :=
  h.others

protected theorem Keeps.logTurned {i : Iface} {flags off : Nat} {v : Word} (h : Keeps s₀ s) :
    Keeps s₀ (logTurned i flags off v s) := by
  dsimp only [logTurned]
  split
  exacts [h, .ite (.ite h h.journal) (.journal (.ite h h.journal)), .ite h h.journal]

protected theorem Keeps.gatedWrite {i : Iface} {off : Nat} {v : Word} {eff : State → State × Bool} (h : Keeps s₀ s)
    (heff : ∀ {s}, Keeps s₀ s → Keeps s₀ (eff s).1) : Keeps s₀ (gatedWrite i off v eff s) := by
  unfold gatedWrite
  split
  · exact h.decodeErr.logTurned.answerErr
  · exact h.logTurned.answerErr
  · refine .ite h.answer.journal ?_
    refine .ite h.answer.setLatch ?_
    exact .ite (.logWrite (.logWrite (heff h.answer))) (.logWrite (heff h.answer))

protected theorem Keeps.internalErr {co : Coincident} (h : Keeps s₀ s) : Keeps s₀ (internalErr co s) := by
  unfold internalErr
  split
  · exact .ite (h.onlyIf fun h => h.raiseEvt) (h.onlyIf fun h => h.raiseFatal)
  · exact h
  · exact h
  · exact h
  · exact h
  · exact h

protected theorem Keeps.plainEffect {i : Iface} {off : Nat} {v : Word} {co : Coincident} (h : Keeps s₀ s) :
    Keeps s₀ (plainEffect i off v co s).1 := by
  unfold plainEffect
  split
  · exact h
  · split
    exacts [.iteFst h.wrB h.wr, .iteFst h h.wr]

protected theorem Keeps.pairEffect {i : Iface} {off : Nat} {lo v : Word} {co : Coincident} (h : Keeps s₀ s) :
    Keeps s₀ (pairEffect i off lo v co s).1 :=
  h.plainEffect.plainEffect

protected theorem Keeps.withUpdate {i : Iface} {r : RegRow} {off : Nat} {lo v : Word} {co : Coincident}
    {eff : Word → State → State × Bool} (h : Keeps s₀ s) (heff : ∀ {v s}, Keeps s₀ s → Keeps s₀ (eff v s).1) :
    Keeps s₀ (withUpdate i r off lo v co eff s).1 :=
  .iteFst (.iteFst h.pairEffect h.plainEffect) (.ite (heff (.ite h h.wr)) (.wr (heff (.ite h h.wr))))

protected theorem Keeps.busRead {i : Iface} {off : Nat} {co : Coincident} (h : Keeps s₀ s) :
    Keeps s₀ (busRead i off co s) := by
  unfold busRead
  split
  · exact h.decodeErr.answerErr
  · exact h.answerErr
  · refine .ite h.answer ?_
    refine .ite h.setLatch.answer ?_
    split
    exacts [h.answer, .answer (.ite h h.wr)]

/-! ### The engines' memory accesses -/

protected theorem Keeps.agentDecodeErr {g : Agent} {a : Nat} (h : Keeps s₀ s) : Keeps s₀ (agentDecodeErr g a s) := by
  unfold agentDecodeErr
  split
  exacts [h.decodeErr, h.takeFree.bump.limited fun h => h.raiseEvt]

protected theorem Keeps.spLatch {a kind port : Nat} (h : Keeps s₀ s) : Keeps s₀ (spLatch a kind port s) :=
  h.wr64.wrn

protected theorem Keeps.ownerViolation {p a : Nat} (h : Keeps s₀ s) : Keeps s₀ (ownerViolation p a s) :=
  h.spLatch.bump.limited fun h => h.raiseA

protected theorem Keeps.wmUncorrectable {p a : Nat} (h : Keeps s₀ s) : Keeps s₀ (wmUncorrectable p a s) :=
  h.spLatch.bump.onlyIf fun h => h.raiseA

protected theorem Keeps.psUncorrectable {p a : Nat} (h : Keeps s₀ s) : Keeps s₀ (psUncorrectable p a s) :=
  h.setPoison.spLatch.bump.raiseA

protected theorem Keeps.memErrEffect {p a : Nat} {e : MemErr} (h : Keeps s₀ s) : Keeps s₀ (memErrEffect p a e s) := by
  unfold memErrEffect
  split
  · exact h
  · exact h.bump
  · exact h.setPoison
  · exact h.setPoison.spLatch.bump.limited fun h => h.raiseA
  · exact h.bump
  · exact h.psUncorrectable
  · exact h

protected theorem Keeps.portRead {p a len : Nat} {e : MemErr} (h : Keeps s₀ s) : Keeps s₀ (portRead p a len e s).2 :=
  .iteSnd h.ownerViolation (.ite (h.memErrEffect.forAll fun h => h.wmUncorrectable) h.memErrEffect)

protected theorem Keeps.portWrite {p a : Nat} {bs : List Byte} {dirty : Bool} {e : MemErr} (h : Keeps s₀ s) :
    Keeps s₀ (portWrite p a bs dirty e s).2 := by
  refine .iteSnd h (.iteSnd h.ownerViolation ?_)
  extract_lets +onlyGivenNames rmw s1
  have h1 : Keeps s₀ s1 := .ite h.memErrEffect h
  refine .iteSnd ?_ (.iteSnd h1 h1.storeBytes)
  extract_lets +onlyGivenNames headBad tailBad s2 s3
  have h3 : Keeps s₀ s3 := (h1.onlyIf fun h => h.wmUncorrectable).onlyIf fun h => h.wmUncorrectable
  exact .iteSnd h3 h3.storeBytes

protected theorem Keeps.semWordRead {a : Nat} (h : Keeps s₀ s) : Keeps s₀ (semWordRead a s).2 := by
  dsimp only [semWordRead]
  split
  · exact h
  · exact h.semTake
  · exact h
  · exact h

protected theorem Keeps.semWordWrite {a v : Nat} (h : Keeps s₀ s) : Keeps s₀ (semWordWrite a v s).2 := by
  dsimp only [semWordWrite]
  split
  · exact h.unreserve.semLoad
  · exact h.unreserve.semRelease
  · exact h.unreserve
  · exact h.unreserve.setSem
  · exact h.unreserve

protected theorem Keeps.semWords {a k : Nat} (h : Keeps s₀ s) : Keeps s₀ (semWords a k s).2 := by
  induction k generalizing a s with
  | zero => exact h
  | succ k ih => exact ih h.semWordRead

protected theorem Keeps.semPuts {a k : Nat} {bs : List Byte} (h : Keeps s₀ s) : Keeps s₀ (semPuts a k bs s).2 := by
  induction k generalizing a bs s with
  | zero => exact h
  | succ k ih => exact ih h.semWordWrite

protected theorem Keeps.semRead {a len : Nat} (h : Keeps s₀ s) : Keeps s₀ (semRead a len s).2 :=
  .iteSnd h.semWords h

protected theorem Keeps.semWrite {a : Nat} {bs : List Byte} (h : Keeps s₀ s) : Keeps s₀ (semWrite a bs s).2 :=
  .iteSnd h.semPuts h

protected theorem Keeps.drawOne {k n : Nat} (h : Keeps s₀ s) : Keeps s₀ (drawOne k n s) := .ite h.wrn h

protected theorem Keeps.drawAll {k a len : Nat} (h : Keeps s₀ s) : Keeps s₀ (drawAll k a len s) :=
  h.forAll fun h => h.drawOne

protected theorem Keeps.fullRetrain (h : Keeps s₀ s) : Keeps s₀ (fullRetrain s) := h.others.wrF.bump.raiseE

protected theorem Keeps.dramWake (h : Keeps s₀ s) : Keeps s₀ (dramWake s) := .ite h.others.wrB.fullRetrain h

protected theorem Keeps.dramTouch {a len : Nat} (h : Keeps s₀ s) : Keeps s₀ (dramTouch a len s) := h.others

protected theorem Keeps.dramReach {a len : Nat} (h : Keeps s₀ s) : Keeps s₀ (dramReach a len s) :=
  h.dramWake.dramTouch

protected theorem Keeps.highWater {r w : Nat} (h : Keeps s₀ s) : Keeps s₀ (highWater r w s) := h.wrn

protected theorem Keeps.transferHeld {isWrite : Bool} (h : Keeps s₀ s) : Keeps s₀ (transferHeld isWrite s) :=
  h.highWater

protected theorem Keeps.dramCount {k len : Nat} (h : Keeps s₀ s) : Keeps s₀ (dramCount k len s) := h.wr64

protected theorem Keeps.dramServed {k a len : Nat} (h : Keeps s₀ s) : Keeps s₀ (dramServed k a len s) :=
  .ite h h.dramReach.drawAll.dramCount

protected theorem Keeps.dramUncorrectable {k a : Nat} (h : Keeps s₀ s) : Keeps s₀ (dramUncorrectable k a s) :=
  h.bump.wr64.raiseA

protected theorem Keeps.dramRead {k a len : Nat} (h : Keeps s₀ s) : Keeps s₀ (dramRead k a len s).2 :=
  h.transferHeld.dramServed.forAll fun h => h.dramUncorrectable

protected theorem Keeps.dramInit {a len : Nat} (h : Keeps s₀ s) : Keeps s₀ (dramInit a len s) := .ite h h.others

protected theorem Keeps.partRefused {a : Nat} (h : Keeps s₀ s) : Keeps s₀ (partRefused a s) := h.bump.wr64

protected theorem Keeps.replaceWords {a n : Nat} (h : Keeps s₀ s) : Keeps s₀ (replaceWords a n s) := .ite h h.others

protected theorem Keeps.dramWrite {k a : Nat} {bs : List Byte} (h : Keeps s₀ s) : Keeps s₀ (dramWrite k a bs s).2 := by
  refine .iteSnd h ?_
  exact .storeBytes (.replaceWords (.onlyIf (h.transferHeld.dramServed.dramInit.onlyIf fun h => h.partRefused)
    fun h => h.partRefused))

protected theorem Keeps.devRead {g : Agent} {a len : Nat} (h : Keeps s₀ s) : Keeps s₀ (devRead g a len s).2 := by
  refine .iteSnd h.agentDecodeErr ?_
  refine .iteSnd h ?_
  split
  · exact h.portRead
  · exact h.portRead
  · exact h.portRead
  · exact h.dramRead
  · exact h
  · exact h
  · exact h.semRead
  · exact h
  · exact h
  · exact h

protected theorem Keeps.devWrite {g : Agent} {a : Nat} {bs : List Byte} {dirty : Bool} (h : Keeps s₀ s) :
    Keeps s₀ (devWrite g a bs dirty s).2 := by
  refine .iteSnd h.agentDecodeErr ?_
  refine .iteSnd h ?_
  split
  · exact h.portWrite
  · exact h.portWrite
  · exact h.portWrite
  · exact h.dramWrite
  · exact h.storeBytes
  · exact h.storeBytes
  · exact h.semWrite
  · exact h
  · exact h
  · exact h

protected theorem Keeps.devPut {g : Agent} {a : Nat} {bs : List Byte} {dirty : Bool} (h : Keeps s₀ s) :
    Keeps s₀ (devPut g a bs dirty s) :=
  h.devWrite

/-! ### The LPDDR5X controller -/

protected theorem Keeps.ddrLoad {p : List Byte} (h : Keeps s₀ s) : Keeps s₀ (ddrLoad p s) := h.wrn.wrn

protected theorem Keeps.ddrUnload (h : Keeps s₀ s) : Keeps s₀ (ddrUnload s) := h.wrn.wrn

protected theorem Keeps.dramLost (h : Keeps s₀ s) : Keeps s₀ (dramLost s) :=
  ((h.setMem (tclear_wfFrom _ 0 dramBase hostBase s.mem)).setPoisonTable
    (tclear_wfFrom _ 0 dramBase hostBase s.poison)).others

protected theorem Keeps.ddrTrain {r : TrainResult} (h : Keeps s₀ s) : Keeps s₀ (ddrTrain r s) := by
  dsimp only [ddrTrain]
  split
  exacts [h.others.dramLost.wrF.wrF.wrF, h.others.dramLost.wrF.wrF.wrF.raiseE]

protected theorem Keeps.inflight (h : Keeps s₀ s) : Keeps s₀ (inflight s) := h.wrn.highWater

protected theorem Keeps.takeRead {x : DdrReq} (h : Keeps s₀ s) : Keeps s₀ (takeRead x s) :=
  h.dramReach.drawOne.others.inflight

protected theorem Keeps.rmwFinds {a at_ n : Nat} {e : MemErr} (h : Keeps s₀ s) : Keeps s₀ (rmwFinds a at_ n e s) := by
  refine .ite h ?_
  split
  exacts [h, h.bump, h.setPoison]

protected theorem Keeps.takeWrite {x : DdrReq} (h : Keeps s₀ s) : Keeps s₀ (takeWrite x s).2 :=
  .inflight (.others (.dramWrite (.ite h.rmwFinds h.rmwFinds.rmwFinds)))

protected theorem Keeps.execDramReadRequest {cls : Fin 4} {addr : BitVec 48} {len : Fin 257} (h : Keeps s₀ s) :
    KeepsNext s₀ (execDramReadRequest cls addr len s) :=
  .ite (.next h.answerErr) (.ite (.next h.agentDecodeErr.answerErr) (.ite (.next h.takeRead) (.next h.others)))

protected theorem Keeps.execDramWriteRequest {cls : Fin 4} {addr : BitVec 48} {data : DramData} (h : Keeps s₀ s) :
    KeepsNext s₀ (execDramWriteRequest cls addr data s) := by
  refine .ite (.next h.answerErr) ?_
  refine .ite (.next h.agentDecodeErr.answerErr) ?_
  exact .ite (.next (.ite h.takeWrite.answer h.takeWrite.answerErr)) (.next h.others)

protected theorem Keeps.inlineFinds {x : DdrReq} {ecc : List (Nat × MemErr)} (h : Keeps s₀ s) :
    Keeps s₀ (inlineFinds x ecc s) := by
  refine .forAll h fun h => ?_
  split
  exacts [h, h.bump, .ite h h.setPoison]

protected theorem Keeps.execDramReadReturn {k : Fin 2048} {link : List (Fin 4 × MemErr)}
    {ecc : List (Fin 32 × MemErr)} {waited : BitVec 32} (h : Keeps s₀ s) :
    KeepsNext s₀ (execDramReadReturn k link ecc waited s) := by
  unfold execDramReadReturn
  split
  · exact .next h
  · refine .ite (.next h) ?_
    extract_lets +onlyGivenNames s1 _ s2 base ecc' s3 new bad s4 link' s5 lost s6
    have h4 : Keeps s₀ s4 :=
      .dramCount ((h.onlyIf fun h => h.bumpW).others.inlineFinds.forAll fun h => h.dramUncorrectable)
    have h6 : Keeps s₀ s6 := (h4.forAll fun h => h.onlyIf fun h => h.bump).forAll fun h => h.dramUncorrectable
    refine .next ?_
    split
    exacts [h6.answer.others.inflight, h6.answer.others.others.takeRead]

protected theorem Keeps.execDramWriteBufferFree {k : Fin 512} {w : BufferDone} (h : Keeps s₀ s) :
    KeepsNext s₀ (execDramWriteBufferFree k w s) := by
  refine .ite (.next h) ?_
  extract_lets +onlyGivenNames s1 s2 _ s3
  have h3 : Keeps s₀ s3 := ((h.onlyIf fun h => h.bump).onlyIf fun h => h.bumpW).others
  split
  · exact .next h3.inflight
  · exact .next (.ite h3.others.takeWrite.answer h3.others.takeWrite.answerErr)

protected theorem Keeps.execEccBackgroundInit (h : Keeps s₀ s) : KeepsNext s₀ (execEccBackgroundInit s) := by
  refine .ite (.next h) ?_
  split
  exacts [.next h, .next h.others]

protected theorem Keeps.execPatrolRead {err : List (Fin 8 × MemErr)} (h : Keeps s₀ s) :
    KeepsNext s₀ (execPatrolRead err s) := by
  refine .ite (.next h) ?_
  refine .ite ?_ ?_
  · exact .next (.bump (.others (h.inlineFinds.forAll fun h => h.dramUncorrectable)))
  · exact .next (.others (h.inlineFinds.forAll fun h => h.dramUncorrectable))

protected theorem Keeps.execMr4Poll {r0 r1 r2 r3 r4 r5 : RefreshRate} {linkFails : BitVec 8} (h : Keeps s₀ s) :
    KeepsNext s₀ (execMr4Poll r0 r1 r2 r3 r4 r5 linkFails s) :=
  .ite (.next h) (.next (.onlyIf (.wrF (h.wrn.onlyIf fun h => h.bump)) fun h => h.raiseE))

protected theorem Keeps.execTrackingRead {drifted : Bool} (h : Keeps s₀ s) :
    KeepsNext s₀ (execTrackingRead drifted s) := by
  refine .ite (.next h) ?_
  refine .ite (.next h.fullRetrain) ?_
  exact .ite (.next h.others.bump) (.ite (.next h.others.bump.fullRetrain) (.next h.others.bump.others))

protected theorem Keeps.execDeferredFullRetrain (h : Keeps s₀ s) : KeepsNext s₀ (execDeferredFullRetrain s) :=
  .ite (.next h.fullRetrain) (.next h)

protected theorem Keeps.execFullRetrainEnd (h : Keeps s₀ s) : KeepsNext s₀ (execFullRetrainEnd s) :=
  .ite (.next h.others.wrF) (.next h)

protected theorem Keeps.execChannelPowerDown {ch : Fin 24} (h : Keeps s₀ s) :
    KeepsNext s₀ (execChannelPowerDown ch s) :=
  .ite (.next h.others) (.next h)

protected theorem Keeps.regulLoad {p : List Byte} (h : Keeps s₀ s) : Keeps s₀ (regulLoad p s) :=
  h.forAll fun h => h.others.wrn.wrn

protected theorem Keeps.execTokenRefill (h : Keeps s₀ s) : KeepsNext s₀ (execTokenRefill s) :=
  .next (h.forAll fun h => h.wrn)

protected theorem Keeps.execAvailReport (h : Keeps s₀ s) : KeepsNext s₀ (execAvailReport s) := by
  unfold execAvailReport
  extract_lets +onlyGivenNames a _ s1 eff s2 isCut s3 any _ s4
  have h2 : Keeps s₀ s2 := h.others.wrn.wrF.forAll fun h => h.wrF
  have h3 : Keeps s₀ s3 := h2.forAll fun h => h.wrB.onlyIf fun h => h.bump
  have h4 : Keeps s₀ s4 := .ite h3.others h3
  exact .ite (.next h4.wrB.raiseA) (.next h4)

protected theorem Keeps.execCutEpisodeEnd (h : Keeps s₀ s) : KeepsNext s₀ (execCutEpisodeEnd s) :=
  .ite (.next h.wrB) (.next h)

/-! ### Lantern cores -/

protected theorem Keeps.dropResv {n : Nat} (h : Keeps s₀ s) : Keeps s₀ (dropResv n s) := h.others

protected theorem Keeps.breakResv {n : Nat} (h : Keeps s₀ s) : Keeps s₀ (breakResv n s) := h.setLan.dropResv

protected theorem Keeps.lanStop {n : Nat} (h : Keeps s₀ s) : Keeps s₀ (lanStop n s) := h.setLan.breakResv

protected theorem Keeps.reachLantern (h : Keeps s₀ s) : Keeps s₀ (reachLantern s) :=
  h.forAll fun h => .ite (h.takeFree.onlyIf fun h => h.reachRef) h

protected theorem Keeps.lanDouble {n : Nat} (h : Keeps s₀ s) : Keeps s₀ (lanDouble n s) :=
  h.lanStop.setLan.raiseE.reachLantern

protected theorem Keeps.imemHalt {n : Nat} (h : Keeps s₀ s) : Keeps s₀ (imemHalt n s) :=
  h.lanStop.raiseE.reachLantern

protected theorem Keeps.lanCorrected {n : Nat} {e : MemErr} (h : Keeps s₀ s) : Keeps s₀ (lanCorrected n e s) :=
  .ite h.setLan h

protected theorem Keeps.raiseSyncs {n at_ : Nat} {fs : List (Nat × Option Nat)} (h : Keeps s₀ s) :
    Keeps s₀ (raiseSyncs n at_ fs s) := by
  unfold raiseSyncs
  extract_lets +onlyGivenNames s1
  have h1 : Keeps s₀ s1 := h.forAll fun h => by
    dsimp only
    split
    exacts [.wr64 (h.onlyIf fun h => h.raiseE), h.onlyIf fun h => h.raiseE]
  exact .ite h1 (.ite h1.lanDouble (h1.forAll fun h => h.setLan.wrB))

protected theorem Keeps.raiseSync {n src at_ : Nat} {addr : Option Nat} (h : Keeps s₀ s) :
    Keeps s₀ (raiseSync n src at_ addr s) :=
  h.raiseSyncs

protected theorem Keeps.srcTaken {n src : Nat} (h : Keeps s₀ s) : Keeps s₀ (srcTaken n src s) :=
  .ite (.bump (.wrn (.ite h.wrB h.wrB))) (.bump (.ite h.wrB h.wrB))

protected theorem Keeps.bundleAddr {a : Nat} (h : Keeps s₀ s) : Keeps s₀ (bundleAddr a s).2 := .iteSnd h h.takeFree

protected theorem Keeps.vectorOf {n src : Nat} (h : Keeps s₀ s) : Keeps s₀ (vectorOf n src s).2 := h.bundleAddr

protected theorem Keeps.acceptSrc {n src : Nat} (h : Keeps s₀ s) : Keeps s₀ (acceptSrc n src s) :=
  .ite (.ite h.wr64.lanDouble h.wr64.setLan.wrB) h.setLan.storeBytes.vectorOf.srcTaken.setLan.breakResv

protected theorem Keeps.returnFrame {n f : Nat} (h : Keeps s₀ s) : Keeps s₀ (returnFrame n f s) :=
  h.bundleAddr.setLan

protected theorem Keeps.chainFrame {n f src : Nat} (h : Keeps s₀ s) : Keeps s₀ (chainFrame n f src s) :=
  h.storeLe.vectorOf.srcTaken.setLan.breakResv

protected theorem Keeps.finishReti {n : Nat} {r : LRet} (h : Keeps s₀ s) : Keeps s₀ (finishReti n r s) := by
  unfold finishReti
  split
  exacts [.ite h.chainFrame h.returnFrame, h.returnFrame]

protected theorem Keeps.haltIfDue {n : Nat} (h : Keeps s₀ s) : Keeps s₀ (haltIfDue n s) := .ite h.lanStop h

protected theorem Keeps.execInterruptAccept {v : VectorRead} (h : Keeps s₀ s) :
    KeepsNext s₀ (execInterruptAccept v s) := by
  refine .ite (.next h) ?_
  split
  · exact .next h
  · exact .next (.ite h.setLan.imemHalt h.setLan.lanCorrected.acceptSrc.haltIfDue)

protected theorem Keeps.coreReset {n : Nat} (h : Keeps s₀ s) : Keeps s₀ (coreReset n s) :=
  .reachLantern (.raiseE (.bump (.wr64 (.wrn (h.setLan.dropResv.wrn.wrn.forAll fun h => h.wrn)))))

protected theorem Keeps.lanResume {n : Nat} (h : Keeps s₀ s) : Keeps s₀ (lanResume n s) := h.setLan

protected theorem Keeps.lcCtrlEffect {n : Nat} {v : Word} (h : Keeps s₀ s) : Keeps s₀ (lcCtrlEffect n v s).1 :=
  .haltIfDue (.ite h.wrB.coreReset (.ite h.wrB.lanResume h.wrB))

protected theorem Keeps.lcRaiseEffect {n : Nat} {lo hi : Word} (h : Keeps s₀ s) :
    Keeps s₀ (lcRaiseEffect n lo hi s).1 :=
  h.wr.wr

protected theorem Keeps.execLanternHalt {ifc : Iface} {n : Fin 18} (h : Keeps s₀ s) :
    KeepsNext s₀ (execLanternHalt ifc n s) :=
  .next (h.gatedWrite fun h => h.lcCtrlEffect)

protected theorem Keeps.execLanternResume {ifc : Iface} {n : Fin 18} (h : Keeps s₀ s) :
    KeepsNext s₀ (execLanternResume ifc n s) :=
  .next (h.gatedWrite fun h => h.lcCtrlEffect)

protected theorem Keeps.execLanternCoreReset {ifc : Iface} {n : Fin 18} {halt : Bool} (h : Keeps s₀ s) :
    KeepsNext s₀ (execLanternCoreReset ifc n halt s) :=
  .next (h.gatedWrite fun h => h.lcCtrlEffect)

protected theorem Keeps.execLcRaise {ifc : Iface} {n : Fin 18} {hi : Bool} {v : Word} (h : Keeps s₀ s) :
    KeepsNext s₀ (execLcRaise ifc n hi v s) :=
  .next (h.gatedWrite fun h => h.lcRaiseEffect)

protected theorem Keeps.outsideBad {n : Nat} {a : Nat} (h : Keeps s₀ s) : Keeps s₀ (outsideBad n a s) := by
  unfold outsideBad
  split
  exacts [h.imemHalt, h.raiseE]

protected theorem Keeps.execExternalLocalAccess {n : Fin 18} {off : BitVec 24} {write : Option (List Byte)}
    {len : BitVec 8} {x : SlotAccess} (h : Keeps s₀ s) :
    KeepsNext s₀ (execExternalLocalAccess n off write len x s) := by
  refine .ite (.next h.agentDecodeErr.answerErr) ?_
  refine .ite (.next h.answerErr) ?_
  refine .ite ?_ ?_
  · exact .next (.answerErr (.outsideBad (h.onlyIf fun h => h.bumpW)))
  · dsimp only
    split
    · exact .next (.answer (.storeBytes (.onlyIf (h.onlyIf fun h => h.bumpW) fun h => h.lanCorrected)))
    · exact .next (.answer (.onlyIf (h.onlyIf fun h => h.bumpW) fun h => h.lanCorrected))

/-! ### The tiles of a Lens operation -/

protected theorem Keeps.lensErrs {rs : List (Nat × Nat × Nat)} {errs : List (Nat × MemErr)} (h : Keeps s₀ s) :
    Keeps s₀ (lensErrs rs errs s) := by
  refine .forAll h fun h => ?_
  split
  exacts [.ite h.memErrEffect h, h]

protected theorem Keeps.lensOwners {rs : List (Nat × Nat × Nat)} (h : Keeps s₀ s) : Keeps s₀ (lensOwners rs s) :=
  h.forAll fun h => .ite h.ownerViolation h

protected theorem Keeps.lensPsRead {d : LDesc} {r : Nat} (h : Keeps s₀ s) : Keeps s₀ (lensPsRead d r s).2 :=
  h.portRead

protected theorem Keeps.lensPsWrite {r : Nat} {v : List Int} {bad fresh : Bool} (h : Keeps s₀ s) :
    Keeps s₀ (lensPsWrite r v bad fresh s) :=
  .ite h.portWrite.setPoison h.portWrite

protected theorem Keeps.lensStore {t : LBytes} (h : Keeps s₀ s) : Keeps s₀ (lensStore t s) :=
  h.forAll fun h => h.devPut

/-! ### The Lens's queue and commands -/

protected theorem Keeps.setLensOp {o : LensOp} (h : Keeps s₀ s) : Keeps s₀ (setLensOp o s) := h.others

protected theorem Keeps.dropLensOp {seq : Nat} (h : Keeps s₀ s) : Keeps s₀ (dropLensOp seq s) := h.others

protected theorem Keeps.lensRefresh (h : Keeps s₀ s) : Keeps s₀ (lensRefresh s) := by
  unfold lensRefresh
  extract_lets +onlyGivenNames s1
  have h1 : Keeps s₀ s1 := h.forAll fun h => by
    split
    exacts [h.wrWords, h.wrWords]
  exact .wr (.ite h1 h1.others)

protected theorem Keeps.lensRefuse {a why : Nat} {j : Option JobRef} (h : Keeps s₀ s) :
    Keeps s₀ (lensRefuse a why j s) :=
  h.wrB.wrF.wr64.bump.raiseJ.assertRouted

protected theorem Keeps.lensFetch {j : Option JobRef} {a n : Nat} (h : Keeps s₀ s) :
    Keeps s₀ (lensFetch j a n s).2 :=
  h.devRead.onlyIf fun h => h.raiseJ

protected theorem Keeps.lensPush {a : Nat} (h : Keeps s₀ s) : Keeps s₀ (lensPush a s) :=
  .ite h.bump.lensFetch.lensRefuse h.bump.lensFetch.others.lensRefresh

protected theorem Keeps.lensPushEffect {i : Iface} {hi : Word} (h : Keeps s₀ s) : Keeps s₀ (lensPushEffect i hi s).1 := by
  dsimp only [lensPushEffect]
  exact h.pairEffect.lensPush

protected theorem Keeps.execLensPush {ifc : Iface} {hi : Word} (h : Keeps s₀ s) :
    KeepsNext s₀ (execLensPush ifc hi s) :=
  .next (h.gatedWrite fun h => h.lensPushEffect)

protected theorem Keeps.lensDiscard {seq : Nat} (h : Keeps s₀ s) : Keeps s₀ (lensDiscard seq s) :=
  h.dropLensOp.bump.lensRefresh

protected theorem Keeps.execLensAdmit (h : Keeps s₀ s) : KeepsNext s₀ (execLensAdmit s) := by
  refine .ite (.next h) ?_
  split
  exacts [.ite (.next h.lensDiscard) (.next h.setLensOp.lensRefresh), .next h]

protected theorem Keeps.execLensAdmissionLoaded {slot : Fin 8} (h : Keeps s₀ s) :
    KeepsNext s₀ (execLensAdmissionLoaded slot s) := by
  unfold execLensAdmissionLoaded
  split
  · exact .next h
  · refine .ite (.next h) ?_
    extract_lets +onlyGivenNames d quant q pwl s1 sub s2 map
    have h1 : Keeps s₀ s1 := .iteSnd h.lensFetch.lensFetch h.lensFetch
    have h2 : Keeps s₀ s2 := h1.bump.wr64.wrB.wrF
    have hmap : Keeps s₀ map.2 := .iteSnd h1.lensFetch h1
    exact .ite (.next h2.lensRefuse.dropLensOp.lensRefresh) (.next hmap.setLensOp.lensRefresh)

protected theorem Keeps.lensTake {o : LensOp} (h : Keeps s₀ s) : Keeps s₀ (lensTake o s) :=
  .ite (.setLensOp (h.forAll fun h => h.semTake)) h

protected theorem Keeps.execLensStepCountsTaken (h : Keeps s₀ s) : KeepsNext s₀ (execLensStepCountsTaken s) := by
  refine .ite (.next h) ?_
  split
  exacts [.next h.lensTake.lensRefresh, .next h]

protected theorem Keeps.lensHit {seq : Nat} {d : LDesc} {hit : Bool} (h : Keeps s₀ s) :
    Keeps s₀ (lensLoad.lensHit seq d hit s) := by
  refine .ite h ?_
  dsimp only
  split
  exacts [.ite h.bump h.bump.raiseJ.setLensOp, h.bump]

protected theorem Keeps.lensLoad {o : LensOp} {errs : List (Nat × MemErr)} (h : Keeps s₀ s) :
    Keeps s₀ (lensLoad o errs s) :=
  .ite h h.lensErrs.portRead.others.lensHit

protected theorem Keeps.lensLoadCols {o : LensOp} {errs : List (Nat × MemErr)} (h : Keeps s₀ s) :
    Keeps s₀ (lensLoadCols o errs s) := by
  refine .ite h ?_
  refine .lensHit ?_
  split
  exacts [h.lensErrs.devRead.setLensOp, h.lensErrs.devRead]

/-! A tile in work carries the device in its field `s`. -/

protected theorem Keeps.iteWork {c : Prop} [Decidable c] {a b : LWork} (ha : Keeps s₀ a.s) (hb : Keeps s₀ b.s) :
    Keeps s₀ (if c then a else b).s := by
  split
  exacts [ha, hb]

protected theorem Keeps.lensEmit {w : LOut} {nt ri : Nat} {bad : Bool} {vs : List (Nat × Int)} {k : LWork}
    (h : Keeps s₀ k.s) : Keeps s₀ (lensEmit w nt ri bad vs k).s :=
  .iteWork (.iteWork (.foldlOn (st := LWork.s) h id) (.foldlOn (st := LWork.s) h id))
    (.iteWork h (.foldlOn (st := LWork.s) h id))

protected theorem Keeps.lensSideOut {w : LOut} {nt ri : Nat} {bad : Bool} {es : List LElem} {k : LWork}
    (h : Keeps s₀ k.s) : Keeps s₀ (lensSideOut w nt ri bad es k).s :=
  .iteWork h h

protected theorem Keeps.lensOut {w : LOut} {nt ri rs : Nat} {bad : Bool} {sums : List Int} {k : LWork}
    (h : Keeps s₀ k.s) : Keeps s₀ (lensOut w nt ri rs bad sums k).s := by
  refine .iteWork (.lensEmit ?_) (.bump (.bumpW (.lensEmit ?_)))
  all_goals
    split
    · exact h
    · dsimp only
      split
      exacts [h.lensSideOut, h.lensSideOut]

protected theorem Keeps.lensSums {w : LOut} {nt kt p ri : Nat} {v : List Int} {bad : Bool} {k : LWork}
    (h : Keeps s₀ k.s) : Keeps s₀ (lensSums w nt kt p ri v bad k).s := by
  unfold lensSums
  extract_lets +onlyGivenNames d drain lastK rs rsBad toOut stay
  have hOut {v bad} {k : LWork} (h : Keeps s₀ k.s) : Keeps s₀ (toOut v bad k).s := h.lensOut
  have hStay {r v bad fresh} {k : LWork} (h : Keeps s₀ k.s) : Keeps s₀ (stay r v bad fresh k).s := h.lensPsWrite.bump
  split
  · exact hOut h
  · split
    · exact h
    · split
      · exact hStay h
      · have hRead {r} : Keeps s₀ (lensPsRead d r k.s).2 := h.lensPsRead
        dsimp only
        split
        exacts [hOut hRead, hStay hRead]

protected theorem Keeps.lensPositions {w : LOut} {nt kt : Nat} {wbad : Bool} {ps : List Nat} {k : LWork}
    (h : Keeps s₀ k.s) : Keeps s₀ (lensPositions w nt kt wbad ps k).s := by
  refine .foldlOn (st := LWork.s) h fun h => ?_
  refine .iteWork (.foldlOn (st := LWork.s) ?_ fun h => h.lensSums) (.iteWork (.lensSums ?_) (.lensSums ?_))
  all_goals exact .iteWork h (.ite h.bump h.bump.raiseJ)

protected theorem Keeps.lensCounts {a b : LensOp} (h : Keeps s₀ s) : Keeps s₀ (lensCounts a b s) :=
  h.bump.bump.bump.bump.bump.bump.bump

protected theorem Keeps.lensFree (h : Keeps s₀ s) : Keeps s₀ (lensFree s) := h.others

protected theorem Keeps.lensFlagAll {d : LDesc} (h : Keeps s₀ s) : Keeps s₀ (lensFlagAll d s) :=
  h.forAll fun h => .ite h.setPoison h

protected theorem Keeps.lensTile {o : LensOp} {errs : List (Nat × MemErr)} (h : Keeps s₀ s) :
    Keeps s₀ (lensTile o errs s) := by
  exact .setLensOp (.onlyIf (.bumpW (.bumpW (.lensFree (.lensCounts
    (h.lensErrs.lensOwners.lensPositions.lensStore.onlyIf fun h => h.lensFlagAll))))) fun h => h.semRelease)

protected theorem Keeps.lensStepEnd {seq : Nat} (h : Keeps s₀ s) : Keeps s₀ (lensStepEnd seq s) := by
  unfold lensStepEnd
  split
  · exact h
  · refine .ite h ?_
    extract_lets +onlyGivenNames ahead
    have hahead : Keeps s₀ ahead := h.foldl fun h => by
      split
      exacts [h.lensTake, h]
    exact .ite (hahead.forAll fun h => h.semTake).setLensOp hahead

protected theorem Keeps.lensFinish {errs : List (Nat × MemErr)} (h : Keeps s₀ s) : Keeps s₀ (lensFinish errs s) := by
  unfold lensFinish
  split
  · exact h
  · dsimp only
    split
    exacts [h.others, .ite h.others.lensDiscard h.others.lensTile.lensStepEnd]

protected theorem Keeps.lensStart {o : LensOp} {errs : List (Nat × MemErr)} (h : Keeps s₀ s) :
    Keeps s₀ (lensStart o errs s) :=
  h.setLensOp.lensLoad.lensLoadCols.others

protected theorem Keeps.lensCharge {feed out wload : BitVec 32} {idle : List (BitVec 32)} (h : Keeps s₀ s) :
    Keeps s₀ (lensCharge feed out wload idle s) :=
  .others (h.bumpW.bumpW.bumpW.forAll fun h => h.bumpW)

protected theorem Keeps.lensNext {errs : List (Nat × MemErr)} (h : Keeps s₀ s) : Keeps s₀ (lensNext errs s) := by
  refine .ite h.lensRefresh.wrB ?_
  split
  · exact h.lensRefresh
  · extract_lets +onlyGivenNames counted s1
    have h1 : Keeps s₀ s1 := by
      refine .ite ?_ h
      split
      exacts [h.bump.bumpW.setLensOp, h.bump.bumpW]
    exact .ite h1.lensDiscard h1.lensStart.lensRefresh

protected theorem Keeps.lensReset (h : Keeps s₀ s) : Keeps s₀ (lensReset s) := h.others

protected theorem Keeps.lensFenced (h : Keeps s₀ s) : Keeps s₀ (lensFenced s) := h.others

protected theorem Keeps.execLensTileBoundary {errs : List (BitVec 48 × MemErr)} {feed out wload : BitVec 32}
    {idle : List (BitVec 32)} (h : Keeps s₀ s) : KeepsNext s₀ (execLensTileBoundary errs feed out wload idle s) :=
  .ite (.next h.lensFinish.lensReset) (.ite (.next h) (.next h.lensCharge.lensFinish.lensNext))

protected theorem Keeps.execLensRetire {slot : Fin 8} (h : Keeps s₀ s) : KeepsNext s₀ (execLensRetire slot s) := by
  unfold execLensRetire
  split
  · exact .next h
  · refine .ite (.next h) ?_
    extract_lets +onlyGivenNames d w q cols outs sat zero s1 event s2 s3
    have h1 : Keeps s₀ s1 := .ite h.devPut.bump h
    have hevent {on num cnt} {s : State} (h : Keeps s₀ s) : Keeps s₀ (event on num cnt s) :=
      .ite (h.bump.raiseJ.onlyIf fun h => h.assertSrc) h
    have h3 : Keeps s₀ s3 := (hevent (hevent h1)).onlyIf fun h => h.semRelease
    exact .next h3.dropLensOp.bump.lensRefresh

protected theorem Keeps.lensCtrlEffect {i : Iface} {v : Word} (h : Keeps s₀ s) : Keeps s₀ (lensCtrlEffect i v s).1 :=
  .ite (.ite h.plainEffect h.plainEffect.wrB) h.plainEffect.wrB

protected theorem Keeps.execLensHalt {ifc : Iface} (h : Keeps s₀ s) : KeepsNext s₀ (execLensHalt ifc s) :=
  .next (h.gatedWrite fun h => h.lensCtrlEffect)

protected theorem Keeps.execLensResume {ifc : Iface} (h : Keeps s₀ s) : KeepsNext s₀ (execLensResume ifc s) :=
  .next (h.gatedWrite fun h => h.lensCtrlEffect)

protected theorem Keeps.lensStaging (h : Keeps s₀ s) : Keeps s₀ (lensStaging s) := h.wrB.forAll fun h => h.wrn

/-! ### The Keeper domain -/

protected theorem Keeps.setStep {sp : PowerStep} (h : Keeps s₀ s) : Keeps s₀ (setStep sp s) := h.others

protected theorem Keeps.wakeRequest (h : Keeps s₀ s) : Keeps s₀ (wakeRequest s) := by
  dsimp only [wakeRequest]
  split
  · exact h.bump.wrB.setStep.bump
  · exact h.bump.wrB.setStep.bump
  · exact h.bump.wrB.wrn.setStep
  · exact h.bump.wrB
  · exact h.bump.wrB
  · split
    exacts [h.bump.wrB.others, h.bump.wrB.setStep, h.bump.wrB.setStep]

protected theorem Keeps.startDeep (h : Keeps s₀ s) : Keeps s₀ (startDeep s) := by
  unfold startDeep
  split
  · exact h.setStep
  · exact h.setStep
  · exact h.wrn.setStep.onlyIf fun h => h.wrF
  · exact h

protected theorem Keeps.deepPoll (h : Keeps s₀ s) : Keeps s₀ (deepPoll s) := .ite h.startDeep h

protected theorem Keeps.restartIdle (h : Keeps s₀ s) : Keeps s₀ (restartIdle s) := h.others.deepPoll

protected theorem Keeps.setWin {w : Nat} {x : Win} (h : Keeps s₀ s) : Keeps s₀ (setWin w x s) := h.others

protected theorem Keeps.setWinState {w v : Nat} (h : Keeps s₀ s) : Keeps s₀ (setWinState w v s) := h.wrF

protected theorem Keeps.setTrig {t : Nat} {x : Trig} (h : Keeps s₀ s) : Keeps s₀ (setTrig t x s) := h.others

protected theorem Keeps.kprRecord {type unit trigNo curtNo flags jobId pos aon : Nat} (h : Keeps s₀ s) :
    Keeps s₀ (kprRecord type unit trigNo curtNo flags jobId pos aon s) :=
  h.wrWords.wrn.assertRouted

protected theorem Keeps.freeSlot {k : Nat} (h : Keeps s₀ s) : Keeps s₀ (freeSlot k s) := h.others.setJob.restartIdle

protected theorem Keeps.markE19 {jobId : Nat} (h : Keeps s₀ s) : Keeps s₀ (markE19 jobId s) :=
  h.forAll fun h => h.setTrig

protected theorem Keeps.dropTrigger {t : Nat} {g : Seg} (h : Keeps s₀ s) : Keeps s₀ (dropTrigger t g s) :=
  .ite (h.bump.setTrig.onlyIf fun h => h.setWin) (.markE19 (.raiseJ (h.bump.setTrig.onlyIf fun h => h.setWin)))

protected theorem Keeps.pulse {t : Nat} {g : Seg} (h : Keeps s₀ s) : Keeps s₀ (pulse t g s) := h.setTrig

protected theorem Keeps.captureEnd (h : Keeps s₀ s) : Keeps s₀ (captureEnd s) := h.forAll fun h => .ite h.setJob h

protected theorem Keeps.cutSeg {t : Nat} (h : Keeps s₀ s) : Keeps s₀ (cutSeg t s) := by
  unfold cutSeg
  split
  exacts [h, h.kprRecord.setTrig.captureEnd]

protected theorem Keeps.stopSeg {t : Nat} (h : Keeps s₀ s) : Keeps s₀ (stopSeg t s) := .ite h.cutSeg.restartIdle h

protected theorem Keeps.finishStop {t : Nat} (h : Keeps s₀ s) : Keeps s₀ (finishStop t s) := by
  unfold finishStop
  split
  exacts [h, .ite h.stopSeg h]

protected theorem Keeps.truncJob {jobId : Nat} (h : Keeps s₀ s) : Keeps s₀ (truncJob jobId s) :=
  h.forAll fun h => .ite h.setJob h

protected theorem Keeps.beginSeg {t : Nat} {p : TrigPend} {trunc : Bool} (h : Keeps s₀ s) :
    Keeps s₀ (beginSeg t p trunc s) := by
  refine .ite h.setTrig.captureEnd ?_
  refine .ite ?_ ?_
  · exact .setTrig (h.setTrig.cutSeg.others.kprRecord.onlyIf fun h => h.truncJob)
  · exact .pulse (h.setTrig.cutSeg.others.kprRecord.onlyIf fun h => h.truncJob)

protected theorem Keeps.releaseHeld (h : Keeps s₀ s) : Keeps s₀ (releaseHeld s) :=
  .ite (h.forAll fun h => h.forAll fun h => .ite h.beginSeg.raiseJ h) h

protected theorem Keeps.checkTrig {n t : Nat} (h : Keeps s₀ s) : Keeps s₀ (checkTrig n t s) := by
  refine .forAll ?_ fun h => ?_
  · split
    exacts [.ite h.setTrig.finishStop h, h]
  · exact .ite (.ite h.beginSeg (.ite h.setTrig.captureEnd h.setTrig)) h

protected theorem Keeps.accumulate {n t : Nat} (h : Keeps s₀ s) : Keeps s₀ (accumulate n t s) := by
  unfold accumulate
  split
  exacts [h, .ite h.setTrig h]

protected theorem Keeps.countMotion {n : Nat} (h : Keeps s₀ s) : Keeps s₀ (countMotion n s) :=
  h.others.forAll fun h => h.accumulate

protected theorem Keeps.closeTrigs {w jobId : Nat} {forced : Bool} {trail : Nat} (h : Keeps s₀ s) :
    Keeps s₀ (closeTrigs w jobId forced trail s) := by
  refine .forAll h fun h => ?_
  refine .ite ?_ h.setTrig.checkTrig
  dsimp only
  split
  exacts [.ite h.setTrig.captureEnd.stopSeg h.setTrig.captureEnd, h.setTrig.captureEnd]

protected theorem Keeps.closeWin {w type : Nat} (h : Keeps s₀ s) : Keeps s₀ (closeWin w type s) := by
  refine .restartIdle (.captureEnd (.closeTrigs (.onlyIf (.setWin (.setWinState ?_)) (fun h => h.raiseJ))))
  split
  exacts [h.kprRecord, .ite h.kprRecord.setJob h.kprRecord]

protected theorem Keeps.openWin {w n : Nat} (h : Keeps s₀ s) : Keeps s₀ (openWin w n s) := by
  refine .forAll (.wakeRequest (.forAll (.onlyIf (.kprRecord (.setWinState (.setWin ?_)))
    (fun h => h.raiseE.kprRecord)) (fun h => .ite h.setTrig h))) (fun h => h.checkTrig)
  split
  exacts [h.others, h.others.setJob.genAdvance]

protected theorem Keeps.missedEdge {w n : Nat} (h : Keeps s₀ s) : Keeps s₀ (missedEdge w n s) :=
  .kprRecord (h.onlyIf fun h => h.bump)

protected theorem Keeps.endLockout {w : Nat} (h : Keeps s₀ s) : Keeps s₀ (endLockout w s) := by
  dsimp only [endLockout]
  split
  exacts [.ite h.setWinState h, h]

protected theorem Keeps.checkWin {n w : Nat} (h : Keeps s₀ s) : Keeps s₀ (checkWin n w s) :=
  .ite h (.ite (.ite h.closeWin.endLockout (.ite h.closeWin h)) h.endLockout)

protected theorem Keeps.afterPos {n : Nat} (h : Keeps s₀ s) : Keeps s₀ (afterPos n s) :=
  .forAll (h.forAll fun h => h.checkWin) fun h => h.checkTrig

protected theorem Keeps.winBlock {n w : Nat} (h : Keeps s₀ s) : Keeps s₀ (winBlock n w s) := by
  dsimp only [winBlock]
  split
  · exact .ite (.ite h.missedEdge (.ite h h.openWin)) h
  · refine .ite ?_ h
    refine .kprRecord (.setWinState ?_)
    split
    exacts [.ite h.setJob h, h]
  · exact .ite h.setWin h
  · exact h

protected theorem Keeps.winClear {n w : Nat} (h : Keeps s₀ s) : Keeps s₀ (winClear n w s) := by
  refine .ite h ?_
  split
  exacts [h.setWin.setWinState.checkWin, h.setWin.endLockout, h]

protected theorem Keeps.execEncoderStateChange {n : Fin 4} {ch : QuadChange} (h : Keeps s₀ s) :
    KeepsNext s₀ (execEncoderStateChange n ch s) := by
  refine .ite (.next h) ?_
  split
  · refine .next (.limited ?_ (fun h => h.raiseE))
    refine .forAll (h.bump.forAll fun h => .ite h.setWin h) fun h => ?_
    split
    exacts [.ite h.setTrig h, h]
  · exact .next h.wrn.afterPos.countMotion

protected theorem Keeps.encPosEffect {i : Iface} {n : Nat} {v : Word} {co : Coincident} (h : Keeps s₀ s) :
    Keeps s₀ (encPosEffect i n v co s).1 := by
  refine .forAll (.afterPos ?_) (fun h => h.countMotion)
  refine .forAll h.plainEffect fun h => ?_
  split
  exacts [.ite h.setTrig h, h]

protected theorem Keeps.execEncPosWrite {ifc : Iface} {n : Fin 4} {v : Word} {co : Coincident} (h : Keeps s₀ s) :
    KeepsNext s₀ (execEncPosWrite ifc n v co s) :=
  .next (h.internalErr.gatedWrite fun h => h.encPosEffect)

protected theorem Keeps.execCurtainEdgeAccepted {n : Fin 8} {level : Bool} (h : Keeps s₀ s) :
    KeepsNext s₀ (execCurtainEdgeAccepted n level s) := by
  refine .ite (.next h.others) (.next ?_)
  split
  · refine h.others.wrB.forAll fun h => ?_
    split
    exacts [h.winBlock, h.winClear]
  · exact h.others.wrB.onlyIf fun h => h.wakeRequest
  · exact h.others.wrB.kprRecord

protected theorem Keeps.curtCfgEffect {i : Iface} {n : Nat} {v : Word} (h : Keeps s₀ s) :
    Keeps s₀ (curtCfgEffect i n v s).1 :=
  .forAll (.ite h.plainEffect.wrB (.ite h.plainEffect.wrB h.plainEffect)) fun h => .ite h.setWin h

protected theorem Keeps.execCurtainCfgWrite {ifc : Iface} {n : Fin 8} {v : Word} (h : Keeps s₀ s) :
    KeepsNext s₀ (execCurtainCfgWrite ifc n v s) :=
  .next (h.gatedWrite fun h => h.curtCfgEffect)

protected theorem Keeps.execGapTimeoutExpiry {w : Fin 4} (h : Keeps s₀ s) :
    KeepsNext s₀ (execGapTimeoutExpiry w s) :=
  .ite (.next h.closeWin) (.next h)

protected theorem Keeps.execLineTrigger {t : Fin 8} (h : Keeps s₀ s) : KeepsNext s₀ (execLineTrigger t s) := by
  dsimp only [execLineTrigger]
  split
  · exact .next h
  · refine .ite (.ite (.next h.dropTrigger.finishStop) (.next h)) ?_
    exact .ite (.next h) (.ite (.next h.setTrig) (.next h.pulse.finishStop))

protected theorem Keeps.execTriggerHoldRelease {t : Fin 8} (h : Keeps s₀ s) :
    KeepsNext s₀ (execTriggerHoldRelease t s) := by
  dsimp only [execTriggerHoldRelease]
  split
  exacts [.next h, .ite (.next h.pulse.finishStop) (.next h)]

protected theorem Keeps.execSlotReuseDelayExpiry {slot : Fin 16} (h : Keeps s₀ s) :
    KeepsNext s₀ (execSlotReuseDelayExpiry slot s) :=
  .ite (.next h.setJob) (.next h)

/-! ### The video ports -/

protected theorem Keeps.copyShadow {r : Nat × Nat} (h : Keeps s₀ s) : Keeps s₀ (copyShadow r s) :=
  (h.setRegs (tclear_wfFrom _ 0 _ _ s.regs)).forAll fun h => h.wr

protected theorem Keeps.ctxRestart {c : Nat} {old : State} (h : Keeps s₀ s) : Keeps s₀ (ctxRestart c old s) :=
  .onlyIf (h.forAll fun h => h.onlyIf fun h => h.wr64.wr64) fun h => h.others

protected theorem Keeps.shadowApply {g : ShadowGroup} (h : Keeps s₀ s) : Keeps s₀ (shadowApply g s) := by
  dsimp only [shadowApply]
  split
  · exact .ctxRestart (.wrB (h.forAll fun h => h.copyShadow))
  · exact .wrB (h.forAll fun h => h.copyShadow)
  · exact .wrB (h.forAll fun h => h.copyShadow)

protected theorem Keeps.shadowBoundary {g : ShadowGroup} (h : Keeps s₀ s) : Keeps s₀ (shadowBoundary g s) :=
  .ite h.shadowApply h

protected theorem Keeps.setPort {p : Nat} {x : Port} (h : Keeps s₀ s) : Keeps s₀ (setPort p x s) := h.others

protected theorem Keeps.setPortState {p v : Nat} (h : Keeps s₀ s) : Keeps s₀ (setPortState p v s) := h.wrF

protected theorem Keeps.portFlag {p b : Nat} (h : Keeps s₀ s) : Keeps s₀ (portFlag p b s) := h.setPort

protected theorem Keeps.setPipeQueue {c : Nat} {q : List PipeItem} (h : Keeps s₀ s) :
    Keeps s₀ (setPipeQueue c q s) :=
  h.others

protected theorem Keeps.pushPipe {c : Nat} {x : PipeItem} (h : Keeps s₀ s) : Keeps s₀ (pushPipe c x s) :=
  h.setPipeQueue

protected theorem Keeps.fifoLevel {p : Nat} (h : Keeps s₀ s) : Keeps s₀ (fifoLevel p s) := h.wrF.wrF

protected theorem Keeps.rawStore {a : Nat} {bs : List Byte} (h : Keeps s₀ s) : Keeps s₀ (rawStore a bs s) :=
  .ite h.agentDecodeErr (.ite h.dramWrite h)

protected theorem Keeps.rawLine {p : Nat} {px : List Nat} (h : Keeps s₀ s) : Keeps s₀ (rawLine p px s) :=
  .ite h (.wr64 (.ite h.rawStore.rawStore h.rawStore))

protected theorem Keeps.deliver {p : Nat} {l : Line} (h : Keeps s₀ s) : Keeps s₀ (deliver p l s) := by
  refine .fifoLevel (.rawLine ?_)
  split
  exacts [h.setPort.pushPipe, h.setPort]

protected theorem Keeps.releaseExtra {p : Nat} (h : Keeps s₀ s) : Keeps s₀ (releaseExtra p s) :=
  h.setPort.forAll fun h => h.deliver

protected theorem Keeps.dropExtra {p : Nat} (h : Keeps s₀ s) : Keeps s₀ (dropExtra p s) :=
  h.releaseExtra.onlyIf fun h => h.bump.portFlag

protected theorem Keeps.closeFrame {p next : Nat} (h : Keeps s₀ s) : Keeps s₀ (closeFrame p next s) := by
  unfold closeFrame
  extract_lets +onlyGivenNames s1 exp s2 x q ctx frame s3
  have h2 : Keeps s₀ s2 := h.dropExtra.onlyIf fun h => h.portFlag
  have h3 : Keeps s₀ s3 := by
    dsimp only [s3]
    split
    exacts [h2.wrWords, h2.takeFree.takeFree.wrWords]
  refine .setPortState (.setPort ?_)
  split
  exacts [h3.wrn.bump.pushPipe, h3.wrn.bump]

protected theorem Keeps.closeSegment {p next : Nat} (h : Keeps s₀ s) : Keeps s₀ (closeSegment p next s) :=
  .closeFrame (h.releaseExtra.onlyIf fun h => h.portFlag.bump.raiseE)

protected theorem Keeps.closeArea {p next : Nat} (h : Keeps s₀ s) : Keeps s₀ (closeArea p next s) :=
  .closeFrame (h.onlyIf fun h => h.portFlag)

protected theorem Keeps.closeOpen {p next : Nat} (h : Keeps s₀ s) : Keeps s₀ (closeOpen p next s) :=
  .ite h (.ite h.closeSegment h.closeArea)

protected theorem Keeps.portMode {p : Nat} (h : Keeps s₀ s) : Keeps s₀ (portMode p s) :=
  .ite h.wrB.setPortState (.ite h.wrB.setPortState h.wrB)

protected theorem Keeps.setCtxState {c v : Nat} (h : Keeps s₀ s) : Keeps s₀ (setCtxState c v s) := h.wrF

protected theorem Keeps.ctxRefresh {c : Nat} (h : Keeps s₀ s) : Keeps s₀ (ctxRefresh c s) :=
  .ite (.ite h h.setCtxState) (.ite h.setCtxState h)

protected theorem Keeps.setPctx {c : Nat} {x : PCtx} (h : Keeps s₀ s) : Keeps s₀ (setPctx c x s) := h.others

protected theorem Keeps.zClear {c : Nat} (h : Keeps s₀ s) : Keeps s₀ (zClear c s) := .wrB (h.forAll fun h => h.wrF)

protected theorem Keeps.zStatus {c : Nat} (h : Keeps s₀ s) : Keeps s₀ (zStatus c s) := h.wrB

protected theorem Keeps.zLoad {c : Nat} (h : Keeps s₀ s) : Keeps s₀ (zLoad c s) :=
  .ite h.setPctx (.ite (.zStatus (h.setPctx.forAll fun h => h.wrF)) h.setPctx.raiseE)

protected theorem Keeps.measRefresh (h : Keeps s₀ s) : Keeps s₀ (measRefresh s) :=
  h.forAll fun h => .ite h.wrB.wrB.zLoad h.wrB.wrB

protected theorem Keeps.ctxBoundary {c : Nat} (h : Keeps s₀ s) : Keeps s₀ (ctxBoundary c s) :=
  h.shadowBoundary.shadowBoundary.ctxRefresh.measRefresh

protected theorem Keeps.openFrame {p : Nat} {sg : Option (Nat × Nat × Nat × Bool)} {at_ : Nat} (h : Keeps s₀ s) :
    Keeps s₀ (openFrame p sg at_ s) := by
  unfold openFrame
  extract_lets +onlyGivenNames s1 ctx s2 s3
  clear_value ctx
  have h2 : Keeps s₀ s2 := by
    dsimp only [s2]
    split
    exacts [h.shadowBoundary.ctxBoundary, h.shadowBoundary]
  refine .ite h2.portMode ?_
  extract_lets +onlyGivenNames s4
  have h4 : Keeps s₀ s4 := by
    dsimp only [s4]
    split
    exacts [h2.portMode.others, h2.portMode]
  dsimp only
  split
  exacts [h4.setPort.wrB.setPortState, h4.setPort.wrB.setPortState.pushPipe]

protected theorem Keeps.segSeen {t : Nat} (h : Keeps s₀ s) : Keeps s₀ (segSeen t s) := by
  unfold segSeen
  split
  exacts [h.setTrig, h]

protected theorem Keeps.frameStart {p : Nat} {pulse mid : Bool} (h : Keeps s₀ s) :
    Keeps s₀ (frameStart p pulse mid s) := by
  refine .ite h ?_
  refine .ite ?_ (.ite (.ite h.closeOpen.openFrame h) (.ite h h.openFrame))
  split
  exacts [h, .ite h (.ite h.segSeen.setPort h.segSeen.closeOpen.openFrame)]

protected theorem Keeps.startNext {p : Nat} {next : Option (Nat × Nat × Nat × Nat × Bool)} (h : Keeps s₀ s) :
    Keeps s₀ (startNext p next s) := by
  unfold startNext
  split
  exacts [h, h.openFrame]

protected theorem Keeps.settle {p : Nat} (h : Keeps s₀ s) : Keeps s₀ (settle p s) := .ite h.closeOpen.startNext h

protected theorem Keeps.cutFrame {p reason next : Nat} (h : Keeps s₀ s) : Keeps s₀ (cutFrame p reason next s) :=
  .ite h.settle.portFlag.portFlag.closeFrame h.settle

protected theorem Keeps.portSet {p : Nat} (h : Keeps s₀ s) : Keeps s₀ (portSet p s) := .portMode (.ite h h.cutFrame)

protected theorem Keeps.portRefresh {p : Nat} (h : Keeps s₀ s) : Keeps s₀ (portRefresh p s) :=
  .ite h.portSet.shadowBoundary.portSet h.portSet

protected theorem Keeps.portsNap (h : Keeps s₀ s) : Keeps s₀ (portsNap s) :=
  h.forAll fun h => .ite h.cutFrame.setPortState h.cutFrame

protected theorem Keeps.checkLine {p : Nat} {cycles : List Nat} (h : Keeps s₀ s) :
    Keeps s₀ (checkLine p cycles s).2 :=
  .onlyIf (.onlyIf (.ite h.others h) fun h => h.portFlag.bump) fun h => h.portFlag.bump

protected theorem Keeps.strayLine {p : Nat} (h : Keeps s₀ s) : Keeps s₀ (strayLine p s) := h.bump

protected theorem Keeps.burst {p : Nat} (h : Keeps s₀ s) : Keeps s₀ (burst p s) :=
  h.bump.portFlag.portFlag.portFlag.closeFrame.raiseE.startNext

protected theorem Keeps.frameLine {p : Nat} {cycles : List Nat} (h : Keeps s₀ s) : Keeps s₀ (frameLine p cycles s) := by
  refine .ite h.bump.portFlag ?_
  refine .ite h.releaseExtra.checkLine.setPort.deliver.burst ?_
  exact .ite h.releaseExtra.checkLine.setPort.setPort h.releaseExtra.checkLine.setPort.deliver

protected theorem Keeps.execLineEnd {p : Fin 8} {samples : List PixSample} (h : Keeps s₀ s) :
    KeepsNext s₀ (execLineEnd p samples s) := by
  refine .ite (.next h) ?_
  dsimp only
  split
  · exact .next (.ite (.strayLine (.ite h.wrB.closeArea h.wrB)) (.ite h.wrB.closeArea h.wrB))
  · exact .next (.strayLine (.ite h.wrB.closeArea h.wrB))
  · refine .ite (.next (.strayLine (.ite h.wrB.closeArea h.wrB))) ?_
    exact .next (.settle (.frameLine (.setPort (.ite h.wrB.closeArea h.wrB))))
  · exact .next (.ite h.wrB.closeArea h.wrB)

protected theorem Keeps.execFrameStart {p : PortCut} (h : Keeps s₀ s) : KeepsNext s₀ (execFrameStart p s) :=
  .ite (.next h) (.next h.wrB.frameStart)

protected theorem Keeps.execFrameEnd {p : Fin 8} (h : Keeps s₀ s) : KeepsNext s₀ (execFrameEnd p s) :=
  .ite (.next h) (.ite (.next h) (.next h.closeArea))

protected theorem Keeps.execFifoOverflow {p : Fin 8} {samples : List PixSample} (h : Keeps s₀ s) :
    KeepsNext s₀ (execFifoOverflow p samples s) := by
  refine .ite (.next h) ?_
  refine .next (.startNext (.raiseE (.closeFrame (.portFlag (.portFlag (.bump ?_))))))
  exact .ite h.setPort h.setPort.releaseExtra.checkLine.setPort.deliver

protected theorem Keeps.execLateWindowExpiry {x : PortCut} (h : Keeps s₀ s) :
    KeepsNext s₀ (execLateWindowExpiry x s) :=
  .ite (.next (.ite h.setPort h.closeSegment)) (.next h)

protected theorem Keeps.execPclkLoss {p : Fin 8} (h : Keeps s₀ s) : KeepsNext s₀ (execPclkLoss p s) :=
  .ite (.next h) (.ite (.next h.wrB.portFlag.portFlag.closeFrame.raiseE.startNext) (.next h.wrB))

protected theorem Keeps.execSyncAuxEdge {p : Fin 8} {rising : Bool} (h : Keeps s₀ s) :
    KeepsNext s₀ (execSyncAuxEdge p rising s) :=
  .ite (.next h) (.ite (.next h.frameStart) (.ite (.next h.wr64.bumpW) (.next h)))

protected theorem Keeps.admitApply {p : Nat} {v : Word} (h : Keeps s₀ s) : Keeps s₀ (admitApply p v s) := by
  refine .portRefresh ?_
  split
  · exact .ite (.pushPipe (.setPort (h.wr.onlyIf fun h => h.wr64))) (h.wr.onlyIf fun h => h.wr64)
  · exact h.wr.onlyIf fun h => h.wr64

protected theorem Keeps.admitEffect {p : Nat} {v : Word} (h : Keeps s₀ s) : Keeps s₀ (admitEffect p v s).1 :=
  .iteFst h.wrB.raiseE h.admitApply

protected theorem Keeps.execVpAdmitWrite {ifc : Iface} {p : Fin 8} {v : Word} (h : Keeps s₀ s) :
    KeepsNext s₀ (execVpAdmitWrite ifc p v s) :=
  .next (h.gatedWrite fun h => h.admitEffect)

protected theorem Keeps.execRateCheckInterval {p : Fin 8} (h : Keeps s₀ s) :
    KeepsNext s₀ (execRateCheckInterval p s) :=
  .next (.ite (.setPort (h.onlyIf fun h => h.bump)) h)

/-! ### The image pipes -/

protected theorem Keeps.setPframe {c : Nat} {f : PipeFrame} (h : Keeps s₀ s) : Keeps s₀ (setPframe c f s) :=
  h.setPctx

protected theorem Keeps.pipeFlag {c b : Nat} (h : Keeps s₀ s) : Keeps s₀ (pipeFlag c b s) := h.setPframe

protected theorem Keeps.useRowFree {mono : Bool} {b : VBuf} (h : Keeps s₀ s) : Keeps s₀ (useRowFree mono b s) :=
  .ite h.others h

protected theorem Keeps.ringStore {g : Agent} {base size pos : Nat} {bs : List Byte} {dirty : Bool}
    (h : Keeps s₀ s) : Keeps s₀ (ringStore g base size pos bs dirty s) :=
  .ite h.devPut.devPut h.devPut

protected theorem Keeps.ringTake {c n : Nat} (h : Keeps s₀ s) : Keeps s₀ (ringTake c n s) := h.others.wrn

protected theorem Keeps.stageTake {c n : Nat} (h : Keeps s₀ s) : Keeps s₀ (stageTake c n s) := .ite h h.ringTake

protected theorem Keeps.stageDrain {p n : Nat} (h : Keeps s₀ s) : Keeps s₀ (stageDrain p n s) := h.others

protected theorem Keeps.stageDrop {c : Nat} (h : Keeps s₀ s) : Keeps s₀ (stageDrop c s) :=
  .ite h h.setPframe.pipeFlag.pipeFlag.bump.raiseE

protected theorem Keeps.outFull {c o : Nat} (h : Keeps s₀ s) : Keeps s₀ (outFull c o s) :=
  h.setPframe.pipeFlag.pipeFlag.bump.raiseE

protected theorem Keeps.outLine {c o : Nat} {planes : List (List Byte)} (h : Keeps s₀ s) :
    Keeps s₀ (outLine c o planes s) :=
  .ite h (.ite h.outFull (.ite h.stageDrop (.wr64 (.setPframe (h.stageTake.forAll fun h => h.ringStore)))))

protected theorem Keeps.dispEmit {c : Nat} (h : Keeps s₀ s) : Keeps s₀ (dispEmit c s) :=
  .ite h.setPframe.pipeFlag h.setPframe.outLine

protected theorem Keeps.dispLine {c : Nat} {l : Line} (h : Keeps s₀ s) : Keeps s₀ (dispLine c l s) :=
  .ite h (.ite (.dispEmit (.setPframe (.ite h.dispEmit h))) (.setPframe (.ite h.dispEmit h)))

protected theorem Keeps.codingLine {c : Nat} {ycc : List (List Nat)} (h : Keeps s₀ s) :
    Keeps s₀ (codingLine c ycc s) := by
  refine .ite h ?_
  refine .ite h.setPframe.outLine ?_
  refine .ite h.setPframe.outLine ?_
  exact .ite h.setPframe.outLine.stageDrop h.setPframe.outLine.stageTake.ringStore

protected theorem Keeps.bandClose {c : Nat} {last : Bool} (h : Keeps s₀ s) : Keeps s₀ (bandClose c last s) :=
  .ite h (.ite h.setPframe h.setPframe.devPut.setPctx.semRelease)

protected theorem Keeps.bandLine {c : Nat} {l : Line} {planes : List (List Byte)} (h : Keeps s₀ s) :
    Keeps s₀ (bandLine c l planes s) := by
  unfold bandLine
  extract_lets +onlyGivenNames pf f n s1 sem empty s2 band s3 _ s4
  have h1 : Keeps s₀ s1 := .ite h.bandClose h
  have h2 : Keeps s₀ s2 := .ite h1.pipeFlag.bump h1.semTake
  have h3 : Keeps s₀ s3 := .ite h2.raiseE h2
  have h4 : Keeps s₀ s4 := .ite h1 h3.setPframe
  exact .ite h (.ite h4.setPframe (h4.setPframe.forAll fun h => h.devPut))

protected theorem Keeps.mvLine {c : Nat} {l : Line} {y : List Nat} (h : Keeps s₀ s) : Keeps s₀ (mvLine c l y s) :=
  .ite h (.ite h.outLine h.outLine.bandLine)

protected theorem Keeps.rawOut {c : Nat} {l : Line} (h : Keeps s₀ s) : Keeps s₀ (rawOut c l s) := h.outLine

protected theorem Keeps.measLine {c t : Nat} {l : Line} (h : Keeps s₀ s) : Keeps s₀ (measLine c t l s) :=
  .ite h.setPframe h

protected theorem Keeps.emit4 {c : Nat} {l : Line} (h : Keeps s₀ s) : Keeps s₀ (emit4 c l s) :=
  h.measLine.dispLine.codingLine.mvLine

protected theorem Keeps.stage4 {c : Nat} {l : Line} (h : Keeps s₀ s) : Keeps s₀ (stage4 c l s) := h.emit4

protected theorem Keeps.notePoison {c : Nat} {l : Line} (h : Keeps s₀ s) : Keeps s₀ (notePoison c l s) :=
  .ite h.pipeFlag h

protected theorem Keeps.splicePush {c : Nat} {x : PipeItem} (h : Keeps s₀ s) : Keeps s₀ (splicePush c x s) :=
  h.others

protected theorem Keeps.atTap {c t : Nat} {l : Line} (h : Keeps s₀ s) : Keeps s₀ (atTap c t l s).1 := by
  refine .iteFst ?_ (.notePoison (.ite h h.measLine))
  refine .iteFst ?_ ?_
  · exact .splicePush (.setPframe (.notePoison (.ite h h.measLine)))
  · exact .splicePush (.setPframe (.notePoison (.ite h h.measLine)))

protected theorem Keeps.from3 {c : Nat} {l : Line} (h : Keeps s₀ s) : Keeps s₀ (from3 c l s) :=
  h.atTap.forAll fun h => h.atTap.forAll fun h => h.emit4

protected theorem Keeps.stage3 {c : Nat} {x : Option Line} (h : Keeps s₀ s) : Keeps s₀ (stage3 c x s) :=
  .forAll (.setPframe (.ite h.useRowFree h)) fun h => h.from3

protected theorem Keeps.from2 {c : Nat} {l : Line} (h : Keeps s₀ s) : Keeps s₀ (from2 c l s) :=
  h.atTap.forAll fun h => h.stage3

protected theorem Keeps.tnrRow {c : Nat} {l : Line} (h : Keeps s₀ s) : Keeps s₀ (tnrRow c l s).2 := by
  refine .iteSnd h ?_
  refine .ite (.iteSnd h.devRead h) ?_
  exact .ite (.devPut (.stageTake (.iteSnd h.devRead h))) (.stageDrop (.iteSnd h.devRead h))

protected theorem Keeps.from1 {c : Nat} {l : Line} (h : Keeps s₀ s) : Keeps s₀ (from1 c l s) :=
  h.atTap.forAll fun h => h.tnrRow.from2

protected theorem Keeps.stage1 {c : Nat} {x : Option Line} (h : Keeps s₀ s) : Keeps s₀ (stage1 c x s) :=
  .forAll (.setPframe (.ite h.useRowFree h)) fun h => h.from1

protected theorem Keeps.from0 {c : Nat} {l : Line} (h : Keeps s₀ s) : Keeps s₀ (from0 c l s) :=
  .forAll (.atTap (.ite h.rawOut h)) fun h => h.stage1

protected theorem Keeps.stage0 {c : Nat} {x : Option Line} (h : Keeps s₀ s) : Keeps s₀ (stage0 c x s) := by
  unfold stage0
  extract_lets +onlyGivenNames pf f mono line s1 pf' r s2
  clear_value line
  have h1 : Keeps s₀ s1 := by
    dsimp only [s1]
    split
    exacts [.ite h h.rawOut, h]
  have h2 : Keeps s₀ s2 := .ite h1.useRowFree h1
  exact h2.setPframe.bump.bump.forAll fun h => h.from0

protected theorem Keeps.returnAt {c : Nat} {l : Line} (h : Keeps s₀ s) : Keeps s₀ (returnAt c l s) := by
  dsimp only [returnAt]
  split
  · exact .from2 (.tnrRow (.ite h.notePoison h.notePoison.measLine))
  · exact .stage3 (.ite h.notePoison h.notePoison.measLine)
  · exact .stage4 (.ite h.notePoison h.notePoison.measLine)
  · exact .emit4 (.ite h.notePoison h.notePoison.measLine)

protected theorem Keeps.flushTo {c t : Nat} (h : Keeps s₀ s) : Keeps s₀ (flushTo c t s) :=
  .ite (.stage3 (.ite h.stage0.stage1 h.stage0)) (.ite h.stage0.stage1 h.stage0)

protected theorem Keeps.flushAfter {c t : Nat} (h : Keeps s₀ s) : Keeps s₀ (flushAfter c t s) := .ite h.stage3 h

protected theorem Keeps.beginFrame {c : Nat} {f : FrameInfo} {chainFits : Bool} (h : Keeps s₀ s) :
    Keeps s₀ (beginFrame c f chainFits s) := by
  unfold beginFrame
  extract_lets +onlyGivenNames bad want ready x lostNow s1 fall dead refOk s2 s3 on s4 ost pf pf' _ s5 s6
  have h2 : Keeps s₀ s2 := .wrB (.wrB (.setCtxState (.ite h.bump.raiseE h)))
  have h3 : Keeps s₀ s3 := .ite h2.raiseE h2
  have h5 : Keeps s₀ s5 := .setPctx (h3.forAll fun h => .ite h.wr64 h)
  have h6 : Keeps s₀ s6 := .ite h5.splicePush h5
  exact .ite h6.devRead.setPframe.bump h6

protected theorem Keeps.closeCtx {c : Nat} (h : Keeps s₀ s) : Keeps s₀ (closeCtx c s) := by
  refine .ite ?_ ?_
  · refine .wrB (.wrB (.setCtxState (.setPctx (.bump (.wrn (.wrWords (.bandClose ?_)))))))
    exact .ite h h.codingLine
  · exact .wrB (.setCtxState (.setPctx (.bump (.wrn (.wrWords (.bandClose (.ite h h.codingLine)))))))

protected theorem Keeps.loseSplice {c : Nat} (h : Keeps s₀ s) : Keeps s₀ (loseSplice c s) := by
  dsimp only [loseSplice]
  split
  · exact h.others
  · refine .ite h.others ?_
    refine .ite ?_ ?_
    · exact h.others.setPframe.pipeFlag.pipeFlag.bandClose.bump.raiseE.setPctx.closeCtx
    · exact h.others.setPframe.pipeFlag.pipeFlag.bandClose.bump.raiseE.setPctx.setCtxState

protected theorem Keeps.startLine {c : Nat} (h : Keeps s₀ s) : Keeps s₀ (startLine c s) :=
  h.others.setPctx.setPframe.bumpW.bump

protected theorem Keeps.pipeLine {c : Nat} {l : Line} (h : Keeps s₀ s) : Keeps s₀ (pipeLine c l s) :=
  .ite h.startLine h.startLine.stage0

protected theorem Keeps.m2mRead {c y : Nat} (h : Keeps s₀ s) : Keeps s₀ (m2mRead c y s).2 := h.devRead

/-! ### The measurement units -/

protected theorem Keeps.writeKnots {c width updates : Nat} (h : Keeps s₀ s) :
    Keeps s₀ (writeKnots c width updates s) :=
  .wrn (.forAll (h.wrn.wrn.wr64.forAll fun h => h.wrn) fun h => h.wrn)

protected theorem Keeps.calibrate {c : Nat} {f : FrameInfo} {cols : List Column} (h : Keeps s₀ s) :
    Keeps s₀ (calibrate c f cols s) := by
  refine .ite ?_ ?_
  · refine .setPctx ?_
    refine .ite ?_ (.writeKnots (.bump (.bump (h.forAll fun h => h.wrF))))
    exact .raiseE (.writeKnots (.bump (.bump (h.forAll fun h => h.wrF))))
  · exact .setPctx (.writeKnots (.bump (.bump (h.forAll fun h => h.wrF))))

protected theorem Keeps.seedZ {c : Nat} {f : FrameInfo} {cols : List Column} (h : Keeps s₀ s) :
    Keeps s₀ (seedZ c f cols s) :=
  .writeKnots (.wrB (.wrB (h.forAll fun h => h.wrF)))

protected theorem Keeps.calLoad (h : Keeps s₀ s) : Keeps s₀ (calLoad s) :=
  .measRefresh (h.forAll fun h => .setPctx (.zClear (h.forAll fun h => h.wrn)))

protected theorem Keeps.execProfileRecordWrite {c : Fin 16} {drained : Nat} (h : Keeps s₀ s) :
    KeepsNext s₀ (execProfileRecordWrite c drained s) := by
  refine .ite (.next h) ?_
  extract_lets +onlyGivenNames s1
  have h1 : Keeps s₀ s1 := h.stageDrain
  split
  · exact .next h1
  · refine .ite (.next h1.setPctx.bump) ?_
    extract_lets +onlyGivenNames f cols _ sum _ s2 nvalid nobj unknown cal clean qualifies seed s3 ring size stride
      base q a full late s4 s5 _ s6 flags enc record s7
    have h3 : Keeps s₀ s3 := (h1.setPctx.setPctx.onlyIf fun h => h.calibrate).onlyIf fun h => h.seedZ
    have h5 : Keeps s₀ s5 := .ite h3.bump h3.bump.raiseE
    have h6 : Keeps s₀ s6 := h3.onlyIf fun h => h.semTake
    have h7 : Keeps s₀ s7 := .ite h6.ringTake h6
    exact .ite (.next h5.setPctx) (.next (h7.devPut.wrn.bump.setPctx.onlyIf fun h => h.semRelease))

protected theorem Keeps.execStatRecordWrite {c : Fin 16} {drained : Nat} (h : Keeps s₀ s) :
    KeepsNext s₀ (execStatRecordWrite c drained s) := by
  refine .ite (.next h) ?_
  dsimp only
  split
  · exact .next h.stageDrain
  · refine .ite (.next h.stageDrain.setPctx.wrn.bump) ?_
    exact .next (.bump (.devPut (.ite h.stageDrain.setPctx.wrn.ringTake h.stageDrain.setPctx.wrn)))

protected theorem Keeps.calCtrlEffect {c : Nat} {v : Word} (h : Keeps s₀ s) : Keeps s₀ (calCtrlEffect c v s).1 :=
  .iteFst (.zClear (h.onlyIf fun h => h.wrB)) (h.onlyIf fun h => h.wrB)

protected theorem Keeps.execCalSeed {ifc : Iface} {c : Fin 16} (h : Keeps s₀ s) :
    KeepsNext s₀ (execCalSeed ifc c s) :=
  .next (h.gatedWrite fun h => h.calCtrlEffect)

protected theorem Keeps.execCalForget {ifc : Iface} {c : Fin 16} (h : Keeps s₀ s) :
    KeepsNext s₀ (execCalForget ifc c s) :=
  .next (h.gatedWrite fun h => h.calCtrlEffect)

/-! ### The flash and the Persistent Record -/

protected theorem Keeps.setFlash {a : Nat} {b : Byte} (h : Keeps s₀ s) : Keeps s₀ (setFlash a b s) :=
  h.setFlashTable (tput_wf (fun _ => (255 : Byte)) s.flash a b)

protected theorem Keeps.programFlash {a : Nat} {bs : List Byte} (h : Keeps s₀ s) : Keeps s₀ (programFlash a bs s) := by
  induction bs generalizing a s with
  | nil => exact h
  | cons b t ih => exact ih h.setFlash

protected theorem Keeps.eraseFlash {a n : Nat} (h : Keeps s₀ s) : Keeps s₀ (eraseFlash a n s) :=
  h.setFlashTable (tclear_wfFrom _ 0 a (a + n) s.flash)

protected theorem Keeps.precLoad (h : Keeps s₀ s) : Keeps s₀ (precLoad s) := by
  dsimp only [precLoad]
  split
  · exact .wrn (.wrn (.wrB (.wrB (.wrF (h.others.wrB.wrB.onlyIf fun h => h.raiseE)))))
  · exact .wrB (.wrB (.wrF (h.others.wrB.wrB.onlyIf fun h => h.raiseE)))

protected theorem Keeps.precStart {new : Prec} (h : Keeps s₀ s) : Keeps s₀ (precStart new s) :=
  h.eraseFlash.wrB.wrB.others

protected theorem Keeps.precStartRoutine (h : Keeps s₀ s) : Keeps s₀ (precStartRoutine s) := h.others.precStart

protected theorem Keeps.precNow (h : Keeps s₀ s) : Keeps s₀ (precNow s) := .ite h.others h.precStart

protected theorem Keeps.precResume (h : Keeps s₀ s) : Keeps s₀ (precResume s) :=
  .ite h (.ite h.precStartRoutine (.ite h.precStart h))

protected theorem Keeps.recordReset {d : Nat} (h : Keeps s₀ s) : Keeps s₀ (recordReset d s).1 := h.others

protected theorem Keeps.flashCmdEffect {i : Iface} {v : Word} (h : Keeps s₀ s) : Keeps s₀ (flashCmdEffect i v s).1 := by
  refine .iteFst h ?_
  refine .iteFst h.plainEffect ?_
  exact .iteFst h.plainEffect.wrB (.iteFst h.plainEffect.wrB.answerErr h.plainEffect.others.wrB)

protected theorem Keeps.flashGuarded {i : Iface} {off : Nat} {v : Word} {co : Coincident} (h : Keeps s₀ s) :
    Keeps s₀ (flashGuarded i off v co s).1 :=
  .iteFst h h.plainEffect

protected theorem Keeps.loadFlashBuf {bs : List Byte} (h : Keeps s₀ s) : Keeps s₀ (loadFlashBuf bs s) := h.wrWords

protected theorem Keeps.flashPerform {o : FlashOp} (h : Keeps s₀ s) : Keeps s₀ (flashPerform o s) :=
  .ite h.loadFlashBuf (.ite h.programFlash h.eraseFlash)

protected theorem Keeps.execFlashRead {ifc : Iface} {len : BitVec 13} (h : Keeps s₀ s) :
    KeepsNext s₀ (execFlashRead ifc len s) :=
  .next (h.gatedWrite fun h => h.flashCmdEffect)

protected theorem Keeps.execFlashProgram {ifc : Iface} {len : BitVec 13} (h : Keeps s₀ s) :
    KeepsNext s₀ (execFlashProgram ifc len s) :=
  .next (h.gatedWrite fun h => h.flashCmdEffect)

protected theorem Keeps.execFlashErase4k {ifc : Iface} (h : Keeps s₀ s) : KeepsNext s₀ (execFlashErase4k ifc s) :=
  .next (h.gatedWrite fun h => h.flashCmdEffect)

protected theorem Keeps.execFlashErase64k {ifc : Iface} (h : Keeps s₀ s) : KeepsNext s₀ (execFlashErase64k ifc s) :=
  .next (h.gatedWrite fun h => h.flashCmdEffect)

protected theorem Keeps.execFlashOpComplete {ok : Bool} {left : List (BitVec 26 × Byte)} (h : Keeps s₀ s) :
    KeepsNext s₀ (execFlashOpComplete ok left s) := by
  unfold execFlashOpComplete
  split
  · exact .next h
  · refine .ite (.next h) ?_
    refine .next (.precResume (.wrB (.others ?_)))
    exact .ite h.flashPerform (.wrB (h.flashPerform.onlyIf fun h => h.forAll fun h => .ite h.setFlash h))

protected theorem Keeps.precCtrlEffect {i : Iface} {v : Word} (h : Keeps s₀ s) : Keeps s₀ (precCtrlEffect i v s).1 :=
  h.plainEffect.onlyIf fun h => h.precNow

protected theorem Keeps.execPrecWriteNow {ifc : Iface} (h : Keeps s₀ s) : KeepsNext s₀ (execPrecWriteNow ifc s) :=
  .next (h.gatedWrite fun h => h.precCtrlEffect)

protected theorem Keeps.execPrecRoutineTimer (h : Keeps s₀ s) : KeepsNext s₀ (execPrecRoutineTimer s) :=
  .ite (.next h.others) (.next h.precStartRoutine)

protected theorem Keeps.execPrecWriteComplete {bad : List (BitVec 16 × Byte)} (h : Keeps s₀ s) :
    KeepsNext s₀ (execPrecWriteComplete bad s) := by
  unfold execPrecWriteComplete
  split
  · exact .next h
  · extract_lets +onlyGivenNames s1 s2 ok p added reps inUse p' s3 s4 s5
    have h3 : Keeps s₀ s3 := (h.programFlash.forAll fun h => h.setFlash).others.wrB.wrB
    have h4 : Keeps s₀ s4 := .ite h3.wrF.bump h3.raiseE
    have h5 : Keeps s₀ s5 := h4.onlyIf fun h => h.wrF.wrF.wrF
    refine .next (.precResume ?_)
    split
    exacts [h5.others, h5]

/-! ### Repair entries -/

protected theorem Keeps.showRepair {d : Nat} {a : Avail} (h : Keeps s₀ s) : Keeps s₀ (showRepair d a s) := by
  unfold showRepair
  split
  · exact h.wrn.wrn.wr64
  · exact h.wrB.wrB
  · exact h.wrF.wrF.forAll fun h => h.wrB
  · exact h.wrn.wrn
  · exact h

protected theorem Keeps.fuseFields (h : Keeps s₀ s) : Keeps s₀ (fuseFields s) := h.forAll fun h => h.showRepair

protected theorem Keeps.applyRepair {d : Nat} {es : List (List Byte)} (h : Keeps s₀ s) :
    Keeps s₀ (applyRepair d es s) :=
  .ite h.showRepair.others.wrF.wrB.raiseFatal h.showRepair

/-! ### The Sector engine -/

protected theorem Keeps.setSecCl {c : Nat} {x : SecCl} (h : Keeps s₀ s) : Keeps s₀ (setSecCl c x s) := h.others

protected theorem Keeps.setSecCtx {x : Nat} {v : SecCtx} (h : Keeps s₀ s) : Keeps s₀ (setSecCtx x v s) := h.others

protected theorem Keeps.secRefresh {c : Nat} (h : Keeps s₀ s) : Keeps s₀ (secRefresh c s) := h.wr.wrn.wrB

protected theorem Keeps.secRefreshAll (h : Keeps s₀ s) : Keeps s₀ (secRefreshAll s) :=
  h.forAll fun h => h.secRefresh

protected theorem Keeps.secMjStatus {c : Nat} {waiting : Bool} (h : Keeps s₀ s) :
    Keeps s₀ (secMjStatus c waiting s) :=
  h.wr

protected theorem Keeps.secSwapEnd {c : Nat} (h : Keeps s₀ s) : Keeps s₀ (secSwapEnd c s) := by
  unfold secSwapEnd
  split
  exacts [.ite h.setSecCl.wrB.secRefresh h.secRefresh, h]

protected theorem Keeps.secMove {c : Nat} {f : Nat × Nat → Bool} (h : Keeps s₀ s) : Keeps s₀ (secMove c f s) := by
  unfold secMove
  split
  exacts [h.setSecCl.secSwapEnd, h]

protected theorem Keeps.secMemMove {c : Nat} (h : Keeps s₀ s) : Keeps s₀ (secMemMove c s) := by
  unfold secMemMove
  split
  exacts [h.setSecCl.secSwapEnd, h]

protected theorem Keeps.secChainMove {c h : Nat} (hs : Keeps s₀ s) : Keeps s₀ (secChainMove c h s) := by
  unfold secChainMove
  split
  exacts [hs.setSecCl.secSwapEnd, hs]

protected theorem Keeps.secSignal (h : Keeps s₀ s) : Keeps s₀ (secSignal s) := h.assertRouted

protected theorem Keeps.secRefuse {c why : Nat} (h : Keeps s₀ s) : Keeps s₀ (secRefuse c why s) :=
  h.wrB.wrF.raiseE.secSignal

protected theorem Keeps.secCommit {c : Nat} {bad : Bool} (h : Keeps s₀ s) : Keeps s₀ (secCommit c bad s) := by
  refine .ite ?_ ?_
  · exact .secRefuse (.ite (.ite h.setSecCl.wrB.wrn h.setSecCl.wrB.takeFree.wrn) h.setSecCl.wrB)
  · refine .secSwapEnd (.setSecCl (.wrF (.wrB (.wrB ?_))))
    exact .ite (.ite h.setSecCl.wrB.wrn h.setSecCl.wrB.takeFree.wrn) h.setSecCl.wrB

protected theorem Keeps.secCount {c : Nat} {a : SUnit} {live : Bool} {stallIn stallOut : Nat} (h : Keeps s₀ s) :
    Keeps s₀ (secCount c a live stallIn stallOut s) :=
  h.bump.bumpW.bumpW.bumpW.bump.bump

protected theorem Keeps.secBegin {x : Nat} (h : Keeps s₀ s) : Keeps s₀ (secBegin x s) := by
  unfold secBegin
  split
  · exact h
  · exact .ite h (.forAll (.setSecCtx (h.forAll fun h => .ite h.secMove h)) fun h => h.secRefresh)

protected theorem Keeps.setSecStripe {x c i : Nat} {st : Stripe} (h : Keeps s₀ s) :
    Keeps s₀ (setSecStripe x c i st s) :=
  h.setSecCtx

protected theorem Keeps.secTee {x c : Nat} {e : SEnv} {st : Stripe} {l : Nat} {y : Int} (h : Keeps s₀ s) :
    Keeps s₀ (secTee x c e st l y s) :=
  .ite h (.ite (.ite h.setSecCtx h.setSecCtx.bump.raiseE.secSignal) (h.forAll fun h => h.devPut))

protected theorem Keeps.teeSignal {x : Nat} (h : Keeps s₀ s) : Keeps s₀ (teeSignal x s) := by
  unfold teeSignal
  split
  exacts [.ite h h.semRelease, h]

protected theorem Keeps.teeAdvance {x : Nat} (h : Keeps s₀ s) : Keeps s₀ (teeAdvance x s) :=
  h.setSecCtx.forAll fun h => .ite h.teeSignal h

protected theorem Keeps.secJoin {x n : Nat} (h : Keeps s₀ s) : Keeps s₀ (secJoin x n s) := by
  induction n generalizing s with
  | zero => exact h
  | succ n ih => exact .ite h (ih (h.setSecCtx.forAll fun h => h.setSecStripe))

protected theorem Keeps.secFrameDone {x : Nat} (h : Keeps s₀ s) : Keeps s₀ (secFrameDone x s) := by
  unfold secFrameDone
  split
  exacts [.ite (.others (.setSecCtx (.ite h.teeSignal h))) h, h]

protected theorem Keeps.secPoll {x : Nat} (h : Keeps s₀ s) : Keeps s₀ (secPoll x s) :=
  h.secBegin.secFrameDone.secBegin

protected theorem Keeps.secBankErr {c : Nat} (h : Keeps s₀ s) : Keeps s₀ (secBankErr c s) := by
  exact .forAll (.secMemMove (.secMjStatus (h.setSecCl.wrB.raiseJ.secSignal.forAll fun h => h.reachJob)))
    fun h => h.loseSplice

protected theorem Keeps.secParity {c : Nat} {st : Stripe} {k : Nat} (h : Keeps s₀ s) :
    Keeps s₀ (secParity c st k s).2 :=
  .iteSnd h h.bump.raiseE

protected theorem Keeps.secFree (h : Keeps s₀ s) : Keeps s₀ (secFree s) := h.others

protected theorem Keeps.secLive {c x i : Nat} {parity : Option (Nat × Nat)} {stallIn stallOut : Nat}
    (h : Keeps s₀ s) : Keeps s₀ (secLive c x i parity stallIn stallOut s) := by
  unfold secLive
  extract_lets +onlyGivenNames s1
  have h1 : Keeps s₀ s1 := .ite h.secMove h
  split
  · exact h1
  · extract_lets +onlyGivenNames g p chain x0 st q st' s2
    have h2 : Keeps s₀ s2 := by
      dsimp only [s2, q]
      split
      exacts [h1.secParity, h1]
    refine .secPoll (.teeAdvance (.secJoin (h2.secFree.secCount.setSecStripe.forAll fun h => ?_)))
    exact .ite (.setSecStripe (h.onlyIf fun h => h.bump)) (.setSecStripe (.secTee (h.onlyIf fun h => h.bump)))

protected theorem Keeps.execSectorLiveUnit {c : Fin 4} {err : MemErr} {parity : Option (Fin 32 × BitVec 15)}
    {stallIn stallOut : BitVec 32} (h : Keeps s₀ s) :
    KeepsNext s₀ (execSectorLiveUnit c err parity stallIn stallOut s) := by
  refine .ite (.next h) ?_
  split
  · exact .next h
  · split
    exacts [.next h.secBankErr, .next (.secLive (h.onlyIf fun h => h.bump))]

protected theorem Keeps.secMjRefuse {c a why : Nat} {j : Option JobRef} (h : Keeps s₀ s) :
    Keeps s₀ (secMjRefuse c a why j s) :=
  h.wr.wr64.bump.raiseJ.secSignal

protected theorem Keeps.secMjPush {c a : Nat} (h : Keeps s₀ s) : Keeps s₀ (secMjPush c a s) :=
  .ite h.devRead.secMjRefuse h.devRead.setSecCl.secMjStatus

protected theorem Keeps.mjPushEffect {i : Iface} {c : Nat} {hi : Word} (h : Keeps s₀ s) :
    Keeps s₀ (mjPushEffect i c hi s).1 := by
  dsimp only [mjPushEffect]
  exact h.pairEffect.secMjPush

protected theorem Keeps.execMjPush {ifc : Iface} {c : Fin 4} {hi : Word} (h : Keeps s₀ s) :
    KeepsNext s₀ (execMjPush ifc c hi s) :=
  .next (h.gatedWrite fun h => h.mjPushEffect)

protected theorem Keeps.execMjStart {c : Fin 4} (h : Keeps s₀ s) : KeepsNext s₀ (execMjStart c s) := by
  refine .ite (.next h) ?_
  split
  · refine .ite (.next h.secMjStatus) ?_
    refine .ite ?_ ?_
    · exact .next (.secMjStatus (.secMjRefuse (.setSecCl (h.onlyIf fun h => h.semTake))))
    · exact .next (.secMjStatus (.secChainMove (.setSecCl (.setSecCl (h.onlyIf fun h => h.semTake)))))
  · exact .next h

protected theorem Keeps.secMemRow {c : Nat} {m : SecMj} {p : SProg} {x0 : Nat} {y : Int} (h : Keeps s₀ s) :
    Keeps s₀ (secMemRow c m p x0 y s).2 :=
  h.foldlSnd fun h => h.devRead

protected theorem Keeps.secMemOut {c : Nat} {m : SecMj} {e : SEnv} {st : Stripe} {l : Nat} {y : Int}
    (h : Keeps s₀ s) : Keeps s₀ (secMemOut c m e st l y s) :=
  .forAll (h.onlyIf fun h => h.bump) fun h => h.devPut

protected theorem Keeps.secMjDiscard {c : Nat} (h : Keeps s₀ s) : Keeps s₀ (secMjDiscard c s) :=
  h.setSecCl.bump.secMjStatus.secMemMove

protected theorem Keeps.secMemory {c : Nat} {r : SecRun} {parity : Option (Nat × Nat)} {stallIn stallOut : Nat}
    (h : Keeps s₀ s) : Keeps s₀ (secMemory c r parity stallIn stallOut s) := by
  unfold secMemory
  extract_lets +onlyGivenNames bank s1 m g p w x0 q st s2 y row row' st' s3 env a s4
  have h1 : Keeps s₀ s1 := .ite h.secMemMove h
  have h2 : Keeps s₀ s2 := by
    dsimp only [s2, q]
    split
    exacts [h1.secParity, h1]
  have h4 : Keeps s₀ s4 := .secCount (.secFree (.iteSnd h2.secMemRow h2))
  exact .ite h4.secMjDiscard (h4.forAll fun h => h.secMemOut).setSecCl

protected theorem Keeps.execSectorMemoryUnit {c : Fin 4} {err : MemErr} {parity : Option (Fin 32 × BitVec 15)}
    {stallIn stallOut : BitVec 32} (h : Keeps s₀ s) :
    KeepsNext s₀ (execSectorMemoryUnit c err parity stallIn stallOut s) := by
  refine .ite (.next h) ?_
  split
  · exact .next h
  · refine .ite (.next h) ?_
    split
    exacts [.next h.secBankErr, .next (.secMemory (h.onlyIf fun h => h.bump))]

protected theorem Keeps.execMjComplete {c : Fin 4} (h : Keeps s₀ s) : KeepsNext s₀ (execMjComplete c s) := by
  unfold execMjComplete
  split
  · exact .next h
  · exact .ite (.next h) (.next (h.setSecCl.secMjStatus.secMemMove.onlyIf fun h => h.semRelease))

protected theorem Keeps.progCtrlEffect {i : Iface} {c : Nat} {v : Word} {err : MemErr} (h : Keeps s₀ s) :
    Keeps s₀ (progCtrlEffect i c v err s).1 :=
  .iteFst (.secCommit (h.plainEffect.onlyIf fun h => h.bump)) h.plainEffect

protected theorem Keeps.execSectorCommit {ifc : Iface} {c : Fin 4} {wsel : Bool} {force target : MemErr}
    (h : Keeps s₀ s) : KeepsNext s₀ (execSectorCommit ifc c wsel force target s) :=
  .next (h.gatedWrite fun h => .iteFst h.secBankErr.progCtrlEffect (.progCtrlEffect (h.onlyIf fun h => h.bump)))

protected theorem Keeps.execSwapPendingTimeout {c : Fin 4} (h : Keeps s₀ s) :
    KeepsNext s₀ (execSwapPendingTimeout c s) := by
  unfold execSwapPendingTimeout
  split
  exacts [.next h, .ite (.next h) (.next h.setSecCl.raiseE.secSignal)]

protected theorem Keeps.bankWriteEffect {c o : Nat} {v : Word} (h : Keeps s₀ s) : Keeps s₀ (bankWriteEffect c o v s).1 := by
  refine .iteFst (.secSignal (.ite h.setSecCl.wrB.bump h.setSecCl.wrB.bump.raiseE)) ?_
  exact .setSecBank h (twf_foldl_tput (upto 4))

protected theorem Keeps.bankChainWrite {c b o : Nat} {bs : List (Byte × Bool)} (h : Keeps s₀ s) :
    Keeps s₀ (bankChainWrite c b o bs s).2 := by
  refine .iteSnd h (.iteSnd (.secSignal (.ite h.setSecCl.wrB.bump h.setSecCl.wrB.bump.raiseE)) ?_)
  exact .setSecBank h (twf_foldl_tput ((upto bs.length).zip bs))

protected theorem Keeps.execSectorBankWrite {ifc : Iface} {c : Fin 4} {word : Fin 49152} {v : Word}
    (h : Keeps s₀ s) : KeepsNext s₀ (execSectorBankWrite ifc c word v s) :=
  .next (h.gatedWrite fun h => h.bankWriteEffect)

protected theorem Keeps.secPutBank {c b : Nat} {img : List Byte} (h : Keeps s₀ s) : Keeps s₀ (secPutBank c b img s) := by
  refine .setSecBank h fun w => ?_
  exact twf_foldl_tput ((upto img.length).zip img) (tclear_wfFrom _ 0 _ _ s.secBank w)

protected theorem Keeps.secLoad {payload : List Byte} (h : Keeps s₀ s) : Keeps s₀ (secLoad payload s) := by
  refine .forAll (.forAll (.setSecBank h fun _ => rfl) fun h => h.secPutBank) fun h => ?_
  exact .secMjStatus (.secRefresh h.wrB)

protected theorem Keeps.secFenced (h : Keeps s₀ s) : Keeps s₀ (secFenced s) :=
  .others (h.forAll fun h => .ite h.loseSplice h)

/-! ### Loading an image's sections -/

protected theorem Keeps.loadPlan {p : List Byte} (h : Keeps s₀ s) : Keeps s₀ (loadPlan p s) := h.wrn.wrF

protected theorem Keeps.loadRoutesD2 (h : Keeps s₀ s) : Keeps s₀ (loadRoutesD2 s) := h.forAll fun h => h.wrn

protected theorem Keeps.loadRoutesD3 (h : Keeps s₀ s) : Keeps s₀ (loadRoutesD3 s) :=
  .forAll (h.forAll fun h => h.wrF.wrF) fun h => h.wrn.wrn

protected theorem Keeps.loadOwners (h : Keeps s₀ s) : Keeps s₀ (loadOwners s) := h.forAll fun h => h.wrn

protected theorem Keeps.loadProfiles (h : Keeps s₀ s) : Keeps s₀ (loadProfiles s) := h.wrn

protected theorem Keeps.loadKeeper (h : Keeps s₀ s) : Keeps s₀ (loadKeeper s) := h.others

protected theorem Keeps.loadLantern {rs : List LanRec} {n : Nat} (h : Keeps s₀ s) : Keeps s₀ (loadLantern rs n s) := by
  unfold loadLantern
  split
  · exact h
  · exact (h.setMem (tclear_wfFrom _ 0 _ _ s.mem)).setBytes.setBytes.setLan

protected theorem Keeps.loadLanterns (h : Keeps s₀ s) : Keeps s₀ (loadLanterns s) :=
  h.others.forAll fun h => .ite h.setLan.loadLantern h.setLan

protected theorem Keeps.loadCtxWord {c k v : Nat} (h : Keeps s₀ s) : Keeps s₀ (loadCtxWord c k v s) :=
  .ite h h.wr.wr

protected theorem Keeps.clearCtxTables {c : Nat} (h : Keeps s₀ s) : Keeps s₀ (clearCtxTables c s) :=
  h.setRegs fun w => tclear_wfFrom _ 0 _ _ _ (tclear_wfFrom _ 0 _ _ s.regs w)

protected theorem Keeps.loadContexts (h : Keeps s₀ s) : Keeps s₀ (loadContexts s) := by
  refine .measRefresh (.forAll (.forAll ?_ (fun h => h.admitApply)) (fun h => h.ctxRefresh))
  exact h.forAll fun h => .ctxRestart (.clearCtxTables (h.forAll fun h => h.loadCtxWord))

protected theorem Keeps.loadDramCap (h : Keeps s₀ s) : Keeps s₀ (loadDramCap s) := h.wrB.wrF

/-! ### The structure image -/

protected theorem Keeps.resetRegs {d : Nat} (h : Keeps s₀ s) : Keeps s₀ (resetRegs d s) :=
  (h.setRegs (twfFrom_filter _)).others

/-! ### The host window -/

protected theorem Keeps.hostWrite {a : Nat} {bs : List Byte} (h : Keeps s₀ s) : Keeps s₀ (hostWrite a bs s) :=
  .ite (h.forAll fun h => h.others) h

protected theorem Keeps.sendRead {r : PcieRead} (h : Keeps s₀ s) : Keeps s₀ (sendRead r s) := h.others

protected theorem Keeps.issueRead {r : PcieRead} (h : Keeps s₀ s) : Keeps s₀ (issueRead r s) :=
  .ite h.sendRead h.others

protected theorem Keeps.hostRead {req : PcieReq} {spans : List (Nat × Nat)} (h : Keeps s₀ s) :
    Keeps s₀ (hostRead req spans s).2 := by
  refine .iteSnd ?_ h
  split
  exacts [h, h.issueRead]

protected theorem Keeps.dropReadsOf {p : PcieReq → Bool} (h : Keeps s₀ s) : Keeps s₀ (dropReadsOf p s) := h.others

protected theorem Keeps.dropReads {req : PcieReq} (h : Keeps s₀ s) : Keeps s₀ (dropReads req s) := h.dropReadsOf

protected theorem Keeps.cuBuild {u id : Nat} {bs : List Byte} (h : Keeps s₀ s) : Keeps s₀ (cuBuild u id bs s).2 := by
  unfold cuBuild
  split
  exacts [h.bump, h.wrF.bumpW]

protected theorem Keeps.cuCheck {u : Nat} {id : Option Nat} {bs blk : List Byte} (h : Keeps s₀ s) :
    Keeps s₀ (cuCheck u id bs blk s).2 := by
  refine .iteSnd h.bumpW.bump ?_
  refine .iteSnd h.bumpW.bump ?_
  split
  · exact h.bumpW.bump
  · exact .iteSnd h.bumpW.wrF.wrB (.iteSnd h.bumpW.wrF.wrB.bump h.bumpW.bump)

/-! ### The scratchpad block -/

protected theorem Keeps.execSpadRead {port : Fin 14} {addr : BitVec 48} {len : BitVec 12} {err : MemErr}
    (h : Keeps s₀ s) : KeepsNext s₀ (execSpadRead port addr len err s) :=
  .ite (.next h.agentDecodeErr.answerErr) (.ite (.next h.answerErr) (.next h.portRead.others))

protected theorem Keeps.execSpadWrite {port : Fin 14} {addr : BitVec 48} {data : List Byte} {poison : Bool}
    {err : MemErr} (h : Keeps s₀ s) : KeepsNext s₀ (execSpadWrite port addr data poison err s) := by
  refine .ite (.next h.agentDecodeErr.answerErr) ?_
  exact .ite (.next h.answerErr) (.next (.ite h.portWrite.answer h.portWrite.answerErr))

protected theorem Keeps.fcStatus {waiting : Bool} (h : Keeps s₀ s) : Keeps s₀ (fcStatus waiting s) := h.wrB.wrF.wrB

protected theorem Keeps.fcRefuse {a reason : Nat} {j : Option JobRef} (h : Keeps s₀ s) :
    Keeps s₀ (fcRefuse a reason j s) :=
  h.wrB.wrF.wr64.bump.raiseJ.assertRouted

protected theorem Keeps.fcPush {a : Nat} (h : Keeps s₀ s) : Keeps s₀ (fcPush a s) :=
  .ite h.devRead.fcRefuse h.devRead.others.fcStatus

protected theorem Keeps.fcPushEffect {i : Iface} {hi : Word} (h : Keeps s₀ s) : Keeps s₀ (fcPushEffect i hi s).1 :=
  h.pairEffect.fcPush

protected theorem Keeps.execFcPush {ifc : Iface} {hi : Word} (h : Keeps s₀ s) : KeepsNext s₀ (execFcPush ifc hi s) :=
  .next (h.gatedWrite fun h => h.fcPushEffect)

protected theorem Keeps.fcStore {a : Nat} {bs : List Byte} {dirty : Nat → Nat → Bool} {clearPs : Bool}
    (h : Keeps s₀ s) : Keeps s₀ (fcStore a bs dirty clearPs s) :=
  h.portWrite.forAll fun h => .ite h.setPoison (.ite h.setPoison h)

protected theorem Keeps.fcRow {c : FcCmd} {k : Nat} (h : Keeps s₀ s) : Keeps s₀ (fcRow c k s) :=
  .ite h.portRead.fcStore h.fcStore

protected theorem Keeps.fcDiscard (h : Keeps s₀ s) : Keeps s₀ (fcDiscard s) := h.others.bump.fcStatus

protected theorem Keeps.fcRows {n : Nat} (h : Keeps s₀ s) : Keeps s₀ (fcRows n s) := by
  induction n generalizing s with
  | zero => exact h
  | succ n ih =>
    unfold fcRows
    split
    · exact h
    · exact .ite h (.ite h.fcDiscard (ih h.fcRow.others))

protected theorem Keeps.execFcStart {rows : Nat} (h : Keeps s₀ s) : KeepsNext s₀ (execFcStart rows s) := by
  unfold execFcStart
  split
  · refine .ite (.next h.fcStatus) ?_
    refine .next ?_
    refine .ite ?_ ?_
    · exact .fcRows (.fcStatus (.onlyIf (.others (h.onlyIf fun h => h.semTake)) fun h => h.wrF))
    · exact .fcDiscard (.fcStatus (.onlyIf (.others (h.onlyIf fun h => h.semTake)) fun h => h.wrF))
  · exact .next h

protected theorem Keeps.execFcDone (h : Keeps s₀ s) : KeepsNext s₀ (execFcDone s) := by
  unfold execFcDone
  split
  · exact .next h
  · dsimp only
    split
    · exact .next h.fcRows
    · exact .next (h.fcRows.others.bump.fcStatus.onlyIf fun h => h.semRelease)

protected theorem Keeps.execSemCountWrite {n : Fin 1024} {v : Word} (h : Keeps s₀ s) :
    KeepsNext s₀ (execSemCountWrite n v s) :=
  .next h.semLoad.answer

protected theorem Keeps.execSemRelease {n : Fin 1024} {v : Word} (h : Keeps s₀ s) :
    KeepsNext s₀ (execSemRelease n v s) :=
  .next h.semRelease.answer

protected theorem Keeps.execSemTake {n : Fin 1024} (h : Keeps s₀ s) : KeepsNext s₀ (execSemTake n s) :=
  .next h.semTake.answer

protected theorem Keeps.execSemCfgWrite {n : Fin 1024} {v : Word} (h : Keeps s₀ s) :
    KeepsNext s₀ (execSemCfgWrite n v s) :=
  .next h.unreserve.setSem.answer

/-! ### The network domain, sending -/

protected theorem Keeps.sendFrame {f : NetOut} (h : Keeps s₀ s) : Keeps s₀ (sendFrame f s) := .ite h.others.bumpW h

protected theorem Keeps.linkFall {k : Nat} (h : Keeps s₀ s) : Keeps s₀ (linkFall k s) := .ite h.wrn.bump.raiseE h

protected theorem Keeps.setGrpState {g : Nat} (h : Keeps s₀ s) : Keeps s₀ (setGrpState g s) :=
  .ite h h.wrF.wrF.assertRouted

protected theorem Keeps.setMate {m : Nat} {x : Mate} (h : Keeps s₀ s) : Keeps s₀ (setMate m x s) := h.others

protected theorem Keeps.ctpTransmit {p : Peer} {m : CtpMsg} (h : Keeps s₀ s) : Keeps s₀ (ctpTransmit p m s) :=
  .ite h.sendFrame.bumpW h

protected theorem Keeps.ctpSendFor {d : Option Nat} {p : Peer} {m : CtpMsg} (h : Keeps s₀ s) :
    Keeps s₀ (ctpSendFor d p m s) :=
  .ite h.others h.ctpTransmit

protected theorem Keeps.ctpSend {p : Peer} {m : CtpMsg} (h : Keeps s₀ s) : Keeps s₀ (ctpSend p m s) := h.ctpSendFor

protected theorem Keeps.setAssoc {k : Nat} {a : Option Assoc} (h : Keeps s₀ s) : Keeps s₀ (setAssoc k a s) :=
  h.others

protected theorem Keeps.updAssoc {k : Nat} {f : Assoc → Assoc} (h : Keeps s₀ s) : Keeps s₀ (updAssoc k f s) := by
  unfold updAssoc
  split
  exacts [h.setAssoc, h]

protected theorem Keeps.useAssoc {p : Peer} (h : Keeps s₀ s) : Keeps s₀ (useAssoc p s).2 := by
  unfold useAssoc
  split
  · exact h.updAssoc
  · split
    exacts [h.takeFree.others.setAssoc, h.bump.limited fun h => h.raiseE]

protected theorem Keeps.updDesc {n : Nat} {f : TxDesc → TxDesc} (h : Keeps s₀ s) : Keeps s₀ (updDesc n f s) :=
  h.others

protected theorem Keeps.jobRelease {k : Nat} (h : Keeps s₀ s) : Keeps s₀ (jobRelease k s) :=
  .ite h.genAdvance.freeSlot h

protected theorem Keeps.dropDescMsgs {n : Nat} (h : Keeps s₀ s) : Keeps s₀ (dropDescMsgs n s) :=
  h.others.forAll fun h => h.updAssoc

protected theorem Keeps.descComplete {n : Nat} (h : Keeps s₀ s) : Keeps s₀ (descComplete n s) := by
  unfold descComplete
  split
  · exact h
  · extract_lets +onlyGivenNames status s1 _ s2 s3 s4
    have h3 : Keeps s₀ s3 := by
      dsimp only [s3]
      split
      exacts [h.dropDescMsgs.others.devPut.wrn, h.dropDescMsgs.others]
    have h4 : Keeps s₀ s4 := h3.onlyIf fun h => h.assertSrc
    split
    exacts [h4.jobRelease, h4]

protected theorem Keeps.descEnd {n st : Nat} (h : Keeps s₀ s) : Keeps s₀ (descEnd n st s) := h.updDesc.descComplete

protected theorem Keeps.descStep {n : Option Nat} {f : TxDesc → TxDesc} (h : Keeps s₀ s) :
    Keeps s₀ (descStep n f s) := by
  unfold descStep
  split
  exacts [h.updDesc, h]

protected theorem Keeps.startMsg {k : Nat} {t : TxMsg} (h : Keeps s₀ s) : Keeps s₀ (startMsg k t s) := by
  unfold startMsg
  split
  · exact h
  · refine .ite ?_ ?_
    · split
      exacts [h.descEnd, h]
    · refine .ctpSendFor ?_
      split
      exacts [h.setAssoc.updDesc, h.setAssoc]

protected theorem Keeps.drainBacklog {k : Nat} (h : Keeps s₀ s) : Keeps s₀ (drainBacklog k s) := by
  unfold drainBacklog
  split
  · exact h
  · refine .forAll h fun h => ?_
    split
    · split
      exacts [h.setAssoc.startMsg, h]
    · exact h

protected theorem Keeps.sendReliable {k : Nat} {t : TxMsg} (h : Keeps s₀ s) : Keeps s₀ (sendReliable k t s) := by
  unfold sendReliable
  split
  exacts [h, .ite h.setAssoc h.startMsg]

protected theorem Keeps.sendOwn {p : Peer} {m : CtpMsg} (h : Keeps s₀ s) : Keeps s₀ (sendOwn p m s) := by
  have hu : Keeps s₀ (useAssoc p s).2 := h.useAssoc
  unfold sendOwn
  generalize useAssoc p s = u at hu
  obtain ⟨_ | k, s⟩ := u
  exacts [hu, hu.sendReliable]

protected theorem Keeps.removeTx {k q : Nat} (h : Keeps s₀ s) : Keeps s₀ (removeTx k q s) := h.updAssoc

protected theorem Keeps.retransmit {k q : Nat} (h : Keeps s₀ s) : Keeps s₀ (retransmit k q s) := by
  unfold retransmit
  split
  · refine .ite h ?_
    refine .ite ?_ h.updAssoc.bumpW.ctpSendFor
    split
    exacts [h.descEnd, h]
  · exact h

protected theorem Keeps.markOut {p : Peer} {m : CtpMsg} (h : Keeps s₀ s) : Keeps s₀ (markOut p m s) := by
  unfold markOut
  split
  exacts [h.updAssoc, h]

protected theorem Keeps.flushOne {x : Peer × CtpMsg × Option Nat} (h : Keeps s₀ s) : Keeps s₀ (flushOne x s) := by
  unfold flushOne
  split
  · exact h.ctpTransmit.markOut
  · split
    exacts [h, .ite h.descEnd h.ctpTransmit.markOut]

protected theorem Keeps.ctpFlush (h : Keeps s₀ s) : Keeps s₀ (ctpFlush s) :=
  .ite h (h.others.forAll fun h => h.flushOne)

protected theorem Keeps.failMsg {k q : Nat} {lost : Bool} (h : Keeps s₀ s) : Keeps s₀ (failMsg k q lost s) := by
  unfold failMsg
  split
  · exact h
  · exact .drainBacklog (.onlyIf (.descStep (h.removeTx.bump.limited fun h => h.raiseE)) fun h => h.sendReliable)

protected theorem Keeps.execRetransmitTimer {k : Fin 64} {seq : Word} (h : Keeps s₀ s) :
    KeepsNext s₀ (execRetransmitTimer k seq s) :=
  .next (.ite h.retransmit h)

protected theorem Keeps.execDeliveryFailure {k : Fin 64} {seq : Word} (h : Keeps s₀ s) :
    KeepsNext s₀ (execDeliveryFailure k seq s) := by
  refine .next ?_
  split
  exacts [.ite h.failMsg h, h]

protected theorem Keeps.execDescriptorCompleteCtp {k : Fin 4096} (h : Keeps s₀ s) :
    KeepsNext s₀ (execDescriptorCompleteCtp k s) := by
  refine .next ?_
  split
  exacts [.ite h.descComplete h, h]

protected theorem Keeps.addDesc {d : TxDesc} (h : Keeps s₀ s) : Keeps s₀ (addDesc d s) := h.others

protected theorem Keeps.descRefuse {n : Nat} (h : Keeps s₀ s) : Keeps s₀ (descRefuse n s) := h.bump.raiseE.descEnd

protected theorem Keeps.descSendTo {n : Nat} {p : Peer} {bit : Nat} {m : CtpMsg} {reliable : Bool}
    {check : Option (Nat × Nat)} (h : Keeps s₀ s) : Keeps s₀ (descSendTo n p bit m reliable check s) := by
  unfold descSendTo
  extract_lets +onlyGivenNames fail r
  have hr : Keeps s₀ r.2 := by
    dsimp only [r]
    split
    exacts [h, h.cuBuild]
  split
  · exact hr.descStep
  · have hu : Keeps s₀ (useAssoc p r.2).2 := hr.useAssoc
    generalize useAssoc p r.2 = u at hu
    obtain ⟨_ | k, s⟩ := u
    · exact hu.descStep
    · exact .ite (.ite hu.updDesc hu.sendReliable) hu.takeFree.updDesc.ctpSendFor.descStep

protected theorem Keeps.groupWakeAsk (h : Keeps s₀ s) : Keeps s₀ (groupWakeAsk s) :=
  .ite h h.others.bump.wakeRequest

protected theorem Keeps.loadWake {t : Nat} (h : Keeps s₀ s) : Keeps s₀ (loadWake t s) :=
  .ite h.others.wr64.groupWakeAsk h.others.wr64

protected theorem Keeps.handOver {k : Nat} (h : Keeps s₀ s) : Keeps s₀ (handOver k s) := h.setJob

protected theorem Keeps.takeDesc {idx a : Nat} {b : List Byte} {readable : Bool} (h : Keeps s₀ s) :
    Keeps s₀ (takeDesc idx a b readable s) := by
  unfold takeDesc
  extract_lets +onlyGivenNames n type flags len d _ s1 r s2 dests payload checked tjob mflags m job s3 s4
  clear_value job
  have h1 : Keeps s₀ s1 := h.others.addDesc
  have h2 : Keeps s₀ s2 := .iteSnd h1 h1.devRead
  have h4 : Keeps s₀ s4 := by
    dsimp only [s4]
    split
    exacts [h2.updDesc.handOver, h2.updDesc]
  refine .ite h1.descRefuse (.ite h2.descRefuse (.ite h2.descRefuse (.ite h2.descEnd ?_)))
  exact ((h4.onlyIf fun h => h.others).onlyIf fun h => h.loadWake).forAll fun h => h.descSendTo

protected theorem Keeps.takeNext {t : Nat} (h : Keeps s₀ s) : Keeps s₀ (takeNext t s) :=
  .ite (.ite h (.ite h.devRead.takeDesc h.takeDesc)) h

protected theorem Keeps.execSendDecision (h : Keeps s₀ s) : KeepsNext s₀ (execSendDecision s) :=
  .next (.ite h h.takeNext)

protected theorem Keeps.execSendRemoteWrite (h : Keeps s₀ s) : KeepsNext s₀ (execSendRemoteWrite s) :=
  .next h.takeNext

protected theorem Keeps.execSendMsg (h : Keeps s₀ s) : KeepsNext s₀ (execSendMsg s) := .next h.takeNext

protected theorem Keeps.execSendWakeAt (h : Keeps s₀ s) : KeepsNext s₀ (execSendWakeAt s) := .next h.takeNext

protected theorem Keeps.sendJobDecision {k cu : Nat} {payload : List Byte} (h : Keeps s₀ s) :
    Keeps s₀ (sendJobDecision k cu payload s) :=
  .ite h.addDesc.descEnd (.ite h.addDesc.descRefuse (h.addDesc.others.forAll fun h => h.descSendTo))

protected theorem Keeps.sendCredit {w : Nat} (h : Keeps s₀ s) : Keeps s₀ (sendCredit w s) :=
  .ite (h.forAll fun h => h.sendOwn) h

protected theorem Keeps.crwGrantEffect {w : Nat} {v : Word} (h : Keeps s₀ s) : Keeps s₀ (crwGrantEffect w v s).1 :=
  h.wrF.onlyIf fun h => h.sendCredit

protected theorem Keeps.execCrwGrant {ifc : Iface} {w : Fin 64} {v : Word} (h : Keeps s₀ s) :
    KeepsNext s₀ (execCrwGrant ifc w v s) :=
  .next (h.gatedWrite fun h => h.crwGrantEffect)

protected theorem Keeps.creditArrived {p : Peer} {w : Nat} (h : Keeps s₀ s) : Keeps s₀ (creditArrived p w s) := by
  refine h.forAll fun {d s} h => ?_
  have hu : Keeps s₀ (useAssoc p s).2 := h.useAssoc
  generalize useAssoc p s = u at hu
  obtain ⟨_ | k, s⟩ := u
  · cases d.msg
    exacts [hu, hu]
  · cases d.msg
    exacts [hu, hu.updDesc.forAll fun h => h.sendReliable]

protected theorem Keeps.execCreditWaitExpiry {k : Fin 4096} (h : Keeps s₀ s) :
    KeepsNext s₀ (execCreditWaitExpiry k s) := by
  refine .next ?_
  split
  exacts [.ite h.descEnd h, h]

protected theorem Keeps.execBeaconTimer (h : Keeps s₀ s) : KeepsNext s₀ (execBeaconTimer s) := by
  refine .ite (.next (h.others.forAll fun {p s} h => ?_)) (.next h)
  have hu : Keeps s₀ (useAssoc p.1 s).2 := h.useAssoc
  generalize useAssoc p.1 s = u at hu
  obtain ⟨_ | k, s⟩ := u
  exacts [hu, hu.ctpTransmit]

protected theorem Keeps.groupEnter (h : Keeps s₀ s) : Keeps s₀ (groupEnter s) :=
  .ite h.others.setGrpState (.ite h.others.setGrpState h.others.setGrpState)

protected theorem Keeps.sendJoin (h : Keeps s₀ s) : Keeps s₀ (sendJoin s) := h.others.sendOwn

protected theorem Keeps.execJoinRetry (h : Keeps s₀ s) : KeepsNext s₀ (execJoinRetry s) := .next (.ite h.sendJoin h)

protected theorem Keeps.rejoin (h : Keeps s₀ s) : Keeps s₀ (rejoin s) := .ite h.sendJoin h

protected theorem Keeps.leaveGroup (h : Keeps s₀ s) : Keeps s₀ (leaveGroup s) :=
  .ite (.setGrpState (.wrF (h.forAll fun h => h.sendOwn))) h

protected theorem Keeps.grpCtrlEffect {v : Word} (h : Keeps s₀ s) : Keeps s₀ (grpCtrlEffect v s).1 :=
  .onlyIf (h.onlyIf fun h => h.rejoin) fun h => h.leaveGroup

protected theorem Keeps.execGroupRejoin {ifc : Iface} (h : Keeps s₀ s) : KeepsNext s₀ (execGroupRejoin ifc s) :=
  .next (h.gatedWrite fun h => h.grpCtrlEffect)

protected theorem Keeps.execGroupLeave {ifc : Iface} (h : Keeps s₀ s) : KeepsNext s₀ (execGroupLeave ifc s) :=
  .next (h.gatedWrite fun h => h.grpCtrlEffect)

protected theorem Keeps.failAll {k : Nat} (h : Keeps s₀ s) : Keeps s₀ (failAll k s) := by
  unfold failAll
  split
  exacts [h, .forAll (h.updAssoc.forAll fun h => h.descStep) fun h => h.failMsg]

protected theorem Keeps.execPeerLoss {m : Fin 8} (h : Keeps s₀ s) : KeepsNext s₀ (execPeerLoss m s) := by
  refine .ite (.next h) ?_
  refine .ite ?_ ?_
  · refine .next (.raiseE (.bump ?_))
    dsimp only
    split
    exacts [h.wrB.failAll, h.wrB]
  · refine .ite ?_ (.next h.wrB)
    refine .next (.raiseE (.bump ?_))
    dsimp only
    split
    exacts [h.wrB.others.setGrpState.failAll, h.wrB.others.setGrpState]

protected theorem Keeps.execGroupWakeTimer (h : Keeps s₀ s) : KeepsNext s₀ (execGroupWakeTimer s) :=
  .next (.ite h.groupWakeAsk h)

protected theorem Keeps.execGroupWakeTest (h : Keeps s₀ s) : KeepsNext s₀ (execGroupWakeTest s) :=
  .ite (.next h) (.next (.ite h.groupWakeAsk.others.wr64.others.bump.raiseE h.groupWakeAsk.others.wr64))

protected theorem Keeps.execGroupSlotOpen (h : Keeps s₀ s) : KeepsNext s₀ (execGroupSlotOpen s) :=
  .next (.ite h.others.ctpFlush h)

protected theorem Keeps.skipCheck (h : Keeps s₀ s) : Keeps s₀ (skipCheck s) := .ite h.others.ctpFlush h

/-! ### The DMA engine -/

protected theorem Keeps.setDma {c : Nat} {x : Dma} (h : Keeps s₀ s) : Keeps s₀ (setDma c x s) := h.others

protected theorem Keeps.setChState {c v : Nat} (h : Keeps s₀ s) : Keeps s₀ (setChState c v s) := h.wrF

protected theorem Keeps.setChDb {c : Nat} {b : Bool} (h : Keeps s₀ s) : Keeps s₀ (setChDb c b s) := h.wrB

protected theorem Keeps.setChCur {c a : Nat} (h : Keeps s₀ s) : Keeps s₀ (setChCur c a s) := h.wr64

protected theorem Keeps.chIrq {c : Nat} (h : Keeps s₀ s) : Keeps s₀ (chIrq c s) :=
  .onlyIf (h.onlyIf fun h => h.assertSrc) fun h => h.msixAssert

protected theorem Keeps.chHalt {c cause dir : Nat} {addr : Nat} {job : Option JobRef} (h : Keeps s₀ s) :
    Keeps s₀ (chHalt c cause dir addr job s) := by
  refine .raiseJ (.bump (.chIrq (.wr64 (.wrF (.wrF (.setChState (.dropReads (.setDma ?_))))))))
  split
  exacts [h.setChCur, h]

protected theorem Keeps.chAtEnd {c : Nat} (h : Keeps s₀ s) : Keeps s₀ (chAtEnd c s) :=
  .ite h.setDma.setChDb.setChState.setDma h.setDma.setChState

protected theorem Keeps.followLink {c : Nat} {d : List Byte} (h : Keeps s₀ s) : Keeps s₀ (followLink c d s) :=
  .ite h.chAtEnd h.setChCur.setChState.setDma

protected theorem Keeps.putStatus {c a v : Nat} (h : Keeps s₀ s) : Keeps s₀ (putStatus c a v s).2 :=
  .iteSnd h.hostWrite h.devWrite

protected theorem Keeps.putStatuses {c v : Nat} {l : List (Nat × List Byte)} (h : Keeps s₀ s) :
    Keeps s₀ (putStatuses c v l s).2 := by
  induction l generalizing s with
  | nil => exact h
  | cons e t ih => exact .iteSnd (.iteSnd (ih h.putStatus) h.putStatus) (ih h)

protected theorem Keeps.endBurst {c bits k : Nat} {irq : Bool} (h : Keeps s₀ s) :
    Keeps s₀ (endBurst c bits k irq s) := by
  dsimp only [endBurst]
  split
  · exact .followLink (.setChCur (.dropReads (h.putStatuses.bump.forAll fun h => h.onlyIf fun h => h.chIrq)))
  · exact h.putStatuses.chHalt
  · exact h.putStatuses

protected theorem Keeps.discardBurst {c : Nat} (h : Keeps s₀ s) : Keeps s₀ (discardBurst c s) := h.endBurst

protected theorem Keeps.readSpan {c a n : Nat} (h : Keeps s₀ s) : Keeps s₀ (readSpan c a n s).2 :=
  .iteSnd h.devRead h.devRead

protected theorem Keeps.readSpans {c : Nat} {l : List (Nat × Nat)} (h : Keeps s₀ s) : Keeps s₀ (readSpans c l s).2.2 := by
  induction l generalizing s with
  | nil => exact h
  | cons e t ih =>
    obtain ⟨a, n⟩ := e
    have hr : Keeps s₀ (readSpan c a n s).2 := h.readSpan
    unfold readSpans
    generalize readSpan c a n s = r at hr
    obtain ⟨_ | b, s⟩ := r
    exacts [hr, ih hr]

protected theorem Keeps.writePieces {g : Agent} {u k a : Nat} {bs : List (Byte × Bool)} (h : Keeps s₀ s) :
    Keeps s₀ (writePieces g u k a bs s).2 := by
  induction k generalizing a bs s with
  | zero => exact h
  | succ k ih => exact .iteSnd h (.iteSnd (ih h.devWrite) h.devWrite)

protected theorem Keeps.writeSpan {c a : Nat} {bs : List (Byte × Bool)} (h : Keeps s₀ s) :
    Keeps s₀ (writeSpan c a bs s).2 := by
  refine .iteSnd (h.hostWrite.onlyIf fun h => h.limited fun h => h.raiseE) ?_
  refine .iteSnd ?_ h.writePieces
  exact .iteSnd (h.devWrite.onlyIf fun h => h.limited fun h => h.raiseE) h.devWrite

protected theorem Keeps.writeSpans {c : Nat} {l : List (Nat × Nat)} {bs : List (Byte × Bool)} (h : Keeps s₀ s) :
    Keeps s₀ (writeSpans c l bs s).2 := by
  induction l generalizing bs s with
  | nil => exact h
  | cons e t ih =>
    dsimp only [writeSpans]
    split
    exacts [h.writeSpan, ih h.writeSpan]

protected theorem Keeps.raceFree {x : Dma} {bs : List (Byte × Bool)} (h : Keeps s₀ s) :
    Keeps s₀ (raceFree x bs s).2 :=
  .iteSnd h h.others

protected theorem Keeps.checkData {d : List Byte} {bs : List (Byte × Bool)} (h : Keeps s₀ s) :
    Keeps s₀ (checkData d bs s).2.2 := by
  refine .iteSndSnd ?_ h.cuCheck
  split
  exacts [h.cuBuild, h.cuBuild]

protected theorem Keeps.chainPut {c o : Nat} {bs : List (Byte × Bool)} {cl : List (Nat × Nat)} {cores : List Nat}
    (h : Keeps s₀ s) : Keeps s₀ (chainPut c o bs cl cores s).2 := by
  refine .foldlSnd ?_ fun h => ?_
  · refine .foldlSnd h fun h => ?_
    split
    exacts [h, h.bankChainWrite]
  · split
    exacts [h, h.writeSpan]

protected theorem Keeps.countMoved {c : Nat} {bs : List (Byte × Bool)} (h : Keeps s₀ s) :
    Keeps s₀ (countMoved c bs s) :=
  h.setDma.bumpW

protected theorem Keeps.completeEach {c : Nat} {x : Dma} {i : Nat} {l : List (Nat × List Byte)} (h : Keeps s₀ s) :
    Keeps s₀ (completeEach c x i l s).2 := by
  induction l generalizing i s with
  | nil => exact h
  | cons e t ih =>
    have hw : Keeps s₀ (if dCtrl e.2 11 then putStatus c e.1 (doneBits x i) s else (true, s)).2 := .iteSnd h.putStatus h
    refine .iteSnd hw (ih ?_)
    exact Keeps.onlyIf ((hw.onlyIf fun h => h.bump).onlyIf fun h => h.semRelease).bumpW fun h => h.chIrq

protected theorem Keeps.finishBurst {c : Nat} (h : Keeps s₀ s) : Keeps s₀ (finishBurst c s) := by
  refine .ite h.discardBurst ?_
  split
  exacts [h.completeEach.chHalt, h.completeEach.setChCur.followLink, h.completeEach]

protected theorem Keeps.startStatus {c : Nat} (h : Keeps s₀ s) : Keeps s₀ (startStatus c s) :=
  .ite h.discardBurst (.ite h.setDma h.finishBurst)

protected theorem Keeps.startReadback {c : Nat} (h : Keeps s₀ s) : Keeps s₀ (startReadback c s) := by
  dsimp only [startReadback]
  split
  · exact h
  · exact .ite h.startStatus (.ite (.ite h.hostRead.setDma h.chHalt) (.ite h.setDma h.startStatus))

protected theorem Keeps.moveData {c : Nat} {err : MemErr} {lim : Option Nat} (h : Keeps s₀ s) :
    Keeps s₀ (moveData c err lim s).2 := by
  unfold moveData
  extract_lets +onlyGivenNames x
  split
  · exact h
  · extract_lets +onlyGivenNames src s1 rdp
    have h1 : Keeps s₀ s1 := h.memErrEffect
    have hread : Keeps s₀ rdp.2.2 := by
      dsimp only [rdp]
      split
      exacts [h1, h1.readSpans]
    split
    · exact hread
    · extract_lets +onlyGivenNames fr ck
      have hrace : Keeps s₀ fr.2 := .iteSnd hread hread.raceFree
      have hcheck : Keeps s₀ ck.2.2 := .iteSndSnd hrace.checkData hrace
      split
      · exact hcheck.raiseE.bump.setDma
      · extract_lets +onlyGivenNames bs s2 w s3
        have h2 : Keeps s₀ s2 := hcheck.onlyIf fun h => h.raiseE.bump.setDma
        have h3 : Keeps s₀ s3 := .countMoved (.iteSnd h2.chainPut h2.writeSpans)
        split
        exacts [h3, h3]

protected theorem Keeps.startXfer {c : Nat} (h : Keeps s₀ s) : Keeps s₀ (startXfer c s) := by
  refine .ite h.discardBurst ?_
  dsimp only
  split
  · exact .ite (.ite h.setChState.hostRead.setDma h.setChState.chHalt) h.setChState
  · exact h.setChState

protected theorem Keeps.beginBurst {c : Nat} (h : Keeps s₀ s) : Keeps s₀ (beginBurst c s) := by
  dsimp only [beginBurst]
  split
  exacts [.ite h.bump.setChState h.bump.startXfer, h.bump]

protected theorem Keeps.growBurst {c : Nat} (h : Keeps s₀ s) : Keeps s₀ (growBurst c s) := by
  dsimp only [growBurst]
  split
  exacts [h.setDma.beginBurst, .ite h.setDma.hostRead.setDma h.setDma.beginBurst]

protected theorem Keeps.mergeHost {c : Nat} {raw : List Byte} (h : Keeps s₀ s) : Keeps s₀ (mergeHost c raw s) := by
  dsimp only [mergeHost]
  split
  exacts [.ite h.setDma.setDma.growBurst h.setDma.beginBurst, h.setDma]

protected theorem Keeps.gotDesc {c a : Nat} {d : List Byte} (h : Keeps s₀ s) : Keeps s₀ (gotDesc c a d s) :=
  .ite h.setDma.chHalt (.ite h.setDma.growBurst h.setDma.beginBurst)

protected theorem Keeps.gotLink {c : Nat} {w : List Byte} (h : Keeps s₀ s) : Keeps s₀ (gotLink c w s) :=
  .ite h.chAtEnd h.setChCur.setChState.setDma

protected theorem Keeps.descError {c a : Nat} (h : Keeps s₀ s) : Keeps s₀ (descError c a s) := h.setDma.chHalt

protected theorem Keeps.fetchAt {c a n : Nat} {k : List Byte → State → State} (h : Keeps s₀ s)
    (hk : ∀ {b s}, Keeps s₀ s → Keeps s₀ (k b s)) : Keeps s₀ (fetchAt c a n k s) :=
  .ite h.descError (.ite (.ite h.hostRead.setDma h.descError) (.ite h.devRead.descError (hk h.devRead)))

protected theorem Keeps.dmaHostData {c : Nat} {bs : List (Byte × Bool)} (h : Keeps s₀ s) :
    Keeps s₀ (dmaHostData c bs s) := by
  refine .ite h ?_
  split
  · exact h.setDma.gotLink
  · exact h.setDma.mergeHost
  · exact h.setDma.gotDesc
  · exact h.setDma.setDma
  · exact h.setDma.setDma
  · exact h.setDma

protected theorem Keeps.dmaHostError {c off : Nat} (h : Keeps s₀ s) : Keeps s₀ (dmaHostError c off s) :=
  .ite h (.ite h.setDma.beginBurst (.ite h.descError h.chHalt))

protected theorem Keeps.chHeadEffect {i : Iface} {c : Nat} {lo v : Word} (h : Keeps s₀ s) :
    Keeps s₀ (chHeadEffect i c lo v s).1 :=
  .iteFst h.pairEffect.setChCur.setChState.setDma h.pairEffect

protected theorem Keeps.execChainStart {ifc : Iface} {c : Fin 32} {hi : Word} (h : Keeps s₀ s) :
    KeepsNext s₀ (execChainStart ifc c hi s) :=
  .next (h.gatedWrite fun h => h.chHeadEffect)

protected theorem Keeps.execDescFetch {c : Fin 32} (h : Keeps s₀ s) : KeepsNext s₀ (execDescFetch c s) :=
  .ite (.next h) (.next (h.setChDb.fetchAt fun h => h.gotDesc))

protected theorem Keeps.execLinkReread {c : Fin 32} (h : Keeps s₀ s) : KeepsNext s₀ (execLinkReread c s) :=
  .ite (.next h) (.next (h.fetchAt fun h => h.gotLink))

protected theorem Keeps.execDmaWaitTake {c : Fin 32} (h : Keeps s₀ s) : KeepsNext s₀ (execDmaWaitTake c s) := by
  unfold execDmaWaitTake
  split
  exacts [.ite (.next h) (.next h.semTake.startXfer), .next h]

protected theorem Keeps.discardAfter {c n : Nat} {err : MemErr} (h : Keeps s₀ s) :
    Keeps s₀ (discardAfter c n err s) :=
  .discardBurst (.ite h h.moveData)

protected theorem Keeps.execDmaLastWriteAccepted {c : Fin 32} {w : LastWrite} (h : Keeps s₀ s) :
    KeepsNext s₀ (execDmaLastWriteAccepted c w s) := by
  refine .ite (.next h) ?_
  refine .ite (.next h.discardAfter) ?_
  dsimp only
  split
  exacts [.next h.moveData.chHalt, .next h.moveData.setChState.startReadback]

protected theorem Keeps.execDmaReadbackReturn {c : Fin 32} (h : Keeps s₀ s) :
    KeepsNext s₀ (execDmaReadbackReturn c s) :=
  .ite (.next h) (.ite (.next h.startStatus) (.ite (.next h.devRead.chHalt) (.next h.devRead.startStatus)))

protected theorem Keeps.execDmaStatusWbAccepted {c : Fin 32} (h : Keeps s₀ s) :
    KeepsNext s₀ (execDmaStatusWbAccepted c s) :=
  .ite (.next h) (.next h.finishBurst)

protected theorem Keeps.chDoorbellEffect {c : Nat} {v : Word} (h : Keeps s₀ s) :
    Keeps s₀ (chDoorbellEffect c v s).1 :=
  .iteFst (.ite h.setChDb.bumpW.chAtEnd h.setChDb.bumpW) h

protected theorem Keeps.execChDoorbell {ifc : Iface} {c : Fin 32} (h : Keeps s₀ s) :
    KeepsNext s₀ (execChDoorbell ifc c s) :=
  .next (h.gatedWrite fun h => h.chDoorbellEffect)

protected theorem Keeps.execDmaBusError {c : Fin 32} {write : Bool} {k : BitVec 24} (h : Keeps s₀ s) :
    KeepsNext s₀ (execDmaBusError c write k s) :=
  .ite (.next h) (.ite (.next h.discardAfter) (.next h.moveData.chHalt))

protected theorem Keeps.chAbort {c : Nat} (h : Keeps s₀ s) : Keeps s₀ (chAbort c s) :=
  .ite h h.setChState.setDma.dropReads

protected theorem Keeps.chCmdEffect {c : Nat} {v : Word} (h : Keeps s₀ s) : Keeps s₀ (chCmdEffect c v s).1 :=
  .iteFst h.chAbort (.iteFst (.ite h (.ite h.chAbort h.endBurst)) (.iteFst (.ite h.setChState.setDma h) h))

protected theorem Keeps.execDmaResume {ifc : Iface} {c : Fin 32} (h : Keeps s₀ s) :
    KeepsNext s₀ (execDmaResume ifc c s) :=
  .next (h.gatedWrite fun h => h.chCmdEffect)

protected theorem Keeps.execDmaSkip {ifc : Iface} {c : Fin 32} (h : Keeps s₀ s) :
    KeepsNext s₀ (execDmaSkip ifc c s) :=
  .next (h.gatedWrite fun h => h.chCmdEffect)

protected theorem Keeps.execDmaAbort {ifc : Iface} {c : Fin 32} (h : Keeps s₀ s) :
    KeepsNext s₀ (execDmaAbort ifc c s) :=
  .next (h.gatedWrite fun h => h.chCmdEffect)

protected theorem Keeps.execAbortDrainComplete {c : Fin 32} (h : Keeps s₀ s) :
    KeepsNext s₀ (execAbortDrainComplete c s) :=
  .ite (.next h.setChState) (.next h)

/-! ### The PCIe link -/

protected theorem Keeps.lanHostData {n tag : Nat} {v : List Byte × Bool} (h : Keeps s₀ s) :
    Keeps s₀ (lanHostData n tag v s) :=
  h.setLan

protected theorem Keeps.readGone {r : PcieRead} (h : Keeps s₀ s) : Keeps s₀ (readGone r s) := h.others

protected theorem Keeps.readDone {r : PcieRead} {bs : List (Byte × Bool)} (h : Keeps s₀ s) :
    Keeps s₀ (readDone r bs s) := by
  unfold readDone
  split
  exacts [h.readGone.dmaHostData, h.readGone.lanHostData, h.readGone]

protected theorem Keeps.readFail {r : PcieRead} (h : Keeps s₀ s) : Keeps s₀ (readFail r s) := by
  unfold readFail
  split
  exacts [h.readGone.dmaHostError, h.readGone.lanHostData, h.readGone]

protected theorem Keeps.nextRead (h : Keeps s₀ s) : Keeps s₀ (nextRead s) := by
  unfold nextRead
  split
  exacts [h, .ite (.ite h.others.sendRead h.others.readFail) h]

protected theorem Keeps.execPcieCompletion {tag : Fin 1024} {ok : Bool} {data : List Byte} {ep : Bool}
    (h : Keeps s₀ s) : KeepsNext s₀ (execPcieCompletion tag ok data ep s) := by
  unfold execPcieCompletion
  split
  · exact .next h
  · refine .ite (.next h.readFail.nextRead) ?_
    dsimp only
    split
    · exact .next h.readDone.nextRead
    · exact .ite (.next h.readGone.sendRead) (.next h.readFail.nextRead)

protected theorem Keeps.execPcieCompletionTimeout {tag : Fin 1024} (h : Keeps s₀ s) :
    KeepsNext s₀ (execPcieCompletionTimeout tag s) := by
  unfold execPcieCompletionTimeout
  split
  exacts [.next h, .next h.readFail.bump.raiseE.nextRead]

protected theorem Keeps.cfgDefaults (h : Keeps s₀ s) : Keeps s₀ (cfgDefaults s) := h.others

protected theorem Keeps.pcieDown (h : Keeps s₀ s) : Keeps s₀ (pcieDown s) :=
  .onlyIf (h.cfgDefaults.wrn.forAll fun h => h.readFail) fun h => h.bump.raiseE

protected theorem Keeps.execPcieLinkReset (h : Keeps s₀ s) : KeepsNext s₀ (execPcieLinkReset s) :=
  .next (.ite h.pcieDown h)

protected theorem Keeps.linkTrained {speed : Fin 5} {width : Fin 4} (h : Keeps s₀ s) :
    Keeps s₀ (linkTrained speed width s) :=
  h.wrn.msixRelease

protected theorem Keeps.execPcieLinkUp {speed : Fin 5} {width : Fin 4} (h : Keeps s₀ s) :
    KeepsNext s₀ (execPcieLinkUp speed width s) :=
  .next (.ite h.linkTrained h)

protected theorem Keeps.setD3hot {d3 : Bool} (h : Keeps s₀ s) : Keeps s₀ (setD3hot d3 s) := h.wrB.msixRelease

protected theorem Keeps.cfgRequest {q : CfgReq} (h : Keeps s₀ s) : Keeps s₀ (cfgRequest q s) := by
  cases q with
  | readClass | readOther => exact h.takeFree.answer
  | writeBar | writeControl => exact h.others.answer
  | writeCommand | writeMsix => exact h.others.msixRelease.answer
  | writePower => exact h.setD3hot.answer
  | _ => exact h.answer

protected theorem Keeps.execPcieConfigRequest {req : CfgReq} (h : Keeps s₀ s) :
    KeepsNext s₀ (execPcieConfigRequest req s) :=
  .next (.ite h.cfgRequest h)

/-! ### Resets and the boot sequence -/

protected theorem Keeps.netDropAll (h : Keeps s₀ s) : Keeps s₀ (netDropAll s) := h.forAll fun h => h.descEnd

protected theorem Keeps.resetUnits {d : Nat} (h : Keeps s₀ s) : Keeps s₀ (resetUnits d s) := by
  unfold resetUnits
  split
  · exact h.lensReset
  · exact .setSecBank h.secFenced fun _ => rfl
  · exact h.others
  · exact h.others.dropReadsOf.forAll fun h => h.setLan
  · exact h.others
  · exact h.others
  · exact h.others.dropReadsOf

protected theorem Keeps.resetDomain {d : Nat} (h : Keeps s₀ s) : Keeps s₀ (resetDomain d s) :=
  h.resetUnits.resetRegs

protected theorem Keeps.restoreDomain1 (h : Keeps s₀ s) : Keeps s₀ (restoreDomain1 s) := .ite h h.lensStaging

protected theorem Keeps.restoreDomain {d : Nat} (h : Keeps s₀ s) : Keeps s₀ (restoreDomain d s) := by
  dsimp only [restoreDomain]
  split
  · exact h.applyRepair.restoreDomain1
  · exact h.applyRepair.loadRoutesD2.secLoad
  · exact h.applyRepair.loadRoutesD3.loadContexts.calLoad
  · exact h.applyRepair.loadProfiles.loadLanterns
  · exact h.applyRepair.onlyIf fun h => h.groupEnter
  · exact h.applyRepair

protected theorem Keeps.zeroScratchpads {keep : Nat} (h : Keeps s₀ s) : Keeps s₀ (zeroScratchpads keep s) :=
  (h.setMem (tclear_wfFrom _ 0 _ _ s.mem)).setPoisonTable (tclear_wfFrom _ 0 _ _ s.poison)

protected theorem Keeps.setSource {n : Nat} (h : Keeps s₀ s) : Keeps s₀ (setSource n s) := h.wrF

protected theorem Keeps.setImageId {v : Ver} (h : Keeps s₀ s) : Keeps s₀ (setImageId v s) := h.wrn.wrWords

protected theorem Keeps.showOos (h : Keeps s₀ s) : Keeps s₀ (showOos s) := .ite h.wrB.wrB h

protected theorem Keeps.bootOos (h : Keeps s₀ s) : Keeps s₀ (bootOos s) := .ite h.showOos.wrF h

protected theorem Keeps.holdKeepers (h : Keeps s₀ s) : Keeps s₀ (holdKeepers s) := h.others

protected theorem Keeps.loadImage {v : Ver} {source keep : Nat} {train : TrainResult} (h : Keeps s₀ s) :
    Keeps s₀ (loadImage v source keep train s) := by
  unfold loadImage
  extract_lets +onlyGivenNames _ s1 s2 es s3 s4 _ s5 s6 s7 s8 _ s9 s10
  have h4 : Keeps s₀ s4 := (h.others.wrn.forAll fun h => h.applyRepair).zeroScratchpads.ddrLoad.ddrTrain
  have h7 : Keeps s₀ s7 :=
    h4.loadPlan.loadDramCap.loadProfiles.loadOwners.loadRoutesD2.secLoad.loadRoutesD3.loadContexts.calLoad
  have h10 : Keeps s₀ s10 := h7.regulLoad.loadKeeper.restoreDomain1.others.setImageId.setSource.bootOos
  exact .ite h4.others.ddrUnload (.restartIdle (.others (.ite h10.loadLanterns h10)))

protected theorem Keeps.raiseImageFail {v : Ver} (h : Keeps s₀ s) : Keeps s₀ (raiseImageFail v s) := h.raiseE

protected theorem Keeps.slotResult {k : Nat} {code : Nat} (h : Keeps s₀ s) : Keeps s₀ (slotResult k code s) := h.wrF

protected theorem Keeps.slotFail {k : Nat} {v : Ver} (h : Keeps s₀ s) : Keeps s₀ (slotFail k v s) :=
  h.slotResult.wrF.raiseImageFail

protected theorem Keeps.noImage (h : Keeps s₀ s) : Keeps s₀ (noImage s) := h.others

protected theorem Keeps.bootFlash {env : BootEnv} (h : Keeps s₀ s) : Keeps s₀ (bootFlash env s) := by
  unfold bootFlash
  extract_lets +onlyGivenNames header s1
  have h1 : Keeps s₀ s1 := h.forAll fun h => by
    split
    exacts [h.slotFail, h]
  dsimp only
  split
  · exact h1.raiseE.noImage
  · refine .ite (h1.forAll fun h => h.slotResult).slotResult.loadImage ?_
    split
    · exact h1.slotFail.raiseE.noImage
    · exact .ite h1.slotFail.slotResult.raiseE.wrB.loadImage h1.slotFail.slotFail.raiseE.noImage

protected theorem Keeps.replayHeld (h : Keeps s₀ s) : Keeps s₀ (replayHeld s) :=
  .bumpW (h.others.forAll fun h => h.raiseNow)

protected theorem Keeps.bootDevice {env : BootEnv} (h : Keeps s₀ s) : Keeps s₀ (bootDevice env s) := by
  refine .ite ?_ ?_
  · exact h.others.wrF.others.replayHeld.holdKeepers.fuseFields.showOos.noImage
  · exact h.others.wrF.others.replayHeld.holdKeepers.fuseFields.showOos.bootFlash

protected theorem Keeps.resetAll (h : Keeps s₀ s) : Keeps s₀ (resetAll s) :=
  .others (.forAll (h.others.forAll fun h => h.resetDomain) fun h => h.wrB)

protected theorem Keeps.resetD0 {counted : Bool} {env : BootEnv} (h : Keeps s₀ s) :
    Keeps s₀ (resetD0 counted env s) := by
  unfold resetD0
  extract_lets +onlyGivenNames s1 r s2 _ _ s3 s4 s5 s6
  have h2 : Keeps s₀ s2 := .iteFst h.bump.recordReset h.bump
  have h3 : Keeps s₀ s3 := .ite h2.others h2
  have h6 : Keeps s₀ s6 := .resetAll (h3.wrB.onlyIf fun h => h.precNow)
  exact .ite h6.others h6.bootDevice

protected theorem Keeps.execPowerOnReset {src : Fin 4} {env : BootEnv} (h : Keeps s₀ s) :
    KeepsNext s₀ (execPowerOnReset src env s) := by
  obtain ⟨hp, hf, hc⟩ := h
  refine .next (.bootDevice (.precLoad ⟨hp, hf, fun c => ?_⟩))
  obtain ⟨_, hflash, _⟩ := hc c
  exact ⟨rfl, hflash, rfl, rfl, rfl⟩

protected theorem Keeps.readyEffect {v : Word} (h : Keeps s₀ s) : Keeps s₀ (readyEffect v s).1 :=
  .iteFst (h.wrB.onlyIf fun h => h.groupEnter) h

protected theorem Keeps.execReadySet {ifc : Iface} (h : Keeps s₀ s) : KeepsNext s₀ (execReadySet ifc s) :=
  .next (h.gatedWrite fun h => h.readyEffect)

protected theorem Keeps.pcieBootEffect {v : Word} {env : BootEnv} (h : Keeps s₀ s) :
    Keeps s₀ (pcieBootEffect v env s).1 :=
  .iteFst (.iteFst h.slotResult.slotResult.loadImage h.slotResult.slotResult.wrF.raiseE) h

protected theorem Keeps.execPcieBootGo {ifc : Iface} {env : BootEnv} (h : Keeps s₀ s) :
    KeepsNext s₀ (execPcieBootGo ifc env s) :=
  .next (h.gatedWrite fun h => h.pcieBootEffect)

/-! ### Fences, resets and recovery of domains -/

protected theorem Keeps.setFence {d : Nat} {p : FencePhase} (h : Keeps s₀ s) : Keeps s₀ (setFence d p s) := h.others

protected theorem Keeps.setDomState {d v : Nat} (h : Keeps s₀ s) : Keeps s₀ (setDomState d v s) := h.wrF

protected theorem Keeps.reachDomain {d : Nat} (h : Keeps s₀ s) : Keeps s₀ (reachDomain d s) :=
  .onlyIf (h.forAll fun h => h.reachRef) fun h => h.reachLantern

protected theorem Keeps.fenceUnits {d : Nat} (h : Keeps s₀ s) : Keeps s₀ (fenceUnits d s) := by
  unfold fenceUnits
  split
  exacts [h.lensFenced, h.secFenced, h]

protected theorem Keeps.retentionOver {d : Nat} (h : Keeps s₀ s) : Keeps s₀ (retentionOver d s) :=
  .ite h.others.releaseHeld h

protected theorem Keeps.startFence {d : Nat} (h : Keeps s₀ s) : Keeps s₀ (startFence d s) :=
  h.setDomState.wrB.bump.setFence.raiseE.reachDomain.retentionOver.fenceUnits

protected theorem Keeps.fenceReset {d : Nat} (h : Keeps s₀ s) : Keeps s₀ (fenceReset d s) := by
  refine .resetDomain (.onlyIf (.onlyIf ?_ (fun h => h.netDropAll)) (fun h => h.pcieDown))
  refine .ite ?_ h.setDomState.recordReset.precNow.setFence
  exact h.setDomState.recordReset.precNow.setFence.setDomState.wrB.wrB.raiseE

protected theorem Keeps.relock {d : Nat} (h : Keeps s₀ s) : Keeps s₀ (relock d s) := h.wrB

protected theorem Keeps.runRestore {d : Nat} (h : Keeps s₀ s) : Keeps s₀ (runRestore d s).1 :=
  .iteFst h.setDomState.wrB.raiseFatal h.relock.setDomState.restoreDomain.wrB

protected theorem Keeps.fltDomEffect {i : Iface} {d : Nat} {v : Word} {env : BootEnv} (h : Keeps s₀ s) :
    Keeps s₀ (fltDomEffect i d v env s).1 := by
  refine .iteFst (.ite h.plainEffect.resetD0 h.plainEffect) ?_
  refine .iteFst (.ite h.plainEffect h.plainEffect.startFence) ?_
  exact .iteFst (.iteFst h.plainEffect.setFence h.plainEffect) h.plainEffect

protected theorem Keeps.execDomainFence {ifc : Iface} {d : Fin 6} (h : Keeps s₀ s) :
    KeepsNext s₀ (execDomainFence ifc d s) :=
  .next (h.gatedWrite fun h => h.fltDomEffect)

protected theorem Keeps.execDrainComplete {d : Fin 6} (h : Keeps s₀ s) : KeepsNext s₀ (execDrainComplete d s) := by
  unfold execDrainComplete
  split
  exacts [.next (.ite h h.fenceReset), .next h, .next h]

protected theorem Keeps.execDrainTimeout {d : Fin 6} (h : Keeps s₀ s) : KeepsNext s₀ (execDrainTimeout d s) := by
  unfold execDrainTimeout
  split
  exacts [.next h.wrB.bump.raiseE.fenceReset, .next h, .next h]

protected theorem Keeps.execDomainRestoreComplete {d : Fin 6} (h : Keeps s₀ s) :
    KeepsNext s₀ (execDomainRestoreComplete d s) := by
  dsimp only [execDomainRestoreComplete]
  split
  · refine .ite (.next h.setFence.setDomState.wrB) ?_
    exact .next (.ite h.setFence.runRestore.wrB.raiseE h.setFence.runRestore)
  · exact .next h
  · exact .next h

protected theorem Keeps.execDomainRestore {ifc : Iface} {d : Fin 6} (h : Keeps s₀ s) :
    KeepsNext s₀ (execDomainRestore ifc d s) :=
  .next (h.gatedWrite fun h => h.fltDomEffect)

protected theorem Keeps.execDeviceReset {ifc : Iface} {env : BootEnv} (h : Keeps s₀ s) :
    KeepsNext s₀ (execDeviceReset ifc env s) :=
  .next (h.gatedWrite fun h => h.fltDomEffect)

protected theorem Keeps.execDeviceFatalReset {env : BootEnv} (h : Keeps s₀ s) :
    KeepsNext s₀ (execDeviceFatalReset env s) :=
  .next (.ite h.resetD0 h)

protected theorem Keeps.execHeartbeatTick (h : Keeps s₀ s) : KeepsNext s₀ (execHeartbeatTick s) :=
  .next (.onlyIf (.onlyIf (h.onlyIf fun h => h.bumpW) fun h => h.bump) fun h => h.bumpW)

protected theorem Keeps.oosClearEffect {lo hi : Word} {env : BootEnv} (h : Keeps s₀ s) :
    Keeps s₀ (oosClearEffect lo hi env s).1 :=
  .iteFst h.others.wrB.precNow.raiseE.resetD0 h.wrB

protected theorem Keeps.execOosClear {ifc : Iface} {hi : Word} {env : BootEnv} (h : Keeps s₀ s) :
    KeepsNext s₀ (execOosClear ifc hi env s) :=
  .next (h.gatedWrite fun h => h.oosClearEffect)

protected theorem Keeps.repairCtrlEffect {v : Word} (h : Keeps s₀ s) : Keeps s₀ (repairCtrlEffect v s).1 :=
  .iteFst h (.iteFst h (.iteFst h.wrF (.iteFst h.wrF h.wrF.others.precNow)))

protected theorem Keeps.execRepairAdd {ifc : Iface} (h : Keeps s₀ s) : KeepsNext s₀ (execRepairAdd ifc s) :=
  .next (h.gatedWrite fun h => h.repairCtrlEffect)

protected theorem Keeps.execThermalSample {tj : BitVec 12} {env : BootEnv} (h : Keeps s₀ s) :
    KeepsNext s₀ (execThermalSample tj env s) := by
  refine .next ?_
  refine .ite ?_ ?_
  · exact .bootDevice (.onlyIf (.onlyIf (.onlyIf (.others (h.wrF.onlyIf fun h => h.wrF)) fun h => h.wrF)
      fun h => h.raiseE) fun h => h.raiseE)
  · exact .onlyIf (.onlyIf (.onlyIf (.others (h.wrF.onlyIf fun h => h.wrF)) fun h => h.wrF) fun h => h.raiseE)
      fun h => h.raiseE

protected theorem Keeps.execSupplyFault {n : Fin 16} (h : Keeps s₀ s) : KeepsNext s₀ (execSupplyFault n s) :=
  .ite (.next h) (.next h.wrB.bump.raiseE)

protected theorem Keeps.execPllLockLoss {p : Fin 6} (h : Keeps s₀ s) : KeepsNext s₀ (execPllLockLoss p s) := by
  refine .ite (.next h) (.ite (.next h.wrB) (.next ?_))
  split
  exacts [h.wrB.raiseFatal.raiseFatal, h.wrB.raiseFatal.raiseEvt, h.wrB.raiseFatal, h.wrB.raiseEvt, h.wrB.raiseFatal,
    h.wrB.raiseFatal]

/-! ### Power states of the fast domains -/

protected theorem Keeps.reachRun {failed : Nat} (h : Keeps s₀ s) : Keeps s₀ (reachRun failed s) := by
  exact .deepPoll (.releaseHeld (.forAll (.wrF (.wrB (.others (h.onlyIf fun h => h.fullRetrain)))) fun h => .ite
    h.raiseFatal h))

protected theorem Keeps.wakeCtrlEffect {v : Word} (h : Keeps s₀ s) : Keeps s₀ (wakeCtrlEffect v s).1 := by
  exact .onlyIf (.onlyIf (.onlyIf (h.wrB.onlyIf fun h => h.wrB) fun h => h.wakeRequest) fun h => h.wrB)
    fun h => h.restartIdle

protected theorem Keeps.pwrCtrlEffect {v : Word} (h : Keeps s₀ s) : Keeps s₀ (pwrCtrlEffect v s).1 :=
  .iteFst h.wakeRequest (.iteFst h.wrB.deepPoll h)

protected theorem Keeps.execWakeRequest (h : Keeps s₀ s) : KeepsNext s₀ (execWakeRequest s) := .next h.wakeRequest

protected theorem Keeps.execFastDomainsRun {failed : BitVec 4} (h : Keeps s₀ s) :
    KeepsNext s₀ (execFastDomainsRun failed s) := by
  unfold execFastDomainsRun
  split
  · exact .next h.reachRun
  · exact .next h
  · exact .next h
  · exact .next h
  · exact .next h
  · exact .next h

protected theorem Keeps.execWakeHold {ifc : Iface} {on : Bool} (h : Keeps s₀ s) :
    KeepsNext s₀ (execWakeHold ifc on s) :=
  .next (h.gatedWrite fun h => h.wakeCtrlEffect)

protected theorem Keeps.execWakeNow {ifc : Iface} (h : Keeps s₀ s) : KeepsNext s₀ (execWakeNow ifc s) :=
  .next (h.gatedWrite fun h => h.wakeCtrlEffect)

protected theorem Keeps.execIdleHoldExpiry (h : Keeps s₀ s) : KeepsNext s₀ (execIdleHoldExpiry s) :=
  .ite (.next h.setStep) (.next h)

protected theorem Keeps.execNapEntryComplete (h : Keeps s₀ s) : KeepsNext s₀ (execNapEntryComplete s) := by
  dsimp only [execNapEntryComplete]
  split
  · exact .next (h.bump.others.onlyIf fun h => h.portsNap)
  · exact .next (.startDeep (h.others.onlyIf fun h => h.portsNap))
  · exact .next h
  · exact .next h
  · exact .next h
  · exact .next h

protected theorem Keeps.execDeepHoldExpiry (h : Keeps s₀ s) : KeepsNext s₀ (execDeepHoldExpiry s) :=
  .ite (.next h.startDeep) (.next h)

protected theorem Keeps.execDeepRequest {ifc : Iface} (h : Keeps s₀ s) : KeepsNext s₀ (execDeepRequest ifc s) :=
  .next (h.gatedWrite fun h => h.pwrCtrlEffect)

protected theorem Keeps.execDeepEntryComplete (h : Keeps s₀ s) : KeepsNext s₀ (execDeepEntryComplete s) := by
  unfold execDeepEntryComplete
  split
  · exact .next (.others (h.bump.wrB.forAll fun h => h.resetDomain))
  · exact .next h
  · exact .next h
  · exact .next h
  · exact .next h
  · exact .next h

protected theorem Keeps.execDeepExit {ifc : Iface} (h : Keeps s₀ s) : KeepsNext s₀ (execDeepExit ifc s) :=
  .next (h.gatedWrite fun h => h.pwrCtrlEffect)

protected theorem Keeps.execDeepExitComplete (h : Keeps s₀ s) : KeepsNext s₀ (execDeepExitComplete s) := by
  unfold execDeepExitComplete
  split
  · refine .next (.reachRun ?_)
    exact (h.wrn.others.onlyIf fun h => h.fullRetrain).forAll fun h => .ite h.runRestore h
  all_goals exact .next h

protected theorem Keeps.execDeepDramIdleTimer (h : Keeps s₀ s) : KeepsNext s₀ (execDeepDramIdleTimer s) :=
  .ite (.next h.others.wrB.wrF) (.next h)

/-! ### Links and IEEE 1588 time -/

protected theorem Keeps.execEthLinkDown {k : Fin 9} (h : Keeps s₀ s) : KeepsNext s₀ (execEthLinkDown k s) :=
  .next (.ite h.linkFall h)

protected theorem Keeps.execEthLinkUp {k : Fin 9} {fec : Fin 3} (h : Keeps s₀ s) :
    KeepsNext s₀ (execEthLinkUp k fec s) :=
  .ite (.next h.wrn) (.next h)

protected theorem Keeps.stampFree (h : Keeps s₀ s) : Keeps s₀ (stampFree s).2 := h.takeFree

protected theorem Keeps.halfFree {x : Int} (h : Keeps s₀ s) : Keeps s₀ (halfFree x s).2 := .iteSnd h h.others

protected theorem Keeps.setPtp {f : Ptp → Ptp} (h : Keeps s₀ s) : Keeps s₀ (setPtp f s) := h.others

protected theorem Keeps.ptpUnlock (h : Keeps s₀ s) : Keeps s₀ (ptpUnlock s) := .ite h.wrB.bump.raiseE h

protected theorem Keeps.ptpSend {event peer : Bool} {data : List Byte} (h : Keeps s₀ s) :
    Keeps s₀ (ptpSend event peer data s) :=
  h.sendFrame

protected theorem Keeps.ptpRequest (h : Keeps s₀ s) : Keeps s₀ (ptpRequest s) := h.stampFree.setPtp.ptpSend

protected theorem Keeps.ptpSync {t1 corr t2 : Int} (h : Keeps s₀ s) : Keeps s₀ (ptpSync t1 corr t2 s) :=
  .ite h (.skipCheck (.ptpRequest (.onlyIf (.setPtp (h.bump.wrn.wrB.onlyIf fun h => h.ptpUnlock)) fun h => h.wrB)))

protected theorem Keeps.ptpDelay {x : Int} (h : Keeps s₀ s) : Keeps s₀ (ptpDelay x s) :=
  .ite h.halfFree.bump.wrn h.halfFree.bump.takeFree.wrn

protected theorem Keeps.ptpDelayMsg {d : DelayMsg} {t : Int} (h : Keeps s₀ s) : Keeps s₀ (ptpDelayMsg d t s) := by
  refine .ite h ?_
  split
  · exact .ite h.ptpSend.bump h
  · exact .ite (.ite h.stampFree.bump.ptpSend h.stampFree.bump.ptpSend.ptpSend) h
  · split
    exacts [.ite h h.setPtp.ptpDelay, h]
  · split
    exacts [.ite h h.setPtp.ptpDelay, h]

protected theorem Keeps.execPtpSync {t1 corr : BitVec 64} {err : Fin 17} (h : Keeps s₀ s) :
    KeepsNext s₀ (execPtpSync t1 corr err s) :=
  .next h.ptpSync

protected theorem Keeps.execPtpDelayExchange {d : DelayMsg} {err : Fin 17} (h : Keeps s₀ s) :
    KeepsNext s₀ (execPtpDelayExchange d err s) :=
  .next h.ptpDelayMsg

protected theorem Keeps.execSyncSendTimer {err : Fin 17} (h : Keeps s₀ s) : KeepsNext s₀ (execSyncSendTimer err s) :=
  .ite (.next (.ite h.setPtp.bump.ptpSend h.setPtp.bump.ptpSend.ptpSend)) (.next h)

protected theorem Keeps.execSyncTimeout (h : Keeps s₀ s) : KeepsNext s₀ (execSyncTimeout s) :=
  .next (.ite h.wrB.setPtp.ptpUnlock h)

protected theorem Keeps.ptpStepEffect {i : Iface} {hi : Word} (h : Keeps s₀ s) : Keeps s₀ (ptpStepEffect i hi s).1 :=
  h.others

protected theorem Keeps.execPtpStep {ifc : Iface} {hi : Word} (h : Keeps s₀ s) :
    KeepsNext s₀ (execPtpStep ifc hi s) :=
  .next (h.gatedWrite fun h => h.ptpStepEffect)

protected theorem Keeps.execPairLatch (h : Keeps s₀ s) : KeepsNext s₀ (execPairLatch s) :=
  .ite (.next h.setPtp.wr64.wr64.bumpW) (.next h)

protected theorem Keeps.aonToDtime {a : Nat} (h : Keeps s₀ s) : Keeps s₀ (aonToDtime a s).2 :=
  .iteSnd h.takeFree h.others

/-! ### The life of a job -/

protected theorem Keeps.jobTrail {k : Nat} (h : Keeps s₀ s) : Keeps s₀ (jobTrail k s).2 :=
  .iteSnd h.takeFree.takeFree h.aonToDtime

protected theorem Keeps.decisionPayload {k status flags : Nat} {app : List Byte} (h : Keeps s₀ s) :
    Keeps s₀ (decisionPayload k status flags app s).2 :=
  h.aonToDtime.jobTrail

protected theorem Keeps.decide_ {k cu status flags : Nat} {app : List Byte} (h : Keeps s₀ s) :
    Keeps s₀ (decide_ k cu status flags app s) :=
  h.decisionPayload.handOver.sendJobDecision

protected theorem Keeps.abandonJob {k cu : Nat} (h : Keeps s₀ s) : Keeps s₀ (abandonJob k cu s) :=
  h.genAdvance.setJob.raiseJ.decide_

protected theorem Keeps.faultJob {k cu estimate : Nat} (h : Keeps s₀ s) : Keeps s₀ (faultJob k cu estimate s) :=
  .ite h.genAdvance.setJob.raiseJ h.abandonJob

protected theorem Keeps.execJobCommit {slot : Fin 16} {results views : List Buffer} {read incomplete : Bool}
    {app : List Byte} {cu : Fin 4} {estimate : Nat} (h : Keeps s₀ s) :
    KeepsNext s₀ (execJobCommit slot results views read incomplete app cu estimate s) :=
  .ite (.next h) (.ite (.next h.faultJob) (.next (.decide_ (.setJob (.setJob (h.forAll fun h => h.raiseJ))))))

protected theorem Keeps.execFaultReachesJob {slot : Fin 16} {cu : Fin 4} {estimate : Nat} (h : Keeps s₀ s) :
    KeepsNext s₀ (execFaultReachesJob slot cu estimate s) :=
  .ite (.next h.faultJob) (.next h)

protected theorem Keeps.execAbandonPointExpiry {slot : Fin 16} {cu : Fin 4} (h : Keeps s₀ s) :
    KeepsNext s₀ (execAbandonPointExpiry slot cu s) :=
  .ite (.next h.abandonJob) (.next h)

/-! ### The commands of the image pipes -/

protected theorem Keeps.startFrame {c : Nat} {f : FrameInfo} (h : Keeps s₀ s) : Keeps s₀ (startFrame c f s) :=
  h.beginFrame.secPoll

protected theorem Keeps.pipeFifo {c : Nat} (h : Keeps s₀ s) : Keeps s₀ (pipeFifo c s) := .ite h.fifoLevel h

protected theorem Keeps.takeLine {c : Nat} (h : Keeps s₀ s) : Keeps s₀ (takeLine c s) := by
  unfold takeLine
  split
  · exact .ite h.setPipeQueue.pipeFifo h.setPipeQueue.pipeFifo.pipeLine.secPoll
  · exact h.setPipeQueue.startFrame.setPipeQueue.pipeFifo.pipeLine.secPoll
  · exact h

protected theorem Keeps.takeM2m {c : Nat} (h : Keeps s₀ s) : Keeps s₀ (takeM2m c s) := by
  unfold takeM2m
  split
  exacts [h, h.m2mRead.setPctx.pipeLine.secPoll]

protected theorem Keeps.execPipeLineStart {p : Fin 2} {drained : Nat} (h : Keeps s₀ s) :
    KeepsNext s₀ (execPipeLineStart p drained s) := by
  refine .ite (.next h) ?_
  dsimp only
  split
  · exact .next h.stageDrain.takeLine
  · split
    exacts [.next h.stageDrain.takeM2m, .next h.stageDrain]

protected theorem Keeps.execReturnedLine {c : Fin 16} {intact : Bool} {drained : Nat} (h : Keeps s₀ s) :
    KeepsNext s₀ (execReturnedLine c intact drained s) := by
  refine .ite (.next h) ?_
  dsimp only
  split
  · refine .ite (.next h.stageDrain) ?_
    exact .ite (.next h.stageDrain.loseSplice) (.next h.stageDrain.setSecCtx.setPframe.returnAt)
  · exact .next h.stageDrain

protected theorem Keeps.execSpliceAcceptTimeout {c : Fin 16} (h : Keeps s₀ s) :
    KeepsNext s₀ (execSpliceAcceptTimeout c s) := by
  unfold execSpliceAcceptTimeout
  split
  exacts [.ite (.next h.loseSplice) (.next h), .next h]

protected theorem Keeps.m2mGoEffect {c : Nat} {v : Word} (h : Keeps s₀ s) : Keeps s₀ (m2mGoEffect c v s).1 :=
  .iteFst h (.iteFst h h.others.ctxBoundary.wrB.startFrame.setPctx)

protected theorem Keeps.execM2mGo {ifc : Iface} {c : Fin 16} (h : Keeps s₀ s) : KeepsNext s₀ (execM2mGo ifc c s) :=
  .next (h.gatedWrite fun h => h.m2mGoEffect)

protected theorem Keeps.finishFrame {c : Nat} (h : Keeps s₀ s) : Keeps s₀ (finishFrame c s) :=
  .pipeFifo (.closeCtx (.ite h.flushAfter h))

protected theorem Keeps.endFrame {c flags : Nat} (h : Keeps s₀ s) : Keeps s₀ (endFrame c flags s) := by
  unfold endFrame
  extract_lets +onlyGivenNames _ s1 s2 pf back s3 s4
  have h2 : Keeps s₀ s2 := .ite h.setPframe.pipeFlag h.setPframe
  have h3 : Keeps s₀ s3 := .ite h2 h2.flushTo
  have h4 : Keeps s₀ s4 := .ite h3.splicePush.secPoll h3
  exact .ite h4.setPframe h4.setPframe.finishFrame

protected theorem Keeps.execPipeFrameEnd {c : Fin 16} {drained : Nat} (h : Keeps s₀ s) :
    KeepsNext s₀ (execPipeFrameEnd c drained s) := by
  refine .ite (.next h) ?_
  dsimp only
  split
  · refine .ite (.next (.ite h.stageDrain h.stageDrain.finishFrame)) ?_
    refine .ite (.next (.ite h.stageDrain h.stageDrain.endFrame)) ?_
    split
    exacts [.next h.stageDrain.setPipeQueue.endFrame, .next h.stageDrain]
  · exact .next h.stageDrain.setPipeQueue.startFrame.endFrame
  · exact .next h.stageDrain

/-! ### Quiesce and the application of an image -/

protected theorem Keeps.setQuiesce {n : Nat} (h : Keeps s₀ s) : Keeps s₀ (setQuiesce n s) := h.wrF

protected theorem Keeps.stopTriggers (h : Keeps s₀ s) : Keeps s₀ (stopTriggers s) :=
  h.forAll fun h => h.setTrig.stopSeg

protected theorem Keeps.applyRefuse {reason idx : Nat} (h : Keeps s₀ s) : Keeps s₀ (applyRefuse reason idx s) :=
  h.wrB.wrF.wrF.raiseE

protected theorem Keeps.applyEffect (h : Keeps s₀ s) : Keeps s₀ (applyEffect s) := by
  refine .ite h ?_
  refine .ite h.applyRefuse ?_
  dsimp only
  split
  · exact h.applyRefuse
  · refine .ite h.applyRefuse ?_
    split
    exacts [h.applyRefuse, h.setQuiesce.wrB.others]

protected theorem Keeps.reqEffect {on : Bool} (h : Keeps s₀ s) : Keeps s₀ (reqEffect on s) := by
  dsimp only [reqEffect]
  split
  exacts [.ite h.wrB.setQuiesce h.wrB, h.wrB.others, .ite h.wrB h.wrB.others.setQuiesce]

protected theorem Keeps.quiesceCtrlEffect {v : Word} (h : Keeps s₀ s) : Keeps s₀ (quiesceCtrlEffect v s).1 :=
  h.reqEffect.onlyIf fun h => h.applyEffect

protected theorem Keeps.applyReset {d : Nat} (h : Keeps s₀ s) : Keeps s₀ (applyReset d s) := by
  refine .ite h ?_
  refine .ite ?_ h.reachDomain.resetDomain.recordReset.precNow.restoreDomain
  exact h.reachDomain.resetDomain.recordReset.precNow.setDomState.wrB.raiseE

protected theorem Keeps.applySections {changed repair : List Nat} (h : Keeps s₀ s) :
    Keeps s₀ (applySections changed repair s) := by
  exact .onlyIf (.onlyIf (.onlyIf (.onlyIf (.forAll (.onlyIf (.onlyIf (h.onlyIf fun h => h.loadOwners.forAll
    fun h => h.chAbort) fun h => h.loadKeeper) fun h => h.regulLoad) fun h => h.applyReset)
    fun h => h.loadRoutesD2) fun h => h.secLoad) fun h => h.loadContexts) fun h => h.secRefreshAll

protected theorem Keeps.execQuiesceRequest {ifc : Iface} (h : Keeps s₀ s) :
    KeepsNext s₀ (execQuiesceRequest ifc s) :=
  .next (h.gatedWrite fun h => h.quiesceCtrlEffect)

protected theorem Keeps.execQuiesceRelease {ifc : Iface} (h : Keeps s₀ s) :
    KeepsNext s₀ (execQuiesceRelease ifc s) :=
  .next (h.gatedWrite fun h => h.quiesceCtrlEffect)

protected theorem Keeps.execQuiescedReached (h : Keeps s₀ s) : KeepsNext s₀ (execQuiescedReached s) :=
  .ite (.next h.setQuiesce.stopTriggers) (.next h)

protected theorem Keeps.execQuiesceTimeout {cu : Fin 4} (h : Keeps s₀ s) : KeepsNext s₀ (execQuiesceTimeout cu s) := by
  refine .ite ?_ (.next h)
  exact .next (.stopTriggers (.forAll (.forAll (h.others.onlyIf fun h => h.forAll fun h => .ite h.portFlag h)
    fun h => .ite h.closeWin h) fun h => .ite h.abandonJob h))

protected theorem Keeps.execQuiescedForcedReached (h : Keeps s₀ s) : KeepsNext s₀ (execQuiescedForcedReached s) :=
  .ite (.next h.others.setQuiesce.raiseE) (.next h)

protected theorem Keeps.execApply {ifc : Iface} (h : Keeps s₀ s) : KeepsNext s₀ (execApply ifc s) :=
  .next (h.gatedWrite fun h => h.quiesceCtrlEffect)

protected theorem Keeps.execApplyComplete (h : Keeps s₀ s) : KeepsNext s₀ (execApplyComplete s) := by
  unfold execApplyComplete
  split
  · exact .next h
  · refine .ite (.next h.others.setImageId.resetD0) ?_
    exact .next h.others.setImageId.applySections.setQuiesce.wrB.wrB.others

/-! ### Register writes with effects of their own -/

protected theorem Keeps.shadowRefresh {g : ShadowGroup} (h : Keeps s₀ s) : Keeps s₀ (shadowRefresh g s) := by
  unfold shadowRefresh
  split
  · exact h.ctxRefresh.measRefresh.secRefreshAll
  · exact h.portRefresh.measRefresh.secRefreshAll
  · exact h.measRefresh

protected theorem Keeps.shadowCtrlEffect {i : Iface} {g : ShadowGroup} {v : Word} {boundary : Bool}
    (h : Keeps s₀ s) : Keeps s₀ (shadowCtrlEffect i g v boundary s).1 := by
  refine .iteFst ?_ ?_
  · exact .ite h.plainEffect.shadowBoundary.shadowRefresh h.plainEffect.wrB
  · exact .iteFst (.ite h.plainEffect.shadowApply.shadowRefresh h.plainEffect.wrB) h.plainEffect

protected theorem Keeps.peekEffect {v : Word} (h : Keeps s₀ s) : Keeps s₀ (peekEffect v s).1 := .iteFst h h.wr.wrn

protected theorem Keeps.hdbEffect {v : Word} (h : Keeps s₀ s) : Keeps s₀ (hdbEffect v s).1 :=
  .iteFst h (h.wr.bumpW.onlyIf fun h => h.assertSrc)

protected theorem Keeps.msixRaiseEffect {v : Word} (h : Keeps s₀ s) : Keeps s₀ (msixRaiseEffect v s).1 :=
  h.forAll fun h => .ite h.msixAssert h

protected theorem Keeps.exposeEffect {i : Iface} {v : Word} (h : Keeps s₀ s) : Keeps s₀ (exposeEffect i v s).1 := by
  unfold exposeEffect
  split
  exacts [h.plainEffect, h]

protected theorem Keeps.ownEffect {i : Iface} {off : Nat} {lo v : Word} {co : Coincident} {r : RegRow}
    {ix : List Nat} (h : Keeps s₀ s) : Keeps s₀ (ownEffect i off lo v co r ix s).1 := by
  refine .iteFst h.readyEffect ?_
  refine .iteFst h.quiesceCtrlEffect ?_
  refine .iteFst h.pcieBootEffect ?_
  refine .iteFst h.peekEffect ?_
  refine .iteFst h.fltDomEffect ?_
  refine .iteFst h.oosClearEffect ?_
  refine .iteFst h.repairCtrlEffect ?_
  refine .iteFst h.pwrCtrlEffect ?_
  refine .iteFst h.wakeCtrlEffect ?_
  refine .iteFst h.exposeEffect ?_
  refine .iteFst h.encPosEffect ?_
  refine .iteFst h.curtCfgEffect ?_
  refine .iteFst h.flashCmdEffect ?_
  refine .iteFst h.flashGuarded ?_
  refine .iteFst h.precCtrlEffect ?_
  refine .iteFst h.shadowCtrlEffect ?_
  refine .iteFst h.shadowCtrlEffect ?_
  refine .iteFst h.shadowCtrlEffect ?_
  refine .iteFst h.admitEffect ?_
  refine .iteFst h.m2mGoEffect ?_
  refine .iteFst h.calCtrlEffect ?_
  refine .iteFst h.progCtrlEffect ?_
  refine .iteFst h.mjPushEffect ?_
  refine .iteFst h.bankWriteEffect ?_
  refine .iteFst h.lensCtrlEffect ?_
  refine .iteFst h.lensPushEffect ?_
  refine .iteFst h.fcPushEffect ?_
  refine .iteFst h.crwGrantEffect ?_
  refine .iteFst h.lcCtrlEffect ?_
  refine .iteFst h.lcRaiseEffect ?_
  refine .iteFst h.chHeadEffect ?_
  refine .iteFst h.chDoorbellEffect ?_
  refine .iteFst h.chCmdEffect ?_
  refine .iteFst h.hdbEffect ?_
  refine .iteFst h.msixRaiseEffect ?_
  refine .iteFst h.plainEffect.msixRelease ?_
  exact .iteFst h.ptpStepEffect (.iteFst h.grpCtrlEffect (.iteFst h.pairEffect h.plainEffect))

protected theorem Keeps.writeEffect {i : Iface} {off : Nat} {lo v : Word} {co : Coincident} (h : Keeps s₀ s) :
    Keeps s₀ (writeEffect i off lo v co s).1 := by
  unfold writeEffect
  split
  exacts [h, .onlyIf (h.withUpdate fun h => h.ownEffect) fun h => h.zStatus]

protected theorem Keeps.busWrite {i : Iface} {off : Nat} {v : Word} {co : Coincident} (h : Keeps s₀ s) :
    Keeps s₀ (busWrite i off v co s) :=
  .ite (.answerErr (h.onlyIf fun h => h.journal)) (h.gatedWrite fun h => h.writeEffect)

protected theorem Keeps.busReadAligned {i : Iface} {off : Nat} {co : Coincident} (h : Keeps s₀ s) :
    Keeps s₀ (busReadAligned i off co s) :=
  .ite h.answerErr h.busRead

protected theorem Keeps.readWords {i : Iface} {k off : Nat} (h : Keeps s₀ s) : Keeps s₀ (readWords i k off s).2 := by
  induction k generalizing off s with
  | zero => exact h
  | succ k ih => exact ih h.busRead

protected theorem Keeps.writeWords {i : Iface} {k off : Nat} {bs : List Byte} (h : Keeps s₀ s) :
    Keeps s₀ (writeWords i k off bs s).2 := by
  induction k generalizing off bs s with
  | zero => exact h
  | succ k ih => exact ih h.busWrite

protected theorem Keeps.regReadBytes {i : Iface} {off len : Nat} (h : Keeps s₀ s) :
    Keeps s₀ (regReadBytes i off len s).2 :=
  .iteSnd h.readWords h

protected theorem Keeps.regWriteBytes {i : Iface} {off : Nat} {bs : List Byte} (h : Keeps s₀ s) :
    Keeps s₀ (regWriteBytes i off bs s).2 :=
  .iteSnd h.writeWords (h.onlyIf fun h => h.journal)

protected theorem Keeps.logDiscarded {i : Iface} {flags : Nat} {off : Nat} {bs : List Byte} (h : Keeps s₀ s) :
    Keeps s₀ (logDiscarded i flags off bs s) :=
  h.forAll fun h => .ite h.logTurned h

protected theorem Keeps.execRegisterWrite {ifc : Iface} {off : BitVec 28} {v : Word} {co : Coincident}
    (h : Keeps s₀ s) : KeepsNext s₀ (execRegisterWrite ifc off v co s) :=
  .next h.internalErr.busWrite

protected theorem Keeps.execReadClear {ifc : Iface} {off : BitVec 28} {co : Coincident} (h : Keeps s₀ s) :
    KeepsNext s₀ (execReadClear ifc off co s) :=
  .next h.internalErr.busReadAligned

protected theorem Keeps.execPairLoRead {ifc : Iface} {off : BitVec 28} (h : Keeps s₀ s) :
    KeepsNext s₀ (execPairLoRead ifc off s) :=
  .next h.busReadAligned

protected theorem Keeps.execPairLoWrite {ifc : Iface} {off : BitVec 28} {v : Word} (h : Keeps s₀ s) :
    KeepsNext s₀ (execPairLoWrite ifc off v s) :=
  .next h.busWrite

protected theorem Keeps.execPairHiWrite {ifc : Iface} {off : BitVec 28} {v : Word} (h : Keeps s₀ s) :
    KeepsNext s₀ (execPairHiWrite ifc off v s) :=
  .next h.busWrite

protected theorem Keeps.execShadowCommit {ifc : Iface} {g : ShadowGroup} (h : Keeps s₀ s) :
    KeepsNext s₀ (execShadowCommit ifc g s) :=
  .next (h.gatedWrite fun h => h.shadowCtrlEffect)

protected theorem Keeps.execShadowCancel {ifc : Iface} {g : ShadowGroup} {boundary : Bool} (h : Keeps s₀ s) :
    KeepsNext s₀ (execShadowCancel ifc g boundary s) :=
  .next (h.gatedWrite fun h => h.shadowCtrlEffect)

protected theorem Keeps.execDebugPeek {ifc : Iface} {off : BitVec 28} (h : Keeps s₀ s) :
    KeepsNext s₀ (execDebugPeek ifc off s) :=
  .next (h.gatedWrite fun h => h.peekEffect)

protected theorem Keeps.execPeekComplete (h : Keeps s₀ s) : KeepsNext s₀ (execPeekComplete s) := by
  refine .ite (.next h) ?_
  refine .next ?_
  split
  exacts [h.wrn.wr, h.wrn.wr, h.wrn.wr]

protected theorem Keeps.execBar2BaseWrite {ifc : Iface} {v : Word} (h : Keeps s₀ s) :
    KeepsNext s₀ (execBar2BaseWrite ifc v s) :=
  .next (h.gatedWrite fun h => h.plainEffect)

protected theorem Keeps.execHostDoorbell {ifc : Iface} {v : Word} (h : Keeps s₀ s) :
    KeepsNext s₀ (execHostDoorbell ifc v s) :=
  .next (h.gatedWrite fun h => h.hdbEffect)

protected theorem Keeps.execMsixRaise {ifc : Iface} {v : Word} (h : Keeps s₀ s) :
    KeepsNext s₀ (execMsixRaise ifc v s) :=
  .next (h.gatedWrite fun h => h.msixRaiseEffect)

/-! ### Inbound PCIe requests -/

protected theorem Keeps.pcieUr (h : Keeps s₀ s) : Keeps s₀ (pcieUr s) := h.others.bump

protected theorem Keeps.pcieComplete {d : Rd} (h : Keeps s₀ s) : Keeps s₀ (pcieComplete d s) :=
  .ite h.pcieUr.others (.others (h.onlyIf fun h => h.bump))

protected theorem Keeps.bar2Read {a len : Nat} (h : Keeps s₀ s) : Keeps s₀ (bar2Read a len s).2 :=
  .iteSnd h.decodeErr h.devRead.others

protected theorem Keeps.bar2Write {a : Nat} {bs : List Byte} {ep : Bool} (h : Keeps s₀ s) :
    Keeps s₀ (bar2Write a bs ep s).2 :=
  .iteSnd h.decodeErr.logDiscarded (.iteSnd h h.devWrite)

protected theorem Keeps.execPcieInboundRead {bar2 : Bool} {off : BitVec 34} {len : Fin 4097} (h : Keeps s₀ s) :
    KeepsNext s₀ (execPcieInboundRead bar2 off len s) := by
  refine .ite (.next h) ?_
  refine .ite (.next h.pcieComplete) ?_
  exact .ite (.next h.bar2Read.pcieComplete) (.next h.regReadBytes.pcieComplete)

protected theorem Keeps.execPcieInboundWrite {bar2 : Bool} {off : BitVec 34} {data : List Byte} {ep : Bool}
    (h : Keeps s₀ s) : KeepsNext s₀ (execPcieInboundWrite bar2 off data ep s) := by
  refine .ite (.next h) (.ite (.next h.pcieUr) ?_)
  extract_lets +onlyGivenNames s1
  have h1 : Keeps s₀ s1 := h.onlyIf fun h => h.bump.limited fun h => h.raiseE
  refine .ite (.next (h1.bar2Write.onlyIf fun h => h.pcieUr)) ?_
  exact .ite (.next h1.logDiscarded) (.next (h1.regWriteBytes.onlyIf fun h => h.pcieUr))

/-! ### Bundles of a Lantern core -/

protected theorem Keeps.lanWrite {n a : Nat} {bs : List Byte} (h : Keeps s₀ s) : Keeps s₀ (lanWrite n a bs s).2 := by
  refine .iteSnd h.agentDecodeErr ?_
  split
  exacts [h.regWriteBytes, h.hostWrite, h.devWrite]

protected theorem Keeps.lanRead {n a z : Nat} {e : MemErr} (h : Keeps s₀ s) : Keeps s₀ (lanRead n a z e s).2 := by
  refine .iteSnd h.agentDecodeErr ?_
  split
  · exact h.regReadBytes
  · exact .iteSnd h.portRead h
  · exact .iteSnd h.portRead h
  · exact .iteSnd h.portRead h
  · exact .iteSnd h (.iteSnd h.outsideBad h.lanCorrected.devRead)
  · exact .iteSnd h (.iteSnd h.outsideBad h.lanCorrected.devRead)
  · exact h.devRead

protected theorem Keeps.localStores {n : Nat} {es : List LEff} (h : Keeps s₀ s) : Keeps s₀ (localStores n es s) := by
  refine .forAll h fun h => ?_
  split
  exacts [h.storeLe, h, h]

protected theorem Keeps.runPost {n : Nat} {p : LPost} (h : Keeps s₀ s) : Keeps s₀ (runPost n p s) := by
  dsimp only [runPost]
  split
  exacts [h.lanWrite.raiseSync, h.lanWrite]

protected theorem Keeps.flushPosts {n : Nat} (h : Keeps s₀ s) : Keeps s₀ (flushPosts n s) :=
  .ite h (h.setLan.forAll fun h => h.runPost)

protected theorem Keeps.postStores {n pc : Nat} {es : List LEff} (h : Keeps s₀ s) :
    Keeps s₀ (postStores n pc es s) := by
  refine .forAll h fun h => ?_
  split
  exacts [h.setLan.flushPosts, h, h]

protected theorem Keeps.postsMoveUp {n : Nat} (h : Keeps s₀ s) : Keeps s₀ (postsMoveUp n s) :=
  .ite h h.setLan.flushPosts

protected theorem Keeps.startLong {n : Nat} {o : LLong} (h : Keeps s₀ s) : Keeps s₀ (startLong n o s) :=
  .ite h.hostRead.setLan h.setLan

protected theorem Keeps.advance {n nxt : Nat} (h : Keeps s₀ s) : Keeps s₀ (advance n nxt s) := by
  refine .ite h.setLan ?_
  split
  exacts [h.setLan.finishReti, h.bundleAddr.setLan, h.setLan]

protected theorem Keeps.stallPend {n : Nat} (h : Keeps s₀ s) : Keeps s₀ (stallPend n s) := h.bumpW

protected theorem Keeps.issueBundle {n : Nat} {ws : List Nat} {ys : List (LSyl × LEff)} {err0 err1 : MemErr}
    (h : Keeps s₀ s) : Keeps s₀ (issueBundle n ws ys err0 err1 s) := by
  refine .postStores (.raiseSyncs (.advance (.forAll ?_ (fun h => h.startLong))))
  split
  · exact .storeLe (.localStores (.forAll (.setLan (.onlyIf (h.bumpW.bumpW.onlyIf fun h => h.bumpW)
      fun h => h.others)) fun h => h.lanCorrected))
  · exact .localStores (.forAll (.setLan (.onlyIf (h.bumpW.bumpW.onlyIf fun h => h.bumpW) fun h => h.others))
      fun h => h.lanCorrected)

protected theorem Keeps.tryBundle {n : Nat} {ierr err0 err1 : MemErr} (h : Keeps s₀ s) :
    Keeps s₀ (tryBundle n ierr err0 err1 s) := by
  unfold tryBundle
  extract_lets +onlyGivenNames l0 l s1 ws nxt fetched s2 l' illegal again
  have h2 : Keeps s₀ s2 := h.setLan.onlyIf fun h => h.lanCorrected
  have hIllegal : Keeps s₀ (illegal s2) := h2.advance.raiseSync
  have hAgain {src} : Keeps s₀ (again src s2) := h2.setLan.raiseSync
  refine .ite h.setLan.imemHalt ?_
  split
  · exact hIllegal
  · exact .ite hIllegal (.ite h2.stallPend (.ite hAgain (.ite hAgain (.ite h2.lanDouble h2.issueBundle))))

protected theorem Keeps.execBundleIssue {n : Fin 18} {ierr err0 err1 : MemErr} (h : Keeps s₀ s) :
    KeepsNext s₀ (execBundleIssue n ierr err0 err1 s) := by
  refine .ite (.next h.flushPosts) ?_
  refine .ite (.next h.flushPosts.setLan.stallPend) ?_
  refine .ite (.next h.flushPosts.setLan) ?_
  refine .ite (.next h.flushPosts.setLan.haltIfDue) ?_
  exact .ite (.next h.flushPosts.setLan) (.next h.flushPosts.setLan.setLan.tryBundle.haltIfDue)

protected theorem Keeps.longAccess {n : Nat} {o : LLong} {e : MemErr} (h : Keeps s₀ s) :
    Keeps s₀ (longAccess n o e s).2 := by
  dsimp only [longAccess]
  split
  · exact h
  · split
    exacts [h, h.lanRead]
  · exact .ite h.lanRead.dropResv.others h.lanRead.dropResv
  · exact .iteSnd h.agentDecodeErr.dropResv (.iteSnd h.lanWrite.dropResv h.dropResv)
  · exact h.lanRead
  · exact h.lanRead

protected theorem Keeps.execLongOpComplete {n : Fin 18} {mem : Bool} {err : MemErr} (h : Keeps s₀ s) :
    KeepsNext s₀ (execLongOpComplete n mem err s) := by
  refine .ite (.next h) ?_
  split
  · exact .next h
  · refine .ite (.next h) ?_
    refine .next (.onlyIf ?_ (fun h => h.postsMoveUp))
    split
    · exact h.longAccess.setLan.raiseSync
    · exact .ite h.longAccess.setLan.setLan.raiseSync h.longAccess.setLan.setLan

/-! ### The network domain, receiving -/

protected theorem Keeps.rxPut {kind ifc flags : Nat} {hdr data : List Byte} {dirty : Bool} (h : Keeps s₀ s) :
    Keeps s₀ (rxPut kind ifc flags hdr data dirty s).2 :=
  .iteSnd h.bump (.assertSrc (.wrn (.devPut (.ite h h.devPut))))

protected theorem Keeps.regReads {i : Iface} {k : Nat} {b : List Byte} (h : Keeps s₀ s) : Keeps s₀ (regReads i k b s).2 := by
  induction k generalizing b s with
  | zero => exact h
  | succ k ih => exact ih h.busReadAligned

protected theorem Keeps.regWrites {i : Iface} {k : Nat} {b : List Byte} (h : Keeps s₀ s) : Keeps s₀ (regWrites i k b s).2 := by
  induction k generalizing b s with
  | zero => exact h
  | succ k ih => exact ih h.busWrite

protected theorem Keeps.crwSignal {w : Nat} (h : Keeps s₀ s) : Keeps s₀ (crwSignal w s) :=
  h.onlyIf fun h => h.semRelease

protected theorem Keeps.remoteWriteIn {p : Peer} {m : CtpMsg} (h : Keeps s₀ s) : Keeps s₀ (remoteWriteIn p m s).2 :=
  .iteSnd h.wrF.devPut.bump.bump.crwSignal (.limited (h.bump.onlyIf fun h => h.bump.wrn) fun h => h.raiseE)

protected theorem Keeps.writeLostIn {p : Peer} {m : CtpMsg} (h : Keeps s₀ s) : Keeps s₀ (writeLostIn p m s) :=
  .ite (.crwSignal (h.onlyIf fun h => h.forAll fun h => h.setPoison)) h

protected theorem Keeps.msgRx {p : Peer} {m : CtpMsg} {checkOk : Bool} (h : Keeps s₀ s) :
    Keeps s₀ (msgRx p m checkOk s).2 :=
  .iteSnd h.bump (h.rxPut.onlyIf fun h => h.wakeRequest)

protected theorem Keeps.joinRx {m : CtpMsg} (h : Keeps s₀ s) : Keeps s₀ (joinRx m s).2 :=
  .iteSnd h.setMate.wrB.bump h.bump

protected theorem Keeps.leaveRx {p : Peer} (h : Keeps s₀ s) : Keeps s₀ (leaveRx p s) := by
  unfold leaveRx
  split
  exacts [h.onlyIf fun h => h.wrB, h]

protected theorem Keeps.carryOut {p : Peer} {h : HeldMsg} (hs : Keeps s₀ s) : Keeps s₀ (carryOut p h s).2 := by
  dsimp only [carryOut]
  split
  · exact hs.regReads
  · exact hs.regWrites
  · exact hs.remoteWriteIn
  · exact hs.creditArrived
  · exact hs.writeLostIn
  · exact hs.msgRx
  · exact hs.joinRx
  · exact hs.loadWake
  · exact hs.leaveRx
  · exact hs

protected theorem Keeps.updRx {k : Nat} {f : RxState → RxState} (h : Keeps s₀ s) : Keeps s₀ (updRx k f s) :=
  h.updAssoc

protected theorem Keeps.sendAnswer {k : Nat} {p : Peer} {q : Nat} {m : CtpMsg} (h : Keeps s₀ s) :
    Keeps s₀ (sendAnswer k p q m s) :=
  h.updRx.ctpSend

protected theorem Keeps.carryNext {k : Nat} {p : Peer} {h : HeldMsg} (hs : Keeps s₀ s) :
    Keeps s₀ (carryNext k p h s) :=
  .ite hs.carryOut.updRx hs.carryOut.updRx.sendAnswer

protected theorem Keeps.drainHeld {k : Nat} {p : Peer} {n : Nat} (h : Keeps s₀ s) : Keeps s₀ (drainHeld k p n s) := by
  induction n generalizing s with
  | zero => exact h
  | succ n ih =>
    unfold drainHeld
    split
    · exact h
    · split
      exacts [h, ih h.updRx.carryNext]

protected theorem Keeps.reliableIn {k : Nat} {p : Peer} {m : CtpMsg} {checkOk : Bool} (h : Keeps s₀ s) :
    Keeps s₀ (reliableIn k p m checkOk s) := by
  unfold reliableIn
  extract_lets +onlyGivenNames fresh s1
  have h1 : Keeps s₀ s1 := h.onlyIf fun h => h.updAssoc
  split
  · exact h1.bump
  · refine .ite (.ite h1.msgRx h1.carryNext.drainHeld) ?_
    refine .ite ((h1.onlyIf fun h => h.updRx).onlyIf fun h => h.sendAnswer) ?_
    refine .ite (.ite h1.bump ?_) h1.bump
    split
    exacts [h1.bump.ctpSend, h1.bump]

protected theorem Keeps.joinRespIn {m : CtpMsg} (h : Keeps s₀ s) : Keeps s₀ (joinRespIn m s) :=
  .ite h (.ite h.bump.wrF.setGrpState h.bump.wrF.setGrpState.raiseE)

protected theorem Keeps.holdLater {k : Nat} {p : Peer} {w : Nat} (h : Keeps s₀ s) : Keeps s₀ (holdLater k p w s) := by
  unfold holdLater
  split
  · exact h
  · refine .forAll h.setAssoc fun h => ?_
    split
    exacts [h.updDesc, h]

protected theorem Keeps.answerIn {k : Nat} {p : Peer} {m : CtpMsg} {withCredit : Bool} (h : Keeps s₀ s) :
    Keeps s₀ (answerIn k p m withCredit s) := by
  dsimp only [answerIn]
  split
  · exact h.updAssoc.bump
  · refine .drainBacklog (.onlyIf ?_ (fun h => h.joinRespIn))
    refine .ite ?_ ?_
    · refine .ite h.updAssoc.removeTx.sendReliable ?_
      split
      exacts [h.updAssoc.removeTx.updDesc.holdLater, h.updAssoc.removeTx]
    · exact .ite h.updAssoc.removeTx.descStep h.updAssoc.removeTx.descStep

protected theorem Keeps.beaconIn {p : Peer} {m : CtpMsg} (h : Keeps s₀ s) : Keeps s₀ (beaconIn p m s) := by
  unfold beaconIn
  split
  · exact h
  · refine .ite h ?_
    refine .skipCheck (.onlyIf (.onlyIf ?_ (fun h => h.wrB)) (fun h => h.sendJoin))
    refine .ite h.setMate ?_
    exact .ite h.setMate.halfFree.halfFree.setMate.wrn h.setMate.halfFree.halfFree.setMate.takeFree.wrn

protected theorem Keeps.ctpArrive {p : Peer} {m : CtpMsg} {withCredit : Bool} (h : Keeps s₀ s) :
    Keeps s₀ (ctpArrive p m withCredit s) := by
  refine .ite h (.ite h.bump (.ite h.bump ?_))
  extract_lets +onlyGivenNames s1
  have h1 : Keeps s₀ s1 := h.bumpW
  refine .ite h1.bump ?_
  extract_lets +onlyGivenNames u c s2
  have h2 : Keeps s₀ s2 := .iteSnd h1.cuCheck h1
  refine .ite (h2.assertSrc.limited fun h => h.raiseE) ?_
  have hu : Keeps s₀ (useAssoc p s2).2 := h2.useAssoc
  generalize useAssoc p s2 = v at hu
  obtain ⟨_ | k, s⟩ := v
  · exact hu
  · exact .ite (.ite hu hu.beaconIn) (.ite (.ite hu hu.answerIn) (.ite (.ite hu hu.msgRx) hu.reliableIn))

protected theorem Keeps.execBeacon {m : CtpIn} (h : Keeps s₀ s) : KeepsNext s₀ (execBeacon m s) := .next h.ctpArrive

protected theorem Keeps.execAck {m : CtpIn} (h : Keeps s₀ s) : KeepsNext s₀ (execAck m s) := .next h.ctpArrive

protected theorem Keeps.execRegRead {m : CtpIn} (h : Keeps s₀ s) : KeepsNext s₀ (execRegRead m s) :=
  .next h.ctpArrive

protected theorem Keeps.execRegWrite {m : CtpIn} (h : Keeps s₀ s) : KeepsNext s₀ (execRegWrite m s) :=
  .next h.ctpArrive

protected theorem Keeps.execRemoteWrite {m : CtpIn} (h : Keeps s₀ s) : KeepsNext s₀ (execRemoteWrite m s) :=
  .next h.ctpArrive

protected theorem Keeps.execCredit {m : CtpIn} (h : Keeps s₀ s) : KeepsNext s₀ (execCredit m s) := .next h.ctpArrive

protected theorem Keeps.execRefuse {m : CtpIn} {withCredit : Bool} (h : Keeps s₀ s) :
    KeepsNext s₀ (execRefuse m withCredit s) :=
  .next h.ctpArrive

protected theorem Keeps.execWriteLost {m : CtpIn} (h : Keeps s₀ s) : KeepsNext s₀ (execWriteLost m s) :=
  .next h.ctpArrive

protected theorem Keeps.execMsg {m : CtpIn} (h : Keeps s₀ s) : KeepsNext s₀ (execMsg m s) := .next h.ctpArrive

protected theorem Keeps.execJoin {m : CtpIn} (h : Keeps s₀ s) : KeepsNext s₀ (execJoin m s) := .next h.ctpArrive

protected theorem Keeps.execJoinResp {m : CtpIn} (h : Keeps s₀ s) : KeepsNext s₀ (execJoinResp m s) :=
  .next h.ctpArrive

protected theorem Keeps.execWakeAt {m : CtpIn} (h : Keeps s₀ s) : KeepsNext s₀ (execWakeAt m s) := .next h.ctpArrive

protected theorem Keeps.execLeave {m : CtpIn} (h : Keeps s₀ s) : KeepsNext s₀ (execLeave m s) := .next h.ctpArrive

protected theorem Keeps.execGapSkip {k : Fin 64} (h : Keeps s₀ s) : KeepsNext s₀ (execGapSkip k s) := by
  unfold execGapSkip
  split
  exacts [.ite (.next h) (.next h.updRx.bump.drainHeld), .next h]

/-! ### Received frames -/

protected theorem Keeps.corrOf {b : List Byte} (h : Keeps s₀ s) : Keeps s₀ (corrOf b s).2 := .iteSnd h h.others

protected theorem Keeps.ptpMessage {b : List Byte} {t : Int} (h : Keeps s₀ s) : Keeps s₀ (ptpMessage b t s) := by
  refine .ite h ?_
  dsimp only
  split
  · exact .ite h.corrOf.setPtp h.corrOf.ptpSync
  · exact h.corrOf.ptpDelayMsg
  · exact h.corrOf.ptpDelayMsg
  · exact .ite h.corrOf (.ite h.corrOf.setPtp h.corrOf.ptpDelayMsg)
  · split
    exacts [.ite h.corrOf.ptpSync h.corrOf, h.corrOf]
  · exact .ite h.corrOf.ptpDelayMsg h.corrOf
  · split
    exacts [.ite h.corrOf.setPtp.ptpDelayMsg h.corrOf, h.corrOf]
  · exact h.corrOf

protected theorem Keeps.frameRoute {k : Nat} {f : FrameIn} {u : Option UdpIn} {b : List Byte} {t : Int}
    (h : Keeps s₀ s) : Keeps s₀ (frameRoute k f u b t s) := by
  dsimp only [frameRoute]
  split
  · refine .ite ?_ (.ite (.rxPut (h.onlyIf fun h => h.ptpMessage)) h.rxPut)
    split
    exacts [h.ctpArrive, h.bump]
  · exact .ite (.rxPut (h.onlyIf fun h => h.ptpMessage)) h.rxPut

protected theorem Keeps.execFrameReceive {k : Fin 9} {fcsOk : Bool} {frame : List Byte} {err : Fin 17}
    (h : Keeps s₀ s) : KeepsNext s₀ (execFrameReceive k fcsOk frame err s) := by
  refine .ite (.next h) ?_
  refine .ite (.next h.bump) ?_
  refine .ite (.next h.bump) ?_
  exact .ite (.next h.bump) (.ite (.next h.bump) (.ite (.next h.bump) (.next h.bumpW.frameRoute)))

/-! ### Commands and steps -/

/-- Every command that answers a next state keeps what it started from; so does the command run on any state that kept it. -/
theorem exec_keepsNext (h : Keeps s₀ s) (c : Instr) : KeepsNext s₀ (exec c s) :=
  match c with
  | .powerOnReset .. => h.execPowerOnReset
  | .readySet .. => h.execReadySet
  | .pcieBootGo .. => h.execPcieBootGo
  | .quiesceRequest .. => h.execQuiesceRequest
  | .quiesceRelease .. => h.execQuiesceRelease
  | .quiescedReached .. => h.execQuiescedReached
  | .quiesceTimeout .. => h.execQuiesceTimeout
  | .quiescedForcedReached .. => h.execQuiescedForcedReached
  | .apply .. => h.execApply
  | .applyComplete .. => h.execApplyComplete
  | .registerWrite .. => h.execRegisterWrite
  | .readClear .. => h.execReadClear
  | .pairLoRead .. => h.execPairLoRead
  | .pairLoWrite .. => h.execPairLoWrite
  | .pairHiWrite .. => h.execPairHiWrite
  | .shadowCommit .. => h.execShadowCommit
  | .shadowCancel .. => h.execShadowCancel
  | .debugPeek .. => h.execDebugPeek
  | .peekComplete .. => h.execPeekComplete
  | .encoderStateChange .. => h.execEncoderStateChange
  | .encPosWrite .. => h.execEncPosWrite
  | .curtainEdgeAccepted .. => h.execCurtainEdgeAccepted
  | .curtainCfgWrite .. => h.execCurtainCfgWrite
  | .gapTimeoutExpiry .. => h.execGapTimeoutExpiry
  | .lineTrigger .. => h.execLineTrigger
  | .triggerHoldRelease .. => h.execTriggerHoldRelease
  | .wakeRequest .. => h.execWakeRequest
  | .fastDomainsRun .. => h.execFastDomainsRun
  | .wakeHold .. => h.execWakeHold
  | .wakeNow .. => h.execWakeNow
  | .idleHoldExpiry .. => h.execIdleHoldExpiry
  | .napEntryComplete .. => h.execNapEntryComplete
  | .deepHoldExpiry .. => h.execDeepHoldExpiry
  | .deepRequest .. => h.execDeepRequest
  | .deepEntryComplete .. => h.execDeepEntryComplete
  | .deepExit .. => h.execDeepExit
  | .deepExitComplete .. => h.execDeepExitComplete
  | .deepDramIdleTimer .. => h.execDeepDramIdleTimer
  | .slotReuseDelayExpiry .. => h.execSlotReuseDelayExpiry
  | .jobCommit .. => h.execJobCommit
  | .faultReachesJob .. => h.execFaultReachesJob
  | .abandonPointExpiry .. => h.execAbandonPointExpiry
  | .flashRead .. => h.execFlashRead
  | .flashProgram .. => h.execFlashProgram
  | .flashErase4k .. => h.execFlashErase4k
  | .flashErase64k .. => h.execFlashErase64k
  | .flashOpComplete .. => h.execFlashOpComplete
  | .precWriteNow .. => h.execPrecWriteNow
  | .precRoutineTimer .. => h.execPrecRoutineTimer
  | .precWriteComplete .. => h.execPrecWriteComplete
  | .frameStart .. => h.execFrameStart
  | .lineEnd .. => h.execLineEnd
  | .fifoOverflow .. => h.execFifoOverflow
  | .frameEnd .. => h.execFrameEnd
  | .lateWindowExpiry .. => h.execLateWindowExpiry
  | .pclkLoss .. => h.execPclkLoss
  | .syncAuxEdge .. => h.execSyncAuxEdge
  | .vpAdmitWrite .. => h.execVpAdmitWrite
  | .rateCheckInterval .. => h.execRateCheckInterval
  | .pipeLineStart .. => h.execPipeLineStart
  | .returnedLine .. => h.execReturnedLine
  | .spliceAcceptTimeout .. => h.execSpliceAcceptTimeout
  | .m2mGo .. => h.execM2mGo
  | .pipeFrameEnd .. => h.execPipeFrameEnd
  | .profileRecordWrite .. => h.execProfileRecordWrite
  | .statRecordWrite .. => h.execStatRecordWrite
  | .calSeed .. => h.execCalSeed
  | .calForget .. => h.execCalForget
  | .sectorLiveUnit .. => h.execSectorLiveUnit
  | .sectorMemoryUnit .. => h.execSectorMemoryUnit
  | .mjPush .. => h.execMjPush
  | .mjStart .. => h.execMjStart
  | .mjComplete .. => h.execMjComplete
  | .sectorCommit .. => h.execSectorCommit
  | .swapPendingTimeout .. => h.execSwapPendingTimeout
  | .sectorBankWrite .. => h.execSectorBankWrite
  | .lensPush .. => h.execLensPush
  | .lensAdmit .. => h.execLensAdmit
  | .lensStepCountsTaken .. => h.execLensStepCountsTaken
  | .lensTileBoundary .. => h.execLensTileBoundary
  | .lensRetire .. => h.execLensRetire
  | .lensHalt .. => h.execLensHalt
  | .lensResume .. => h.execLensResume
  | .spadRead .. => h.execSpadRead
  | .spadWrite .. => h.execSpadWrite
  | .fcPush .. => h.execFcPush
  | .fcStart .. => h.execFcStart
  | .fcDone .. => h.execFcDone
  | .semCountWrite .. => h.execSemCountWrite
  | .semRelease .. => h.execSemRelease
  | .semTake .. => h.execSemTake
  | .semCfgWrite .. => h.execSemCfgWrite
  | .crwGrant .. => h.execCrwGrant
  | .bundleIssue .. => h.execBundleIssue
  | .longOpComplete .. => h.execLongOpComplete
  | .interruptAccept .. => h.execInterruptAccept
  | .lanternHalt .. => h.execLanternHalt
  | .lanternResume .. => h.execLanternResume
  | .lanternCoreReset .. => h.execLanternCoreReset
  | .lcRaise .. => h.execLcRaise
  | .externalLocalAccess .. => h.execExternalLocalAccess
  | .chainStart .. => h.execChainStart
  | .descFetch .. => h.execDescFetch
  | .dmaWaitTake .. => h.execDmaWaitTake
  | .dmaLastWriteAccepted .. => h.execDmaLastWriteAccepted
  | .dmaReadbackReturn .. => h.execDmaReadbackReturn
  | .dmaStatusWbAccepted .. => h.execDmaStatusWbAccepted
  | .chDoorbell .. => h.execChDoorbell
  | .linkReread .. => h.execLinkReread
  | .dmaBusError .. => h.execDmaBusError
  | .dmaResume .. => h.execDmaResume
  | .dmaSkip .. => h.execDmaSkip
  | .dmaAbort .. => h.execDmaAbort
  | .abortDrainComplete .. => h.execAbortDrainComplete
  | .tokenRefill .. => h.execTokenRefill
  | .availReport .. => h.execAvailReport
  | .cutEpisodeEnd .. => h.execCutEpisodeEnd
  | .dramReadRequest .. => h.execDramReadRequest
  | .dramWriteRequest .. => h.execDramWriteRequest
  | .dramReadReturn .. => h.execDramReadReturn
  | .eccBackgroundInit .. => h.execEccBackgroundInit
  | .patrolRead .. => h.execPatrolRead
  | .mr4Poll .. => h.execMr4Poll
  | .trackingRead .. => h.execTrackingRead
  | .fullRetrainEnd .. => h.execFullRetrainEnd
  | .channelPowerDown .. => h.execChannelPowerDown
  | .pcieLinkReset .. => h.execPcieLinkReset
  | .pcieLinkUp .. => h.execPcieLinkUp
  | .pcieConfigRequest .. => h.execPcieConfigRequest
  | .pcieInboundRead .. => h.execPcieInboundRead
  | .pcieInboundWrite .. => h.execPcieInboundWrite
  | .pcieCompletion .. => h.execPcieCompletion
  | .pcieCompletionTimeout .. => h.execPcieCompletionTimeout
  | .bar2BaseWrite .. => h.execBar2BaseWrite
  | .hostDoorbell .. => h.execHostDoorbell
  | .msixRaise .. => h.execMsixRaise
  | .ethLinkDown .. => h.execEthLinkDown
  | .ethLinkUp .. => h.execEthLinkUp
  | .frameReceive .. => h.execFrameReceive
  | .ptpSync .. => h.execPtpSync
  | .ptpDelayExchange .. => h.execPtpDelayExchange
  | .syncSendTimer .. => h.execSyncSendTimer
  | .syncTimeout .. => h.execSyncTimeout
  | .ptpStep .. => h.execPtpStep
  | .pairLatch .. => h.execPairLatch
  | .beacon .. => h.execBeacon
  | .ack .. => h.execAck
  | .regRead .. => h.execRegRead
  | .regWrite .. => h.execRegWrite
  | .remoteWrite .. => h.execRemoteWrite
  | .credit .. => h.execCredit
  | .refuse .. => h.execRefuse
  | .writeLost .. => h.execWriteLost
  | .msg .. => h.execMsg
  | .join .. => h.execJoin
  | .joinResp .. => h.execJoinResp
  | .wakeAt .. => h.execWakeAt
  | .leave .. => h.execLeave
  | .sendDecision .. => h.execSendDecision
  | .sendRemoteWrite .. => h.execSendRemoteWrite
  | .sendMsg .. => h.execSendMsg
  | .sendWakeAt .. => h.execSendWakeAt
  | .descriptorCompleteCtp .. => h.execDescriptorCompleteCtp
  | .retransmitTimer .. => h.execRetransmitTimer
  | .deliveryFailure .. => h.execDeliveryFailure
  | .gapSkip .. => h.execGapSkip
  | .creditWaitExpiry .. => h.execCreditWaitExpiry
  | .beaconTimer .. => h.execBeaconTimer
  | .peerLoss .. => h.execPeerLoss
  | .joinRetry .. => h.execJoinRetry
  | .groupWakeTimer .. => h.execGroupWakeTimer
  | .groupWakeTest .. => h.execGroupWakeTest
  | .groupSlotOpen .. => h.execGroupSlotOpen
  | .groupRejoin .. => h.execGroupRejoin
  | .groupLeave .. => h.execGroupLeave
  | .domainFence .. => h.execDomainFence
  | .drainComplete .. => h.execDrainComplete
  | .drainTimeout .. => h.execDrainTimeout
  | .domainRestoreComplete .. => h.execDomainRestoreComplete
  | .domainRestore .. => h.execDomainRestore
  | .deviceReset .. => h.execDeviceReset
  | .deviceFatalReset .. => h.execDeviceFatalReset
  | .heartbeatTick .. => h.execHeartbeatTick
  | .oosClear .. => h.execOosClear
  | .repairAdd .. => h.execRepairAdd
  | .thermalSample .. => h.execThermalSample
  | .supplyFault .. => h.execSupplyFault
  | .pllLockLoss .. => h.execPllLockLoss
  | .dramWriteBufferFree .. => h.execDramWriteBufferFree
  | .lensAdmissionLoaded .. => h.execLensAdmissionLoaded
  | .deferredFullRetrain .. => h.execDeferredFullRetrain

/-- A step takes the front command off the queue, or ticks; both keep the canonical form. -/
theorem step_canonical {t : State} (hc : s.canonical) (ht : step s = .next t) : t.canonical := by
  unfold step at ht
  split at ht
  next =>
    obtain rfl := Host.Outcome.next.inj ht
    obtain ⟨-, -, hk⟩ := (Keeps.refl s).tick
    exact hk hc
  next c rest _ =>
    obtain ⟨u, hu, -, -, hk⟩ := exec_keepsNext (.refl { s with pending := rest }) c
    obtain rfl := Host.Outcome.next.inj (hu.symm.trans ht)
    exact hk hc

end

/-- Settles O3: the rules above, one per operation, carry the canonical form through every command and through a tick. -/
theorem stepsKeepCanonicalForm : Obligations.StepsKeepCanonicalForm :=
  fun _ _ hc ht => step_canonical hc ht

/-- Settles O5: the rules above carry the queue and the fuses through every command. -/
theorem commandsLeaveQueueAndFuses : Obligations.CommandsLeaveQueueAndFuses := by
  intro c s t ht
  obtain ⟨u, hu, hp, hf, -⟩ := exec_keepsNext (.refl s) c
  obtain rfl := Host.Outcome.next.inj (hu.symm.trans ht)
  exact ⟨hp, hf⟩

end Sys2Proof.Machine

namespace Sys2Proof.Machine

open Sys2Proof

/-! ### Semaphore slots (R12, R299, R300) -/

/-- The parts of the state that the semaphores live in: their values, and the reservations that a write clears. -/
def semParts (s : State) : Tab Sem × List (Nat × Nat) := (s.sems, s.resv)

section
variable (s : State)

@[simp] theorem semParts_wrn (o v : Nat) : semParts (wrn o v s) = semParts s := rfl
@[simp] theorem semParts_wrB (o i : Nat) (b : Bool) : semParts (wrB o i b s) = semParts s := rfl
@[simp] theorem semParts_bump (o n : Nat) : semParts (bump o n s) = semParts s := rfl
@[simp] theorem semParts_bumpW (o n : Nat) : semParts (bumpW o n s) = semParts s := rfl

@[simp] theorem semParts_wrWords (o : Nat) (vs : List Nat) : semParts (wrWords o vs s) = semParts s := by
  induction vs generalizing o s with
  | nil => rfl
  | cons v t ih => exact ih (wrn o v s) (o + 4)

variable {s} {v : Tab Sem × List (Nat × Nat)} {f : State → State}

/-- An operation done under a condition leaves the semaphores when it does so. -/
theorem semParts_onlyIf {b : Bool} (hf : ∀ t, semParts (f t) = semParts t) (h : semParts s = v) :
    semParts (onlyIf b f s) = v := by
  unfold onlyIf
  split
  exacts [(hf s).trans h, h]

/-- An operation whose rate is limited leaves the semaphores when it does so. -/
theorem semParts_limited {key period : Nat} (hf : ∀ t, semParts (f t) = semParts t) (h : semParts s = v) :
    semParts (limited key period f s) = v := by
  dsimp only [limited]
  split
  exacts [(hf _).trans h, h]

theorem semParts_ite {c : Prop} [Decidable c] {t : State} (hs : semParts s = v) (ht : semParts t = v) :
    semParts (if c then s else t) = v := by
  split
  exacts [hs, ht]

variable (s)

theorem semParts_assertSrc (n src : Nat) : semParts (assertSrc n src s) = semParts s :=
  semParts_ite (semParts_ite (semParts_wrB s _ _ _) (semParts_wrB s _ _ _)) rfl

theorem semParts_msixSend (n : Nat) : semParts (msixSend n s) = semParts s := by
  simp only [msixSend, semParts_bumpW, semParts_wrB]
  rfl

theorem semParts_msixAssert (n : Nat) : semParts (msixAssert n s) = semParts s :=
  semParts_ite (semParts_msixSend s n) rfl

theorem semParts_reachRef (r : JobRef) : semParts (reachRef r s) = semParts s :=
  semParts_ite rfl (semParts_ite rfl rfl)

theorem semParts_reachJob (e : Event) : semParts (reachJob e s) = semParts s := by
  unfold reachJob
  split
  exacts [semParts_ite (semParts_reachRef s _) rfl, rfl]

/-- A record written into a ring of words, with the ring's next number. -/
theorem semParts_ringPut (o n a : Nat) (ws : List Nat) : semParts (wrn o n (wrWords a ws s)) = semParts s :=
  (semParts_wrn _ _ _).trans (semParts_wrWords _ _ _)

theorem semParts_raiseNow (e : Event) (dt : Nat) (u : Bool) : semParts (raiseNow e dt u s) = semParts s := by
  unfold raiseNow
  extract_lets cfg s1 s2 s3 s4 s5 s6 s7
  have h2 : semParts s2 = semParts s := (semParts_bumpW _ _ _).trans ((semParts_bump _ _ _).trans (semParts_reachJob s e))
  have h4 : semParts s4 = semParts s :=
    semParts_onlyIf (fun t => semParts_ringPut t _ _ _ _) (semParts_onlyIf (fun t => semParts_ringPut t _ _ _ _) h2)
  have h6 : semParts s6 = semParts s :=
    semParts_onlyIf (fun t => semParts_assertSrc t _ _) (semParts_onlyIf (fun t => semParts_msixAssert t 0) h4)
  have h7 : semParts s7 = semParts s := semParts_onlyIf (fun _ => rfl) h6
  exact semParts_ite h7 h7

/-- Raising an event leaves the semaphores. -/
theorem semParts_raiseEvt (e : Event) : semParts (raiseEvt e s) = semParts s :=
  semParts_ite (semParts_ite rfl (semParts_bump _ _ _)) (semParts_raiseNow s e _ _)

/-- A count loaded into a semaphore, up to the interrupt that it may assert. -/
theorem semParts_semLoad (n c : Nat) : semParts (semLoad n c s) =
    semParts (setSem n { sem s n with count := c } (unreserve (semBase + n * 64) 64 s)) :=
  semParts_onlyIf (fun t => semParts_assertSrc t _ _) rfl

/-- A release loads the sum, saturated (R299). -/
theorem semParts_semRelease (n k : Nat) : semParts (semRelease n k s) =
    semParts (setSem n { sem s n with count := min 65535 ((sem s n).count + k) } (unreserve (semBase + n * 64) 64 s)) := by
  dsimp only [semRelease]
  split
  next h =>
    rw [Nat.min_eq_left (by omega)]
    exact semParts_limited (fun t => semParts_raiseEvt t _) ((semParts_bump _ _ _).trans (semParts_semLoad s n 65535))
  next h => rw [semParts_semLoad, Nat.min_eq_right (by omega)]

@[simp] theorem unreserve_sems (a len : Nat) : (unreserve a len s).sems = s.sems := by
  unfold unreserve
  split <;> rfl

/-- A write leaves the reservations that lie outside its bytes. -/
theorem mem_resv_unreserve {a len : Nat} {r : Nat × Nat} (h : r ∈ s.resv) (hr : a + len ≤ r.2 ∨ r.2 + 64 ≤ a) :
    r ∈ (unreserve a len s).resv := by
  unfold unreserve
  split
  · exact h
  · simp only [List.mem_filter, h, true_and, Bool.not_eq_true', decide_eq_false_iff_not]
    omega

end

/-- The semaphores after a release: the one released holds the saturated sum, the others are as before. -/
theorem sem_semRelease (s : State) (n k m : Nat) : sem (semRelease n k s) m =
    if m = n then { sem s n with count := min 65535 ((sem s n).count + k) } else sem s m := by
  have hs : (semRelease n k s).sems = (setSem n { sem s n with count := min 65535 ((sem s n).count + k) }
      (unreserve (semBase + n * 64) 64 s)).sems := congrArg Prod.fst (semParts_semRelease s n k)
  have hm : sem (semRelease n k s) m = sem (setSem n { sem s n with count := min 65535 ((sem s n).count + k) }
      (unreserve (semBase + n * 64) 64 s)) m := by
    simp only [sem, hs]
  rw [hm, sem_setSem]
  simp [sem]

/-- A release leaves the reservations outside the semaphore's slot. -/
theorem mem_resv_semRelease {s : State} {n k : Nat} {r : Nat × Nat} (h : r ∈ s.resv)
    (hr : semBase + n * 64 + 64 ≤ r.2 ∨ r.2 + 64 ≤ semBase + n * 64) : r ∈ (semRelease n k s).resv := by
  have hs : (semRelease n k s).resv = (unreserve (semBase + n * 64) 64 s).resv :=
    congrArg Prod.snd (semParts_semRelease s n k)
  rw [hs]
  exact mem_resv_unreserve s h hr

/-- The first word of a slot reads as the count. -/
theorem semWordRead_count (n : Nat) (s : State) : semWordRead (0x300000000 + n * 0x40) s = ((sem s n).count, s) := by
  have hmod : (0x300000000 + n * 0x40) % 64 = 0 := by omega
  have hidx : (0x300000000 + n * 0x40 - semBase) / 64 = n := by unfold semBase; omega
  simp only [semWordRead, hmod, hidx]

/-- The word at byte 8 of a slot releases. -/
theorem semWordWrite_release (n v : Nat) (s : State) : semWordWrite (0x300000000 + n * 0x40 + 8) v s =
    (true, semRelease n (v % 65536) (unreserve (0x300000000 + n * 0x40 + 8) 4 s)) := by
  have hmod : (0x300000000 + n * 0x40 + 8) % 64 = 8 := by omega
  have hidx : (0x300000000 + n * 0x40 + 8 - semBase) / 64 = n := by unfold semBase; omega
  simp only [semWordWrite, hmod, hidx]

/-- Every byte of a slot lies in the semaphore region. -/
theorem regionOf_semSlot {n o : Nat} (hn : n < 1024) (ho : o < 64) : regionOf (0x300000000 + n * 0x40 + o) = .sems := by
  unfold regionOf
  rw [if_neg (by omega), if_neg (by omega), if_neg (by omega), if_neg (by omega), if_neg (by omega), if_pos (by omega)]

/-- Settles O60: the slot's address gives the semaphore's number, and slots lie 64 bytes apart. -/
theorem semaphoreSlots : Obligations.SemaphoreSlots := by
  refine ⟨fun n => ⟨fun o ho => regionOf_semSlot n.isLt ho, semWordRead_count n, fun s v m hv hm => ?_,
    fun m hm o p ho hp => ?_, fun s m c hm h => ?_⟩, by decide⟩
  · rw [semWordWrite_release, Nat.mod_eq_of_lt hv, sem_semRelease, sem_semRelease, if_pos rfl, if_neg hm]
    exact ⟨by simp [sem], by simp [sem]⟩
  · have hne : m.val ≠ n.val := fun e => hm (Fin.ext e)
    omega
  · have hne : m.val ≠ n.val := fun e => hm (Fin.ext e)
    rw [semWordWrite_release]
    refine mem_resv_semRelease (mem_resv_unreserve s h ?_) ?_
    · dsimp only
      omega
    · dsimp only [semBase]
      omega

end Sys2Proof.Machine

namespace Sys2Proof.Machine

/-! ### Fields of register words -/

theorem testBit_mask {hi lo i : Nat} (hi32 : hi < 32) : (mask hi lo).toNat.testBit i = decide (lo ≤ i ∧ i ≤ hi) := by
  by_cases hle : lo ≤ hi
  · rw [mask, w32, BitVec.toNat_ofNat, Nat.testBit_mod_two_pow, Nat.testBit_mul_two_pow, Nat.testBit_two_pow_sub_one,
      Bool.eq_iff_iff]
    simp only [Bool.and_eq_true, decide_eq_true_eq]
    omega
  · have h0 : hi + 1 - lo = 0 := by omega
    have : ¬ (lo ≤ i ∧ i ≤ hi) := by omega
    simp [mask, w32, h0, this]

/-- The bits of a word whose field `[hi:lo]` took `v`. -/
theorem testBit_setFld {w : Word} {hi lo v i : Nat} (hi32 : hi < 32) :
    (setFld w hi lo v).toNat.testBit i = if lo ≤ i ∧ i ≤ hi then v.testBit (i - lo) else w.toNat.testBit i := by
  have hm := testBit_mask (lo := lo) (i := i) hi32
  have hv : (w32 (v % 2 ^ (hi + 1 - lo) * 2 ^ lo)).toNat.testBit i = (decide (lo ≤ i ∧ i ≤ hi) && v.testBit (i - lo)) := by
    rw [w32, BitVec.toNat_ofNat, Nat.testBit_mod_two_pow, Nat.testBit_mul_two_pow, Nat.testBit_mod_two_pow, Bool.eq_iff_iff]
    simp only [Bool.and_eq_true, decide_eq_true_eq]
    constructor
    · rintro ⟨-, hlo, hlt, hb⟩
      exact ⟨⟨hlo, by omega⟩, hb⟩
    · rintro ⟨⟨hlo, hle⟩, hb⟩
      exact ⟨by omega, hlo, by omega, hb⟩
  rw [BitVec.testBit_toNat] at hm
  rw [setFld, BitVec.toNat_or, Nat.testBit_or, hv, BitVec.testBit_toNat, BitVec.getLsbD_and, BitVec.getLsbD_not, hm,
    ← BitVec.testBit_toNat]
  by_cases hf : lo ≤ i ∧ i ≤ hi
  · simp [hf]
  · by_cases h32 : i < 32
    · simp [hf, h32]
    · have hw : w.toNat.testBit i = false := by
        rw [BitVec.testBit_toNat]
        exact BitVec.getLsbD_of_ge w i (by omega)
      simp [hf, hw]

/-- A field reads as what it took, cut to its width. -/
theorem fld_setFld {w : Word} {hi lo v : Nat} (hi32 : hi < 32) : fld (setFld w hi lo v) hi lo = v % 2 ^ (hi + 1 - lo) := by
  refine Nat.eq_of_testBit_eq fun i => ?_
  rw [fld, nfld, Nat.testBit_mod_two_pow, Nat.testBit_div_two_pow, testBit_setFld hi32, Nat.testBit_mod_two_pow]
  by_cases h : i < hi + 1 - lo
  · rw [if_pos (by omega), Nat.add_sub_cancel]
  · simp [h]

/-- The bits of a word of which one was set. -/
theorem bit_setBit {w : Word} {i j : Nat} {b : Bool} (hi : i < 32) : bit (setBit w i b) j = if j = i then b else bit w j := by
  rw [bit, setBit, testBit_setFld hi]
  by_cases h : j = i
  · subst h
    cases b <;> simp
  · rw [if_neg (by omega), if_neg h, bit]

section
variable {s : State}

/-- A field that was written reads as what it took. -/
theorem rdF_wrF_same {o hi lo v : Nat} (hi32 : hi < 32) (hv : v < 2 ^ (hi + 1 - lo)) : rdF (wrF o hi lo v s) o hi lo = v := by
  rw [rdF, rd_wrF, if_pos rfl, fld_setFld hi32, Nat.mod_eq_of_lt hv]

/-- A bit of a register after one of its bits was written. -/
theorem rdB_wrB {o i j : Nat} {b : Bool} (hi : i < 32) : rdB (wrB o i b s) o j = if j = i then b else rdB s o j := by
  rw [rdB, rd_wrB, if_pos rfl, bit_setBit hi, rdB]

/-- A counter that saturates reads one value up. -/
theorem rdn_bump_same {o n : Nat} : rdn (bump o n s) o = satN 32 (rdn s o + n) := by
  have h : satN 32 (rdn s o + n) < 2 ^ 32 := by
    unfold satN
    split <;> omega
  rw [rdn, rd_bump, if_pos rfl, w32, BitVec.toNat_ofNat, Nat.mod_eq_of_lt h]

end
end Sys2Proof.Machine

/-! SUPPORT. What the shared operations of the Keeper domain, of the power control and of raised events may touch. Each group
of operations has a structure `…Stable Q`, which says that a property `Q` of the state survives the updates that the group
makes; from `h : …Stable Q`, the rule `h.op` says that `Q` survives `op`. -/

namespace Sys2Proof.Machine

open Sys2Proof

/-! ### Rows of updates -/

section
variable {Q : State → Prop} {s : State}

theorem onlyIf_stable {b : Bool} {f : State → State} (hf : ∀ {s}, Q s → Q (f s)) (h : Q s) : Q (onlyIf b f s) := by
  unfold onlyIf
  split
  exacts [hf h, h]

/-- A property survives a fold when each element's step keeps it. -/
theorem forAll_stable {α : Type} {l : List α} {f : α → State → State} (hf : ∀ {x s}, x ∈ l → Q s → Q (f x s)) (h : Q s) :
    Q (forAll l f s) := by
  induction l generalizing s with
  | nil => exact h
  | cons x l ih =>
    exact ih (fun hx => hf (List.mem_cons_of_mem x hx)) (hf List.mem_cons_self h)

/-- A property survives the writes of consecutive words when it survives the write of each. -/
theorem wrWords_stable {P : Nat → Prop} (hw : ∀ {s o v}, P o → Q s → Q (wr o v s)) {vs : List Nat} {off : Nat}
    (hP : ∀ i, i < vs.length → P (off + 4 * i)) (h : Q s) : Q (wrWords off vs s) := by
  induction vs generalizing off s with
  | nil => exact h
  | cons v t ih =>
    refine ih (fun i hi => ?_) (hw (hP 0 (Nat.zero_lt_succ _)) h)
    have := hP (i + 1) (Nat.succ_lt_succ hi)
    rwa [show off + 4 * (i + 1) = off + 4 + 4 * i by omega] at this

end

/-! ### Raised events (R486 to R490) -/

/-- The registers of the blocks FAULT, LCORE and PCIE, among which are all that raising an event writes. -/
def EventReg (o : Nat) : Prop :=
  (0x400000 ≤ o ∧ o < 0x500000) ∨ (0x4000000 ≤ o ∧ o < 0x5200000) ∨ (0x6800000 ≤ o ∧ o < 0x6900000)

/-- `Q` survives what raising an event that reaches no job does. -/
structure EventStable (Q : State → Prop) : Prop where
  wrEvent : ∀ {s o v}, EventReg o → Q s → Q (wr o v s)
  pcie : ∀ {s} {p : Pcie}, Q s → Q { s with pcie := p }
  fault : ∀ {s} {f : FaultSt}, Q s → Q { s with fault := f }
  irq : ∀ {s a b}, Q s → Q { s with keeper := { s.keeper with core0 := a, core1 := b } }

namespace EventStable

section
variable {Q : State → Prop} {s : State} (hQ : EventStable Q)
include hQ

theorem assertSrc {n src : Nat} (h : Q s) : Q (assertSrc n src s) := by
  unfold Machine.assertSrc
  split
  next ha =>
    have hn : n < 18 := by
      simp only [lanternActive, Bool.and_eq_true, decide_eq_true_eq] at ha
      exact ha.1.1
    split
    · exact hQ.wrEvent (by simp only [EventReg, rLC_PEND_LO]; omega) h
    · exact hQ.wrEvent (by simp only [EventReg, rLC_PEND_HI]; omega) h
  next => exact h

theorem assertRouted {off lo src : Nat} (h : Q s) : Q (assertRouted off lo src s) := by
  unfold Machine.assertRouted
  split
  exacts [hQ.assertSrc h, h]

theorem msixAssert_zero (h : Q s) : Q (msixAssert 0 s) := by
  have hPba : EventReg (rMSIX_PBA (0 / 32)) := by simp only [EventReg, rMSIX_PBA]; omega
  have hCnt : EventReg (rPCIE_CNT 5) := by simp only [EventReg, rPCIE_CNT]; omega
  unfold msixAssert
  split
  exacts [hQ.wrEvent hCnt (hQ.wrEvent hPba (hQ.pcie h)), hQ.wrEvent hPba h]

/-- A record written into a ring of 32-byte records of the FAULT block, with the ring's next number. -/
theorem ringPut {next ring q : Nat} {ws : List Nat} {n : Nat} (hnext : EventReg next)
    (hring : ∀ i, i < ws.length → EventReg (ring + 4 * i)) (h : Q s) : Q (wrn next (q + n) (wrWords ring ws s)) :=
  hQ.wrEvent hnext (wrWords_stable hQ.wrEvent hring h)

theorem raiseNow {e : Event} {dt : Nat} {unsure : Bool} (hn : e.num < 256) (hc : evtClass e.num ≠ 3) (h : Q s) :
    Q (raiseNow e dt unsure s) := by
  unfold Machine.raiseNow
  extract_lets cfg s1 s2 s3 s4 s5 s6 s7
  have h1 : Q s1 := by
    dsimp only [s1, reachJob]
    split
    · rwa [if_neg hc]
    · exact h
  have h2 : Q s2 :=
    hQ.wrEvent (by simp only [EventReg, rFLT_CNT]; omega) (hQ.wrEvent (by simp only [EventReg, rFLT_EVT_CNT]; omega) h1)
  have h3 : Q s3 := onlyIf_stable (fun {t} ht => hQ.ringPut (by simp only [EventReg, rFLT_EVT_NEXT]; omega)
    (fun i hi => by simp only [evtWords, List.length_cons, List.length_nil] at hi; simp only [EventReg, rFLT_EVT_WORD]; omega) ht) h2
  have h4 : Q s4 := onlyIf_stable (fun {t} ht => hQ.ringPut (by simp only [EventReg, rFLT_FATAL_NEXT]; omega)
    (fun i hi => by simp only [evtWords, List.length_cons, List.length_nil] at hi; simp only [EventReg, rFLT_FATAL_WORD]; omega) ht) h3
  have h6 : Q s6 := onlyIf_stable hQ.assertSrc (onlyIf_stable hQ.msixAssert_zero h4)
  have h7 : Q s7 := onlyIf_stable hQ.irq h6
  split
  exacts [hQ.fault h7, h7]

theorem raiseEvt {e : Event} (hn : e.num < 256) (hc : evtClass e.num ≠ 3) (h : Q s) : Q (raiseEvt e s) := by
  unfold Machine.raiseEvt
  split
  · split
    · exact hQ.fault h
    · exact hQ.wrEvent (by simp only [EventReg, rFLT_HELD_LOST]; omega) (hQ.fault h)
  · exact hQ.raiseNow hn hc h

theorem raiseE {num dom : Nat} (hn : num < 256) (hc : evtClass num ≠ 3) (h : Q s) : Q (raiseE num dom s) :=
  hQ.raiseEvt hn hc h

theorem raiseJ {num dom addr : Nat} {j : Option JobRef} (hn : num < 256) (hc : evtClass num ≠ 3) (h : Q s) :
    Q (raiseJ num dom j addr s) :=
  hQ.raiseEvt hn hc h

end

end EventStable

/-! ### The power steps (R92, R512) -/

/-- `Q` survives a change of the power step and of the holds' start, and what a DEEP entry does to DRAM and the PLLs. -/
structure PowerStable (Q : State → Prop) : Prop where
  wrPoll : ∀ {s o v}, (o = rDDR_STATUS ∨ o = rPWR_PLL) → Q s → Q (wr o v s)
  power : ∀ {s} {p : Power}, p.state = s.power.state → p.failed = s.power.failed → Q s → Q { s with power := p }

namespace PowerStable

section
variable {Q : State → Prop} {s : State} (hQ : PowerStable Q)
include hQ

theorem setStep {sp : PowerStep} (h : Q s) : Q (setStep sp s) := hQ.power rfl rfl h

theorem startDeep (h : Q s) : Q (startDeep s) := by
  unfold Machine.startDeep
  split
  · exact hQ.setStep h
  · exact hQ.setStep h
  · exact onlyIf_stable (hQ.wrPoll (.inl rfl)) (hQ.setStep (hQ.wrPoll (.inr rfl) h))
  · exact h

theorem deepPoll (h : Q s) : Q (deepPoll s) := by
  unfold Machine.deepPoll
  split
  exacts [hQ.startDeep h, h]

theorem restartIdle (h : Q s) : Q (restartIdle s) := hQ.deepPoll (hQ.power rfl rfl h)

end

end PowerStable

/-- `Q` survives a wake request: the power steps, PWR_CTRL and the counters of wakes and of aborts. -/
structure WakeStable (Q : State → Prop) : Prop extends PowerStable Q where
  wrWake : ∀ {s o v}, (o = rPWR_CTRL ∨ o = rPWR_CNT 1 ∨ o = rPWR_CNT 2) → Q s → Q (wr o v s)

theorem WakeStable.wakeRequest {Q : State → Prop} {s : State} (hQ : WakeStable Q) (h : Q s) : Q (wakeRequest s) := by
  have h1 : Q (wrB rPWR_CTRL 0 false (bump (rPWR_CNT 1) 1 s)) := hQ.wrWake (.inl rfl) (hQ.wrWake (.inr (.inl rfl)) h)
  unfold Machine.wakeRequest
  dsimp only
  split
  · exact hQ.wrWake (.inr (.inr rfl)) (hQ.setStep h1)
  · exact hQ.wrWake (.inr (.inr rfl)) (hQ.setStep h1)
  · exact hQ.setStep (hQ.wrPoll (.inr rfl) h1)
  · exact h1
  · exact h1
  · split
    exacts [hQ.power rfl rfl h1, hQ.setStep h1, hQ.setStep h1]

/-! ### The Keeper domain: records, windows and segments (R84 to R91) -/

/-- The registers of the Keeper event ring. -/
def KeeperRingReg (o : Nat) : Prop := o = rKPR_EVT_NEXT ∨ (0x810000 ≤ o ∧ o < 0x812000)

/-- `Q` survives Keeper records, changes of jobs and of window units, and those of a trigger generator that issue no pulse. -/
structure KeeperStable (Q : State → Prop) : Prop extends EventStable Q, PowerStable Q where
  wrRing : ∀ {s o v}, KeeperRingReg o → Q s → Q (wr o v s)
  jobs : ∀ {s} {j : Tab Job}, Q s → Q { s with jobs := j }
  win : ∀ {s w x}, Q s → Q (setWin w x s)
  trigQuiet : ∀ {s t} {x : Trig}, x.pulses = (trig s t).pulses → x.last = (trig s t).last →
    (x.held = (trig s t).held ∨ x.held = false) → Q s → Q (setTrig t x s)

namespace KeeperStable

section
variable {Q : State → Prop} {s : State} (hQ : KeeperStable Q)
include hQ

theorem kprRecord {type unit trigNo curtNo flags jobId pos aon : Nat} (h : Q s) :
    Q (kprRecord type unit trigNo curtNo flags jobId pos aon s) := by
  have hring (q i : Nat) (hi : i < 8) : KeeperRingReg (rKPR_EVT_WORD ((q % 256) * 8) + 4 * i) := by
    simp only [KeeperRingReg, rKPR_EVT_WORD]
    omega
  exact hQ.assertRouted (hQ.wrRing (.inl rfl) (wrWords_stable hQ.wrRing (fun i hi => hring _ i hi) h))

theorem setJob {k : Nat} {j : Job} (h : Q s) : Q (setJob k j s) := hQ.jobs h

theorem captureEnd (h : Q s) : Q (captureEnd s) := by
  refine forAll_stable (fun {k s} _ h => ?_) h
  dsimp only
  split
  exacts [hQ.setJob h, h]

theorem truncJob {jobId : Nat} (h : Q s) : Q (truncJob jobId s) := by
  refine forAll_stable (fun {k s} _ h => ?_) h
  dsimp only
  split
  exacts [hQ.setJob h, h]

theorem markE19 {jobId : Nat} (h : Q s) : Q (markE19 jobId s) :=
  forAll_stable (fun _ h => hQ.trigQuiet rfl rfl (.inl rfl) h) h

theorem cutSeg {t : Nat} (h : Q s) : Q (cutSeg t s) := by
  unfold Machine.cutSeg
  split
  exacts [h, hQ.captureEnd (hQ.trigQuiet rfl rfl (.inr rfl) (hQ.kprRecord h))]

theorem stopSeg {t : Nat} (h : Q s) : Q (stopSeg t s) := by
  unfold Machine.stopSeg
  split
  exacts [hQ.restartIdle (hQ.cutSeg h), h]

theorem finishStop {t : Nat} (h : Q s) : Q (finishStop t s) := by
  unfold Machine.finishStop
  split
  · exact h
  · split
    exacts [hQ.stopSeg h, h]

/-- A dropped trigger, once its counter has counted it. -/
theorem dropTrigger {t : Nat} {g : Seg} (h : Q (bump (rTRIG_DROPPED t) 1 s)) : Q (dropTrigger t g s) := by
  unfold Machine.dropTrigger
  extract_lets s1 _ s2 w s3
  have h3 : Q s3 := onlyIf_stable hQ.win (hQ.trigQuiet rfl rfl (.inl rfl) h)
  split
  exacts [h3, hQ.markE19 (hQ.raiseJ (by omega) (by decide) h3)]

end

end KeeperStable

/-- `Q` survives every change of trigger generators as well, and new frame numbers. -/
structure SegmentStable (Q : State → Prop) : Prop extends KeeperStable Q where
  trig : ∀ {s t x}, Q s → Q (setTrig t x s)
  frames : ∀ {s} {f : Tab Nat}, Q s → Q { s with frames := f }

namespace SegmentStable

section
variable {Q : State → Prop} {s : State} (hQ : SegmentStable Q)
include hQ

theorem beginSeg {t : Nat} {p : TrigPend} {trunc : Bool} (h : Q s) : Q (beginSeg t p trunc s) := by
  unfold Machine.beginSeg
  extract_lets _ s1 cfg pos s2 width ctx g s3 s4 s5 x
  have h1 : Q s1 := hQ.trig h
  split
  · exact hQ.captureEnd h1
  · have h5 : Q s5 := onlyIf_stable hQ.truncJob (hQ.kprRecord (hQ.frames (hQ.cutSeg h1)))
    split
    exacts [hQ.trig h5, hQ.trig h5]

theorem checkTrig {n t : Nat} (h : Q s) : Q (checkTrig n t s) := by
  unfold Machine.checkTrig
  refine forAll_stable (fun {p s} _ h => ?_) ?_
  · dsimp only
    split
    · split
      · exact hQ.beginSeg h
      · split
        exacts [hQ.captureEnd (hQ.trig h), hQ.trig h]
    · exact h
  · split
    · split
      exacts [hQ.finishStop (hQ.trig h), h]
    · exact h

theorem closeTrigs {w jobId trail : Nat} {forced : Bool} (h : Q s) : Q (closeTrigs w jobId forced trail s) := by
  refine forAll_stable (fun {t s} _ h => ?_) h
  dsimp only
  split
  · split
    · split
      exacts [hQ.stopSeg (hQ.captureEnd (hQ.trig h)), hQ.captureEnd (hQ.trig h)]
    · exact hQ.captureEnd (hQ.trig h)
  · exact hQ.checkTrig (hQ.trig h)

theorem releaseHeld (h : Q s) : Q (releaseHeld s) := by
  unfold Machine.releaseHeld
  split
  · refine forAll_stable (fun {t s} _ h => forAll_stable (fun {p s} _ h => ?_) h) h
    split
    exacts [hQ.raiseJ (by omega) (by decide) (hQ.beginSeg h), h]
  · exact h

end

end SegmentStable

end Sys2Proof.Machine

namespace Sys2Proof.Machine

open Sys2Proof

/-! ### GAP_TIMEOUT_EXPIRY -/

/-- The memory, one register, and where the fast domains stand are as in `s`. -/
def HoldsReg (s : State) (o : Nat) (t : State) : Prop :=
  t.mem = s.mem ∧ rd t o = rd s o ∧ t.power.state = s.power.state ∧ t.power.failed = s.power.failed

/-- A register that the Keeper's operations do not write survives them, with the memory. -/
theorem HoldsReg.segmentStable {s : State} {o : Nat} (hev : ¬ EventReg o) (hring : ¬ KeeperRingReg o) (hddr : o ≠ rDDR_STATUS)
    (hpll : o ≠ rPWR_PLL) : SegmentStable (HoldsReg s o) := by
  have hwr {t p v} (hne : o ≠ p) (h : HoldsReg s o t) : HoldsReg s o (wr p v t) := by
    obtain ⟨hm, hr, hp⟩ := h
    exact ⟨hm, (rd_wr_other _ _ _ _ hne).trans hr, hp⟩
  exact {
    wrEvent := fun hp h => hwr (fun e => hev (e ▸ hp)) h
    pcie := id, fault := id, irq := id
    wrPoll := fun hp h => hwr (by rintro rfl; exact hp.elim hddr hpll) h
    power := fun hst hf h => ⟨h.1, h.2.1, hst.trans h.2.2.1, hf.trans h.2.2.2⟩
    wrRing := fun hp h => hwr (fun e => hring (e ▸ hp)) h
    jobs := id, win := id, trigQuiet := fun _ _ _ => id, trig := id, frames := id }

theorem HoldsReg.refl (s : State) (o : Nat) : HoldsReg s o s := ⟨rfl, rfl, rfl, rfl⟩

theorem HoldsReg.winState_stable (s : State) (w : Fin 4) : SegmentStable (HoldsReg s (rWIN_STATE w)) := by
  have hw := w.isLt
  apply HoldsReg.segmentStable <;> simp only [EventReg, KeeperRingReg, rWIN_STATE, rKPR_EVT_NEXT, rDDR_STATUS, rPWR_PLL] <;> omega

/-- A window that closes in order is IDLE, and the memory is as before. -/
theorem closeWin_close (w : Fin 4) (s : State) : winState (closeWin w 2 s) w = 0 ∧ (closeWin w 2 s).mem = s.mem := by
  have hw := HoldsReg.winState_stable
  unfold closeWin
  extract_lets x inGap pos at_ dropped s1 s2 s3 clear s4 s5
  have h1 : HoldsReg s (rWIN_STATE w) s1 := (hw s w).kprRecord (.refl s _)
  have h2 : HoldsReg s (rWIN_STATE w) s2 := by
    dsimp only [s2]
    split
    · exact h1
    · split
      exacts [(hw s w).setJob h1, h1]
  have h3 : winState s3 w = 0 := rdF_wrF_same (by omega) (by decide)
  obtain ⟨hm, hr, -⟩ : HoldsReg s3 (rWIN_STATE w) (restartIdle (captureEnd (closeTrigs w x.jobId (decide (2 ≠ 2)) pos s5))) :=
    (hw s3 w).restartIdle ((hw s3 w).captureEnd ((hw s3 w).closeTrigs (onlyIf_stable
      ((hw s3 w).raiseJ (by omega) (by decide)) ((hw s3 w).win (.refl s3 _)))))
  exact ⟨by rw [winState, rdF, hr]; exact h3, hm.trans h2.1⟩

/-! ### LINE_TRIGGER and TRIGGER_HOLD_RELEASE -/

/-- The memory, what generator `k` has issued and dropped, and when it last issued are as in `s`, and it holds no trigger unless
it did so in `s`. -/
def HoldsTrig (s : State) (k : Nat) (t : State) : Prop :=
  t.mem = s.mem ∧ (trig t k).pulses = (trig s k).pulses ∧ (trig t k).last = (trig s k).last ∧
    ((trig s k).held = false → (trig t k).held = false) ∧ rd t (rTRIG_DROPPED k) = rd s (rTRIG_DROPPED k)

theorem HoldsTrig.refl (s : State) (k : Nat) : HoldsTrig s k s := ⟨rfl, rfl, rfl, id, rfl⟩

theorem trig_setTrig (s : State) (t u : Nat) (x : Trig) : trig (setTrig t x s) u = if u = t then x else trig s u := by
  simp [trig, setTrig, tget_tput]

theorem HoldsTrig.keeperStable (s : State) (k : Fin 8) : KeeperStable (HoldsTrig s k) := by
  have hk := k.isLt
  have hwr {t p v} (hne : rTRIG_DROPPED k ≠ p) (h : HoldsTrig s k t) : HoldsTrig s k (wr p v t) := by
    obtain ⟨hm, hp, hl, hh, hr⟩ := h
    exact ⟨hm, hp, hl, hh, (rd_wr_other _ _ _ _ hne).trans hr⟩
  exact {
    wrEvent := fun hp h => hwr (by simp only [EventReg, rTRIG_DROPPED] at hp ⊢; omega) h
    pcie := id, fault := id, irq := id
    wrPoll := fun hp h => hwr (by simp only [rDDR_STATUS, rPWR_PLL, rTRIG_DROPPED] at hp ⊢; omega) h
    power := fun _ _ => id
    wrRing := fun hp h => hwr (by simp only [KeeperRingReg, rKPR_EVT_NEXT, rTRIG_DROPPED] at hp ⊢; omega) h
    jobs := id, win := id
    trigQuiet := by
      rintro t u x hxp hxl hxh ⟨hm, hp, hl, hh, hr⟩
      simp only [HoldsTrig, trig_setTrig]
      by_cases hu : k.val = u
      · subst hu
        rw [if_pos rfl]
        refine ⟨hm, hxp.trans hp, hxl.trans hl, fun h => ?_, hr⟩
        exact hxh.elim (fun e => e.trans (hh h)) id
      · rw [if_neg hu]
        exact ⟨hm, hp, hl, hh, hr⟩ }

/-- A pulse, and the segment that it may end, leave the generator with one pulse more, issued now, and with none held. -/
theorem finishStop_pulse (k : Fin 8) (g : Seg) (s : State) :
    (trig (finishStop k (pulse k g s)) k).pulses = (trig s k).pulses + 1 ∧
    (trig (finishStop k (pulse k g s)) k).last = s.clock.aon + 1 ∧
    (trig (finishStop k (pulse k g s)) k).held = false ∧ (finishStop k (pulse k g s)).mem = s.mem := by
  obtain ⟨hm, hp, hl, hh, -⟩ := (HoldsTrig.keeperStable (pulse k g s) k).finishStop (t := k) (.refl _ _)
  have hx : (trig (pulse k g s) k).pulses = (trig s k).pulses + 1 ∧ (trig (pulse k g s) k).last = s.clock.aon + 1 ∧
      (trig (pulse k g s) k).held = false := by
    simp [pulse, trig_setTrig]
  exact ⟨hp.trans hx.1, hl.trans hx.2.1, hh hx.2.2, hm⟩

/-- A trigger that is dropped, and the segment that it may end, are counted and issue nothing. -/
theorem finishStop_dropTrigger (k : Fin 8) (g : Seg) (s : State) :
    rdn (finishStop k (dropTrigger k g s)) (rTRIG_DROPPED k) = satN 32 (rdn s (rTRIG_DROPPED k) + 1) ∧
    (trig (finishStop k (dropTrigger k g s)) k).pulses = (trig s k).pulses ∧ (finishStop k (dropTrigger k g s)).mem = s.mem := by
  have hQ := HoldsTrig.keeperStable (bump (rTRIG_DROPPED k) 1 s) k
  obtain ⟨hm, hp, -, -, hr⟩ := hQ.finishStop (t := k) (hQ.dropTrigger (g := g) (.refl _ _))
  exact ⟨by rw [rdn, hr]; exact rdn_bump_same, hp, hm⟩

/-! ### Outcomes of the trigger commands, by what falls due -/

section
variable {k : Fin 8} {s : State} {g : Seg}

theorem execLineTrigger_none (h : (trig s k).seg = none) : execLineTrigger k s = .next s := by
  simp [execLineTrigger, h]

theorem execLineTrigger_notDue (hseg : (trig s k).seg = some g) (h : isDue s g (if (trig s k).held then 1 else 0) = false) :
    execLineTrigger k s = .next s := by
  cases hh : (trig s k).held <;> simp_all [execLineTrigger]

theorem execLineTrigger_drop (hseg : (trig s k).seg = some g) (hdue : isDue s g 1 = true) (hh : (trig s k).held = true) :
    execLineTrigger k s = .next (finishStop k (dropTrigger k g s)) := by
  simp [execLineTrigger, hseg, hdue, hh]

theorem execLineTrigger_hold (hseg : (trig s k).seg = some g) (hdue : isDue s g 0 = true) (hh : (trig s k).held = false)
    (hlast : (trig s k).last ≠ 0) (hsoon : s.clock.aon + 1 < (trig s k).last + g.minper) :
    execLineTrigger k s = .next (setTrig k { trig s k with held := true } s) := by
  simp [execLineTrigger, hseg, hdue, hh, hlast, hsoon]

theorem execLineTrigger_issue (hseg : (trig s k).seg = some g) (hdue : isDue s g 0 = true) (hh : (trig s k).held = false)
    (hpast : (trig s k).last = 0 ∨ (trig s k).last + g.minper ≤ s.clock.aon + 1) :
    execLineTrigger k s = .next (finishStop k (pulse k g s)) := by
  have hn : ¬ ((trig s k).last ≠ 0 ∧ s.clock.aon + 1 < (trig s k).last + g.minper) := by omega
  simp only [execLineTrigger, hseg, hdue, hh, hn]
  rfl

end

/-! ### Frames -/

/-- An update of the Keeper's units alone keeps everything else. -/
theorem kept_setTrig (s : State) (t : Nat) (x : Trig) : Kept [.keeper] [] s (setTrig t x s) := by
  refine ⟨fun p hp => ?_, fun _ _ => rfl⟩
  cases p
  case keeper => exact absurd List.mem_cons_self hp
  all_goals rfl

theorem kept_setJob (s : State) (k : Nat) (j : Job) : Kept [.jobs] [] s (setJob k j s) := by
  refine ⟨fun p hp => ?_, fun _ _ => rfl⟩
  cases p
  case jobs => exact absurd List.mem_cons_self hp
  all_goals rfl

/-- Settles O14: what closes a window, drops or issues a trigger is followed by operations that leave the window's state, the
trigger's count and the memory; the other branches change nothing or one unit. -/
theorem windowsTriggersAndSlots : Obligations.WindowsTriggersAndSlots := by
  refine ⟨?_, ?_, ?_, ?_, ?_, ?_, ?_, ?_, ?_, ?_⟩
  · intro w s hst hto hclear hpast
    exact ⟨_, by simp [exec, execGapTimeoutExpiry, hst, hto, hclear, hpast], closeWin_close w s⟩
  · intro w s h
    refine ⟨s, ?_, rfl⟩
    simp only [exec, execGapTimeoutExpiry]
    rw [if_neg]
    rintro ⟨hst, hto, hclear, hpast⟩
    rcases h with h | h | h | h
    · exact h hst
    · exact hto h
    · simp [h] at hclear
    · omega
  · intro k s g hseg hdue hheld hpast
    obtain ⟨hp, hl, -, hm⟩ := finishStop_pulse k g s
    exact ⟨_, execLineTrigger_issue hseg hdue hheld hpast, hp, hl, hm⟩
  · intro k s g hseg hdue hheld hlast hsoon
    exact ⟨_, execLineTrigger_hold hseg hdue hheld hlast hsoon, by simp [trig_setTrig], by simp [trig_setTrig], kept_setTrig s k _⟩
  · intro k s g hseg hdue hheld
    exact ⟨_, execLineTrigger_drop hseg hdue hheld, finishStop_dropTrigger k g s⟩
  · rintro k s (h | ⟨g, hseg, hdue⟩)
    · exact ⟨s, execLineTrigger_none h, rfl⟩
    · exact ⟨s, execLineTrigger_notDue hseg hdue, rfl⟩
  · intro k s h
    refine ⟨s, ?_, rfl⟩
    simp only [exec, execTriggerHoldRelease]
    split
    · rfl
    · next g hseg =>
      have hh : (trig s k).held = false := h.resolve_left (by simp [hseg])
      simp [hh]
  · intro k s g hseg hheld hpast
    obtain ⟨hp, -, hh, hm⟩ := finishStop_pulse k g s
    exact ⟨_, by simp [exec, execTriggerHoldRelease, hseg, hheld, hpast], hh, hp, hm⟩
  · intro k s h
    refine ⟨s, ?_, rfl⟩
    simp only [exec, execSlotReuseDelayExpiry]
    rw [if_neg]
    rintro ⟨hst, hpast⟩
    exact h.elim (fun hne => hne hst) (fun hlt => by omega)
  · intro k s hst hpast
    refine ⟨_, if_pos ⟨hst, hpast⟩, job_setJob_same s k _, fun m hm => ?_, kept_setJob s k _⟩
    rw [job_setJob, if_neg hm]

end Sys2Proof.Machine

namespace Sys2Proof.Machine

open Sys2Proof

/-! ### Parts of the state that an operation keeps -/

section
variable {ps : List Part} {rs : List Nat} {s t u : State}

theorem Part.same_refl (p : Part) (s : State) : p.same s s := by cases p <;> rfl

theorem Part.same_trans {p : Part} (h₁ : p.same s t) (h₂ : p.same t u) : p.same s u := by
  cases p <;> exact Eq.trans h₂ h₁

/-- Registers are no part beside them. -/
theorem Part.same_wr {p : Part} {o : Nat} {v : Word} (h : p.same s t) : p.same s (wr o v t) := by cases p <;> exact h

theorem Kept.refl (s : State) : Kept ps rs s s := ⟨fun p _ => p.same_refl s, fun _ _ => rfl⟩

theorem Kept.wr {o : Nat} {v : Word} (ho : o ∈ rs) (h : Kept ps rs s t) : Kept ps rs s (wr o v t) :=
  ⟨fun p hp => Part.same_wr (h.1 p hp), fun q hq =>
    (rd_wr_other _ _ _ _ (by rintro rfl; exact hq ho)).trans (h.2 q hq)⟩

/-- A change of the power unit is none of the other parts. -/
theorem Kept.power {x : Power} (hp : .power ∈ ps) (h : Kept ps rs s t) : Kept ps rs s { t with power := x } := by
  refine ⟨fun p hnot => ?_, h.2⟩
  have hsame := h.1 p hnot
  cases p
  case power => exact absurd hp hnot
  all_goals exact hsame

end

/-! ### The record of a write (R74, R75) -/

/-- From `s` to `t` only the registers of the record of a write and the journal's first-entry mark may have changed. -/
def LogOnly (s t : State) : Prop :=
  (∀ p : Part, p ≠ .boot → p.same s t) ∧ { t.boot with jnlFirst := s.boot.jnlFirst } = s.boot ∧
    ∀ o, isLogReg o = false → rd t o = rd s o

namespace LogOnly

section
variable {s t : State}

protected theorem refl (s : State) : LogOnly s s := ⟨fun p _ => p.same_refl s, rfl, fun _ _ => rfl⟩

protected theorem wr {o : Nat} {v : Word} (ho : isLogReg o = true) (h : LogOnly s t) : LogOnly s (wr o v t) :=
  ⟨fun p hp => Part.same_wr (h.1 p hp), h.2.1, fun q hq =>
    (rd_wr_other _ _ _ _ (by rintro rfl; simp [ho] at hq)).trans (h.2.2 q hq)⟩

theorem isLogReg_word {q i : Nat} (hi : i < 8) : isLogReg (rJNL_WORD ((q % 4096) * 8) + 4 * i) = true := by
  refine Bool.or_eq_true_iff.mpr (.inr (decide_eq_true ?_))
  simp only [rJNL_WORD]
  omega

/-- The mark of the first journal entry clears. -/
theorem markEntry (h : LogOnly s t) : LogOnly s { t with boot := { t.boot with jnlFirst := false } } := by
  obtain ⟨hp, hb, hr⟩ := h
  refine ⟨fun p hne => ?_, hb, hr⟩
  have hsame := hp p hne
  cases p
  case boot => exact absurd rfl hne
  all_goals exact hsame

protected theorem journalAt {st : Nat × Bool} {i : Iface} {flags off : Nat} {old new : Word} (h : LogOnly s t) :
    LogOnly s (journalAt st i flags off old new t) := by
  unfold Machine.journalAt
  split
  · refine .wr (by decide) (markEntry (onlyIf_stable (fun h => .wr (by decide) h) ?_))
    exact wrWords_stable (P := fun o => isLogReg o = true) (fun ho h => .wr ho h) (fun i hi => isLogReg_word hi) h
  · exact h

protected theorem logWrite {st : Nat × Bool} {i : Iface} {off : Nat} {old v : Word} {ok : Bool} (h : LogOnly s t) :
    LogOnly s (logWrite st i off old v ok t) := by
  unfold Machine.logWrite
  split
  · split
    exacts [h, h.journalAt]
  · exact onlyIf_stable (fun h => h.journalAt) (.wr (by decide) h)

end

end LogOnly

/-! ### Accepted writes (R61 to R68) -/

section
variable {i : Iface} {off : Nat} {v : Word} {eff : State → State × Bool} {s t u : State} {ps : List Part} {rs : List Nat}

/-- A write that the gate lets through to a single register does its effect, and is recorded. -/
theorem logOnly_gatedWrite (hg : gate i true off s = .open) (hrow : (regAt off).isSome) (hhalf : halfAt off = 0) :
    LogOnly (eff (answer [] s)).1 (gatedWrite i off v eff s) := by
  have hnone : ¬ ((regAt off).isNone = true ∧ (inForceOf off).isNone = true) := by
    rw [Option.isNone_iff_eq_none]
    rintro ⟨h, -⟩
    simp [h] at hrow
  simp only [gatedWrite, hg, hhalf]
  rw [if_neg hnone, if_neg (by decide), if_neg (by decide)]
  exact LogOnly.logWrite (.refl _)

/-- What the effect keeps, the access keeps but for the record of the write. -/
theorem KeptAccess.of_effect (he : Kept ps rs (answer [] s) u) (hl : LogOnly u t) : KeptAccess ps rs s t := by
  obtain ⟨hp, hr⟩ := he
  obtain ⟨hlp, hlb, hlr⟩ := hl
  refine ⟨fun p hps hresp hboot => ?_, ?_, fun o ho hlog => (hlr o hlog).trans (hr o ho)⟩
  · refine Part.same_trans ?_ (Part.same_trans (hp p hps) (hlp p hboot))
    cases p
    case resp => exact absurd rfl hresp
    all_goals rfl
  · by_cases hb : Part.boot ∈ ps
    · exact .inr hb
    · have hsame : u.boot = s.boot := hp .boot hb
      rw [hsame] at hlb
      exact .inl hlb

end

end Sys2Proof.Machine

namespace Sys2Proof.Machine

open Sys2Proof

/-! ### WAKE_REQUEST (R92, R18, R513) -/

section
variable {ps : List Part} {rs : List Nat} {s : State}

/-- What a wake request may touch is kept up to the power unit and four registers; DRAM stays as it is. -/
theorem kept_wakeRequest (hp : .power ∈ ps) (hctrl : rPWR_CTRL ∈ rs) (hcnt1 : rPWR_CNT 1 ∈ rs) (hcnt2 : rPWR_CNT 2 ∈ rs)
    (hpll : rPWR_PLL ∈ rs) {s₀ : State} (h : Kept ps rs s₀ s) : Kept ps rs s₀ (wakeRequest s) := by
  have h1 : Kept ps rs s₀ (wrB rPWR_CTRL 0 false (bump (rPWR_CNT 1) 1 s)) := .wr hctrl (.wr hcnt1 h)
  unfold wakeRequest
  dsimp only
  split
  · exact .wr hcnt2 (.power hp h1)
  · exact .wr hcnt2 (.power hp h1)
  · exact .power hp (.wr hpll h1)
  · exact h1
  · exact h1
  · split
    exacts [.power hp h1, .power hp h1, .power hp h1]

/-- The registers that a wake request leaves as its first writes have them. -/
theorem rd_wakeRequest {o : Nat} (hcnt2 : o ≠ rPWR_CNT 2) (hpll : o ≠ rPWR_PLL) :
    rd (wakeRequest s) o = rd (wrB rPWR_CTRL 0 false (bump (rPWR_CNT 1) 1 s)) o := by
  unfold wakeRequest
  dsimp only
  split
  · exact rd_wr_other _ _ _ _ hcnt2
  · exact rd_wr_other _ _ _ _ hcnt2
  · exact rd_wr_other _ _ _ _ hpll
  · rfl
  · rfl
  · split <;> rfl

theorem rdn_wakeRequest_wakes : rdn (wakeRequest s) (rPWR_CNT 1) = satN 32 (rdn s (rPWR_CNT 1) + 1) := by
  rw [rdn, rd_wakeRequest (by decide) (by decide), rd_wrB, if_neg (by decide)]
  exact rdn_bump_same

theorem rdB_wakeRequest_deepReq : rdB (wakeRequest s) rPWR_CTRL 0 = false := by
  rw [rdB, rd_wakeRequest (by decide) (by decide)]
  exact (rdB_wrB (by decide)).trans (if_pos rfl)

theorem power_state_wakeRequest : (wakeRequest s).power.state = s.power.state := by
  unfold wakeRequest
  dsimp only
  split
  · rfl
  · rfl
  · rfl
  · rfl
  · rfl
  · split <;> rfl

theorem wakeRequest_nap (hstep : s.power.step = .none) (hst : s.power.state = .nap) : (wakeRequest s).power.step = .waking := by
  simp [wakeRequest, hstep, hst, setStep]

theorem wakeRequest_deep (hstep : s.power.step = .none) (hst : s.power.state = .deep) :
    (wakeRequest s).power.step = .deepExit := by
  simp [wakeRequest, hstep, hst, setStep]

/-- A wake request aborts a NAP entry, and the abort counts. -/
theorem wakeRequest_napEntry (hstep : s.power.step = .napEntry) :
    (wakeRequest s).power.step = .waking ∧ rdn (wakeRequest s) (rPWR_CNT 2) = satN 32 (rdn s (rPWR_CNT 2) + 1) := by
  have hw : wakeRequest s = bump (rPWR_CNT 2) 1 (setStep .waking (wrB rPWR_CTRL 0 false (bump (rPWR_CNT 1) 1 s))) := by
    simp [wakeRequest, hstep]
  have hr : rd (setStep .waking (wrB rPWR_CTRL 0 false (bump (rPWR_CNT 1) 1 s))) (rPWR_CNT 2) = rd s (rPWR_CNT 2) :=
    (rd_wr_other _ _ _ _ (by decide)).trans (rd_wr_other _ _ _ _ (by decide))
  rw [hw]
  exact ⟨rfl, rdn_bump_same.trans (by rw [rdn, hr, rdn])⟩

end

/-! ### FAST_DOMAINS_RUN (R16, R93) -/

/-- The memory is as in `s`. -/
def HoldsMem (s t : State) : Prop := t.mem = s.mem

theorem HoldsMem.eventStable (s : State) : EventStable (HoldsMem s) :=
  { wrEvent := fun _ => id, pcie := id, fault := id, irq := id }

theorem HoldsReg.wakeCtrl_stable (s : State) : SegmentStable (HoldsReg s rWAKE_CTRL) := by
  apply HoldsReg.segmentStable <;> simp only [EventReg, KeeperRingReg, rWAKE_CTRL, rKPR_EVT_NEXT, rDDR_STATUS, rPWR_PLL] <;> omega

/-- At the end of a wake the fast domains are in RUN, but for those that failed; WAKE_NOW clears; the memory is as before. -/
theorem reachRun_spec (failed : Nat) (s : State) :
    (reachRun failed s).power.state = .run ∧ (reachRun failed s).power.failed = failed ∧
    rdB (reachRun failed s) rWAKE_CTRL 1 = false ∧ (reachRun failed s).mem = s.mem := by
  have hQ := HoldsReg.wakeCtrl_stable
  unfold reachRun
  extract_lets s1 _ s2 s3 s4
  have h1 : HoldsMem s s1 :=
    onlyIf_stable (fun {t} (ht : HoldsMem s t) => (HoldsMem.eventStable s).raiseE (by decide) (by decide) ht) rfl
  have h3 : rdB s3 rWAKE_CTRL 1 = false := by
    rw [rdB, rd_wrF, if_neg (by decide)]
    exact (rdB_wrB (by decide)).trans (if_pos rfl)
  have h4 : HoldsReg s3 rWAKE_CTRL s4 := by
    refine forAll_stable (fun {i t} hi ht => ?_) (.refl s3 _)
    have hclass : ∀ i < 4, evtClass (i + 1) ≠ 3 := by decide
    have hi4 : i < 4 := List.mem_range.mp hi
    split
    exacts [(hQ s3).raiseEvt (by dsimp only; omega) (hclass i hi4) ht, ht]
  obtain ⟨hm, hr, hst, hf⟩ := (hQ s3).deepPoll ((hQ s3).releaseHeld h4)
  exact ⟨hst, hf, by rw [rdB, hr]; exact h3, hm.trans h1⟩

/-! ### WAKE_HOLD and WAKE_NOW (R20, R92) -/

/-- HOLD has a value, and the memory and the jobs are as in `s`. -/
def HoldIs (s : State) (on : Bool) (t : State) : Prop := rdB t rWAKE_CTRL 0 = on ∧ t.mem = s.mem ∧ t.jobs = s.jobs

theorem HoldIs.wakeStable (s : State) (on : Bool) : WakeStable (HoldIs s on) := by
  have hwr {t p v} (hne : rWAKE_CTRL ≠ p) (h : HoldIs s on t) : HoldIs s on (wr p v t) := by
    obtain ⟨hb, hm, hj⟩ := h
    exact ⟨by rwa [rdB, rd_wr_other _ _ _ _ hne], hm, hj⟩
  exact {
    wrPoll := fun hp h => hwr (by rintro rfl; exact absurd hp (by decide)) h
    power := fun _ _ => id
    wrWake := fun hp h => hwr (by rintro rfl; exact absurd hp (by decide)) h }

/-- A change of WAKE_NOW leaves HOLD. -/
theorem HoldIs.wakeNow {s t : State} {on b : Bool} (h : HoldIs s on t) : HoldIs s on (wrB rWAKE_CTRL 1 b t) :=
  ⟨((rdB_wrB (by decide)).trans (if_neg (by decide))).trans h.1, h.2⟩

/-- A write of WAKE_CTRL sets HOLD to its bit 0. -/
theorem wakeCtrlEffect_hold (v : Word) (s : State) : HoldIs s (bit v 0) (wakeCtrlEffect v s).1 := by
  have hQ := HoldIs.wakeStable s (bit v 0)
  have h0 : HoldIs s (bit v 0) (wrB rWAKE_CTRL 0 (bit v 0) s) := ⟨(rdB_wrB (by decide)).trans (if_pos rfl), rfl, rfl⟩
  exact onlyIf_stable hQ.restartIdle (onlyIf_stable HoldIs.wakeNow (onlyIf_stable hQ.wakeRequest
    (onlyIf_stable HoldIs.wakeNow h0)))

/-- From `s` to `t` one more wake is counted, and beside the power unit only WAKE_CTRL and the registers of a wake request may have
changed. -/
def WokenOnce (s t : State) : Prop :=
  rdn t (rPWR_CNT 1) = satN 32 (rdn s (rPWR_CNT 1) + 1) ∧
    Kept [.power] [rWAKE_CTRL, rPWR_CTRL, rPWR_CNT 1, rPWR_CNT 2, rPWR_PLL] s t

/-- A write of WAKE_CTRL with WAKE_NOW, which leaves HOLD, is a wake request beside that register. -/
theorem wakeCtrlEffect_wakeNow {v : Word} {s : State} (hold : bit v 0 = rdB s rWAKE_CTRL 0) (hnow : bit v 1 = true) :
    WokenOnce s (wakeCtrlEffect v s).1 := by
  unfold wakeCtrlEffect
  extract_lets old s1 s2 s3 s4
  have hlast : onlyIf (old && !bit v 0) restartIdle s4 = s4 := by
    rw [hold]
    simp [onlyIf, old]
  have h2 : rd s2 (rPWR_CNT 1) = rd s (rPWR_CNT 1) :=
    onlyIf_stable (Q := fun t => rd t (rPWR_CNT 1) = rd s (rPWR_CNT 1)) ((rd_wr_other _ _ _ _ (by decide)).trans ·)
      (rd_wr_other _ _ _ _ (by decide))
  have hk2 : Kept [.power] [rWAKE_CTRL, rPWR_CTRL, rPWR_CNT 1, rPWR_CNT 2, rPWR_PLL] s s2 :=
    onlyIf_stable (.wr (by simp) ·) (.wr (by simp) (.refl s))
  have h3 : WokenOnce s s3 := by
    dsimp only [s3, onlyIf]
    rw [hnow, Bool.true_or, if_pos rfl]
    exact ⟨rdn_wakeRequest_wakes.trans (by rw [rdn, h2, rdn]),
      kept_wakeRequest (by simp) (by simp) (by simp) (by simp) (by simp) hk2⟩
  rw [hlast]
  refine onlyIf_stable (fun ⟨hc, hk⟩ => ⟨?_, .wr (by simp) hk⟩) h3
  exact (congrArg BitVec.toNat (rd_wr_other _ _ _ _ (by decide))).trans hc

end Sys2Proof.Machine

namespace Sys2Proof.Machine

open Sys2Proof

/-! ### The video ports as D3 enters NAP (R113) -/

/-- `Q` survives what closes and opens frames of the video ports: registers of the blocks VPORT, CTX and MEAS and above, shadow
sets put in force, port and context units, and the release of lines that were held (which alone may write memory). -/
structure PortStable (Q : State → Prop) : Prop extends EventStable Q where
  wrHigh : ∀ {s o v}, 0x1000000 ≤ o → Q s → Q (wr o v s)
  clear : ∀ {s lo hi}, 0x1000000 ≤ lo → Q s → Q { s with regs := tclear lo hi s.regs }
  ports : ∀ {s p} {x : Port}, (x.extra = [] ∨ x.extra = (port s p).extra) → Q s → Q (setPort p x s)
  queue : ∀ {s} {q : Tab (List PipeItem)}, Q s → Q { s with pipeq := q }
  contexts : ∀ {s} {c : Tab PCtx}, Q s → Q { s with pctx := c }
  numbers : ∀ {s} {f : Tab Nat}, Q s → Q { s with frames := f }
  taken : ∀ {s n}, Q s → Q { s with free := n }
  release : ∀ {s p}, p < 8 → Q s → Q (releaseExtra p s)

theorem groupCtrl_high (g : ShadowGroup) : 0x1000000 ≤ groupCtrl g := by
  cases g <;> simp only [groupCtrl, rCTX_SHADOW_CTRL, rVP_SHADOW_CTRL, rMEAS_SHADOW_CTRL] <;> omega

theorem groupRanges_high {g : ShadowGroup} {r : Nat × Nat} (hr : r ∈ groupRanges g) : 0x1000000 ≤ r.1 := by
  have hpage : 0x1000000 ≤ groupPage g := by
    cases g <;> simp only [groupPage, rCTX_CFG, rVP_CFG, rSTAT_CFG] <;> omega
  cases g <;> simp only [groupRanges, List.mem_cons, List.not_mem_nil, or_false] at hr
  · rcases hr with rfl | rfl
    exacts [hpage, Nat.le_add_right_of_le hpage]
  · exact hr ▸ hpage
  · exact hr ▸ hpage

namespace PortStable

section
variable {Q : State → Prop} {s : State} (hQ : PortStable Q)
include hQ

theorem portFlag {p b : Nat} (h : Q s) : Q (portFlag p b s) := hQ.ports (.inr rfl) h

theorem pushPipe {c : Nat} {x : PipeItem} (h : Q s) : Q (pushPipe c x s) := hQ.queue h

theorem wr64 {lo v : Nat} (hlo : 0x1000000 ≤ lo) (h : Q s) : Q (wr64 lo v s) :=
  hQ.wrHigh (Nat.le_add_right_of_le hlo) (hQ.wrHigh hlo h)

theorem dropExtra {p : Nat} (hp : p < 8) (h : Q s) : Q (dropExtra p s) :=
  onlyIf_stable (fun h => hQ.portFlag (hQ.wrHigh (by simp only [rVP_CNT]; omega) h)) (hQ.release hp h)

theorem setPortState {p v : Nat} (h : Q s) : Q (setPortState p v s) := hQ.wrHigh (by simp only [rVP_STATUS]; omega) h

theorem closeFrame {p next : Nat} (hp : p < 8) (h : Q s) : Q (closeFrame p next s) := by
  have hrec (off : Nat) (vs : List Nat) {s} (h : Q s) : Q (wrWords (rVP_REC p off) vs s) :=
    wrWords_stable hQ.wrHigh (fun i _ => by simp only [rVP_REC]; omega) h
  unfold Machine.closeFrame
  extract_lets s1 exp s2 x q _ _ s3 s4 s5
  have h2 : Q s2 := onlyIf_stable hQ.portFlag (hQ.dropExtra hp h)
  have h3 : Q s3 := by
    dsimp only [s3]
    split
    exacts [hrec _ _ h2, hrec _ _ (hQ.taken (hQ.taken h2))]
  have h4 : Q s4 := hQ.wrHigh (by simp only [rVP_CNT]; omega) (hQ.wrHigh (by simp only [rVP_FR_NEXT]; omega) h3)
  have h5 : Q s5 := by
    dsimp only [s5]
    split
    exacts [hQ.pushPipe h4, h4]
  exact hQ.setPortState (hQ.ports (.inl rfl) h5)

theorem closeOpen {p next : Nat} (hp : p < 8) (h : Q s) : Q (closeOpen p next s) := by
  have hseg : Q (closeSegment p next s) :=
    hQ.closeFrame hp (onlyIf_stable (fun h => hQ.raiseE (by decide) (by decide)
      (hQ.wrHigh (by simp only [rVP_CNT]; omega) (hQ.portFlag h))) (hQ.release hp h))
  have harea : Q (closeArea p next s) := hQ.closeFrame hp (onlyIf_stable hQ.portFlag h)
  unfold Machine.closeOpen
  split
  · exact h
  · split
    exacts [hseg, harea]

theorem portMode {p : Nat} (h : Q s) : Q (portMode p s) := by
  have h1 : Q (wrB (rVP_STATUS p) 2 (vpInvalid s p) s) := hQ.wrHigh (by simp only [rVP_STATUS]; omega) h
  unfold Machine.portMode
  dsimp only
  split
  · exact hQ.setPortState h1
  · split
    exacts [hQ.setPortState h1, h1]

theorem copyShadow {r : Nat × Nat} (hr : 0x1000000 ≤ r.1) (h : Q s) : Q (copyShadow r s) := by
  refine forAll_stable (fun {e t} he ht => hQ.wrHigh ?_ ht) (hQ.clear (Nat.le_add_right_of_le hr) h)
  obtain ⟨-, hin⟩ := List.mem_filter.mp he
  have := (of_decide_eq_true hin).1
  omega

theorem ctxRestart {c : Nat} {old : State} (h : Q s) : Q (ctxRestart c old s) := by
  refine onlyIf_stable hQ.contexts (forAll_stable (fun _ h => onlyIf_stable (fun h => ?_) h) h)
  exact hQ.wr64 (by simp only [rCTX_OUT_WRITTEN_LO]; omega) (hQ.wr64 (by simp only [rCTX_OUT_RELEASE_LO]; omega) h)

theorem shadowBoundary {g : ShadowGroup} (h : Q s) : Q (shadowBoundary g s) := by
  have hcopy : Q (wrB (groupCtrl g) 0 false (forAll (groupRanges g) Machine.copyShadow s)) :=
    hQ.wrHigh (groupCtrl_high g) (forAll_stable (fun hr h => hQ.copyShadow (groupRanges_high hr) h) h)
  unfold Machine.shadowBoundary
  split
  · cases g
    exacts [hQ.ctxRestart hcopy, hcopy, hcopy]
  · exact h

theorem ctxRefresh {c : Nat} (h : Q s) : Q (ctxRefresh c s) := by
  have hset {v} : Q (setCtxState c v s) := hQ.wrHigh (by simp only [rCTX_STATUS]; omega) h
  unfold Machine.ctxRefresh
  split
  · split
    exacts [h, hset]
  · split
    exacts [hset, h]

theorem zLoad {c : Nat} (h : Q s) : Q (zLoad c s) := by
  have h1 : Q (setPctx c { pctx s c with calDue := false } s) := hQ.contexts h
  unfold Machine.zLoad
  dsimp only
  split
  · exact h1
  · split
    · refine hQ.wrHigh (by simp only [rMEAS_STATUS]; omega) (forAll_stable (fun _ h => ?_) h1)
      exact hQ.wrHigh (by simp only [rMEAS_Z]; omega) h
    · exact hQ.raiseE (by decide) (by decide) h1

theorem measRefresh (h : Q s) : Q (measRefresh s) := by
  refine forAll_stable (fun {c s} _ h => ?_) h
  have hstat {t : State} {i b} (h : Q t) : Q (wrB (rMEAS_STATUS c) i b t) := hQ.wrHigh (by simp only [rMEAS_STATUS]; omega) h
  dsimp only
  split
  exacts [hQ.zLoad (hstat (hstat h)), hstat (hstat h)]

theorem ctxBoundary {c : Nat} (h : Q s) : Q (ctxBoundary c s) :=
  hQ.measRefresh (hQ.ctxRefresh (hQ.shadowBoundary (hQ.shadowBoundary h)))

theorem openFrame {p at_ : Nat} {sg : Option (Nat × Nat × Nat × Bool)} (h : Q s) : Q (openFrame p sg at_ s) := by
  unfold Machine.openFrame
  extract_lets +onlyGivenNames s1 ctx s2 s3
  clear_value ctx
  have h2 : Q s2 := by
    dsimp only [s2]
    split
    exacts [hQ.ctxBoundary (hQ.shadowBoundary h), hQ.shadowBoundary h]
  split
  · exact hQ.portMode h2
  · extract_lets +onlyGivenNames s4 front size frame target s5 s6
    clear_value target
    have h4 : Q s4 := by
      dsimp only [s4]
      split
      exacts [hQ.numbers (hQ.portMode h2), hQ.portMode h2]
    have h6 : Q s6 := hQ.setPortState (hQ.wrHigh (by simp only [rVP_STATUS]; omega) (hQ.ports (.inl rfl) h4))
    split
    exacts [h6, hQ.pushPipe h6]

theorem settle {p : Nat} (hp : p < 8) (h : Q s) : Q (settle p s) := by
  unfold Machine.settle Machine.startNext
  dsimp only
  split
  · split
    exacts [hQ.closeOpen hp h, hQ.openFrame (hQ.closeOpen hp h)]
  · exact h

theorem portsNap (h : Q s) : Q (portsNap s) := by
  refine forAll_stable (fun {p s} hmem h => ?_) h
  have hp : p < 8 := List.mem_range.mp hmem
  have hcut : Q (cutFrame p fNAP 1 s) := by
    unfold cutFrame
    dsimp only
    split
    exacts [hQ.closeFrame hp (hQ.portFlag (hQ.portFlag (hQ.settle hp h))), hQ.settle hp h]
  dsimp only
  split
  exacts [hQ.setPortState hcut, hcut]

end

end PortStable
end Sys2Proof.Machine

namespace Sys2Proof.Machine

open Sys2Proof

/-! ### Entries of a table that no removal uncovers -/

section
variable {α : Type} {k : Nat} {v : α} {t : Tab α}

/-- The table holds `v` at key `k`, behind smaller keys alone; so a search for `k` ends there, whatever order the table has. -/
def PinnedAt (k : Nat) (v : α) : Tab α → Prop
  | [] => False
  | (k0, v0) :: t => (k0 = k ∧ v0 = v) ∨ (k0 < k ∧ PinnedAt k v t)

theorem PinnedAt.tget {d : α} (h : PinnedAt k v t) : tget d t k = v := by
  induction t with
  | nil => exact h.elim
  | cons e t ih =>
    obtain ⟨k0, v0⟩ := e
    obtain ⟨rfl, rfl⟩ | ⟨hlt, ht⟩ := h
    · simp [Machine.tget]
    · simp [Machine.tget, show ¬ k = k0 by omega, show ¬ k < k0 by omega, ih ht]

/-- Entries below `j` are dropped, and the one pinned above it stays. -/
theorem PinnedAt.tdrop {j : Nat} (hj : j < k) (h : PinnedAt k v t) : PinnedAt k v (tdrop j t) := by
  induction t with
  | nil => exact h
  | cons e t ih =>
    obtain ⟨k0, v0⟩ := e
    unfold Machine.tdrop
    split
    · exact h
    · obtain ⟨rfl, -⟩ | ⟨-, ht⟩ := h
      · omega
      · exact ih ht

/-- Clearing a range above a pinned entry leaves it. -/
theorem PinnedAt.tclear {lo hi : Nat} (hk : k < lo) (h : PinnedAt k v t) : PinnedAt k v (tclear lo hi t) := by
  induction t with
  | nil => exact h
  | cons e t ih =>
    obtain ⟨k0, v0⟩ := e
    have hk0 : ¬ (lo ≤ k0 ∧ k0 < hi) := by
      obtain ⟨rfl, -⟩ | ⟨hlt, -⟩ := h <;> omega
    unfold Machine.tclear
    rw [if_neg hk0]
    exact h.imp id (fun ⟨hlt, ht⟩ => ⟨hlt, ih ht⟩)

variable [DecidableEq α]

/-- A value that is not the default is pinned when it is put. -/
theorem pinnedAt_tput {d : α} (hv : v ≠ d) (t : Tab α) : PinnedAt k v (tput d t k v) := by
  induction t with
  | nil => simp [tput, hv, PinnedAt]
  | cons e t ih =>
    obtain ⟨k0, v0⟩ := e
    by_cases h0 : k0 < k
    · simp [tput, h0, PinnedAt, ih]
    · simp [tput, h0, hv, PinnedAt]

/-- A write at another key leaves a pinned entry. -/
theorem PinnedAt.tput {d w : α} {j : Nat} (hj : j ≠ k) (h : PinnedAt k v t) : PinnedAt k v (tput d t j w) := by
  induction t with
  | nil => exact h.elim
  | cons e t ih =>
    obtain ⟨k0, v0⟩ := e
    unfold Machine.tput
    split
    · exact h.imp id (fun ⟨hlt, ht⟩ => ⟨hlt, ih ht⟩)
    next hge =>
      have hjk : j < k := by
        obtain ⟨rfl, -⟩ | ⟨hlt, -⟩ := h <;> omega
      split
      exacts [h.tdrop hjk, .inr ⟨hjk, h.tdrop hjk⟩]

end

/-! ### NAP_ENTRY_COMPLETE (R511, R113) -/

/-- The memory is as in `s`, and no port holds a line. -/
def NoLineHeld (s t : State) : Prop := t.mem = s.mem ∧ ∀ p, p < 8 → (port t p).extra = []

theorem port_setPort (s : State) (p q : Nat) (x : Port) : port (setPort p x s) q = if q = p then x else port s q := by
  simp [port, setPort, tget_tput]

theorem NoLineHeld.portStable (s : State) : PortStable (NoLineHeld s) := by
  have hports {t p} {x : Port} (hx : x.extra = [] ∨ x.extra = (port t p).extra) (h : NoLineHeld s t) :
      NoLineHeld s (setPort p x t) := by
    refine ⟨h.1, fun q hq => ?_⟩
    rw [port_setPort]
    split
    next e => exact hx.elim id (fun hp => hp.trans (e ▸ h.2 q hq))
    next => exact h.2 q hq
  exact {
    wrEvent := fun _ => id, pcie := id, fault := id, irq := id
    wrHigh := fun _ => id, clear := fun _ => id, ports := hports
    queue := id, contexts := id, numbers := id, taken := id
    release := fun {t p} hp h => by
      have he : (port t p).extra = [] := h.2 p hp
      have hr : releaseExtra p t = setPort p { port t p with extra := [] } t := by
        simp [releaseExtra, he, forAll]
      rw [hr]
      exact hports (.inl rfl) h }

/-- The fast domains sleep, no power step is under way, and the count of naps holds `v`. -/
def Napping (v : Word) (t : State) : Prop :=
  t.power.state = .nap ∧ t.power.step = .none ∧ PinnedAt (rPWR_CNT 0) v t.regs

namespace Napping

section
variable {v : Word} {s : State}

theorem wr {o : Nat} {w : Word} (ho : o ≠ rPWR_CNT 0) (h : Napping v s) : Napping v (wr o w s) :=
  ⟨h.1, h.2.1, h.2.2.tput ho⟩

theorem eventStable (v : Word) : EventStable (Napping v) where
  wrEvent := fun ho h => h.wr (by rintro rfl; simp only [EventReg, rPWR_CNT] at ho; omega)
  pcie := id
  fault := id
  irq := id

theorem fullRetrain (h : Napping v s) : Napping v (fullRetrain s) :=
  (eventStable v).raiseE (by decide) (by decide) (.wr (by decide) (.wr (by decide) h))

theorem dramWake (h : Napping v s) : Napping v (dramWake s) := by
  unfold Machine.dramWake
  split
  exacts [.fullRetrain (.wr (by decide) h), h]

theorem wr64 {lo w : Nat} (hlo : 0x1000000 ≤ lo) (h : Napping v s) : Napping v (wr64 lo w s) :=
  .wr (by simp only [rPWR_CNT]; omega) (.wr (by simp only [rPWR_CNT]; omega) h)

theorem drawOne {k n : Nat} (h : Napping v s) : Napping v (drawOne k n s) := by
  unfold Machine.drawOne
  split
  exacts [.wr (by simp only [rPWR_CNT, rREGUL_TOK]; omega) h, h]

theorem ddr {d : Ddr} (h : Napping v s) : Napping v { s with ddr := d } := h

theorem dramServed {k a len : Nat} (h : Napping v s) : Napping v (dramServed k a len s) := by
  unfold Machine.dramServed
  split
  · exact h
  · have hreach : Napping v (dramReach a len s) := h.dramWake.ddr
    have hdraw : Napping v (drawAll k a len (dramReach a len s)) := forAll_stable (fun _ h => h.drawOne) hreach
    exact hdraw.wr64 (by simp only [rREGUL_BYTES_LO]; omega)

theorem unreserve {a len : Nat} (h : Napping v s) : Napping v (unreserve a len s) := by
  unfold Machine.unreserve
  split
  exacts [h, h]

theorem setBytes {bs : List Byte} {a : Nat} (h : Napping v s) : Napping v (setBytes a bs s) := by
  induction bs generalizing a s with
  | nil => exact h
  | cons b t ih => exact ih (a := a + 1) (s := setByte a b s) h

theorem storeBytes {a : Nat} {bs : List Byte} {dirty : Bool} (h : Napping v s) : Napping v (storeBytes a bs dirty s) := by
  refine forAll_stable (fun {u s} _ h => ?_) (setBytes h.unreserve)
  unfold markUnit
  split
  · exact h
  · split
    exacts [h, h]

theorem partRefused {a : Nat} (h : Napping v s) : Napping v (partRefused a s) := by
  have hb : Napping v (bump (rDDR_CNT 6) 1 s) := h.wr (by decide)
  exact hb.wr64 (by simp only [rDDR_ERR_ADDR_LO]; omega)

theorem ddrValid {d : Tab Bool} (h : Napping v s) : Napping v { s with ddrValid := d } := h

theorem dramInit {a len : Nat} (h : Napping v s) : Napping v (dramInit a len s) := by
  unfold Machine.dramInit
  split
  exacts [h, h.ddrValid]

theorem replaceWords {a n : Nat} (h : Napping v s) : Napping v (replaceWords a n s) := by
  unfold Machine.replaceWords
  split
  exacts [h, h]

theorem dramWrite {k a : Nat} {bs : List Byte} (h : Napping v s) : Napping v (dramWrite k a bs s).2 := by
  unfold Machine.dramWrite
  dsimp only
  split
  · exact h
  · have hheld : Napping v (transferHeld true s) := .wr (by decide) h
    exact storeBytes (replaceWords (onlyIf_stable (fun h => h.partRefused) (onlyIf_stable (fun h => h.partRefused)
      (dramInit (dramServed hheld)))))

theorem agentDecodeErr {port cls a : Nat} (h : Napping v s) :
    Napping v (agentDecodeErr { port := port, cls := cls, who := none } a s) := by
  have hb : Napping v (bump (rFLT_CNT 0) 1 (takeFree s).2) := .wr (by decide) h
  dsimp only [Machine.agentDecodeErr, limited]
  split
  exacts [(eventStable v).raiseEvt (by dsimp only; omega) (by dsimp only; decide) hb, hb]

theorem rawStore {a : Nat} {bs : List Byte} (h : Napping v s) : Napping v (rawStore a bs s) := by
  unfold Machine.rawStore
  split
  · exact h.agentDecodeErr
  · split
    exacts [h.dramWrite, h]

theorem rawLine {p : Nat} {px : List Nat} (h : Napping v s) : Napping v (rawLine p px s) := by
  unfold Machine.rawLine
  split
  · exact h
  · refine wr64 (by simp only [rVP_RAW_BYTES_LO]; omega) ?_
    split
    exacts [h.rawStore.rawStore, h.rawStore]

theorem deliver {p : Nat} {l : Line} (h : Napping v s) : Napping v (deliver p l s) := by
  have hraw {t : State} {px} (h : Napping v t) : Napping v (fifoLevel p (Machine.rawLine p px t)) :=
    .wr (by simp only [rVP_FIFO_HWM, rPWR_CNT]; omega) (.wr (by simp only [rVP_STATUS, rPWR_CNT]; omega) h.rawLine)
  unfold Machine.deliver
  dsimp only
  refine hraw ?_
  split
  exacts [h, h]

theorem portStable (v : Word) : PortStable (Napping v) where
  toEventStable := eventStable v
  wrHigh := fun ho h => h.wr (by rintro rfl; simp only [rPWR_CNT] at ho; omega)
  clear := fun hlo h => ⟨h.1, h.2.1, h.2.2.tclear (by simp only [rPWR_CNT]; omega)⟩
  ports := fun _ => id
  queue := id
  contexts := id
  numbers := id
  taken := id
  release := fun {t p} _ h => forAll_stable (fun _ h => h.deliver)
    (show Napping v (setPort p { port t p with extra := (port t p).extra.drop (segTriggers t p - (port t p).lines) } t) from h)

end

end Napping

end Sys2Proof.Machine

namespace Sys2Proof.Machine

open Sys2Proof

/-- A count of one more saturates above the reset value. -/
theorem w32_satN_succ_ne_zero (n : Nat) : w32 (satN 32 (n + 1)) ≠ 0 := by
  intro h
  have h0 := congrArg BitVec.toNat h
  have hz : BitVec.toNat (0 : Word) = 0 := rfl
  simp only [w32, satN, BitVec.toNat_ofNat, hz] at h0
  by_cases hn : n + 1 < 2 ^ 32
  · rw [if_pos hn, Nat.mod_eq_of_lt hn] at h0
    omega
  · rw [if_neg hn] at h0
    omega

/-- Bit 2 of NAP_MASK is D3's. -/
theorem nbit_napMask (s : State) : nbit (rdF s rPWR_PLAN 3 0) 2 = rdB s rPWR_PLAN 2 := by
  simp only [nbit, rdF, fld, nfld, rdB, bit]
  rw [Nat.testBit_mod_two_pow]
  simp

/-- The end of a NAP entry. -/
theorem execNapEntryComplete_napEntry {s : State} (hstep : s.power.step = .napEntry) :
    ∃ t u, execNapEntryComplete s = .next t ∧ t = onlyIf (rdB s rPWR_PLAN 2) portsNap u ∧
      u = { bump (rPWR_CNT 0) 1 s with power := { s.power with state := .nap, step := .none } } := by
  refine ⟨_, _, ?_, rfl, rfl⟩
  have hplan : nbit (rdF (bump (rPWR_CNT 0) 1 s) rPWR_PLAN 3 0) 2 = rdB s rPWR_PLAN 2 := by
    rw [nbit_napMask, rdB, rd_bump, if_neg (by decide), rdB]
  simp only [execNapEntryComplete, hstep]
  rw [hplan]
  rfl

/-- NAP is entered and counted; what D3's ports do then leaves that, and without lines held the memory. -/
theorem napEntryComplete_spec {s : State} (hstep : s.power.step = .napEntry) :
    Completes .napEntryComplete s fun t =>
      t.power.state = .nap ∧ t.power.step = .none ∧ rdn t (rPWR_CNT 0) = satN 32 (rdn s (rPWR_CNT 0) + 1) ∧
      (rdB s rPWR_PLAN 2 = false → Kept [.power] [rPWR_CNT 0] s t) ∧
      ((∀ p, p < 8 → (port s p).extra = []) → t.mem = s.mem) := by
  obtain ⟨t, u, he, ht, hu⟩ := execNapEntryComplete_napEntry hstep
  have hnapU : Napping (w32 (satN 32 (rdn s (rPWR_CNT 0) + 1))) u := by
    rw [hu]
    exact ⟨rfl, rfl, pinnedAt_tput (w32_satN_succ_ne_zero _) _⟩
  obtain ⟨hst, hsp, hpin⟩ : Napping (w32 (satN 32 (rdn s (rPWR_CNT 0) + 1))) t := by
    rw [ht]
    exact onlyIf_stable (Napping.portStable _).portsNap hnapU
  refine ⟨t, he, hst, hsp, ?_, fun hd3 => ?_, fun hextra => ?_⟩
  · have hr : rd t (rPWR_CNT 0) = w32 (satN 32 (rdn s (rPWR_CNT 0) + 1)) := hpin.tget
    rw [rdn, hr, w32, BitVec.toNat_ofNat, Nat.mod_eq_of_lt]
    unfold satN
    split <;> omega
  · rw [ht, hd3, hu]
    exact .power (by simp) (.wr (by simp) (.refl s))
  · have hq : NoLineHeld s u := by
      rw [hu]
      exact ⟨rfl, hextra⟩
    have ht' : NoLineHeld s (onlyIf (rdB s rPWR_PLAN 2) portsNap u) := onlyIf_stable (NoLineHeld.portStable s).portsNap hq
    rw [ht]
    exact ht'.1

/-- Settles O15: the power step follows the branches of R92; what a wake releases, and what the ports do as D3 naps, leaves the
power state, the counters and the memory. -/
theorem wakesAndNap : Obligations.WakesAndNap := by
  have hrow : (regAt rWAKE_CTRL).isSome := by decide
  have hhalf : halfAt rWAKE_CTRL = 0 := by decide
  refine ⟨?_, ?_, ?_, ?_, ?_, ?_, ?_, fun s => napEntryComplete_spec⟩
  · intro s
    exact ⟨_, rfl, rdn_wakeRequest_wakes, rdB_wakeRequest_deepReq, wakeRequest_nap, wakeRequest_deep, wakeRequest_napEntry,
      power_state_wakeRequest, kept_wakeRequest (by simp) (by simp) (by simp) (by simp) (by simp) (.refl s)⟩
  · intro failed s hstep
    exact ⟨_, by simp only [exec, execFastDomainsRun, hstep], reachRun_spec failed.toNat s⟩
  · intro failed s hstep
    exact ⟨s, by simp only [exec, execFastDomainsRun, hstep], rfl⟩
  · intro ifc on s hg
    obtain ⟨hp, -, hr⟩ := logOnly_gatedWrite (v := w32 (b2n on)) (eff := wakeCtrlEffect (w32 (b2n on))) hg hrow hhalf
    obtain ⟨hb, hm, hj⟩ := wakeCtrlEffect_hold (w32 (b2n on)) (answer [] s)
    refine ⟨_, rfl, ?_, (hp .mem (by simp)).trans hm, (hp .jobs (by simp)).trans hj⟩
    rw [rdB, hr _ (by decide), ← rdB, hb]
    cases on <;> decide
  · intro ifc s hg
    have hl := logOnly_gatedWrite (v := setBit (rd s rWAKE_CTRL) 1 true)
      (eff := wakeCtrlEffect (setBit (rd s rWAKE_CTRL) 1 true)) hg hrow hhalf
    have hv0 : bit (setBit (rd s rWAKE_CTRL) 1 true) 0 = rdB s rWAKE_CTRL 0 := (bit_setBit (by decide)).trans (if_neg (by decide))
    have hv1 : bit (setBit (rd s rWAKE_CTRL) 1 true) 1 = true := (bit_setBit (by decide)).trans (if_pos rfl)
    obtain ⟨hc, hk⟩ : WokenOnce (answer [] s) _ := wakeCtrlEffect_wakeNow hv0 hv1
    have hhold := (wakeCtrlEffect_hold (setBit (rd s rWAKE_CTRL) 1 true) (answer [] s)).1
    refine ⟨_, rfl, ?_, ?_, .of_effect hk hl⟩
    · rw [rdn, hl.2.2 _ (by decide)]
      exact hc
    · rw [rdB, hl.2.2 _ (by decide), ← rdB, hhold, hv0]
  · intro s hst hstep hbusy hmask hpast
    exact ⟨setStep .napEntry s, if_pos ⟨hst, hstep, by simp [hbusy], hmask, hpast⟩, rfl, hst,
      .power (by simp) (.refl s)⟩
  · intro s hst hstep h
    refine ⟨s, ?_, rfl⟩
    simp only [exec, execIdleHoldExpiry]
    rw [if_neg]
    rintro ⟨-, -, hidle, hmask, -⟩
    rcases h with h | h
    · simp [h] at hidle
    · exact hmask h

end Sys2Proof.Machine

/-! SUPPORT. A job's decision on its way (R24, R456, R465): from the hand-over on, whatever the network engine does with the
descriptor that carries it, the job stays out of the live states, keeps its ID and its answer, and no byte of memory changes. -/

namespace Sys2Proof.Machine

open Sys2Proof

/-! ### The job of a slot -/

section
variable {k : Nat} {s : State}

theorem job_congr {t : State} (h : t.jobs = s.jobs) (k : Nat) : job t k = job s k := by rw [job, h, job]

theorem jobLive_of_state (h : (job s k).state = .cooling ∨ (job s k).state = .sent ∨ (job s k).state = .abandoned) :
    jobLive s k = false := by
  obtain h | h | h := h <;> simp [jobLive, h]

/-- An event that reaches no job leaves jobs and memory. -/
theorem jobs_mem_raiseJ {num dom addr : Nat} {j : Option JobRef} (hn : num < 256) (hc : evtClass num ≠ 3) (s : State) :
    (raiseJ num dom j addr s).jobs = s.jobs ∧ (raiseJ num dom j addr s).mem = s.mem :=
  EventStable.raiseJ (Q := fun t => t.jobs = s.jobs ∧ t.mem = s.mem)
    { wrEvent := fun _ => id, pcie := id, fault := id, irq := id } hn hc ⟨rfl, rfl⟩

end

/-! ### The invariant -/

/-- The job of slot `k` has ended as `j` has: it has left the live states with the ID and the answer of `j`; memory is `m`, and
the send descriptor of number `n`, where it is in work, carries the job's decision and is none of the ring. -/
structure DecisionOf (k n : Nat) (j : Job) (m : Tab Byte) (t : State) : Prop where
  mem : t.mem = m
  descs : ∀ d ∈ t.net.descs, d.num = n → d.idx = none ∧ d.job = some k
  live : jobLive t k = false
  jobId : (job t k).jobId = j.jobId
  noRead : (job t k).noRead = j.noRead

namespace DecisionOf

section
variable {k n : Nat} {j : Job} {m : Tab Byte} {s t : State}

/-- Only memory, jobs and descriptors count. -/
theorem of_same (h : DecisionOf k n j m s) (hm : t.mem = s.mem) (hd : t.net.descs = s.net.descs) (hj : t.jobs = s.jobs) :
    DecisionOf k n j m t := by
  have hjob : job t k = job s k := job_congr hj k
  exact ⟨hm.trans h.mem, hd ▸ h.descs, by simpa only [jobLive, hjob] using h.live, hjob ▸ h.jobId, hjob ▸ h.noRead⟩

protected theorem wr {o : Nat} {v : Word} (h : DecisionOf k n j m s) : DecisionOf k n j m (wr o v s) := h.of_same rfl rfl rfl

protected theorem eventStable : EventStable (DecisionOf k n j m) where
  wrEvent := fun _ h => h.wr
  pcie := fun h => h.of_same rfl rfl rfl
  fault := fun h => h.of_same rfl rfl rfl
  irq := fun h => h.of_same rfl rfl rfl

protected theorem powerStable : PowerStable (DecisionOf k n j m) where
  wrPoll := fun _ h => h.wr
  power := fun _ _ h => h.of_same rfl rfl rfl

/-- A change of the network engine's state that leaves the descriptors. -/
protected theorem net {x : Net} (hx : x.descs = s.net.descs) (h : DecisionOf k n j m s) :
    DecisionOf k n j m { s with net := x } := h.of_same rfl hx rfl

protected theorem free {x : Nat} (h : DecisionOf k n j m s) : DecisionOf k n j m { s with free := x } := h.of_same rfl rfl rfl

protected theorem limits {x : Tab Nat} (h : DecisionOf k n j m s) : DecisionOf k n j m { s with limits := x } :=
  h.of_same rfl rfl rfl

/-- A change of descriptors that keeps numbers, ring places and jobs. -/
protected theorem updDesc {i : Nat} {f : TxDesc → TxDesc} (hf : ∀ d, (f d).num = d.num ∧ (f d).idx = d.idx ∧ (f d).job = d.job)
    (h : DecisionOf k n j m s) : DecisionOf k n j m (updDesc i f s) := by
  refine ⟨h.mem, fun d hd hn => ?_, h.live, h.jobId, h.noRead⟩
  obtain ⟨d0, hd0, rfl⟩ := List.mem_map.mp hd
  obtain ⟨hnum, hidx, hjob⟩ := hf d0
  by_cases h0 : d0.num = i
  · rw [if_pos h0] at hn ⊢
    rw [hidx, hjob]
    exact h.descs d0 hd0 (hnum ▸ hn)
  · rw [if_neg h0] at hn ⊢
    exact h.descs d0 hd0 hn

/-- The job's slot takes a state that is not live. -/
protected theorem setJob {x : Job} (hst : x.state = .cooling ∨ x.state = .sent ∨ x.state = .abandoned) (hid : x.jobId = j.jobId)
    (hno : x.noRead = j.noRead) (h : DecisionOf k n j m s) : DecisionOf k n j m (setJob k x s) where
  mem := h.mem
  descs := h.descs
  live := jobLive_of_state (by rwa [job_setJob_same])
  jobId := by rwa [job_setJob_same]
  noRead := by rwa [job_setJob_same]

/-- Descriptors leave the engine. -/
protected theorem filterDescs {p : TxDesc → Bool} (h : DecisionOf k n j m s) :
    DecisionOf k n j m { s with net := { s.net with descs := s.net.descs.filter p } } :=
  ⟨h.mem, fun d hd => h.descs d (List.mem_of_mem_filter hd), h.live, h.jobId, h.noRead⟩

protected theorem descStep {i : Option Nat} {f : TxDesc → TxDesc}
    (hf : ∀ d, (f d).num = d.num ∧ (f d).idx = d.idx ∧ (f d).job = d.job) (h : DecisionOf k n j m s) :
    DecisionOf k n j m (descStep i f s) := by
  unfold Machine.descStep
  split
  · exact h.updDesc fun d => hf _
  · exact h

/-! ### Frames and associations -/

protected theorem limited {key period : Nat} {f : State → State} (hf : ∀ {s}, DecisionOf k n j m s → DecisionOf k n j m (f s))
    (h : DecisionOf k n j m s) : DecisionOf k n j m (limited key period f s) := by
  unfold Machine.limited
  dsimp only
  split
  exacts [hf h.limits, h]

protected theorem sendFrame {f : NetOut} (h : DecisionOf k n j m s) : DecisionOf k n j m (sendFrame f s) := by
  unfold Machine.sendFrame
  split
  · have hsent (x : NetOut) : DecisionOf k n j m { s with net := { s.net with sent := x :: s.net.sent } } := h.net rfl
    exact (hsent _).wr
  · exact h

protected theorem ctpSendFor {d : Option Nat} {p : Peer} {x : CtpMsg} (h : DecisionOf k n j m s) :
    DecisionOf k n j m (ctpSendFor d p x s) := by
  unfold Machine.ctpSendFor
  split
  · exact h.net rfl
  · unfold ctpTransmit
    split
    exacts [h.sendFrame.wr, h]

protected theorem setAssoc {i : Nat} {a : Option Assoc} (h : DecisionOf k n j m s) : DecisionOf k n j m (setAssoc i a s) :=
  h.net rfl

protected theorem updAssoc {i : Nat} {f : Assoc → Assoc} (h : DecisionOf k n j m s) : DecisionOf k n j m (updAssoc i f s) := by
  unfold Machine.updAssoc
  split
  exacts [h.setAssoc, h]

protected theorem useAssoc {p : Peer} (h : DecisionOf k n j m s) : DecisionOf k n j m (useAssoc p s).2 := by
  unfold Machine.useAssoc
  split
  · exact h.updAssoc
  · split
    · exact h.free.limits.setAssoc
    · exact DecisionOf.limited (fun h => DecisionOf.eventStable.raiseE (by omega) (by decide) h) h.wr

protected theorem cuBuild {u id : Nat} {bs : List Byte} (h : DecisionOf k n j m s) : DecisionOf k n j m (cuBuild u id bs s).2 := by
  unfold Machine.cuBuild
  split
  exacts [h.wr, h.wr.wr]

/-! ### The end of the descriptor, and of the job -/

/-- Steps 6 and 7 of R24: the slot cools, with the job's ID and answer. -/
protected theorem jobRelease (h : DecisionOf k n j m s) : DecisionOf k n j m (jobRelease k s) := by
  unfold Machine.jobRelease
  split
  next hst =>
    have hadv : DecisionOf k n j m (genAdvance k s) := h.setJob (.inr hst) h.jobId h.noRead
    have hseq : DecisionOf k n j m { genAdvance k s with keeper := { (genAdvance k s).keeper with
        freeSeq := (genAdvance k s).keeper.freeSeq + 1 } } := hadv.of_same rfl rfl rfl
    exact DecisionOf.powerStable.restartIdle (hseq.setJob (.inl rfl) hadv.jobId hadv.noRead)
  next => exact h

protected theorem dropDescMsgs {i : Nat} (h : DecisionOf k n j m s) : DecisionOf k n j m (dropDescMsgs i s) := by
  have hw : DecisionOf k n j m { s with net := { s.net with waiting := s.net.waiting.filter (fun x => decide (x.2.2 ≠ some i)) } } :=
    h.net rfl
  exact forAll_stable (fun _ h => h.updAssoc) hw

/-- The descriptor of number `n` completes; its job, where it is that of slot `k`, commits. -/
protected theorem descComplete (h : DecisionOf k n j m s) : DecisionOf k n j m (descComplete n s) := by
  unfold Machine.descComplete
  split
  next => exact h
  next d hd =>
    have hnum : d.num = n := of_decide_eq_true (List.find?_some (p := fun d : TxDesc => decide (d.num = n)) hd)
    obtain ⟨hidx, hjob⟩ := h.descs d (List.mem_of_find?_eq_some hd) hnum
    extract_lets st s1 net s2 s3 s4
    have h1 : DecisionOf k n j m s1 := h.dropDescMsgs
    have h2 : DecisionOf k n j m s2 := h1.filterDescs
    have h3 : DecisionOf k n j m s3 := by
      dsimp only [s3]
      rwa [hidx]
    rw [hjob]
    exact (onlyIf_stable DecisionOf.eventStable.assertSrc h3).jobRelease

protected theorem descEnd {st : Nat} (h : DecisionOf k n j m s) : DecisionOf k n j m (descEnd n st s) :=
  DecisionOf.descComplete (h.updDesc fun _ => ⟨rfl, rfl, rfl⟩)

protected theorem descRefuse (h : DecisionOf k n j m s) : DecisionOf k n j m (descRefuse n s) :=
  (DecisionOf.eventStable.raiseE (by omega) (by decide) h.wr).descEnd

/-! ### The messages of the descriptor -/

protected theorem startMsg {i : Nat} {x : TxMsg} (hx : x.desc = some n) (h : DecisionOf k n j m s) :
    DecisionOf k n j m (startMsg i x s) := by
  unfold Machine.startMsg
  split
  · exact h
  · extract_lets stale _ x1 s1 s2
    split
    · rw [hx]
      exact h.descEnd
    · have h2 : DecisionOf k n j m s2 := by
        dsimp only [s2]
        rw [hx]
        exact DecisionOf.updDesc (fun _ => ⟨rfl, rfl, rfl⟩) h.setAssoc
      exact h2.ctpSendFor

protected theorem sendReliable {i : Nat} {x : TxMsg} (hx : x.desc = some n) (h : DecisionOf k n j m s) :
    DecisionOf k n j m (sendReliable i x s) := by
  unfold Machine.sendReliable
  split
  · exact h
  · split
    exacts [h.setAssoc, h.startMsg hx]

/-- A reliable message of the descriptor to one destination. -/
protected theorem descSendTo {p : Peer} {b u id : Nat} {x : CtpMsg} (h : DecisionOf k n j m s) :
    DecisionOf k n j m (descSendTo n p b x true (some (u, id)) s) := by
  have hfail {t} (h : DecisionOf k n j m t) :
      DecisionOf k n j m (descStep (some n) (fun d => { d with status := d.status ||| sFAILED }) t) :=
    h.descStep fun _ => ⟨rfl, rfl, rfl⟩
  have hbuilt : DecisionOf k n j m (cuBuild u id x.payload s).2 := h.cuBuild
  unfold Machine.descSendTo
  dsimp only
  split
  · exact hfail hbuilt
  · have huse : DecisionOf k n j m (useAssoc p (cuBuild u id x.payload s).2).2 := hbuilt.useAssoc
    split
    next t ht => exact hfail (by simpa only [ht] using huse)
    next i t ht =>
      rw [if_pos rfl]
      have ht' : DecisionOf k n j m t := by simpa only [ht] using huse
      split
      · exact ht'.updDesc fun _ => ⟨rfl, rfl, rfl⟩
      · exact ht'.sendReliable rfl

end

end DecisionOf

end Sys2Proof.Machine

namespace Sys2Proof.Machine

open Sys2Proof

/-! ### The hand-over of a decision (R24, R464) -/

section
variable {k cu : Nat} {s t : State}

theorem foldl_max_num_bounds (l : List TxDesc) (b : Nat) :
    b ≤ l.foldl (fun m d => max m (d.num + 1)) b ∧ ∀ d ∈ l, d.num < l.foldl (fun m d => max m (d.num + 1)) b := by
  induction l generalizing b with
  | nil => simp
  | cons d l ih =>
    obtain ⟨hb, hl⟩ := ih (max b (d.num + 1))
    refine ⟨by simp only [List.foldl_cons]; omega, fun x hx => ?_⟩
    obtain rfl | hx := List.mem_cons.mp hx
    · simp only [List.foldl_cons]
      omega
    · exact hl x hx

/-- The number of the next descriptor is new. -/
theorem num_lt_nextNum {d : TxDesc} (hd : d ∈ s.net.descs) : d.num < nextNum s := (foldl_max_num_bounds _ _).2 d hd

theorem decisionOf_addDesc {d : TxDesc} (hst : (job s k).state = .sent ∨ (job s k).state = .abandoned)
    (hnum : d.num = nextNum s) (hidx : d.idx = none) (hjob : d.job = some k) :
    DecisionOf k (nextNum s) (job s k) s.mem (addDesc d s) where
  mem := rfl
  descs := by
    intro x hx hn
    obtain hx | hx := List.mem_append.mp hx
    · have := num_lt_nextNum hx
      omega
    · obtain rfl := List.mem_singleton.mp hx
      exact ⟨hidx, hjob⟩
  live := jobLive_of_state (.inr hst)
  jobId := rfl
  noRead := rfl

/-- A job that has been handed over or abandoned ends with its decision. -/
theorem decisionOf_sendJobDecision {payload : List Byte} (hst : (job s k).state = .sent ∨ (job s k).state = .abandoned) :
    DecisionOf k (nextNum s) (job s k) s.mem (sendJobDecision k cu payload s) := by
  unfold sendJobDecision
  extract_lets n dests s1 net s2
  have h1 : DecisionOf k n (job s k) s.mem s1 := decisionOf_addDesc hst rfl rfl rfl
  split
  · exact h1.descEnd
  · split
    · exact h1.descRefuse
    · exact forAll_stable (fun _ h => h.descSendTo) (h1.net rfl)

theorem aonToDtime_snd (a : Nat) (s : State) : ∃ x, (aonToDtime a s).2 = { s with free := x } := by
  unfold aonToDtime
  dsimp only
  split
  exacts [⟨_, rfl⟩, ⟨_, rfl⟩]

theorem jobTrail_snd (k : Nat) (s : State) : ∃ x, (jobTrail k s).2 = { s with free := x } := by
  unfold jobTrail
  split
  exacts [⟨_, rfl⟩, aonToDtime_snd ..]

/-- The times of a payload draw from the free values alone. -/
theorem decisionPayload_snd (k status flags : Nat) (app : List Byte) (s : State) :
    ∃ x, (decisionPayload k status flags app s).2 = { s with free := x } := by
  obtain ⟨x, hx⟩ := aonToDtime_snd (job s k).aonLead s
  obtain ⟨y, hy⟩ := jobTrail_snd k (aonToDtime (job s k).aonLead s).2
  refine ⟨y, hy.trans ?_⟩
  rw [hx]

/-- The job of slot `k` has ended in `t`, with the ID of `j` and the answer `no read` as `j` has it; memory is `m`. -/
def Ended (k : Nat) (j : Job) (m : Tab Byte) (t : State) : Prop :=
  jobLive t k = false ∧ (job t k).jobId = j.jobId ∧ (job t k).noRead = j.noRead ∧ t.mem = m

/-- A job whose decision is handed over has ended. -/
theorem ended_decide_ {j : Job} {m : Tab Byte} {status flags : Nat} {app : List Byte} (hj : job s k = j) (hm : s.mem = m) :
    Ended k j m (decide_ k cu status flags app s) := by
  subst hj hm
  obtain ⟨x, hx⟩ := decisionPayload_snd k status flags app s
  unfold decide_
  dsimp only
  rw [hx]
  have hjob : job (handOver k { s with free := x }) k =
      { job s k with state := if (job s k).state = .abandoned then .abandoned else .sent, sentAt := s.clock.aon } :=
    job_setJob_same ..
  have hst : (job (handOver k { s with free := x }) k).state = .sent ∨ (job (handOver k { s with free := x }) k).state = .abandoned := by
    rw [hjob]
    by_cases h : (job s k).state = .abandoned <;> simp [h]
  have h := decisionOf_sendJobDecision (cu := cu) (payload := (decisionPayload k status flags app s).1) hst
  rw [hjob] at h
  exact ⟨h.live, h.jobId, h.noRead, h.mem⟩

/-! ### Restart and abandon (R26 to R29) -/

/-- An event that reaches no job leaves each slot's job. -/
theorem job_raiseJ {num dom addr : Nat} {r : Option JobRef} (hn : num < 256) (hc : evtClass num ≠ 3) (s : State) (k : Nat) :
    job (raiseJ num dom r addr s) k = job s k := job_congr (jobs_mem_raiseJ hn hc s).1 k

/-- What an abandoned job has become before its `no read` is handed over. -/
def abandonedJob (j : Job) : Job :=
  { j with gen := (j.gen + 1) % 256, state := .abandoned, reached := false, noRead := true }

/-- What a restarted job has become. -/
def restartedJob (j : Job) : Job :=
  { j with gen := (j.gen + 1) % 256, state := .restarting, reached := false, restarted := true, viewDropped := false }

theorem ended_abandonJob : Ended k (abandonedJob (job s k)) s.mem (abandonJob k cu s) := by
  unfold abandonJob
  extract_lets s1 j1 s2
  have hj : job s2 k = abandonedJob (job s k) := by simp [s2, j1, s1, genAdvance, abandonedJob]
  exact ended_decide_ ((job_raiseJ (by omega) (by decide) s2 k).trans hj) (jobs_mem_raiseJ (by omega) (by decide) s2).2

/-- An abandoned job is answered no read. -/
theorem abandonJob_spec (k cu : Nat) (s : State) :
    jobLive (abandonJob k cu s) k = false ∧ (job (abandonJob k cu s) k).noRead = true ∧ (abandonJob k cu s).mem = s.mem := by
  obtain ⟨hlive, -, hno, hmem⟩ := ended_abandonJob (k := k) (cu := cu) (s := s)
  exact ⟨hlive, hno, hmem⟩

theorem faultJob_restart {estimate : Nat} (h : mayRestart s k estimate = true) :
    job (faultJob k cu estimate s) k = restartedJob (job s k) ∧ (faultJob k cu estimate s).mem = s.mem := by
  unfold faultJob
  rw [if_pos h]
  extract_lets s1 j1 s2
  have hj : job s2 k = restartedJob (job s k) := by simp [s2, j1, s1, genAdvance, restartedJob]
  exact ⟨(job_raiseJ (num := 96) (by omega) (by decide) s2 k).trans hj, (jobs_mem_raiseJ (num := 96) (by omega) (by decide) s2).2⟩

theorem faultJob_abandon {estimate : Nat} (h : mayRestart s k estimate = false) : faultJob k cu estimate s = abandonJob k cu s := by
  unfold faultJob
  rw [if_neg (by simp [h])]

/-! ### The commit (R24) -/

/-- E99 for each view that is lost leaves jobs and memory. -/
theorem jobs_mem_raiseViews (l : List Buffer) (k : Nat) (s : State) :
    (forAll l (fun _ s => raiseJ 99 4 (some (jobRef s k)) 0 s) s).jobs = s.jobs ∧
      (forAll l (fun _ s => raiseJ 99 4 (some (jobRef s k)) 0 s) s).mem = s.mem := by
  refine forAll_stable (Q := fun t => t.jobs = s.jobs ∧ t.mem = s.mem) (fun {_ t} _ h => ?_) ⟨rfl, rfl⟩
  obtain ⟨hj, hm⟩ := jobs_mem_raiseJ (dom := 4) (addr := 0) (j := some (jobRef t k)) (num := 99) (by omega) (by decide) t
  exact ⟨hj.trans h.1, hm.trans h.2⟩

/-- A commit that is due hands the decision over; where the views give no read the job is answered so. -/
theorem execJobCommit_decides {k : Fin 16} {results views : List Buffer} {read incomplete : Bool} {app : List Byte} {cu : Fin 4}
    {est : Nat} {s : State} (hlive : jobLive s k = true) (hcap : (job s k).state ≠ .capturing) (hwin : jobWinOpen s k = false)
    (hreach : (job s k).reached = false) (hclean : results.any (bufPoisoned s) = false) :
    ∃ t v status flags, execJobCommit k results views read incomplete app cu est s = .next (decide_ k cu status flags app t) ∧
      (read = false → status = 0) ∧ job t k = { job s k with viewDropped := v, noRead := decide (status = 0) } ∧ t.mem = s.mem := by
  unfold execJobCommit
  rw [if_neg (by simp [hlive, hcap, hwin]), if_neg (by simp [hreach, hclean])]
  extract_lets bad s1 j1 s2 status j2 s3
  obtain ⟨hjobs, hmem⟩ := jobs_mem_raiseViews bad k s
  have hj1 : j1 = job s k := job_congr hjobs k
  have hj2 : j2 = { job s k with viewDropped := (job s k).viewDropped || !bad.isEmpty } := by
    rw [← hj1]
    exact job_setJob_same ..
  refine ⟨s3, (job s k).viewDropped || !bad.isEmpty, status, 4 * b2n incomplete, rfl, fun hread => if_pos (by simp [hread]), ?_, hmem⟩
  have h3 : job s3 k = { j2 with noRead := decide (status = 0) } := job_setJob_same ..
  rw [h3, hj2]

end

/-- Settles O17: a commit and an abandoned job end with the decision they hand over, whatever becomes of its descriptor. -/
theorem jobsEnd : Obligations.JobsEnd := by
  refine ⟨?_, ?_, ?_, ?_, ?_⟩
  · intro k results views read incomplete app cu est s hlive hcap hwin hreach hclean
    obtain ⟨t, v, status, flags, he, hread, hjob, hmem⟩ := execJobCommit_decides (read := read) (incomplete := incomplete)
      (views := views) (app := app) (cu := cu) (est := est) hlive hcap hwin hreach hclean
    obtain ⟨hl, hid, hno, hm⟩ : Ended k _ s.mem (decide_ k cu status flags app t) := ended_decide_ hjob hmem
    exact ⟨_, he, hl, hid, fun hr => by rw [hno, decide_eq_true_iff, hread hr], hm⟩
  · intro k results views read incomplete app cu est s h
    refine ⟨s, ?_, rfl⟩
    simp only [exec, execJobCommit]
    exact if_pos (by simpa using h)
  · intro k cu est s hlive hreach hmay
    obtain ⟨hj, hm⟩ := faultJob_restart (k := k) (cu := cu) hmay
    exact ⟨_, if_pos ⟨hlive, hreach⟩, by rw [hj]; rfl, by rw [hj]; rfl, by rw [hj]; rfl, by rw [hj]; rfl, hm⟩
  · intro k cu est s hlive hreach hmay
    refine ⟨_, if_pos ⟨hlive, hreach⟩, ?_⟩
    rw [faultJob_abandon hmay]
    exact abandonJob_spec k cu s
  · intro k cu s hlive hwin hpast
    exact ⟨_, if_pos ⟨hlive, by simp [hwin], hpast⟩, abandonJob_spec k cu s⟩

end Sys2Proof.Machine

namespace Sys2Proof.Machine

open Sys2Proof

/-! ### A Lens without spares (R34, R212, R501) -/

/-- A restore of D1 is under way on a device whose Lens ran out of spares at an earlier reset of this power-on; the entries in
force now leave the Lens whole. -/
def lensSpentState : State := { State.reset with fault := { fence := [(1, .restoring)], repairOos := true } }

/-- The end of that restore leaves D1 out of service until the next power cycle. -/
theorem domainRestoreComplete_lensSpent :
    ∃ t, exec (.domainRestoreComplete 0) lensSpentState = .next t ∧ domState t 1 = 3 :=
  ⟨_, rfl, by decide +kernel⟩

/-- Refutes O56: the clause of a restore that ends asks of D1 that the entries in force leave the Lens whole, and not that its
spares have sufficed since power-on. A device on which they did not (`repairOos`, R501) keeps D1 out of service. -/
theorem not_fencesAndRestores : ¬ Obligations.FencesAndRestores := by
  rintro ⟨-, -, -, -, -, -, -, hrestored, -⟩
  obtain ⟨t, ht, hrun, -⟩ := hrestored 0 lensSpentState (by decide) (by decide) (by decide) (by decide +kernel)
  obtain ⟨u, hu, hout⟩ := domainRestoreComplete_lensSpent
  obtain rfl := Host.Outcome.next.inj (hu.symm.trans ht)
  exact absurd (hrun.symm.trans hout) (by decide)

/-! ### A flash table that is not in canonical form -/

/-- A device-fatal event awaits its reset, and the flash table lists a byte of the Persistent Record's second bank ahead of a byte
of slot 0, so that the search for the latter ends before it. -/
def unorderedFlashState : State :=
  { State.reset with flash := [(0x2010000, 0), (5, 0)], boot := { src := 1 }, fault := { fatal := true } }

/-- The immediate write of the Persistent Record that records the reset erases the bank, and so uncovers the byte. -/
theorem deviceFatalReset_unorderedFlash :
    ∃ t, exec (.deviceFatalReset { train := .ok }) unorderedFlashState = .next t ∧ tget 0xFF t.flash 5 = 0 :=
  ⟨_, rfl, by decide +kernel⟩

/-- Refutes O57: the clause of the device-fatal reset takes every `State`, also one whose flash table is not in canonical form
(`State.canonical` holds of no such state, and no step leaves the canonical form). There the erase of a Persistent Record bank
changes what an image slot reads as. -/
theorem not_deviceResetsAndService : ¬ Obligations.DeviceResetsAndService := by
  rintro ⟨-, hfatal, -⟩
  obtain ⟨t, ht, -, -, -, -, -, hflash⟩ := hfatal { train := .ok } unorderedFlashState rfl
  obtain ⟨u, hu, hbyte⟩ := deviceFatalReset_unorderedFlash
  obtain rfl := Host.Outcome.next.inj (hu.symm.trans ht)
  exact absurd (hbyte.symm.trans (hflash 5 (by decide))) (by decide)

end Sys2Proof.Machine

namespace Sys2Proof.Machine

open Sys2Proof

/-! ### The newer of two sequences, and the order of the slots (R45, R46) -/

theorem seqNewer_iff {a b : Nat} (ha : a < 2 ^ 32) (hb : b < 2 ^ 32) :
    seqNewer a b = true ↔ 1 ≤ ((a : Int) - b) % 2 ^ 32 ∧ ((a : Int) - b) % 2 ^ 32 ≤ 0x7FFFFFFF := by
  simp only [seqNewer, decide_eq_true_eq]
  omega

theorem not_seqNewer_either_iff {a b : Nat} (ha : a < 2 ^ 32) (hb : b < 2 ^ 32) :
    (seqNewer a b = false ∧ seqNewer b a = false) ↔ a = b ∨ ((a : Int) - b) % 2 ^ 32 = 0x80000000 := by
  simp only [seqNewer, decide_eq_false_iff_not]
  omega

/-- With two good headers of which B's is not the newer, slot A is tried, then slot B. -/
theorem bootFlash_slotA_first {env : BootEnv} {s : State} (hA : slotHeader s env.flashBad 0 = none)
    (hB : slotHeader s env.flashBad 1 = none)
    (hold : seqNewer (leAt 0xC 4 (flashBytes s 0x1000000 16)) (leAt 0xC 4 (flashBytes s 0 16)) = false) :
    bootFlash env s =
      if (slotVerify s 0).ok then loadImage (slotVerify s 0) 0 0 env.train (slotResult 0 1 (slotResult 1 2 s))
      else
        let u := slotFail 0 (slotVerify s 0) s
        if (slotVerify u 1).ok then loadImage (slotVerify u 1) 1 0 env.train (wrB rBOOT_STATUS 2 true (raiseE 35 7 (slotResult 1 1 u)))
        else noImage (raiseE 34 7 (slotFail 1 (slotVerify u 1) u)) := by
  unfold bootFlash
  simp only [forAll, List.foldl_cons, List.foldl_nil, hA, hB, Nat.one_mul, Nat.zero_mul, hold]
  rfl

/-- Settles O59: serial-number order of R45, and the boot's choice unfolded for a tie. -/
theorem newerSequence : Obligations.NewerSequence :=
  ⟨fun _ _ => seqNewer_iff, fun _ _ => not_seqNewer_either_iff, fun _ _ => bootFlash_slotA_first⟩

end Sys2Proof.Machine

namespace Sys2Proof.Machine

open Sys2Proof

/-! ### Frames of the flash, its controller and the Persistent Record -/

section
variable {ps : List Part} {rs : List Nat} {s t u : State}

/-- What leaves the registers and all but the parts `ps` keeps what was kept. -/
theorem Kept.update (h : Kept ps rs s t) (hregs : u.regs = t.regs) (hparts : ∀ p, p ∉ ps → p.same t u) : Kept ps rs s u :=
  ⟨fun p hp => Part.same_trans (h.1 p hp) (hparts p hp), fun o ho => (rd_congr _ _ hregs o).trans (h.2 o ho)⟩

theorem Kept.flash {f : Tab Byte} (hps : .flash ∈ ps) (h : Kept ps rs s t) : Kept ps rs s { t with flash := f } := by
  refine h.update rfl fun p hp => ?_
  cases p
  case flash => exact absurd hps hp
  all_goals rfl

theorem Kept.flashOp {o : Option FlashOp} (hps : .flashOp ∈ ps) (h : Kept ps rs s t) : Kept ps rs s { t with flashOp := o } := by
  refine h.update rfl fun p hp => ?_
  cases p
  case flashOp => exact absurd hps hp
  all_goals rfl

theorem Kept.prec {x : Prec} (hps : .prec ∈ ps) (h : Kept ps rs s t) : Kept ps rs s { t with prec := x } := by
  refine h.update rfl fun p hp => ?_
  cases p
  case prec => exact absurd hps hp
  all_goals rfl

theorem Kept.answerErr {n : Nat} (hps : .resp ∈ ps) (h : Kept ps rs s t) : Kept ps rs s (answerErr n t) := by
  refine h.update rfl fun p hp => ?_
  cases p
  case resp => exact absurd hps hp
  all_goals rfl

/-- The answer of an access is its own. -/
theorem KeptAccess.without_resp (h : KeptAccess [.resp] rs s t) : KeptAccess [] rs s t := by
  obtain ⟨hparts, hboot, hregs⟩ := h
  exact ⟨fun p _ hresp => hparts p (by simpa using hresp) hresp, hboot.imp id (by simp), hregs⟩

theorem Kept.wrWords {vs : List Nat} {off : Nat} (hrs : ∀ i, i < vs.length → off + 4 * i ∈ rs) (h : Kept ps rs s t) :
    Kept ps rs s (wrWords off vs t) :=
  wrWords_stable (fun ho h => Kept.wr ho h) hrs h

/-- The plain effect of a write to a register that is in no shadow group writes that register alone. -/
theorem plainEffect_eq_wr {i : Iface} {off : Nat} {v : Word} {co : Coincident} (hsh : shadowCtrlOf off = none) :
    (plainEffect i off v co s).1 = s ∨ ∃ w, (plainEffect i off v co s).1 = wr off w s := by
  unfold plainEffect
  split
  · exact .inl rfl
  · rw [hsh]
    dsimp only
    split
    exacts [.inl rfl, .inr ⟨_, rfl⟩]

theorem kept_plainEffect {i : Iface} {off : Nat} {v : Word} {co : Coincident} (hsh : shadowCtrlOf off = none) (ho : off ∈ rs) :
    Kept ps rs s (plainEffect i off v co s).1 := by
  obtain h | ⟨w, h⟩ := plainEffect_eq_wr (s := s) (i := i) (v := v) (co := co) hsh <;> rw [h]
  exacts [.refl s, .wr ho (.refl s)]

end

/-! ### Bytes of the flash (R44, R95) -/

section
variable {α : Type} {d : α} {t : Tab α}

theorem tget_eq_of_lt_bound [DecidableEq α] {lo j : Nat} (w : twfFrom (fun _ => d) lo t = true) (h : j < lo) : tget d t j = d := by
  cases t with
  | nil => rfl
  | cons e t =>
    obtain ⟨k, v⟩ := e
    simp only [twfFrom, Bool.and_eq_true, decide_eq_true_eq] at w
    simp [tget, show ¬ j = k by omega, show j < k by omega]

/-- In canonical form a cleared range reads as the default, and every other key as before. -/
theorem tget_tclear [DecidableEq α] {b lo hi j : Nat} (w : twfFrom (fun _ => d) b t = true) :
    tget d (tclear lo hi t) j = if lo ≤ j ∧ j < hi then d else tget d t j := by
  induction t generalizing b with
  | nil => simp [tclear, tget]
  | cons e t ih =>
    obtain ⟨k, v⟩ := e
    simp only [twfFrom, Bool.and_eq_true, decide_eq_true_eq] at w
    have hrest := ih w.2
    by_cases hk : lo ≤ k ∧ k < hi
    · rw [tclear, if_pos hk, hrest]
      by_cases hj : lo ≤ j ∧ j < hi
      · rw [if_pos hj, if_pos hj]
      · rw [if_neg hj, if_neg hj, tget, if_neg (by rintro rfl; exact hj hk)]
        split
        next hlt => exact tget_eq_of_lt_bound w.2 (by omega)
        next => rfl
    · rw [tclear, if_neg hk, tget, hrest, tget]
      by_cases hjk : j = k
      · rw [if_pos hjk, if_pos hjk, if_neg (by rwa [hjk])]
      · rw [if_neg hjk, if_neg hjk]
        by_cases hlt : j < k
        · simp [hlt]
        · simp [hlt]

end

section
variable {s : State}

theorem flashByte_setFlash (a x : Nat) (b : Byte) : flashByte (setFlash a b s) x = if x = a then b else flashByte s x := by
  simp [flashByte, setFlash, tget_tput]

/-- Programming changes the flash alone. -/
theorem programFlash_eq (a : Nat) (bs : List Byte) (s : State) :
    programFlash a bs s = { s with flash := (programFlash a bs s).flash } := by
  induction bs generalizing a s with
  | nil => rfl
  | cons b t ih => exact ih (a + 1) (setFlash a (flashByte s a &&& b) s)

/-- Programming clears, in the bytes it covers, the bits that its data clears. -/
theorem flashByte_programFlash (a : Nat) (bs : List Byte) (s : State) (x : Nat) :
    flashByte (programFlash a bs s) x =
      if a ≤ x ∧ x < a + bs.length then flashByte s x &&& bs.getD (x - a) 0xFF else flashByte s x := by
  induction bs generalizing a s with
  | nil => simp [programFlash, show ¬ (a ≤ x ∧ x < a) by omega]
  | cons b t ih =>
    rw [programFlash, ih, flashByte_setFlash, List.length_cons]
    by_cases hx : x = a
    · simp [hx]
    · by_cases hin : a + 1 ≤ x ∧ x < a + 1 + t.length
      · have hsub : x - a = x - (a + 1) + 1 := by omega
        rw [if_pos hin, if_neg hx, if_pos (by omega), hsub, List.getD_cons_succ]
      · rw [if_neg hin, if_neg hx, if_neg (by omega)]

theorem flashByte_eraseFlash (a n x : Nat) (hw : twf (fun _ => (255 : Byte)) s.flash = true) :
    flashByte (eraseFlash a n s) x = if a ≤ x ∧ x < a + n then 0xFF#8 else flashByte s x :=
  tget_tclear hw

/-- The bytes of the flash are decided by its table. -/
theorem flashBytes_congr {t : State} (h : t.flash = s.flash) (a n : Nat) : flashBytes t a n = flashBytes s a n := by
  induction n generalizing a with
  | zero => rfl
  | succ n ih => rw [flashBytes, flashBytes, ih, flashByte, h, flashByte]

end

/-! ### The buffer of the controller (R95) -/

theorem length_leBytes (n v : Nat) : (leBytes n v).length = n := by
  induction n generalizing v with
  | zero => rfl
  | succ n ih => rw [leBytes, List.length_cons, ih]

theorem length_flashBytes (s : State) (a n : Nat) : (flashBytes s a n).length = n := by
  induction n generalizing a with
  | zero => rfl
  | succ n ih => rw [flashBytes, List.length_cons, ih]

theorem length_wordBytes (s : State) (off n : Nat) : (wordBytes s off n).length = 4 * n := by
  induction n generalizing off with
  | zero => rfl
  | succ n ih =>
    rw [wordBytes, List.length_append, length_leBytes, ih]
    omega

theorem length_flashBufBytes (s : State) (n : Nat) : (flashBufBytes s n).length = n := by
  rw [flashBufBytes, List.length_take, length_wordBytes]
  omega

/-- The bytes of the number that a byte list spells are the list. -/
theorem leBytes_ofLe (l : List Byte) : leBytes l.length (ofLe l) = l := by
  induction l with
  | nil => rfl
  | cons b t ih =>
    have hb := b.isLt
    have hdiv : (b.toNat + 256 * ofLe t) / 256 = ofLe t := by omega
    have hmod : BitVec.ofNat 8 (b.toNat + 256 * ofLe t) = b := by
      apply BitVec.eq_of_toNat_eq
      rw [BitVec.toNat_ofNat]
      omega
    rw [List.length_cons, ofLe, leBytes, hdiv, hmod, ih]

theorem ofLe_lt (l : List Byte) : ofLe l < 256 ^ l.length := by
  induction l with
  | nil => decide
  | cons b t ih =>
    have hb := b.isLt
    rw [ofLe, List.length_cons, Nat.pow_succ]
    omega

/-- A register before the words that are written reads as before. -/
theorem rd_wrWords_below {vs : List Nat} {off o : Nat} (h : o < off) (s : State) : rd (wrWords off vs s) o = rd s o := by
  induction vs generalizing off s with
  | nil => rfl
  | cons v t ih => rw [wrWords, ih (by omega), rd_wrn, if_neg (by omega)]

/-- The bytes of registers that took consecutive words are the words' bytes. -/
theorem wordBytes_wrWords (vs : List Nat) (off : Nat) (s : State) :
    wordBytes (wrWords off vs s) off vs.length = vs.flatMap fun v => leBytes 4 (v % 2 ^ 32) := by
  induction vs generalizing off s with
  | nil => rfl
  | cons v t ih =>
    have hfirst : rdn (wrWords (off + 4) t (wrn off v s)) off = v % 2 ^ 32 := by
      rw [rdn, rd_wrWords_below (by omega), rd_wrn, if_pos rfl, w32, BitVec.toNat_ofNat]
    rw [List.length_cons, wordBytes, wrWords, hfirst, ih, List.flatMap_cons]

/-- A byte list of whole words is the bytes of its words. -/
theorem flatMap_words (n : Nat) (l : List Byte) (h : l.length = 4 * n) :
    ((upto n).map fun k => leAt (4 * k) 4 l).flatMap (fun v => leBytes 4 (v % 2 ^ 32)) = l := by
  induction n generalizing l with
  | zero => simp_all [upto]
  | succ n ih =>
    have hhead : leBytes 4 (leAt (4 * 0) 4 l % 2 ^ 32) = l.take 4 := by
      have hlen : (l.take 4).length = 4 := by rw [List.length_take]; omega
      have hlt := ofLe_lt (l.take 4)
      have hbytes := leBytes_ofLe (l.take 4)
      rw [hlen] at hlt hbytes
      rw [leAt, slice, List.drop_zero, Nat.mod_eq_of_lt (by simpa using hlt), hbytes]
    have htail := ih (l.drop 4) (by rw [List.length_drop]; omega)
    have hshift (k : Nat) : leAt (4 * (k + 1)) 4 l = leAt (4 * k) 4 (l.drop 4) := by
      rw [leAt, leAt, slice, slice, List.drop_drop, show 4 * (k + 1) = 4 + 4 * k by omega]
    rw [upto, List.range_succ_eq_map, List.map_cons, List.flatMap_cons, hhead, List.map_map]
    simp only [Function.comp_def, Nat.succ_eq_add_one, hshift]
    rw [upto] at htail
    rw [htail, List.take_append_drop]

/-- A read of 4,096 bytes fills the buffer. -/
theorem flashBufBytes_loadFlashBuf {bs : List Byte} (h : bs.length = 4096) (s : State) :
    flashBufBytes (loadFlashBuf bs s) 4096 = bs := by
  have hall : bs ++ (flashBufBytes s 4096).drop bs.length = bs := by
    rw [List.drop_eq_nil_of_le (by rw [length_flashBufBytes, h]), List.append_nil]
  have hwords := wordBytes_wrWords ((upto 1024).map fun k => leAt (4 * k) 4 bs) (rFLASH_BUF 0) s
  rw [List.length_map, upto, List.length_range, ← upto, flatMap_words 1024 bs h] at hwords
  rw [flashBufBytes, loadFlashBuf, hall, hwords, ← h, List.take_length]

end Sys2Proof.Machine

namespace Sys2Proof.Machine

open Sys2Proof

/-! ### The FLASH_CMD word (R95) -/

section
variable {op : Nat} {len : BitVec 13}

theorem toNat_flashCmd (hop : op < 8) : (flashCmd op len).toNat = op + len.toNat * 8 + 0x10000 := by
  have hl := len.isLt
  rw [flashCmd, w32, BitVec.toNat_ofNat]
  omega

theorem fld_flashCmd_op (hop : op < 8) : fld (flashCmd op len) 2 0 = op := by
  rw [fld, toNat_flashCmd hop, nfld]
  omega

theorem fld_flashCmd_len (hop : op < 8) : fld (flashCmd op len) 15 3 = len.toNat := by
  have hl := len.isLt
  rw [fld, toNat_flashCmd hop, nfld]
  omega

theorem bit_flashCmd_go (hop : op < 8) : bit (flashCmd op len) 16 = true := by
  have hl := len.isLt
  rw [bit, toNat_flashCmd hop, Nat.testBit_eq_decide_div_mod_eq, decide_eq_true_eq]
  omega

end

/-! ### A write of FLASH_CMD (R95, R48) -/

section
variable {ifc : Iface} {op : Nat} {len : BitVec 13} {s : State} {ps : List Part} {rs : List Nat}

/-- While GO reads 1 the write has no effect. -/
theorem flashCmdEffect_held {v : Word} (hgo : rdB s rFLASH_CMD 16 = true) : (flashCmdEffect ifc v s).1 = s := by
  rw [flashCmdEffect, if_pos hgo]

/-- The operation that GO starts. -/
def startedOp (op : Nat) (len : BitVec 13) (s : State) : FlashOp :=
  { op := op, addr := rdn s rFLASH_ADDR, len := len.toNat, waiting := precBusy s }

/-- What a write of GO with an operation does beside the fields that it stores. -/
theorem flashCmdEffect_go (hop : 1 ≤ op ∧ op < 8) (hgo : rdB s rFLASH_CMD 16 = false) :
    ∃ u, Kept [] [rFLASH_CMD] s u ∧ (flashCmdEffect ifc (flashCmd op len) s).1 =
      if flashRefused op (rdn s rFLASH_ADDR) len.toNat then wrB rFLASH_CMD 18 true u
      else if flashProtected op (rdn s rFLASH_ADDR) len.toNat then answerErr 0 (wrB rFLASH_CMD 18 true u)
      else wrB rFLASH_CMD 16 true { u with flashOp := some (startedOp op len s) } := by
  have hk : Kept [] [rFLASH_CMD] s (plainEffect ifc rFLASH_CMD (flashCmd op len &&& ~~~ (w32 0x10000)) .none s).1 :=
    kept_plainEffect (by decide) List.mem_cons_self
  refine ⟨_, hk, ?_⟩
  obtain ⟨hparts, hregs⟩ := hk
  have haddr := congrArg BitVec.toNat (hregs rFLASH_ADDR (by decide))
  have hprec := hparts .prec (by simp)
  rw [← rdn, ← rdn] at haddr
  simp only [Part.same] at hprec
  have hop0 : op ≠ 0 := by omega
  simp only [flashCmdEffect, hgo, fld_flashCmd_op hop.2, fld_flashCmd_len hop.2, bit_flashCmd_go hop.2, haddr, hop0, precBusy,
    hprec, startedOp]
  rw [if_neg (by decide), if_neg (by simp), apply_ite Prod.fst, apply_ite Prod.fst]

theorem gatedWrite_flashCmd_logOnly (hg : gate ifc true rFLASH_CMD s = .open) :
    LogOnly (flashCmdEffect ifc (flashCmd op len) (answer [] s)).1
      (gatedWrite ifc rFLASH_CMD (flashCmd op len) (flashCmdEffect ifc (flashCmd op len)) s) :=
  logOnly_gatedWrite hg (by decide) (by decide)

/-- A write of FLASH_CMD while GO reads 1 leaves all but its record. -/
theorem flashCmd_held (hg : gate ifc true rFLASH_CMD s = .open) (hgo : rdB s rFLASH_CMD 16 = true) :
    KeptAccess [] [] s (gatedWrite ifc rFLASH_CMD (flashCmd op len) (flashCmdEffect ifc (flashCmd op len)) s) := by
  have hl := gatedWrite_flashCmd_logOnly (op := op) (len := len) hg
  rw [flashCmdEffect_held (s := answer [] s) hgo] at hl
  exact .of_effect (.refl _) hl

/-- An operation that is neither refused nor protected starts. -/
theorem flashCmd_starts (hg : gate ifc true rFLASH_CMD s = .open) (hop : 1 ≤ op ∧ op < 8) (hgo : rdB s rFLASH_CMD 16 = false)
    (href : flashRefused op (rdn s rFLASH_ADDR) len.toNat = false) (hprot : flashProtected op (rdn s rFLASH_ADDR) len.toNat = false) :
    ∃ t, gatedWrite ifc rFLASH_CMD (flashCmd op len) (flashCmdEffect ifc (flashCmd op len)) s = t ∧
      t.flashOp = some (startedOp op len s) ∧ rdB t rFLASH_CMD 16 = true ∧ KeptAccess [.flashOp] [rFLASH_CMD] s t := by
  have hl := gatedWrite_flashCmd_logOnly (op := op) (len := len) hg
  obtain ⟨u, hk, he⟩ := flashCmdEffect_go (s := answer [] s) (ifc := ifc) (len := len) hop hgo
  rw [he, if_neg (by rw [Bool.not_eq_true]; exact href), if_neg (by rw [Bool.not_eq_true]; exact hprot)] at hl
  have hu : Kept [.flashOp] [rFLASH_CMD] (answer [] s) u := ⟨fun p _ => hk.1 p (by simp), hk.2⟩
  refine ⟨_, rfl, hl.1 .flashOp (by simp), ?_, .of_effect (.wr (by simp) (hu.flashOp (by simp))) hl⟩
  rw [rdB, hl.2.2 _ (by decide)]
  exact (rdB_wrB (by decide)).trans (if_pos rfl)

/-- A refused operation sets ERR. -/
theorem flashCmd_refused (hg : gate ifc true rFLASH_CMD s = .open) (hop : 1 ≤ op ∧ op < 8) (hgo : rdB s rFLASH_CMD 16 = false)
    (href : flashRefused op (rdn s rFLASH_ADDR) len.toNat = true) :
    ∃ t, gatedWrite ifc rFLASH_CMD (flashCmd op len) (flashCmdEffect ifc (flashCmd op len)) s = t ∧
      rdB t rFLASH_CMD 18 = true ∧ KeptAccess [] [rFLASH_CMD] s t := by
  have hl := gatedWrite_flashCmd_logOnly (op := op) (len := len) hg
  obtain ⟨u, hk, he⟩ := flashCmdEffect_go (s := answer [] s) (ifc := ifc) (len := len) hop hgo
  rw [he, if_pos (by exact href)] at hl
  refine ⟨_, rfl, ?_, .of_effect (.wr (by simp) hk) hl⟩
  rw [rdB, hl.2.2 _ (by decide)]
  exact (rdB_wrB (by decide)).trans (if_pos rfl)

/-- An operation that touches the Persistent Record sets ERR and is answered with an error. -/
theorem flashCmd_protected (hg : gate ifc true rFLASH_CMD s = .open) (hop : 1 ≤ op ∧ op < 8) (hgo : rdB s rFLASH_CMD 16 = false)
    (href : flashRefused op (rdn s rFLASH_ADDR) len.toNat = false) (hprot : flashProtected op (rdn s rFLASH_ADDR) len.toNat = true) :
    ∃ t, gatedWrite ifc rFLASH_CMD (flashCmd op len) (flashCmdEffect ifc (flashCmd op len)) s = t ∧
      rdB t rFLASH_CMD 18 = true ∧ t.resp.err = true ∧ KeptAccess [] [rFLASH_CMD] s t := by
  have hl := gatedWrite_flashCmd_logOnly (op := op) (len := len) hg
  obtain ⟨u, hk, he⟩ := flashCmdEffect_go (s := answer [] s) (ifc := ifc) (len := len) hop hgo
  rw [he, if_neg (by rw [Bool.not_eq_true]; exact href), if_pos (by exact hprot)] at hl
  have hresp := hl.1 .resp (by simp)
  refine ⟨_, rfl, ?_, congrArg Resp.err hresp, ?_⟩
  · rw [rdB, hl.2.2 _ (by decide)]
    exact (rdB_wrB (by decide)).trans (if_pos rfl)
  · have hu : Kept [.resp] [rFLASH_CMD] (answer [] s) u := ⟨fun p _ => hk.1 p (by simp), hk.2⟩
    exact .without_resp (.of_effect (.answerErr (by simp) (.wr (by simp) hu)) hl)

end
end Sys2Proof.Machine

namespace Sys2Proof.Machine

open Sys2Proof

/-! ### The end of a flash operation (R95) -/

section
variable {s : State} {o : FlashOp}

/-- Nothing waits for the controller. -/
theorem precResume_idle (hnow : s.prec.pendingNow = false) (hroutine : s.prec.pendingRoutine = false) : precResume s = s := by
  simp [precResume, hnow, hroutine]

/-- The registers of the buffer. -/
def flashBufRegs : List Nat := (upto 1024).map (fun k => rFLASH_BUF 0 + 4 * k)

theorem kept_loadFlashBuf (bs : List Byte) (s : State) : Kept [] flashBufRegs s (loadFlashBuf bs s) := by
  refine .wrWords (fun i hi => List.mem_map_of_mem (List.mem_range.mpr ?_)) (.refl s)
  rwa [List.length_map, upto, List.length_range] at hi

theorem flashPerform_read (hop : o.op = 1) : flashPerform o s = loadFlashBuf (flashBytes s o.addr (if o.len = 0 then 4096 else o.len)) s := by
  simp [flashPerform, flashSpan, hop]

theorem flashPerform_program (hop : o.op = 2) :
    flashPerform o s = programFlash o.addr (flashBufBytes s (flashSpan 2 o.addr o.len).2) s := by
  simp [flashPerform, flashSpan, hop]

theorem flashPerform_erase (hop : 3 ≤ o.op) :
    flashPerform o s = eraseFlash (flashSpan o.op o.addr o.len).1 (flashSpan o.op o.addr o.len).2 s := by
  rw [flashPerform, if_neg (by omega), if_neg (by omega)]

theorem kept_programFlash (a : Nat) (bs : List Byte) (s : State) : Kept [.flash] [] s (programFlash a bs s) := by
  rw [programFlash_eq]
  exact .flash (by simp) (.refl s)

theorem kept_eraseFlash (a n : Nat) (s : State) : Kept [.flash] [] s (eraseFlash a n s) := .flash (by simp) (.refl s)

/-- What an operation may change. -/
theorem kept_flashPerform (o : FlashOp) (s : State) : Kept [.flash] flashBufRegs s (flashPerform o s) := by
  have hweak {t : State} (h : Kept [.flash] [] s t) : Kept [.flash] flashBufRegs s t := ⟨h.1, fun p _ => h.2 p (by simp)⟩
  unfold flashPerform
  dsimp only
  split
  · have h := kept_loadFlashBuf (flashBytes s (flashSpan o.op o.addr o.len).1 (flashSpan o.op o.addr o.len).2) s
    exact ⟨fun p _ => h.1 p (by simp), h.2⟩
  · split
    exacts [hweak (kept_programFlash _ _ s), hweak (kept_eraseFlash _ _ s)]

/-- The state after an operation that succeeded, where no record write waits. -/
def flashDone (o : FlashOp) (s : State) : State := wrB rFLASH_CMD 16 false { flashPerform o s with flashOp := none }

theorem execFlashOpComplete_ok {left : List (BitVec 26 × Byte)} (ho : s.flashOp = some o) (hwait : o.waiting = false)
    (hnow : s.prec.pendingNow = false) (hroutine : s.prec.pendingRoutine = false) :
    exec (.flashOpComplete true left) s = .next (flashDone o s) := by
  have hprec : (flashDone o s).prec = s.prec := (kept_flashPerform o s).1 .prec (by simp)
  have hidle : precResume (flashDone o s) = flashDone o s :=
    precResume_idle (by rw [hprec, hnow]) (by rw [hprec, hroutine])
  rw [← hidle]
  simp only [exec, execFlashOpComplete, ho, hwait]
  rfl

theorem rdB_flashDone_go (o : FlashOp) (s : State) : rdB (flashDone o s) rFLASH_CMD 16 = false :=
  (rdB_wrB (by decide)).trans (if_pos rfl)

/-- The end of an operation clears GO and changes nothing else beside what the operation did. -/
theorem kept_flashDone {ps : List Part} {rs : List Nat} (h : Kept ps rs s (flashPerform o s)) :
    Kept (.flashOp :: ps) (rFLASH_CMD :: rs) s (flashDone o s) :=
  .wr (by simp) (.flashOp (by simp) ⟨fun p hp => h.1 p (fun hm => hp (.tail _ hm)), fun q hq => h.2 q (fun hm => hq (.tail _ hm))⟩)

theorem flashBufBytes_congr {t : State} (h : ∀ q, q ∈ flashBufRegs → rd t q = rd s q) :
    flashBufBytes t 4096 = flashBufBytes s 4096 := by
  have hwords : ∀ n k, k + n ≤ 1024 → wordBytes t (rFLASH_BUF 0 + 4 * k) n = wordBytes s (rFLASH_BUF 0 + 4 * k) n := by
    intro n
    induction n with
    | zero => exact fun _ _ => rfl
    | succ n ih =>
      intro k hk
      have hq : rd t (rFLASH_BUF 0 + 4 * k) = rd s (rFLASH_BUF 0 + 4 * k) :=
        h _ (List.mem_map_of_mem (List.mem_range.mpr (by omega)))
      have hrest := ih (k + 1) (by omega)
      rw [show rFLASH_BUF 0 + 4 * (k + 1) = rFLASH_BUF 0 + 4 * k + 4 by omega] at hrest
      rw [wordBytes, wordBytes, hrest, rdn, hq, rdn]
  have h0 := hwords 1024 0 (by omega)
  rw [Nat.mul_zero, Nat.add_zero] at h0
  rw [flashBufBytes, flashBufBytes, h0]

theorem flashCmd_notin_buffer : rFLASH_CMD ∉ flashBufRegs := by
  intro h
  obtain ⟨k, -, hk⟩ := List.mem_map.mp h
  simp only [rFLASH_CMD, rFLASH_BUF] at hk
  omega

/-- A read of 4,096 bytes leaves the flash's bytes in the buffer. -/
theorem flashBufBytes_flashDone_read (hop : o.op = 1) (hlen : o.len = 0) :
    flashBufBytes (flashDone o s) 4096 = flashBytes s o.addr 4096 := by
  have hcongr : flashBufBytes (flashDone o s) 4096 = flashBufBytes (flashPerform o s) 4096 := by
    refine flashBufBytes_congr fun q hq => ?_
    exact rd_wr_other _ _ _ _ (by rintro rfl; exact flashCmd_notin_buffer hq)
  rw [hcongr, flashPerform_read hop, if_pos hlen, flashBufBytes_loadFlashBuf (length_flashBytes s _ _)]

theorem flashByte_flashDone_program (hop : o.op = 2) (a : Nat) :
    flashByte (flashDone o s) a =
      if o.addr ≤ a ∧ a < o.addr + (flashSpan 2 o.addr o.len).2 then
        flashByte s a &&& (flashBufBytes s (flashSpan 2 o.addr o.len).2).getD (a - o.addr) 0xFF#8
      else flashByte s a := by
  have h := flashByte_programFlash o.addr (flashBufBytes s (flashSpan 2 o.addr o.len).2) s a
  rw [length_flashBufBytes, ← flashPerform_program hop] at h
  exact h

theorem flashByte_flashDone_erase (hop : 3 ≤ o.op) (hw : twf (fun _ => (255 : Byte)) s.flash = true) (a : Nat) :
    flashByte (flashDone o s) a =
      if (flashSpan o.op o.addr o.len).1 ≤ a ∧ a < (flashSpan o.op o.addr o.len).1 + (flashSpan o.op o.addr o.len).2
      then 0xFF#8 else flashByte s a := by
  have h := flashByte_eraseFlash (flashSpan o.op o.addr o.len).1 (flashSpan o.op o.addr o.len).2 a hw
  rw [← flashPerform_erase hop] at h
  exact h

end

/-- Settles O18: a write of FLASH_CMD by the branches of its effect, and each operation's end by what it does to the buffer or to
the flash table. -/
theorem flashOperations : Obligations.FlashOperations := by
  refine ⟨?_, ?_, ?_, ?_, ?_, ?_, ?_, ?_, ?_, ?_, ?_⟩
  · intro ifc len s hg hgo href
    obtain ⟨t, ht, h⟩ := flashCmd_starts hg (op := 1) (by decide) hgo href (by simp [flashProtected])
    exact ⟨t, congrArg _ ht, h⟩
  · intro ifc len s hg hgo href hprot
    obtain ⟨t, ht, h⟩ := flashCmd_starts hg (op := 2) (by decide) hgo href hprot
    exact ⟨t, congrArg _ ht, h⟩
  · intro ifc s hg hgo href hprot
    obtain ⟨t, ht, h⟩ := flashCmd_starts hg (op := 3) (len := 0) (by decide) hgo href hprot
    exact ⟨t, congrArg _ ht, h⟩
  · intro ifc s hg hgo href hprot
    obtain ⟨t, ht, h⟩ := flashCmd_starts hg (op := 4) (len := 0) (by decide) hgo href hprot
    exact ⟨t, congrArg _ ht, h⟩
  · intro ifc len s hg hgo href
    obtain ⟨t, ht, h⟩ := flashCmd_refused hg (op := 1) (by decide) hgo href
    exact ⟨t, congrArg _ ht, h⟩
  · intro ifc len s hg hgo href hprot
    obtain ⟨t, ht, h⟩ := flashCmd_protected hg (op := 2) (by decide) hgo href hprot
    exact ⟨t, congrArg _ ht, h⟩
  · intro ifc s hg hgo href hprot
    obtain ⟨t, ht, h⟩ := flashCmd_protected hg (op := 3) (len := 0) (by decide) hgo href hprot
    exact ⟨t, congrArg _ ht, h⟩
  · intro ifc len s hg hgo
    exact ⟨⟨_, rfl, flashCmd_held hg hgo⟩, ⟨_, rfl, flashCmd_held hg hgo⟩, ⟨_, rfl, flashCmd_held hg hgo⟩,
      ⟨_, rfl, flashCmd_held hg hgo⟩⟩
  · intro left s o ho hwait hop hlen hnow hroutine
    refine ⟨_, execFlashOpComplete_ok ho hwait hnow hroutine, rfl, rdB_flashDone_go o s, flashBufBytes_flashDone_read hop hlen,
      kept_flashDone ?_⟩
    rw [flashPerform_read hop]
    exact kept_loadFlashBuf _ s
  · intro left s o ho hwait hop hnow hroutine
    refine ⟨_, execFlashOpComplete_ok ho hwait hnow hroutine, rfl, rdB_flashDone_go o s, flashByte_flashDone_program hop,
      kept_flashDone ?_⟩
    rw [flashPerform_program hop]
    exact kept_programFlash _ _ s
  · intro left s o ho hwait hop hw hnow hroutine
    refine ⟨_, execFlashOpComplete_ok ho hwait hnow hroutine, rfl, rdB_flashDone_go o s, flashByte_flashDone_erase hop hw,
      kept_flashDone ?_⟩
    rw [flashPerform_erase hop]
    exact kept_eraseFlash _ _ s

end Sys2Proof.Machine

namespace Sys2Proof.Machine

open Sys2Proof

/-! ### A record write starts (R98, R99) -/

section
variable {s t : State} {new : Prec}

/-- A record write that starts: into the bank not in use, which alone is erased. -/
theorem precStart_spec (new : Prec) (s : State) :
    (precStart new s).prec.writing.map (fun w => w.1) = some (1 - rdF s rPREC_STATUS 0 0) ∧
    (precStart new s).prec.lastRoutine = s.prec.lastRoutine ∧ rdB (precStart new s) rPREC_STATUS 2 = true ∧
    (precStart new s).flash = (eraseFlash (precBase (1 - rdF s rPREC_STATUS 0 0)) 0x10000 s).flash ∧
    Kept [.prec, .flash] [rPREC_CTRL, rPREC_STATUS] s (precStart new s) := by
  refine ⟨rfl, rfl, ?_, rfl, .prec (by simp) (.wr (by simp) (.wr (by simp) (.flash (by simp) (.refl s))))⟩
  have hother : rd (precStart new s) rPREC_STATUS = rd (wrB rPREC_STATUS 2 true s) rPREC_STATUS :=
    (rd_wr_other _ _ _ _ (by decide)).trans rfl
  rw [rdB, hother]
  exact (rdB_wrB (by decide)).trans (if_pos rfl)

theorem precStart_flashByte (hw : twf (fun _ => (255 : Byte)) s.flash = true) {a : Nat}
    (ha : a < precBase (1 - rdF s rPREC_STATUS 0 0) ∨ precBase (1 - rdF s rPREC_STATUS 0 0) + 0x10000 ≤ a) :
    flashByte (precStart new s) a = flashByte s a := by
  have h := flashByte_eraseFlash (precBase (1 - rdF s rPREC_STATUS 0 0)) 0x10000 a hw
  rw [if_neg (by omega)] at h
  exact h

/-- Does an operation hold the controller? The writer and the flash operation decide. -/
theorem controllerBusy_congr (hprec : t.prec = s.prec) (hop : t.flashOp = s.flashOp) :
    (precBusy t || flashBusy t) = (precBusy s || flashBusy s) := by
  rw [precBusy, flashBusy, hprec, hop, precBusy, flashBusy]

theorem precNow_free (h : (precBusy s || flashBusy s) = false) : precNow s = precStart s.prec s := by
  simp [precNow, h]

theorem precNow_held (h : (precBusy s || flashBusy s) = true) :
    precNow s = { s with prec := { s.prec with pendingNow := true } } := by
  simp [precNow, h]

end

/-! ### A write of WRITE_NOW (R99) -/

section
variable {ifc : Iface} {s : State}

/-- A write of WRITE_NOW stores the interval's field, and then the immediate write starts or waits. -/
theorem gatedWrite_precNow (hg : gate ifc true rPREC_CTRL s = .open) :
    ∃ u t, exec (.precWriteNow ifc) s = .next t ∧ Kept [] [rPREC_CTRL] (answer [] s) u ∧ LogOnly (precNow u) t := by
  have hbit : bit (setBit (rd s rPREC_CTRL) 0 true) 0 = true := (bit_setBit (by decide)).trans (if_pos rfl)
  have hl := logOnly_gatedWrite (v := setBit (rd s rPREC_CTRL) 0 true)
    (eff := precCtrlEffect ifc (setBit (rd s rPREC_CTRL) 0 true)) hg (by decide) (by decide)
  have heff : (precCtrlEffect ifc (setBit (rd s rPREC_CTRL) 0 true) (answer [] s)).1 =
      precNow (plainEffect ifc rPREC_CTRL (setBit (rd s rPREC_CTRL) 0 true) .none (answer [] s)).1 := by
    simp only [precCtrlEffect, hbit]
    rfl
  rw [heff] at hl
  exact ⟨_, _, rfl, kept_plainEffect (by decide) (by simp), hl⟩

theorem precWriteNow_free (hg : gate ifc true rPREC_CTRL s = .open) (hprec : precBusy s = false) (hflash : flashBusy s = false)
    (hw : twf (fun _ => (255 : Byte)) s.flash = true) :
    Completes (.precWriteNow ifc) s fun t =>
      t.prec.writing.map (fun w => w.1) = some (1 - rdF s rPREC_STATUS 0 0) ∧ rdB t rPREC_STATUS 2 = true ∧
      (∀ a, a < precBase (1 - rdF s rPREC_STATUS 0 0) ∨ precBase (1 - rdF s rPREC_STATUS 0 0) + 0x10000 ≤ a →
        flashByte t a = flashByte s a) ∧
      KeptAccess [.prec, .flash] [rPREC_CTRL, rPREC_STATUS] s t := by
  obtain ⟨u, t, ht, hu, hl⟩ := gatedWrite_precNow hg
  have hfree : (precBusy u || flashBusy u) = false :=
    (controllerBusy_congr (hu.1 .prec (by simp)) (hu.1 .flashOp (by simp))).trans (by
      rw [Bool.or_eq_false_iff]
      exact ⟨hprec, hflash⟩)
  have hflashU : u.flash = s.flash := hu.1 .flash (by simp)
  have hbank : rdF u rPREC_STATUS 0 0 = rdF s rPREC_STATUS 0 0 := by
    rw [rdF, hu.2 _ (by decide)]
    rfl
  rw [precNow_free hfree] at hl
  obtain ⟨hwriting, -, hbusy, -, hk⟩ := precStart_spec u.prec u
  rw [hbank] at hwriting
  have hprecT : t.prec = (precStart u.prec u).prec := hl.1 .prec (by simp)
  have hflashT : t.flash = (precStart u.prec u).flash := hl.1 .flash (by simp)
  refine ⟨t, ht, by rw [hprecT, hwriting], ?_, fun a ha => ?_, .of_effect ?_ hl⟩
  · rw [rdB, hl.2.2 _ (by decide)]
    exact hbusy
  · have h := precStart_flashByte (new := u.prec) (s := u) (by rw [hflashU]; exact hw) (a := a) (by rw [hbank]; exact ha)
    rw [flashByte, hflashT]
    exact h.trans (by rw [flashByte, hflashU, flashByte])
  · refine ⟨fun p hp => Part.same_trans (hu.1 p (by simp)) (hk.1 p hp), fun o ho => (hk.2 o ho).trans (hu.2 o ?_)⟩
    simp only [List.mem_cons, not_or] at ho ⊢
    exact ⟨ho.1, ho.2.2⟩

theorem precWriteNow_held (hg : gate ifc true rPREC_CTRL s = .open) (hheld : precBusy s = true ∨ flashBusy s = true) :
    Completes (.precWriteNow ifc) s fun t => t.prec.pendingNow = true ∧ KeptAccess [.prec] [rPREC_CTRL] s t := by
  obtain ⟨u, t, ht, hu, hl⟩ := gatedWrite_precNow hg
  have hbusy : (precBusy u || flashBusy u) = true :=
    (controllerBusy_congr (hu.1 .prec (by simp)) (hu.1 .flashOp (by simp))).trans (Bool.or_eq_true_iff.mpr hheld)
  rw [precNow_held hbusy] at hl
  have hprecT := hl.1 .prec (by simp)
  refine ⟨t, ht, congrArg Prec.pendingNow hprecT, .of_effect (.prec (by simp) ?_) hl⟩
  exact ⟨fun p _ => hu.1 p (by simp), hu.2⟩

end

/-! ### A routine write (R99) -/

theorem precRoutineTimer_free {s : State} (hprec : precBusy s = false) (hflash : flashBusy s = false) :
    Completes .precRoutineTimer s fun t =>
      t.prec.writing.isSome = true ∧ t.prec.lastRoutine = s.clock.aon ∧ rdB t rPREC_STATUS 2 = true ∧
      Kept [.prec, .flash] [rPREC_CTRL, rPREC_STATUS] s t := by
  obtain ⟨hwriting, hlast, hbusy, -, hk⟩ := precStart_spec (precRefresh s)
    { s with prec := { s.prec with pendingRoutine := false, lastRoutine := s.clock.aon } }
  refine ⟨precStartRoutine s, ?_, ?_, hlast, hbusy, ?_⟩
  · simp [exec, execPrecRoutineTimer, hprec, hflash]
  · have h := congrArg Option.isSome hwriting
    rwa [Option.isSome_map] at h
  · have h0 : Kept [.prec, .flash] [rPREC_CTRL, rPREC_STATUS] s
        { s with prec := { s.prec with pendingRoutine := false, lastRoutine := s.clock.aon } } := .prec (by simp) (.refl s)
    exact ⟨fun p hp => Part.same_trans (h0.1 p hp) (hk.1 p hp), fun o ho => (hk.2 o ho).trans (h0.2 o ho)⟩

theorem precRoutineTimer_held {s : State} (hheld : precBusy s = true ∨ flashBusy s = true) :
    Completes .precRoutineTimer s fun t => t.prec.pendingRoutine = true ∧ Kept [.prec] [] s t :=
  ⟨{ s with prec := { s.prec with pendingRoutine := true } }, if_pos (Bool.or_eq_true_iff.mpr hheld), rfl,
    .prec (by simp) (.refl s)⟩

end Sys2Proof.Machine

namespace Sys2Proof.Machine

open Sys2Proof

/-! ### The end of a record write (R98) -/

/-- The device as the verdict on a read-back of bank `b` leaves it: one that passed is counted and puts the bank in use, one that
failed raises E41. -/
def precVerdict (b : Nat) (ok : Bool) (s : State) : State :=
  let s := wrB rPREC_STATUS 2 false (wrB rPREC_STATUS 3 (!ok) s)
  if ok then bump rPREC_WRITES 1 (wrF rPREC_STATUS 0 0 b s) else raiseE 41 7 s

/-- The flash, the memory, the Persistent Record and its registers are as in `s`. -/
def HoldsPrec (s t : State) : Prop :=
  t.prec = s.prec ∧ t.flash = s.flash ∧ t.mem = s.mem ∧ rd t rPREC_STATUS = rd s rPREC_STATUS ∧ rd t rPREC_WRITES = rd s rPREC_WRITES

theorem HoldsPrec.eventStable (s : State) : EventStable (HoldsPrec s) where
  wrEvent := by
    rintro t o v ho ⟨hp, hf, hm, hst, hw⟩
    refine ⟨hp, hf, hm, (rd_wr_other _ _ _ _ ?_).trans hst, (rd_wr_other _ _ _ _ ?_).trans hw⟩
    all_goals
      rintro rfl
      simp only [EventReg, rPREC_STATUS, rPREC_WRITES] at ho
      omega
  pcie := id
  fault := id
  irq := id

/-- One bit is a field. -/
theorem fld_bit (w : Word) (i : Nat) : fld w i i = b2n (bit w i) := by
  rw [fld, nfld, bit, Nat.testBit_eq_decide_div_mod_eq, Nat.add_sub_cancel_left, Nat.pow_one, b2n]
  by_cases h : w.toNat / 2 ^ i % 2 = 1
  · simp [h]
  · simp [h]
    omega

theorem bit_setFld_other {w : Word} {hi lo v i : Nat} (hi32 : hi < 32) (hne : ¬ (lo ≤ i ∧ i ≤ hi)) :
    bit (setFld w hi lo v) i = bit w i := by
  rw [bit, testBit_setFld hi32, if_neg hne, bit]

theorem precVerdict_spec {b : Nat} (hb : b < 2) (ok : Bool) (s : State) :
    (precVerdict b ok s).prec = s.prec ∧ (precVerdict b ok s).flash = s.flash ∧ (precVerdict b ok s).mem = s.mem ∧
    rdB (precVerdict b ok s) rPREC_STATUS 2 = false ∧ rdB (precVerdict b ok s) rPREC_STATUS 3 = !ok ∧
    rdF (precVerdict b ok s) rPREC_STATUS 0 0 = (if ok then b else rdF s rPREC_STATUS 0 0) ∧
    rdn (precVerdict b ok s) rPREC_WRITES = (if ok then satN 32 (rdn s rPREC_WRITES + 1) else rdn s rPREC_WRITES) := by
  unfold precVerdict
  extract_lets s1
  have hst : rd s1 rPREC_STATUS = setBit (setBit (rd s rPREC_STATUS) 3 (!ok)) 2 false := by
    simp only [s1, rd_wrB, if_true]
  have hw : rd s1 rPREC_WRITES = rd s rPREC_WRITES := by
    simp only [s1, rd_wrB]
    rfl
  cases ok
  · obtain ⟨hp, hf, hm, hs2, hw2⟩ : HoldsPrec s1 (raiseE 41 7 s1) :=
      (HoldsPrec.eventStable s1).raiseE (by decide) (by decide) ⟨rfl, rfl, rfl, rfl, rfl⟩
    refine ⟨hp, hf, hm, ?_, ?_, ?_, ?_⟩
    · rw [if_neg (by decide), rdB, hs2, hst, bit_setBit (by decide), if_pos rfl]
    · rw [if_neg (by decide), rdB, hs2, hst, bit_setBit (by decide), if_neg (by decide), bit_setBit (by decide), if_pos rfl]
    · rw [if_neg (by decide), if_neg (by decide), rdF, hs2, hst, fld_bit, bit_setBit (by decide), if_neg (by decide),
        bit_setBit (by decide), if_neg (by decide), ← fld_bit, rdF]
    · rw [if_neg (by decide), if_neg (by decide), rdn, hw2, hw, rdn]
  · have hs2 : rd (bump rPREC_WRITES 1 (wrF rPREC_STATUS 0 0 b s1)) rPREC_STATUS = setFld (rd s1 rPREC_STATUS) 0 0 b := by
      rw [rd_bump, if_neg (by decide), rd_wrF, if_pos rfl]
    refine ⟨rfl, rfl, rfl, ?_, ?_, ?_, ?_⟩
    · rw [if_pos rfl, rdB, hs2, bit_setFld_other (by decide) (by decide), hst, bit_setBit (by decide), if_pos rfl]
    · rw [if_pos rfl, rdB, hs2, bit_setFld_other (by decide) (by decide), hst, bit_setBit (by decide), if_neg (by decide),
        bit_setBit (by decide), if_pos rfl]
    · rw [if_pos rfl, if_pos rfl, rdF, hs2, fld_setFld (by decide)]
      omega
    · rw [if_pos rfl, if_pos rfl, rdn_bump_same, rdn, rd_wrF, if_neg (by decide), hw, rdn]

/-- A flash operation that waited for the controller has it. -/
def flashReleased (s : State) : State :=
  match s.flashOp with
  | some o => { s with flashOp := some { o with waiting := false } }
  | none => s

theorem flashReleased_eq (s : State) : flashReleased s = { s with flashOp := (flashReleased s).flashOp } := by
  unfold flashReleased
  split <;> rfl

/-- The end of a write that adds no repair entry, with nothing that waits: the verdict on what the bank reads as. -/
theorem execPrecWriteComplete_plain {s : State} {b : Nat} {img : List Byte} {ok : Bool} (hwriting : s.prec.writing = some (b, img))
    (hadd : s.prec.addingInWrite = false) (hnow : s.prec.pendingNow = false) (hroutine : s.prec.pendingRoutine = false)
    (hb : b < 2) (hok : precValid (flashBytes (programFlash (precBase b) img s) (precBase b) 0x10000) = ok) :
    ∃ p : Prec, p.writing = none ∧ p.seq = (if ok then (s.prec.seq + 1) % 2 ^ 32 else s.prec.seq) ∧
      exec (.precWriteComplete []) s =
        .next (flashReleased (precVerdict b ok { programFlash (precBase b) img s with prec := p })) := by
  have hprec : (programFlash (precBase b) img s).prec = s.prec := (kept_programFlash _ img s).1 .prec (by simp)
  unfold exec execPrecWriteComplete
  simp -zeta only [hwriting]
  extract_lets f f' ok' p0 added reps inUse p s3 s4 s5 s6
  have hok' : ok' = ok := hok
  clear_value ok'
  subst hok'
  have hadded : added = false := by rw [← hadd, ← hprec]; rfl
  have h5 : s5 = precVerdict b ok' { f with prec := p } := by
    dsimp only [s5]
    rw [hadded]
    rfl
  have hp0 : p0 = s.prec := hprec
  have hidle : precResume (flashReleased s5) = flashReleased s5 := by
    have hp : (flashReleased s5).prec = p := by
      rw [flashReleased_eq, h5]
      exact (precVerdict_spec hb ok' _).1
    refine precResume_idle ?_ ?_ <;> rw [hp]
    · exact (congrArg Prec.pendingNow hp0).trans hnow
    · exact (congrArg Prec.pendingRoutine hp0).trans hroutine
  refine ⟨p, rfl, ?_, ?_⟩
  · dsimp only [p]
    rw [hp0]
  · rw [← h5, ← hidle]
    rfl

/-- The state that the verdict is taken on is the programmed flash with another record of the controller. -/
theorem execPrecWriteComplete_verdict {s : State} {b : Nat} {img : List Byte} {ok : Bool}
    (hwriting : s.prec.writing = some (b, img)) (hadd : s.prec.addingInWrite = false) (hnow : s.prec.pendingNow = false)
    (hroutine : s.prec.pendingRoutine = false) (hb : b < 2)
    (hok : precValid (flashBytes (programFlash (precBase b) img s) (precBase b) 0x10000) = ok) :
    ∃ f : State, f.prec.writing = none ∧ f.prec.seq = (if ok then (s.prec.seq + 1) % 2 ^ 32 else s.prec.seq) ∧
      f.flash = (programFlash (precBase b) img s).flash ∧ f.mem = s.mem ∧
      rdF f rPREC_STATUS 0 0 = rdF s rPREC_STATUS 0 0 ∧ rdn f rPREC_WRITES = rdn s rPREC_WRITES ∧
      exec (.precWriteComplete []) s = .next (flashReleased (precVerdict b ok f)) := by
  obtain ⟨p, hpw, hpseq, he⟩ := execPrecWriteComplete_plain hwriting hadd hnow hroutine hb hok
  obtain ⟨hparts, hregs⟩ := kept_programFlash (precBase b) img s
  have hst : rd (programFlash (precBase b) img s) rPREC_STATUS = rd s rPREC_STATUS := hregs _ (by simp)
  have hw : rd (programFlash (precBase b) img s) rPREC_WRITES = rd s rPREC_WRITES := hregs _ (by simp)
  have hmem : (programFlash (precBase b) img s).mem = s.mem := hparts .mem (by simp)
  clear hok hparts hregs
  generalize programFlash (precBase b) img s = f at *
  exact ⟨{ f with prec := p }, hpw, hpseq, rfl, hmem, congrArg (fld · 0 0) hst, congrArg BitVec.toNat hw, he⟩

/-- The end of a record write with nothing waiting: the verdict on the read-back decides bank, sequence and count. -/
theorem precWriteComplete_spec {s : State} {b : Nat} {img : List Byte} {ok : Bool} (hwriting : s.prec.writing = some (b, img))
    (hb : b < 2) (hadd : s.prec.addingInWrite = false) (hnow : s.prec.pendingNow = false) (hroutine : s.prec.pendingRoutine = false)
    (hok : precValid (flashBytes (programFlash (precBase b) img s) (precBase b) 0x10000) = ok) :
    Completes (.precWriteComplete []) s fun t =>
      t.prec.writing = none ∧ t.flash = (programFlash (precBase b) img s).flash ∧ t.mem = s.mem ∧ rdB t rPREC_STATUS 2 = false ∧
      rdB t rPREC_STATUS 3 = !ok ∧ rdF t rPREC_STATUS 0 0 = (if ok then b else rdF s rPREC_STATUS 0 0) ∧
      t.prec.seq = (if ok then (s.prec.seq + 1) % 2 ^ 32 else s.prec.seq) ∧
      rdn t rPREC_WRITES = (if ok then satN 32 (rdn s rPREC_WRITES + 1) else rdn s rPREC_WRITES) := by
  obtain ⟨f, hpw, hpseq, hff, hfm, hfield, hcount, he⟩ := execPrecWriteComplete_verdict hwriting hadd hnow hroutine hb hok
  obtain ⟨hp, hf, hm, hbusy, hfailed, hbank, hwrites⟩ := precVerdict_spec hb ok f
  refine ⟨_, he, ?_⟩
  rw [flashReleased_eq]
  rw [hfield] at hbank
  rw [hcount] at hwrites
  exact ⟨by rw [← hpw, ← hp], hf.trans hff, hm.trans hfm, hbusy, hfailed, hbank, by rw [← hpseq, ← hp], hwrites⟩

/-- Settles O19: a write of the record starts or waits by the state of the controller, and its end follows the verdict on the
read-back. -/
theorem persistentRecordWrites : Obligations.PersistentRecordWrites :=
  ⟨fun _ _ => precWriteNow_free, fun _ _ => precWriteNow_held, fun _ => precRoutineTimer_free, fun _ => precRoutineTimer_held,
    fun _ _ _ hwriting hb hadd hnow hroutine => precWriteComplete_spec hwriting hb hadd hnow hroutine rfl⟩

end Sys2Proof.Machine

namespace Sys2Proof.Machine

open Sys2Proof

/-! ### What the hand-over of a decision leaves (R24, R464)

`DecisionOf` says that the descriptor of a decision is none of the send ring; so its end writes no memory and reads none of the
ring's registers, and what survives the writes of the network engine survives the hand-over. -/

/-- `Q` survives what the network engine writes: its registers, its state, jobs, and the rate limits. -/
structure SendStable (Q : State → Prop) : Prop extends EventStable Q, PowerStable Q where
  wrNet : ∀ {s o v}, 0x7000000 ≤ o → Q s → Q (wr o v s)
  net : ∀ {s} {x : Net}, Q s → Q { s with net := x }
  free : ∀ {s} {x : Nat}, Q s → Q { s with free := x }
  limits : ∀ {s} {l : Tab Nat}, Q s → Q { s with limits := l }
  jobs : ∀ {s} {j : Tab Job}, Q s → Q { s with jobs := j }
  freeSeq : ∀ {s} {x : Nat}, Q s → Q { s with keeper := { s.keeper with freeSeq := x } }

/-- `Q` holds while the descriptor of number `n` carries the decision of slot `k`. -/
def Deciding (Q : State → Prop) (k n : Nat) (j : Job) (m : Tab Byte) (s : State) : Prop := DecisionOf k n j m s ∧ Q s

namespace SendStable

section
variable {Q : State → Prop} {k n : Nat} {j : Job} {m : Tab Byte} {s : State} (hQ : SendStable Q)
include hQ

theorem setJob {k : Nat} {j : Job} (h : Q s) : Q (setJob k j s) := hQ.jobs h

theorem setAssoc {i : Nat} {a : Option Assoc} (h : Q s) : Q (setAssoc i a s) := hQ.net h

theorem updAssoc {i : Nat} {f : Assoc → Assoc} (h : Q s) : Q (updAssoc i f s) := by
  unfold Machine.updAssoc
  split
  exacts [hQ.setAssoc h, h]

theorem updDesc {i : Nat} {f : TxDesc → TxDesc} (h : Q s) : Q (updDesc i f s) := hQ.net h

theorem descStep {i : Option Nat} {f : TxDesc → TxDesc} (h : Q s) : Q (descStep i f s) := by
  unfold Machine.descStep
  split
  exacts [hQ.updDesc h, h]

theorem limited {key period : Nat} {f : State → State} (hf : ∀ {s}, Q s → Q (f s)) (h : Q s) : Q (limited key period f s) := by
  unfold Machine.limited
  dsimp only
  split
  exacts [hf (hQ.limits h), h]

theorem sendFrame {f : NetOut} (h : Q s) : Q (sendFrame f s) := by
  have hpage : 0x7000000 ≤ ifPage f.ifc + 0x40 := by
    simp only [ifPage, rMGMT_IF_STATUS, rETH_IF_STATUS]
    split <;> omega
  unfold Machine.sendFrame
  split
  exacts [hQ.wrNet hpage (hQ.net h), h]

theorem ctpSendFor {d : Option Nat} {p : Peer} {x : CtpMsg} (h : Q s) : Q (ctpSendFor d p x s) := by
  unfold Machine.ctpSendFor
  split
  · exact hQ.net h
  · unfold ctpTransmit
    split
    exacts [hQ.wrNet (by decide) (hQ.sendFrame h), h]

theorem useAssoc {p : Peer} (h : Q s) : Q (useAssoc p s).2 := by
  unfold Machine.useAssoc
  split
  · exact hQ.updAssoc h
  · split
    · exact hQ.setAssoc (hQ.limits (hQ.free h))
    · exact hQ.limited (hQ.raiseE (by omega) (by decide)) (hQ.wrNet (by decide) h)

theorem cuBuild {u id : Nat} {bs : List Byte} (h : Q s) : Q (cuBuild u id bs s).2 := by
  have hcnt (i : Nat) : 0x7000000 ≤ rCU_CNT u i := by simp only [rCU_CNT]; omega
  have halive (e : Nat) : 0x7000000 ≤ rCU_ENT_ALIVE u e := by simp only [rCU_ENT_ALIVE]; omega
  unfold Machine.cuBuild
  split
  exacts [hQ.wrNet (hcnt _) h, hQ.wrNet (hcnt _) (hQ.wrNet (halive _) h)]

theorem dropDescMsgs {i : Nat} (h : Q s) : Q (dropDescMsgs i s) := forAll_stable (fun _ h => hQ.updAssoc h) (hQ.net h)

theorem genAdvance {k : Nat} (h : Q s) : Q (genAdvance k s) := hQ.setJob h

theorem jobRelease {k : Nat} (h : Q s) : Q (jobRelease k s) := by
  unfold Machine.jobRelease
  split
  exacts [hQ.restartIdle (hQ.setJob (hQ.freeSeq (hQ.genAdvance h))), h]

/-! ### The end of the descriptor -/

theorem descComplete (h : Deciding Q k n j m s) : Deciding Q k n j m (descComplete n s) := by
  refine ⟨h.1.descComplete, ?_⟩
  unfold Machine.descComplete
  split
  next => exact h.2
  next d hd =>
    have hnum : d.num = n := of_decide_eq_true (List.find?_some (p := fun d : TxDesc => decide (d.num = n)) hd)
    obtain ⟨hidx, hjob⟩ := h.1.descs d (List.mem_of_find?_eq_some hd) hnum
    extract_lets st s1 net s2 s3 s4
    have h2 : Q s2 := hQ.net (hQ.dropDescMsgs h.2)
    have h3 : Q s3 := by
      dsimp only [s3]
      rwa [hidx]
    rw [hjob]
    exact hQ.jobRelease (onlyIf_stable hQ.assertSrc h3)

theorem descEnd {st : Nat} (h : Deciding Q k n j m s) : Deciding Q k n j m (descEnd n st s) :=
  hQ.descComplete ⟨h.1.updDesc fun _ => ⟨rfl, rfl, rfl⟩, hQ.updDesc h.2⟩

theorem descRefuse (h : Deciding Q k n j m s) : Deciding Q k n j m (descRefuse n s) :=
  hQ.descEnd ⟨DecisionOf.eventStable.raiseE (by omega) (by decide) h.1.wr,
    hQ.raiseE (by omega) (by decide) (hQ.wrNet (by decide) h.2)⟩

theorem startMsg {i : Nat} {x : TxMsg} (hx : x.desc = some n) (h : Deciding Q k n j m s) :
    Deciding Q k n j m (startMsg i x s) := by
  refine ⟨h.1.startMsg hx, ?_⟩
  unfold Machine.startMsg
  split
  · exact h.2
  · extract_lets stale _ x1 s1 s2
    split
    · rw [hx]
      exact (hQ.descEnd h).2
    · have h2 : Q s2 := by
        dsimp only [s2]
        rw [hx]
        exact hQ.updDesc (hQ.setAssoc h.2)
      exact hQ.ctpSendFor h2

theorem sendReliable {i : Nat} {x : TxMsg} (hx : x.desc = some n) (h : Deciding Q k n j m s) :
    Deciding Q k n j m (sendReliable i x s) := by
  refine ⟨h.1.sendReliable hx, ?_⟩
  unfold Machine.sendReliable
  split
  · exact h.2
  · split
    exacts [hQ.setAssoc h.2, (hQ.startMsg hx h).2]

theorem descSendTo {p : Peer} {b u id : Nat} {x : CtpMsg} (h : Deciding Q k n j m s) :
    Deciding Q k n j m (descSendTo n p b x true (some (u, id)) s) := by
  refine ⟨h.1.descSendTo, ?_⟩
  have hbuilt : Deciding Q k n j m (Machine.cuBuild u id x.payload s).2 := ⟨h.1.cuBuild, hQ.cuBuild h.2⟩
  unfold Machine.descSendTo
  dsimp only
  split
  · exact hQ.descStep hbuilt.2
  · have huse : Deciding Q k n j m (Machine.useAssoc p (Machine.cuBuild u id x.payload s).2).2 :=
      ⟨hbuilt.1.useAssoc, hQ.useAssoc hbuilt.2⟩
    split
    next t ht => exact hQ.descStep (by simpa only [ht] using huse.2)
    next i t ht =>
      rw [if_pos rfl]
      have ht' : Deciding Q k n j m t := by simpa only [ht] using huse
      split
      · exact hQ.updDesc ht'.2
      · exact (hQ.sendReliable rfl ht').2

/-! ### The hand-over -/

theorem sendJobDecision {cu : Nat} {payload : List Byte} (hst : (job s k).state = .sent ∨ (job s k).state = .abandoned)
    (h : Q s) : Q (sendJobDecision k cu payload s) := by
  unfold Machine.sendJobDecision
  extract_lets n dests s1 net s2
  have h1 : Deciding Q k n (job s k) s.mem s1 := ⟨decisionOf_addDesc hst rfl rfl rfl, hQ.net h⟩
  split
  · exact (hQ.descEnd h1).2
  · split
    · exact (hQ.descRefuse h1).2
    · have h2 : Deciding Q k n (job s k) s.mem s2 := ⟨h1.1.net rfl, hQ.net h1.2⟩
      exact (forAll_stable (fun _ h => hQ.descSendTo h) h2).2

theorem decide_ {cu status flags : Nat} {app : List Byte} (h : Q s) : Q (decide_ k cu status flags app s) := by
  obtain ⟨x, hx⟩ := decisionPayload_snd k status flags app s
  unfold Machine.decide_
  dsimp only
  rw [hx]
  refine hQ.sendJobDecision ?_ (hQ.setJob (hQ.free h))
  simp only [handOver, job_setJob_same]
  split
  exacts [.inr rfl, .inl rfl]

theorem abandonJob {cu : Nat} (h : Q s) : Q (abandonJob k cu s) :=
  hQ.decide_ (hQ.raiseJ (by omega) (by decide) (hQ.setJob (hQ.genAdvance h)))

end

end SendStable

end Sys2Proof.Machine

namespace Sys2Proof.Machine

open Sys2Proof

/-! ### What the quiesce operations leave: memory, the boot state and one register -/

/-- The memory, the boot state and the register at `o` are as in `s`. -/
def HoldsAt (s : State) (o : Nat) (t : State) : Prop := t.mem = s.mem ∧ t.boot = s.boot ∧ rd t o = rd s o

namespace HoldsAt

section
variable {s t u : State} {o p : Nat} {v : Word}

protected theorem refl (s : State) (o : Nat) : HoldsAt s o s := ⟨rfl, rfl, rfl⟩

protected theorem wr (hne : o ≠ p) (h : HoldsAt s o t) : HoldsAt s o (wr p v t) := by
  obtain ⟨hm, hb, hr⟩ := h
  exact ⟨hm, hb, (rd_wr_other _ _ _ _ hne).trans hr⟩

/-- A register that neither the Keeper's operations nor the network engine write. -/
def Apart (o : Nat) : Prop := ¬ EventReg o ∧ ¬ KeeperRingReg o ∧ o ≠ rDDR_STATUS ∧ o ≠ rPWR_PLL ∧ o < 0x7000000

theorem apart_quiesceStatus : Apart rQUIESCE_STATUS := by
  refine ⟨?_, ?_, by decide, by decide, by decide⟩ <;>
    simp only [EventReg, KeeperRingReg, rKPR_EVT_NEXT, rQUIESCE_STATUS] <;> omega

theorem apart_winState {w : Nat} (hw : w < 4) : Apart (rWIN_STATE w) := by
  refine ⟨?_, ?_, ?_, ?_, ?_⟩ <;>
    simp only [EventReg, KeeperRingReg, rKPR_EVT_NEXT, rWIN_STATE, rDDR_STATUS, rPWR_PLL] <;> omega

protected theorem eventStable (ho : Apart o) : EventStable (HoldsAt s o) where
  wrEvent := fun hp h => h.wr (fun e => ho.1 (e ▸ hp))
  pcie := id
  fault := id
  irq := id

protected theorem powerStable (ho : Apart o) : PowerStable (HoldsAt s o) where
  wrPoll := fun hp h => h.wr (by
    obtain ⟨-, -, hddr, hpll, -⟩ := ho
    rintro rfl
    exact hp.elim hddr hpll)
  power := fun _ _ => id

protected theorem segmentStable (ho : Apart o) : SegmentStable (HoldsAt s o) :=
  { HoldsAt.eventStable ho, HoldsAt.powerStable ho with
    wrRing := fun hp h => h.wr (fun e => ho.2.1 (e ▸ hp))
    jobs := id
    win := id
    trigQuiet := fun _ _ _ => id
    trig := id
    frames := id }

protected theorem sendStable (ho : Apart o) : SendStable (HoldsAt s o) :=
  { HoldsAt.eventStable ho, HoldsAt.powerStable ho with
    wrNet := fun hp h => h.wr (Nat.ne_of_lt (Nat.lt_of_lt_of_le ho.2.2.2.2 hp))
    net := id
    free := id
    limits := id
    jobs := id
    freeSeq := id }

end

end HoldsAt

/-! ### Windows that close and triggers that stop (R84, R87) -/

/-- In a fold whose steps keep `I`, what each step establishes of its own element, and keeps of the others, holds of all after
it. -/
theorem forAll_establishes {α : Type} {I : State → Prop} {P : α → State → Prop} {f : α → State → State}
    (hI : ∀ {x s}, I s → I (f x s)) (hown : ∀ {x s}, I s → P x (f x s)) (hkeep : ∀ {x y s}, I s → P y s → P y (f x s))
    {l : List α} {y : α} (hy : y ∈ l) {s : State} (h : I s) : P y (forAll l f s) := by
  induction l generalizing s with
  | nil => simp at hy
  | cons x l ih =>
    obtain rfl | hy := List.mem_cons.mp hy
    · have hall : I (forAll l f (f y s)) ∧ P y (forAll l f (f y s)) :=
        forAll_stable (Q := fun s => I s ∧ P y s) (fun _ h => ⟨hI h.1, hkeep h.1 h.2⟩) ⟨hI h, hown h⟩
      exact hall.2
    · exact ih hy (hI h)

section
variable {Q : State → Prop} {s : State}

theorem SegmentStable.closeWin (hQ : SegmentStable Q) {w type : Nat} (hwin : ∀ {s v}, Q s → Q (wr (rWIN_STATE w) v s))
    (h : Q s) : Q (closeWin w type s) := by
  unfold Machine.closeWin
  extract_lets x inGap pos at_ dropped s1 s2 s3 clear s4 s5
  have h2 : Q s2 := by
    dsimp only [s2]
    split
    · exact hQ.kprRecord h
    · split
      exacts [hQ.setJob (hQ.kprRecord h), hQ.kprRecord h]
  have h5 : Q s5 := onlyIf_stable (hQ.raiseJ (by omega) (by decide)) (hQ.win (hwin h2))
  exact hQ.restartIdle (hQ.captureEnd (hQ.closeTrigs h5))

theorem SegmentStable.stopTriggers (hQ : SegmentStable Q) (h : Q s) : Q (stopTriggers s) :=
  forAll_stable (fun _ h => hQ.stopSeg (hQ.trig h)) h

/-- A window that is closed, but not as missed, is IDLE. -/
theorem winState_closeWin {w : Nat} (hw : w < 4) {type : Nat} (htype : type ≠ 5) (s : State) :
    winState (closeWin w type s) w = 0 := by
  unfold closeWin
  extract_lets x inGap pos at_ dropped s1 s2 s3 clear s4 s5
  have hQ : SegmentStable (HoldsAt s3 (rWIN_STATE w)) := HoldsAt.segmentStable (HoldsAt.apart_winState hw)
  have h3 : winState s3 w = 0 := (rdF_wrF_same (by omega) (by rw [if_neg htype]; decide)).trans (if_neg htype)
  obtain ⟨-, -, hr⟩ : HoldsAt s3 (rWIN_STATE w) (restartIdle (captureEnd (closeTrigs w x.jobId (decide (type ≠ 2)) pos s5))) :=
    hQ.restartIdle (hQ.captureEnd (hQ.closeTrigs (onlyIf_stable (hQ.raiseJ (by omega) (by decide)) (hQ.win (.refl s3 _)))))
  rw [winState, rdF, hr]
  exact h3

/-- The windows that are open close, forced (R54). -/
def closeAll (s : State) : State := forAll (upto 4) (fun w s => if winOpen s w then closeWin w 4 s else s) s

/-- Windows are closed one after the other, and all are closed at the end. -/
theorem winOpen_closeAll (s : State) {w : Nat} (hw : w < 4) : winOpen (closeAll s) w = false := by
  have hclosed {x : Nat} (hx : x < 4) (s : State) : winOpen (if winOpen s x then closeWin x 4 s else s) x = false := by
    split
    next => simp [winOpen, winState_closeWin hx]
    next h => simpa using h
  refine forAll_establishes (I := fun _ => True) (P := fun w s => w < 4 → winOpen s w = false) id
    (fun {x s} _ hx => hclosed hx s) ?_ (List.mem_range.mpr hw) trivial hw
  intro x y s _ h hy
  by_cases hxy : y = x
  · subst hxy
    exact hclosed hy s
  · split
    · have hne : rWIN_STATE y ≠ rWIN_STATE x := by simp only [rWIN_STATE]; omega
      obtain ⟨-, -, hr⟩ := (HoldsAt.segmentStable (HoldsAt.apart_winState hy)).closeWin (w := x) (type := 4)
        (fun h => h.wr hne) (.refl s _)
      rw [winOpen, winState, rdF, hr]
      exact h hy
    · exact h hy

/-! ### A segment that stops leaves its generator idle, and the others as they are -/

/-- What survives an event and the writes of the Keeper's ring survives a record. -/
theorem EventStable.kprRecord (hQ : EventStable Q) (hring : ∀ {s o v}, Q s → Q (wr o v s))
    {type unit trigNo curtNo flags jobId pos aon : Nat} (h : Q s) :
    Q (kprRecord type unit trigNo curtNo flags jobId pos aon s) :=
  hQ.assertRouted (hring (wrWords_stable (P := fun _ => True) (fun _ => hring) (fun _ _ => trivial) h))

/-- Jobs and generators are as in `s`. -/
def HoldsJobs (s t : State) : Prop := t.jobs = s.jobs ∧ t.keeper.trigs = s.keeper.trigs

theorem HoldsJobs.eventStable (s : State) : EventStable (HoldsJobs s) where
  wrEvent := fun _ => id
  pcie := id
  fault := id
  irq := id

theorem HoldsJobs.powerStable (s : State) : PowerStable (HoldsJobs s) where
  wrPoll := fun _ => id
  power := fun _ _ => id

theorem captureEnd_noCapture (h : ∀ k, k < 16 → (job s k).state ≠ .capturing) : captureEnd s = s := by
  refine forAll_stable (Q := fun t => t = s) (fun {k t} hk ht => ?_) rfl
  subst ht
  simp [h k (List.mem_range.mp hk)]

/-- The generator as the end of its segment leaves it. -/
def stopped (x : Trig) (g : Seg) : Trig := { x with seg := none, held := false, fin := some (g.win, g.jobId, g.issued) }

/-- With no job capturing, the end of a segment clears its generator, and leaves the jobs and the other generators. -/
theorem stopSeg_noCapture {t : Nat} (h : ∀ k, k < 16 → (job s k).state ≠ .capturing) :
    (stopSeg t s).jobs = s.jobs ∧ (trig (stopSeg t s) t).seg = none ∧ (trig (stopSeg t s) t).pends = (trig s t).pends ∧
    ∀ k, k ≠ t → trig (stopSeg t s) k = trig s k := by
  unfold stopSeg cutSeg
  cases hseg : (trig s t).seg with
  | none => exact ⟨rfl, hseg, rfl, fun _ _ => rfl⟩
  | some g =>
    simp only [Option.isSome_some, if_true]
    generalize hs1 : kprRecord 8 g.win t g.curt (2 * b2n g.encErr + 4 * b2n g.dropped) g.jobId g.lastPos g.lastAt s = s1
    obtain ⟨hj1, ht1⟩ : HoldsJobs s s1 := hs1 ▸ (HoldsJobs.eventStable s).kprRecord id ⟨rfl, rfl⟩
    have htrig (k : Nat) : trig s1 k = trig s k := by rw [trig, ht1, trig]
    have hcap : captureEnd (setTrig t (stopped (trig s1 t) g) s1) = setTrig t (stopped (trig s1 t) g) s1 :=
      captureEnd_noCapture fun k hk => by
        rw [job_congr (s := s) (show (setTrig t (stopped (trig s1 t) g) s1).jobs = s.jobs from hj1) k]
        exact h k hk
    change (restartIdle (captureEnd (setTrig t (stopped (trig s1 t) g) s1))).jobs = _ ∧
      (trig (restartIdle (captureEnd (setTrig t (stopped (trig s1 t) g) s1))) t).seg = _ ∧
      (trig (restartIdle (captureEnd (setTrig t (stopped (trig s1 t) g) s1))) t).pends = _ ∧
      ∀ k, k ≠ t → trig (restartIdle (captureEnd (setTrig t (stopped (trig s1 t) g) s1))) k = _
    rw [hcap]
    obtain ⟨hj, ht⟩ := (HoldsJobs.powerStable (setTrig t (stopped (trig s1 t) g) s1)).restartIdle ⟨rfl, rfl⟩
    have hidle (k : Nat) : trig (restartIdle (setTrig t (stopped (trig s1 t) g) s1)) k =
        if k = t then stopped (trig s t) g else trig s k := by
      rw [trig, ht, ← trig, trig_setTrig, htrig, htrig]
    refine ⟨hj.trans hj1, ?_, ?_, fun k hk => ?_⟩
    · rw [hidle, if_pos rfl]
      rfl
    · rw [hidle, if_pos rfl]
      rfl
    · rw [hidle, if_neg hk]

/-- With no job capturing, the stop of the triggers leaves the jobs, no segment, and no camera start waiting. -/
theorem stopTriggers_noCapture (h : ∀ k, k < 16 → (job s k).state ≠ .capturing) :
    (stopTriggers s).jobs = s.jobs ∧
    ∀ t, t < 8 → (trig (stopTriggers s) t).seg = none ∧ (trig (stopTriggers s) t).pends = [] := by
  have hstep {k t} (ht : t.jobs = s.jobs) := stopSeg_noCapture (t := k) (s := setTrig k { trig t k with pends := [] } t)
    fun i hi hcap => h i hi ((congrArg Job.state (job_congr ht i)).symm.trans hcap)
  have hjobs {k t} (ht : t.jobs = s.jobs) : (stopSeg k (setTrig k { trig t k with pends := [] } t)).jobs = s.jobs :=
    (hstep ht).1.trans ht
  refine ⟨forAll_stable (Q := fun t => t.jobs = s.jobs) (fun _ ht => hjobs ht) rfl, fun k hk => ?_⟩
  refine forAll_establishes (I := fun t => t.jobs = s.jobs) (P := fun k t => (trig t k).seg = none ∧ (trig t k).pends = []) hjobs
    (fun {k t} ht => ?_) (fun {k i t} ht hi => ?_) (List.mem_range.mpr hk) rfl
  · obtain ⟨-, hseg, hpends, -⟩ := hstep (k := k) ht
    exact ⟨hseg, hpends.trans (by rw [trig_setTrig, if_pos rfl])⟩
  · obtain ⟨-, hseg, hpends, hother⟩ := hstep (k := k) ht
    by_cases hik : i = k
    · subst hik
      exact ⟨hseg, hpends.trans (by rw [trig_setTrig, if_pos rfl])⟩
    · rw [hother i hik, trig_setTrig, if_neg hik]
      exact hi

end

/-! ### The quiesce commands (R53, R54) -/

theorem quiesceState_setQuiesce {n : Nat} (hn : n < 8) (s : State) : quiesceState (setQuiesce n s) = n :=
  rdF_wrF_same (by omega) hn

end Sys2Proof.Machine

namespace Sys2Proof.Machine

open Sys2Proof

/-! ### The quiesce commands (R53, R54) -/

section
variable {ps : List Part} {rs : List Nat} {ifc : Iface} {s t : State}

theorem Kept.boot {b : Boot} (hps : .boot ∈ ps) (h : Kept ps rs s t) : Kept ps rs s { t with boot := b } := by
  refine h.update rfl fun p hp => ?_
  cases p
  case boot => exact absurd hps hp
  all_goals rfl

theorem quiesceState_wrB_ctrl (i : Nat) (b : Bool) (s : State) : quiesceState (wrB rQUIESCE_CTRL i b s) = quiesceState s := by
  rw [quiesceState, rdF, wrB, rd_wr_other _ _ _ _ (by decide), ← rdF, ← quiesceState]

theorem reqEffect_request (hq : quiesceState s = 0) (hreq : rdB s rQUIESCE_CTRL 0 = false) :
    reqEffect true s = setQuiesce 1 (wrB rQUIESCE_CTRL 0 true s) := by
  simp [reqEffect, quiesceState_wrB_ctrl, hq, hreq]

theorem reqEffect_release (hlo : 1 ≤ quiesceState s) (hhi : quiesceState s ≤ 3) :
    reqEffect false s = setQuiesce 0 { wrB rQUIESCE_CTRL 0 false s with boot := { s.boot with forcing := false } } := by
  unfold reqEffect
  simp only [quiesceState_wrB_ctrl]
  split
  · omega
  · omega
  · rfl

theorem reqEffect_applying (on : Bool) (hq : quiesceState s = 4) :
    reqEffect on s = { wrB rQUIESCE_CTRL 0 on s with boot := { s.boot with releaseAfter := !on } } := by
  simp only [reqEffect, quiesceState_wrB_ctrl, hq]
  rfl

/-- A write of QUIESCE_CTRL whose APPLY bit is 0 does what its REQ bit says. -/
theorem logOnly_quiesceCtrl {v : Word} (hg : gate ifc true rQUIESCE_CTRL s = .open) (happly : bit v 1 = false) :
    LogOnly (reqEffect (bit v 0) (answer [] s)) (gatedWrite ifc rQUIESCE_CTRL v (quiesceCtrlEffect v) s) := by
  have hl := logOnly_gatedWrite (v := v) (eff := quiesceCtrlEffect v) hg (by decide) (by decide)
  simpa [quiesceCtrlEffect, happly, onlyIf] using hl

theorem quiesceState_logOnly (h : LogOnly s t) : quiesceState t = quiesceState s := by
  rw [quiesceState, rdF, h.2.2 _ (by decide), ← rdF, ← quiesceState]

theorem rdB_quiesceCtrl_logOnly (i : Nat) (h : LogOnly s t) : rdB t rQUIESCE_CTRL i = rdB s rQUIESCE_CTRL i := by
  rw [rdB, h.2.2 _ (by decide), ← rdB]

theorem rdB_ctrl_setQuiesce {n i : Nat} : rdB (setQuiesce n s) rQUIESCE_CTRL i = rdB s rQUIESCE_CTRL i := by
  rw [rdB, setQuiesce, wrF, rd_wr_other _ _ _ _ (by decide), ← rdB]

theorem rdB_ctrl_wrB (b : Bool) (s : State) : rdB (wrB rQUIESCE_CTRL 0 b s) rQUIESCE_CTRL 0 = b :=
  (rdB_wrB (by decide)).trans (if_pos rfl)

theorem quiesceRequest_idle (hg : gate ifc true rQUIESCE_CTRL s = .open) (hq : quiesceState s = 0)
    (hreq : rdB s rQUIESCE_CTRL 0 = false) :
    Completes (.quiesceRequest ifc) s fun t =>
      quiesceState t = 1 ∧ rdB t rQUIESCE_CTRL 0 = true ∧ KeptAccess [] [rQUIESCE_CTRL, rQUIESCE_STATUS] s t := by
  have hl := logOnly_quiesceCtrl (v := w32 1) hg (by decide)
  rw [show bit (w32 1) 0 = true by decide, reqEffect_request (s := answer [] s) hq hreq] at hl
  refine ⟨_, rfl, ?_, ?_, .of_effect (.wr (by simp) (.wr (by simp) (.refl _))) hl⟩
  · rw [quiesceState_logOnly hl, quiesceState_setQuiesce (by omega)]
  · rw [rdB_quiesceCtrl_logOnly 0 hl, rdB_ctrl_setQuiesce, rdB_ctrl_wrB]

theorem quiesceRelease_quiescing (hg : gate ifc true rQUIESCE_CTRL s = .open) (hlo : 1 ≤ quiesceState s)
    (hhi : quiesceState s ≤ 3) :
    Completes (.quiesceRelease ifc) s fun t =>
      quiesceState t = 0 ∧ rdB t rQUIESCE_CTRL 0 = false ∧ t.boot.forcing = false ∧
      KeptAccess [.boot] [rQUIESCE_CTRL, rQUIESCE_STATUS] s t := by
  have hl := logOnly_quiesceCtrl (v := w32 0) hg (by decide)
  rw [show bit (w32 0) 0 = false by decide, reqEffect_release (s := answer [] s) hlo hhi] at hl
  refine ⟨_, rfl, ?_, ?_, congrArg Boot.forcing hl.2.1,
    .of_effect (.wr (by simp) (.boot (by simp) (.wr (by simp) (.refl _)))) hl⟩
  · rw [quiesceState_logOnly hl, quiesceState_setQuiesce (by omega)]
  · rw [rdB_quiesceCtrl_logOnly 0 hl, rdB_ctrl_setQuiesce]
    exact rdB_ctrl_wrB false _

theorem quiesceRelease_applying (hg : gate ifc true rQUIESCE_CTRL s = .open) (hq : quiesceState s = 4) :
    Completes (.quiesceRelease ifc) s fun t =>
      quiesceState t = 4 ∧ t.boot.releaseAfter = true ∧ KeptAccess [.boot] [rQUIESCE_CTRL] s t := by
  have hl := logOnly_quiesceCtrl (v := w32 0) hg (by decide)
  rw [show bit (w32 0) 0 = false by decide, reqEffect_applying false (s := answer [] s) hq] at hl
  refine ⟨_, rfl, ?_, congrArg Boot.releaseAfter hl.2.1, .of_effect (.boot (by simp) (.wr (by simp) (.refl _))) hl⟩
  rw [quiesceState_logOnly hl]
  exact (quiesceState_wrB_ctrl 0 false _).trans hq

/-! ### The quiesce steps (R54) -/

theorem jobOpen_of_capturing {k : Nat} (h : (job s k).state = .capturing) : jobOpen s k = true := by simp [jobOpen, h]

theorem noCapture_of_noJobOpen (h : anyJobOpen s = false) (k : Nat) (hk : k < 16) : (job s k).state ≠ .capturing := by
  intro hcap
  simp only [anyJobOpen, List.any_eq_false] at h
  exact h k (List.mem_range.mpr hk) (jobOpen_of_capturing hcap)

theorem quiescedReached_spec (hq : quiesceState s = 1) (hwin : anyWinOpen s = false) (hjob : anyJobOpen s = false)
    (hforcing : s.boot.forcing = false) :
    Completes .quiescedReached s fun t =>
      quiesceState t = 2 ∧ (∀ k, k < 8 → (trig t k).seg = none ∧ (trig t k).pends = []) ∧ t.mem = s.mem ∧ t.jobs = s.jobs := by
  obtain ⟨hm, -, hr⟩ := (HoldsAt.segmentStable HoldsAt.apart_quiesceStatus).stopTriggers (.refl (setQuiesce 2 s) _)
  obtain ⟨hjobs, htrig⟩ := stopTriggers_noCapture (s := setQuiesce 2 s) (noCapture_of_noJobOpen hjob)
  refine ⟨stopTriggers (setQuiesce 2 s), ?_, ?_, htrig, hm, hjobs⟩
  · simp [exec, execQuiescedReached, hq, hwin, hjob, hforcing]
  · rw [quiesceState, rdF, hr]
    exact quiesceState_setQuiesce (by omega) s

/-- The lines under way of ports whose camera is in an open window are marked truncated (R54). -/
def markTruncated (s : State) : State :=
  onlyIf (anyWinOpen s) (forAll (upto 8) (fun p s => if (port s p).opened ∧ vpLine s p then portFlag p fTRUNCATED s else s)) s

/-- The jobs that live are abandoned (R54). -/
def abandonAll (cu : Nat) (s : State) : State := forAll (upto 16) (fun k s => if jobLive s k then abandonJob k cu s else s) s

theorem execQuiesceTimeout_forcing (cu : Fin 4) (hq : quiesceState s = 1) (hforcing : s.boot.forcing = false) :
    exec (.quiesceTimeout cu) s =
      .next (stopTriggers (abandonAll cu (closeAll (markTruncated { s with boot := { s.boot with forcing := true } })))) :=
  if_pos ⟨hq, by simp [hforcing]⟩

theorem HoldsAt.markTruncated {o : Nat} (h : HoldsAt s o t) : HoldsAt s o (markTruncated t) := by
  refine onlyIf_stable (fun h => forAll_stable (fun _ h => ?_) h) h
  split
  exacts [h, h]

section
variable {o : Nat} (ho : HoldsAt.Apart o)
include ho

theorem HoldsAt.abandonAll {cu : Nat} (h : HoldsAt s o t) : HoldsAt s o (abandonAll cu t) := by
  refine forAll_stable (fun _ h => ?_) h
  split
  exacts [(HoldsAt.sendStable ho).abandonJob h, h]

theorem HoldsAt.closeAll (hwin : ∀ w, o ≠ rWIN_STATE w) (h : HoldsAt s o t) : HoldsAt s o (closeAll t) := by
  refine forAll_stable (fun _ h => ?_) h
  split
  exacts [(HoldsAt.segmentStable ho).closeWin (fun h => h.wr (hwin _)) h, h]

end

/-- The expiry of the quiesce timer begins to force: the windows are closed, and the quiesce is still REQUESTED. -/
theorem quiesceTimeout_spec (cu : Fin 4) (hq : quiesceState s = 1) (hforcing : s.boot.forcing = false) :
    Completes (.quiesceTimeout cu) s fun t =>
      quiesceState t = 1 ∧ t.boot.forcing = true ∧ (∀ w, w < 4 → winOpen t w = false) ∧ t.mem = s.mem := by
  refine ⟨_, execQuiesceTimeout_forcing cu hq hforcing, ?_⟩
  generalize hs0 : { s with boot := { s.boot with forcing := true } } = s0
  have hafter {o u t} (ho : HoldsAt.Apart o) (h : HoldsAt u o t) : HoldsAt u o (stopTriggers (abandonAll cu t)) :=
    (HoldsAt.segmentStable ho).stopTriggers (.abandonAll ho h)
  have hst := HoldsAt.apart_quiesceStatus
  have hwin (w : Nat) : rQUIESCE_STATUS ≠ rWIN_STATE w := by simp only [rQUIESCE_STATUS, rWIN_STATE]; omega
  obtain ⟨hm, hb, hr⟩ := hafter hst (.closeAll hst hwin (.markTruncated (.refl s0 _)))
  subst hs0
  refine ⟨?_, by rw [hb], fun w hw => ?_, hm⟩
  · rw [quiesceState, rdF, hr]
    exact hq
  · obtain ⟨-, -, hrw⟩ := hafter (HoldsAt.apart_winState hw) (.refl (closeAll (markTruncated _)) _)
    rw [winOpen, winState, rdF, hrw]
    exact winOpen_closeAll _ hw

theorem quiescedForcedReached_spec (hq : quiesceState s = 1) (hforcing : s.boot.forcing = true) (hjob : anyJobOpen s = false) :
    Completes .quiescedForcedReached s fun t => quiesceState t = 3 ∧ t.boot.forcing = false ∧ t.mem = s.mem := by
  obtain ⟨hm, hb, hr⟩ := (HoldsAt.eventStable HoldsAt.apart_quiesceStatus).raiseE (num := 37) (dom := 7) (by omega) (by decide)
    (.refl (setQuiesce 3 { s with boot := { s.boot with forcing := false } }) _)
  refine ⟨_, if_pos ⟨hq, hforcing, by simp [hjob]⟩, ?_, by rw [hb]; rfl, hm⟩
  rw [quiesceState, rdF, hr]
  exact quiesceState_setQuiesce (by omega) _

end

/-- Settles O11: a request and a release act by the quiesce state; the steps of a quiesce close what is open and keep the memory. -/
theorem quiesceLifecycle : Obligations.QuiesceLifecycle :=
  ⟨fun _ _ => quiesceRequest_idle, fun _ _ => quiesceRelease_quiescing, fun _ _ => quiesceRelease_applying,
    fun _ => quiescedReached_spec, fun cu _ => quiesceTimeout_spec cu, fun _ => quiescedForcedReached_spec⟩

end Sys2Proof.Machine

namespace Sys2Proof.Machine

open Sys2Proof

/-! ### Two states in lockstep

`R s t` relates states that read alike and differ at most in how the register table stores what it reads, and in the answer of
the last access. An operation that acts on what it reads keeps them related: each gets one rule, named after it. With the
relation `s = t ∧ Q s` the rules say that `Q` survives the operation. -/

/-- A register above the blocks of the device and of the boot. -/
def High (o : Nat) : Prop := 0x200000 ≤ o

theorem High.lit {o : Nat} (h : Nat.ble 0x200000 o = true) : High o := Nat.le_of_ble_eq_true h

theorem High.add {o k : Nat} (h : High o) : High (o + k) := Nat.le_trans h (Nat.le_add_right o k)

/-- What a relation has to survive, for the operations below to keep it. -/
structure Lockstep (R : State → State → Prop) : Prop where
  same : ∀ {s t}, R s t → ∃ l r, t = { s with regs := l, resp := r }
  rd : ∀ {s t} {o : Nat}, R s t → rd t o = rd s o
  above : ∀ {s t} {p : Nat × Word → Bool}, (∀ e, p e = true → High e.1) → R s t → t.regs.filter p = s.regs.filter p
  wr : ∀ {s t o v}, High o → R s t → R (wr o v s) (wr o v t)
  filter : ∀ {s t} {p : Nat × Word → Bool}, (∀ e, p e = false → High e.1) → R s t →
    R { s with regs := s.regs.filter p } { t with regs := t.regs.filter p }
  others : ∀ {s t : State} {latches : Tab Word} {mem : Tab Byte} {poison : Tab Bool} {keeper : Keeper} {power : Power}
    {fault : FaultSt} {pcie : Pcie} {frames : Tab Nat} {ports : Tab Port} {pipeq : Tab (List PipeItem)} {pctx : Tab PCtx}
    {resv : List (Nat × Nat)} {ddrValid : Tab Bool} {ddr : Ddr} {free : Nat} {limits : Tab Nat}, R s t →
    R { s with latches := latches, mem := mem, poison := poison, keeper := keeper, power := power, fault := fault,
               pcie := pcie, frames := frames, ports := ports, pipeq := pipeq, pctx := pctx, resv := resv,
               ddrValid := ddrValid, ddr := ddr, free := free, limits := limits }
      { t with latches := latches, mem := mem, poison := poison, keeper := keeper, power := power, fault := fault,
               pcie := pcie, frames := frames, ports := ports, pipeq := pipeq, pctx := pctx, resv := resv,
               ddrValid := ddrValid, ddr := ddr, free := free, limits := limits }

namespace Lockstep

/-! ### Composition -/

section
variable {R : State → State → Prop} {s t a a' b b' : State}

theorem ite {c : Prop} [Decidable c] (ha : R a a') (hb : R b b') : R (if c then a else b) (if c then a' else b') := by
  split
  exacts [ha, hb]

theorem onlyIf {c : Bool} {f f' : State → State} (hf : ∀ {s t}, R s t → R (f s) (f' t)) (h : R s t) :
    R (onlyIf c f s) (onlyIf c f' t) :=
  ite (hf h) h

theorem forAllMem {α : Type} {l : List α} {f f' : α → State → State} (hf : ∀ {x s t}, x ∈ l → R s t → R (f x s) (f' x t))
    (h : R s t) : R (forAll l f s) (forAll l f' t) := by
  induction l generalizing s t with
  | nil => exact h
  | cons x l ih => exact ih (fun hx => hf (List.mem_cons_of_mem x hx)) (hf List.mem_cons_self h)

theorem forAll {α : Type} {l : List α} {f f' : α → State → State} (hf : ∀ {x s t}, R s t → R (f x s) (f' x t)) (h : R s t) :
    R (forAll l f s) (forAll l f' t) :=
  forAllMem (fun _ h => hf h) h

end

/-! ### Registers -/

section
variable {R : State → State → Prop} {s t : State} (hR : Lockstep R)
include hR

theorem rdB {o i : Nat} (h : R s t) : rdB t o i = rdB s o i := by rw [Machine.rdB, hR.rd h, ← Machine.rdB]

theorem rdF {o hi lo : Nat} (h : R s t) : rdF t o hi lo = rdF s o hi lo := by rw [Machine.rdF, hR.rd h, ← Machine.rdF]

theorem rdn {o : Nat} (h : R s t) : rdn t o = rdn s o := by rw [Machine.rdn, hR.rd h, ← Machine.rdn]

theorem rd64 {o : Nat} (h : R s t) : rd64 t o = rd64 s o := by
  rw [Machine.rd64, hR.rdn h, hR.rdn h, ← Machine.rd64]

variable {o : Nat} (ho : High o)
include ho

theorem wrn {v : Nat} (h : R s t) : R (wrn o v s) (wrn o v t) := hR.wr ho h

theorem wrF {hi lo v : Nat} (h : R s t) : R (wrF o hi lo v s) (wrF o hi lo v t) := by
  simp only [Machine.wrF, hR.rd h]
  exact hR.wr ho h

theorem wrB {i : Nat} {b : Bool} (h : R s t) : R (wrB o i b s) (wrB o i b t) := by
  simp only [Machine.wrB, hR.rd h]
  exact hR.wr ho h

theorem wr64 {v : Nat} (h : R s t) : R (wr64 o v s) (wr64 o v t) := hR.wrn ho.add (hR.wrn ho h)

theorem bump {n : Nat} (h : R s t) : R (bump o n s) (bump o n t) := by
  simp only [Machine.bump, hR.rdn h]
  exact hR.wrn ho h

theorem bumpW {n : Nat} (h : R s t) : R (bumpW o n s) (bumpW o n t) := by
  simp only [Machine.bumpW, hR.rdn h]
  exact hR.wrn ho h

theorem wrWords {vs : List Nat} (h : R s t) : R (wrWords o vs s) (wrWords o vs t) := by
  induction vs generalizing o s t with
  | nil => exact h
  | cons v vs ih => exact ih ho.add (hR.wrn ho h)

end

/-! ### Other fields -/

section
variable {R : State → State → Prop} {s t : State} (hR : Lockstep R)
include hR

theorem takeFree (h : R s t) : (takeFree t).1 = (takeFree s).1 ∧ R (takeFree s).2 (takeFree t).2 := by
  obtain ⟨l, r, rfl⟩ := hR.same h
  exact ⟨rfl, hR.others h⟩

theorem limited {key period : Nat} {f f' : State → State} (hf : ∀ {s t}, R s t → R (f s) (f' t)) (h : R s t) :
    R (limited key period f s) (limited key period f' t) := by
  obtain ⟨l, r, rfl⟩ := hR.same h
  exact ite (hf (hR.others h)) h

/-! ### Domains, events and interrupts -/

theorem d0InReset (h : R s t) : d0InReset t = d0InReset s := by
  obtain ⟨l, r, rfl⟩ := hR.same h
  rfl

theorem domOk {d : Nat} (h : R s t) : domOk t d = domOk s d := by
  have hd : domState t d = domState s d := hR.rdF h
  have h0 := hR.d0InReset h
  obtain ⟨l, r, rfl⟩ := hR.same h
  simp only [Machine.domOk, h0, hd]

theorem lanternActive {n : Nat} (h : R s t) : lanternActive t n = lanternActive s n := by
  simp only [Machine.lanternActive, hR.rdB h]

theorem isReady (h : R s t) : isReady t = isReady s := hR.rdB h

theorem timeLocked (h : R s t) : timeLocked t = timeLocked s := hR.rdB h

theorem dtime (h : R s t) : dtime t = dtime s := by
  obtain ⟨l, r, rfl⟩ := hR.same h
  rfl

theorem msixOpen {v : Nat} (h : R s t) : msixOpen t v = msixOpen s v := by
  have hup : pcieUp t = pcieUp s := by simp only [pcieUp, hR.domOk h, hR.rdB h]
  have hmask : Machine.rdB t (rMSIX_CTRL v) 0 = Machine.rdB s (rMSIX_CTRL v) 0 := hR.rdB h
  obtain ⟨l, r, rfl⟩ := hR.same h
  simp only [Machine.msixOpen, hup, hmask]

theorem assertSrc {n src : Nat} (h : R s t) : R (assertSrc n src s) (assertSrc n src t) := by
  simp only [Machine.assertSrc, hR.lanternActive h, hR.domOk h]
  exact ite (ite (hR.wrB (.add (.lit rfl)) h) (hR.wrB (.add (.lit rfl)) h)) h

theorem msixSend {v : Nat} (h : R s t) : R (msixSend v s) (msixSend v t) := by
  have hlo : Machine.rd64 t (rMSIX_MSG v 0) = Machine.rd64 s (rMSIX_MSG v 0) := hR.rd64 h
  have hdata : Machine.rdn t (rMSIX_MSG v 2) = Machine.rdn s (rMSIX_MSG v 2) := hR.rdn h
  simp only [Machine.msixSend, hlo, hdata]
  refine hR.bumpW (.add (.lit rfl)) (hR.wrB (.add (.lit rfl)) ?_)
  obtain ⟨l, r, rfl⟩ := hR.same h
  exact hR.others h

theorem msixAssert {v : Nat} (h : R s t) : R (msixAssert v s) (msixAssert v t) := by
  simp only [Machine.msixAssert, hR.msixOpen h]
  exact ite (hR.msixSend h) (hR.wrB (.add (.lit rfl)) h)

/-- A record goes into a ring whose next number a register holds. -/
theorem ringPut {next : Nat} {place : Nat → Nat} {ws : Nat → List Nat} (hn : High next) (hp : ∀ q, High (place q)) {s t : State}
    (h : R s t) :
    R (Machine.wrn next (Machine.rdn s next + 1) (Machine.wrWords (place (Machine.rdn s next)) (ws (Machine.rdn s next)) s))
      (Machine.wrn next (Machine.rdn t next + 1) (Machine.wrWords (place (Machine.rdn t next)) (ws (Machine.rdn t next)) t)) := by
  simp only [hR.rdn h]
  exact hR.wrn hn (hR.wrWords (hp _) h)

/-- Both Keeper cores see the fault interrupt. -/
theorem coreIrq (h : R s t) :
    R { s with keeper := { s.keeper with
          core0 := { s.keeper.core0 with faultIrq := true }, core1 := { s.keeper.core1 with faultIrq := true } } }
      { t with keeper := { t.keeper with
          core0 := { t.keeper.core0 with faultIrq := true }, core1 := { t.keeper.core1 with faultIrq := true } } } := by
  obtain ⟨l, r, rfl⟩ := hR.same h
  exact hR.others h

/-- A fatal event is latched. -/
theorem hotFatal {b : Bool} (h : R s t) :
    R { s with fault := { s.fault with fatal := true, hot := s.fault.hot || b } }
      { t with fault := { t.fault with fatal := true, hot := t.fault.hot || b } } := by
  obtain ⟨l, r, rfl⟩ := hR.same h
  exact hR.others h

/-- An event that carries no job is raised alike. -/
theorem raiseNow {e : Event} {dt : Nat} {unsure : Bool} (he : e.job = none) (h : R s t) :
    R (raiseNow e dt unsure s) (raiseNow e dt unsure t) := by
  have hreach (u : State) : reachJob e u = u := by simp only [reachJob, he]
  unfold Machine.raiseNow
  extract_lets cfg s1 s2 s3 s4 s5 s6 s7 f cfg' t1 t2 t3 t4 t5 t6 t7
  have hcfg : cfg' = cfg := hR.rd h
  clear_value cfg'
  subst hcfg
  have h1 : R s1 t1 := by
    dsimp only [s1, t1]
    rwa [hreach, hreach]
  have h2 : R s2 t2 := hR.bumpW (.add (.lit rfl)) (hR.bump (.add (.lit rfl)) h1)
  have h4 : R s4 t4 :=
    onlyIf (hR.ringPut (place := fun q => rFLT_FATAL_WORD (q % 16 * 8)) (ws := fun q => evtWords q e dt unsure) (.lit rfl)
      fun _ => .add (.lit rfl))
    (onlyIf (hR.ringPut (place := fun q => rFLT_EVT_WORD (q % 1024 * 8)) (ws := fun q => evtWords q e dt unsure) (.lit rfl)
      fun _ => .add (.lit rfl)) h2)
  have h6 : R s6 t6 := onlyIf hR.assertSrc (onlyIf hR.msixAssert h4)
  have h7 : R s7 t7 := onlyIf hR.coreIrq h6
  rw [hR.isReady h7]
  exact ite (hR.hotFatal h7) h7

theorem raiseEvt {e : Event} (he : e.job = none) (h : R s t) : R (raiseEvt e s) (raiseEvt e t) := by
  unfold Machine.raiseEvt
  simp only [hR.d0InReset h, hR.dtime h, hR.timeLocked h]
  have hnow := hR.raiseNow (dt := Machine.dtime s) (unsure := !Machine.timeLocked s) he h
  obtain ⟨l, r, rfl⟩ := hR.same h
  exact ite (ite (hR.others h) (hR.bump (.lit rfl) (hR.others h))) hnow

theorem raiseE {num dom : Nat} (h : R s t) : R (raiseE num dom s) (raiseE num dom t) := hR.raiseEvt rfl h

theorem decodeErr {who addr : Nat} (h : R s t) : R (decodeErr who addr s) (decodeErr who addr t) :=
  hR.limited (hR.raiseEvt rfl) (hR.bump (.add (.lit rfl)) h)

theorem agentDecodeErr {g : Agent} {a : Nat} (h : R s t) : R (agentDecodeErr g a s) (agentDecodeErr g a t) := by
  unfold Machine.agentDecodeErr
  split
  · exact hR.decodeErr h
  · obtain ⟨hw, hf⟩ := hR.takeFree h
    simp only [hw]
    exact hR.limited (hR.raiseEvt rfl) (hR.bump (.add (.lit rfl)) hf)

end

end Lockstep

end Sys2Proof.Machine

namespace Sys2Proof.Machine

open Sys2Proof

namespace Lockstep

section
variable {R : State → State → Prop} {s t : State} (hR : Lockstep R)
include hR

/-! ### Memory and its marks -/

theorem setByte {a : Nat} {b : Byte} (h : R s t) : R (setByte a b s) (setByte a b t) := by
  obtain ⟨l, r, rfl⟩ := hR.same h
  exact hR.others h

theorem setBytes {a : Nat} {bs : List Byte} (h : R s t) : R (setBytes a bs s) (setBytes a bs t) := by
  induction bs generalizing a s t with
  | nil => exact h
  | cons b bs ih => exact ih (hR.setByte h)

theorem setPoison {a : Nat} {b : Bool} (h : R s t) : R (setPoison a b s) (setPoison a b t) := by
  obtain ⟨l, r, rfl⟩ := hR.same h
  exact hR.others h

theorem markUnit {a len : Nat} {dirty : Bool} {u : Nat × Nat} (h : R s t) :
    R (markUnit a len dirty u s) (markUnit a len dirty u t) :=
  ite (hR.setPoison h) (ite (hR.setPoison h) h)

theorem unreserve {a len : Nat} (h : R s t) : R (unreserve a len s) (unreserve a len t) := by
  unfold Machine.unreserve
  obtain ⟨l, r, rfl⟩ := hR.same h
  exact ite h (hR.others h)

theorem unitsOf {a len : Nat} (h : R s t) : unitsOf t a len = unitsOf s a len := by
  simp only [Machine.unitsOf, poisonUnit, hR.rdB h]

theorem storeBytes {a : Nat} {bs : List Byte} {dirty : Bool} (h : R s t) :
    R (storeBytes a bs dirty s) (storeBytes a bs dirty t) := by
  simp only [Machine.storeBytes, hR.unitsOf h]
  exact forAll hR.markUnit (hR.setBytes (hR.unreserve h))

theorem decodesAll {a len : Nat} (h : R s t) : decodesAll t a len = decodesAll s a len := by
  simp only [Machine.decodesAll, decodes, bankAvail, hR.rdB h, hR.rdF h, hR.lanternActive h]

/-! ### Writes of DRAM -/

theorem dramTouch {a len : Nat} (h : R s t) : R (dramTouch a len s) (dramTouch a len t) := by
  obtain ⟨l, r, rfl⟩ := hR.same h
  exact hR.others h

theorem fullRetrain (h : R s t) : R (fullRetrain s) (fullRetrain t) := by
  refine hR.raiseE (hR.bump (.add (.lit rfl)) (hR.wrF (.lit rfl) ?_))
  obtain ⟨l, r, rfl⟩ := hR.same h
  exact hR.others h

theorem ddrState (h : R s t) : ddrState t = ddrState s := hR.rdF h

theorem dramWake (h : R s t) : R (dramWake s) (dramWake t) := by
  unfold Machine.dramWake
  simp only [hR.ddrState h]
  obtain ⟨l, r, rfl⟩ := hR.same h
  exact ite (hR.fullRetrain (hR.wrB (.lit rfl) (hR.others h))) h

theorem tokens {k : Nat} (h : R s t) : tokens t k = tokens s k := by simp only [Machine.tokens, hR.rdn h]

theorem drawOne {k n : Nat} (h : R s t) : R (drawOne k n s) (drawOne k n t) := by
  simp only [Machine.drawOne, hR.tokens h]
  exact ite (hR.wrn (.add (.lit rfl)) h) h

theorem drawAll {k a len : Nat} (h : R s t) : R (drawAll k a len s) (drawAll k a len t) := forAll hR.drawOne h

theorem transferHeld {isWrite : Bool} (h : R s t) : R (transferHeld isWrite s) (transferHeld isWrite t) := by
  have hhigh {m n : Nat} : R (highWater m n s) (highWater m n t) := by
    simp only [highWater, hR.rdF h]
    exact hR.wrn (.lit rfl) h
  unfold Machine.transferHeld
  obtain ⟨l, r, rfl⟩ := hR.same h
  exact hhigh

theorem dramCount {k len : Nat} (h : R s t) : R (dramCount k len s) (dramCount k len t) := by
  simp only [Machine.dramCount, hR.rd64 h]
  exact hR.wr64 (.add (.lit rfl)) h

theorem dramServed {k a len : Nat} (h : R s t) : R (dramServed k a len s) (dramServed k a len t) :=
  ite h (hR.dramCount (hR.drawAll (hR.dramTouch (hR.dramWake h))))

theorem dramInit {a len : Nat} (h : R s t) : R (dramInit a len s) (dramInit a len t) := by
  unfold Machine.dramInit
  simp only [hR.rdB h]
  obtain ⟨l, r, rfl⟩ := hR.same h
  exact ite h (hR.others h)

theorem partRefused {a : Nat} (h : R s t) : R (partRefused a s) (partRefused a t) :=
  hR.wr64 (.lit rfl) (hR.bump (.add (.lit rfl)) h)

theorem replaceWords {a n : Nat} (h : R s t) : R (replaceWords a n s) (replaceWords a n t) := by
  unfold Machine.replaceWords
  obtain ⟨l, r, rfl⟩ := hR.same h
  exact ite h (hR.others h)

theorem partBad {a len b : Nat} (h : R s t) : partBad t a len b = partBad s a len b := by
  obtain ⟨l, r, rfl⟩ := hR.same h
  rfl

theorem dramWrite {k a : Nat} {bs : List Byte} (h : R s t) : R (dramWrite k a bs s).2 (dramWrite k a bs t).2 := by
  by_cases hn : bs.length = 0
  · simp only [Machine.dramWrite, if_pos hn]
    exact h
  · have h1 : R (Machine.dramInit a bs.length (Machine.dramServed k a bs.length (Machine.transferHeld true s)))
        (Machine.dramInit a bs.length (Machine.dramServed k a bs.length (Machine.transferHeld true t))) :=
      hR.dramInit (hR.dramServed (hR.transferHeld h))
    simp only [Machine.dramWrite, if_neg hn, hR.rdB h1, hR.partBad h1]
    exact hR.storeBytes (hR.replaceWords (onlyIf hR.partRefused (onlyIf hR.partRefused h1)))

end

end Lockstep

end Sys2Proof.Machine

namespace Sys2Proof.Machine

open Sys2Proof

theorem tclear_eq_filter {α : Type} (lo hi : Nat) (l : Tab α) :
    tclear lo hi l = l.filter (fun e => !decide (lo ≤ e.1 ∧ e.1 < hi)) := by
  induction l with
  | nil => rfl
  | cons e l ih =>
    obtain ⟨k, v⟩ := e
    rw [tclear, List.filter_cons, ih]
    by_cases h : lo ≤ k ∧ k < hi
    · rw [if_pos h, decide_eq_true h]
      rfl
    · rw [if_neg h, decide_eq_false h]
      rfl

theorem high_groupCtrl (g : ShadowGroup) : High (groupCtrl g) := Nat.le_trans (by decide) (groupCtrl_high g)

theorem high_groupRanges {g : ShadowGroup} {r : Nat × Nat} (h : r ∈ groupRanges g) : High r.1 :=
  Nat.le_trans (by decide) (groupRanges_high h)

namespace Lockstep

section
variable {R : State → State → Prop} {s t : State} (hR : Lockstep R)
include hR

/-- The registers of a range above the boot block go back to their reset values. -/
theorem tclear {lo hi : Nat} (hlo : High lo) (h : R s t) :
    R { s with regs := tclear lo hi s.regs } { t with regs := tclear lo hi t.regs } := by
  simp only [tclear_eq_filter]
  refine hR.filter (fun e he => ?_) h
  simp only [Bool.not_eq_false', decide_eq_true_eq] at he
  exact Nat.le_trans hlo he.1

/-! ### The image's sections, routes and contexts (R104 to R118) -/

theorem sec {k : Nat} (h : R s t) : sec t k = sec s k := by
  obtain ⟨l, r, rfl⟩ := hR.same h
  rfl

theorem route {c : Nat} (h : R s t) : route t c = route s c := by rw [Machine.route, hR.sec h, ← Machine.route]

theorem ctxKind {c : Nat} (h : R s t) : ctxKind t c = ctxKind s c := by rw [Machine.ctxKind, hR.route h, ← Machine.ctxKind]

theorem ctxPort {c : Nat} (h : R s t) : ctxPort t c = ctxPort s c := by rw [Machine.ctxPort, hR.route h, ← Machine.ctxPort]

theorem ctxPipe {c : Nat} (h : R s t) : ctxPipe t c = ctxPipe s c := by rw [Machine.ctxPipe, hR.route h, ← Machine.ctxPipe]

theorem portCtx {p : Nat} (h : R s t) : portCtx t p = portCtx s p := by
  simp only [Machine.portCtx, hR.ctxKind h, hR.ctxPort h]

theorem vpCfg {p : Nat} (h : R s t) : vpCfg t p = vpCfg s p := hR.rd h

theorem vpLine {p : Nat} (h : R s t) : vpLine t p = vpLine s p := by rw [Machine.vpLine, hR.vpCfg h, ← Machine.vpLine]

theorem vpBits {p : Nat} (h : R s t) : vpBits t p = vpBits s p := by simp only [Machine.vpBits, hR.vpCfg h]

theorem vpTaps {p : Nat} (h : R s t) : vpTaps t p = vpTaps s p := by rw [Machine.vpTaps, hR.vpCfg h, ← Machine.vpTaps]

theorem vpWidth {p : Nat} (h : R s t) : vpWidth t p = vpWidth s p := by
  rw [Machine.vpWidth, vpSize, hR.rd h, ← vpSize, ← Machine.vpWidth]

theorem vpHeight {p : Nat} (h : R s t) : vpHeight t p = vpHeight s p := by
  rw [Machine.vpHeight, vpSize, hR.rd h, ← vpSize, ← Machine.vpHeight]

theorem ctxOn {c : Nat} (h : R s t) : ctxOn t c = ctxOn s c := by simp only [Machine.ctxOn, hR.rdB h, hR.ctxKind h]

theorem ctxState {c : Nat} (h : R s t) : ctxState t c = ctxState s c := hR.rdF h

theorem ctxSize {c : Nat} (h : R s t) : ctxSize t c = ctxSize s c := by
  simp only [Machine.ctxSize, hR.ctxKind h, hR.ctxPort h, hR.vpWidth h, hR.vpHeight h, hR.rd h]

theorem pxServed {c : Nat} (h : R s t) : pxServed t c = pxServed s c := by
  simp only [Machine.pxServed, pxEligible, ctxArea, hR.ctxSize h, hR.ctxKind h, hR.ctxPort h, hR.vpLine h, hR.rdB h,
    hR.ctxPipe h]

theorem statInvalid {c : Nat} (h : R s t) : statInvalid t c = statInvalid s c := by simp only [Machine.statInvalid, hR.rd h]

theorem pctx {c : Nat} (h : R s t) : pctx t c = pctx s c := by
  obtain ⟨l, r, rfl⟩ := hR.same h
  rfl

theorem setPctx {c : Nat} {x : PCtx} (h : R s t) : R (setPctx c x s) (setPctx c x t) := by
  obtain ⟨l, r, rfl⟩ := hR.same h
  exact hR.others h

theorem setCtxState {c v : Nat} (h : R s t) : R (setCtxState c v s) (setCtxState c v t) := hR.wrF (.add (.lit rfl)) h

theorem ctxRefresh {c : Nat} (h : R s t) : R (ctxRefresh c s) (ctxRefresh c t) := by
  simp only [Machine.ctxRefresh, hR.ctxOn h, hR.ctxState h]
  exact ite (ite h (hR.setCtxState h)) (ite (hR.setCtxState h) h)

/-! ### Measurement -/

theorem zStatus {c : Nat} (h : R s t) : R (zStatus c s) (zStatus c t) := by
  simp only [Machine.zStatus, zAt, hR.rdF h]
  exact hR.wrB (.add (.lit rfl)) h

theorem knotZ {c w u : Nat} (h : R s t) : knotZ t c w u = knotZ s c w u := by simp only [Machine.knotZ, hR.rdF h]

theorem zLoad {c : Nat} (h : R s t) : R (zLoad c s) (zLoad c t) := by
  have h1 : R (Machine.setPctx c { Machine.pctx s c with calDue := false } s)
      (Machine.setPctx c { Machine.pctx t c with calDue := false } t) := by
    rw [hR.pctx h]
    exact hR.setPctx h
  simp only [Machine.zLoad, hR.ctxSize h1, hR.rdn h1, hR.rdF h1]
  refine ite h1 (ite (hR.zStatus (forAll (fun h => ?_) h1)) (hR.raiseE h1))
  simp only [hR.knotZ h]
  exact hR.wrF (.add (.add (.lit rfl))) h

theorem measRefresh (h : R s t) : R (measRefresh s) (measRefresh t) := by
  refine forAll (fun {c s t} h => ?_) h
  have h1 : R (Machine.wrB (rMEAS_STATUS c) 2 (Machine.statInvalid s c) (Machine.wrB (rMEAS_STATUS c) 0 (Machine.pxServed s c) s))
      (Machine.wrB (rMEAS_STATUS c) 2 (Machine.statInvalid t c) (Machine.wrB (rMEAS_STATUS c) 0 (Machine.pxServed t c) t)) := by
    rw [hR.statInvalid h, hR.pxServed h]
    exact hR.wrB (.add (.lit rfl)) (hR.wrB (.add (.lit rfl)) h)
  simp only [hR.pxServed h1, hR.pctx h1]
  exact ite (hR.zLoad h1) h1

/-! ### Shadowed registers -/

theorem copyShadow {r : Nat × Nat} (hr : High r.1) (h : R s t) : R (copyShadow r s) (copyShadow r t) := by
  have hin : t.regs.filter (fun e => decide (r.1 ≤ e.1 ∧ e.1 < r.2)) = s.regs.filter (fun e => decide (r.1 ≤ e.1 ∧ e.1 < r.2)) :=
    hR.above (fun e he => Nat.le_trans hr (of_decide_eq_true he).1) h
  unfold Machine.copyShadow
  simp only [hin]
  refine forAllMem (fun {e s t} he h => hR.wr (.add ?_) h) (hR.tclear (.add hr) h)
  exact Nat.le_trans hr (of_decide_eq_true (List.mem_filter.mp he).2).1

theorem ctxRestart {c : Nat} {u v : State} (hold : R s t) (h : R u v) : R (ctxRestart c s u) (ctxRestart c t v) := by
  simp only [Machine.ctxRestart, hR.rdB hold, hR.rdB h]
  refine onlyIf (fun {s t} h => ?_) (forAll (onlyIf fun h => ?_) h)
  · obtain ⟨l, r, rfl⟩ := hR.same h
    exact hR.others h
  · exact hR.wr64 (.add (.add (.lit rfl))) (hR.wr64 (.add (.add (.lit rfl))) h)

theorem shadowApply {g : ShadowGroup} (h : R s t) : R (shadowApply g s) (shadowApply g t) := by
  have h1 : R (Machine.wrB (groupCtrl g) 0 false (Machine.forAll (groupRanges g) Machine.copyShadow s))
      (Machine.wrB (groupCtrl g) 0 false (Machine.forAll (groupRanges g) Machine.copyShadow t)) :=
    hR.wrB (high_groupCtrl g) (forAllMem (fun hr h => hR.copyShadow (high_groupRanges hr) h) h)
  cases g with
  | ctx c => exact hR.ctxRestart h h1
  | vport p => exact h1
  | meas c => exact h1

theorem shadowBoundary {g : ShadowGroup} (h : R s t) : R (shadowBoundary g s) (shadowBoundary g t) := by
  simp only [Machine.shadowBoundary, hR.rdB h]
  exact ite (hR.shadowApply h) h

theorem ctxBoundary {c : Nat} (h : R s t) : R (ctxBoundary c s) (ctxBoundary c t) :=
  hR.measRefresh (hR.ctxRefresh (hR.shadowBoundary (hR.shadowBoundary h)))

end

end Lockstep

end Sys2Proof.Machine

namespace Sys2Proof.Machine

open Sys2Proof

namespace Lockstep

section
variable {R : State → State → Prop} {s t : State} (hR : Lockstep R)
include hR

/-! ### Ports and what they hand on (R104 to R111) -/

theorem port {p : Nat} (h : R s t) : port t p = port s p := by
  obtain ⟨l, r, rfl⟩ := hR.same h
  rfl

theorem setPort {p : Nat} {x : Port} (h : R s t) : R (setPort p x s) (setPort p x t) := by
  obtain ⟨l, r, rfl⟩ := hR.same h
  exact hR.others h

theorem setFrames {f : Tab Nat} (h : R s t) : R { s with frames := f } { t with frames := f } := by
  obtain ⟨l, r, rfl⟩ := hR.same h
  exact hR.others h

theorem portFlag {p b : Nat} (h : R s t) : R (portFlag p b s) (portFlag p b t) := by
  simp only [Machine.portFlag, hR.port h]
  exact hR.setPort h

theorem pushPipe {c : Nat} {x : PipeItem} (h : R s t) : R (pushPipe c x s) (pushPipe c x t) := by
  obtain ⟨l, r, rfl⟩ := hR.same h
  exact hR.others h

/-- What goes to a pipe goes where the port delivers to. -/
theorem pushTo {o : Option Nat} {x : PipeItem} (h : R s t) :
    R (match o with | some c => Machine.pushPipe c x s | none => s) (match o with | some c => Machine.pushPipe c x t | none => t) := by
  cases o with
  | none => exact h
  | some c => exact hR.pushPipe h

theorem portState {p : Nat} (h : R s t) : portState t p = portState s p := hR.rdF h

theorem setPortState {p v : Nat} (h : R s t) : R (setPortState p v s) (setPortState p v t) := hR.wrF (.add (.lit rfl)) h

theorem rawOn {p : Nat} (h : R s t) : rawOn t p = rawOn s p := by simp only [Machine.rawOn, hR.rdF h, hR.rdB h]

/-- A pair counts on by `n`. -/
theorem count64 {o n : Nat} (ho : High o) (h : R s t) :
    R (Machine.wr64 o (Machine.rd64 s o + n) s) (Machine.wr64 o (Machine.rd64 t o + n) t) := by
  have hv : Machine.rd64 t o = Machine.rd64 s o := hR.rd64 h
  rw [hv]
  exact hR.wr64 ho h

theorem rawStore {a : Nat} {bs : List Byte} (h : R s t) : R (rawStore a bs s) (rawStore a bs t) := by
  simp only [Machine.rawStore, hR.decodesAll h]
  exact ite (hR.agentDecodeErr h) (ite (hR.dramWrite h) h)

theorem rawLine {p : Nat} {px : List Nat} (h : R s t) : R (rawLine p px s) (rawLine p px t) := by
  simp only [Machine.rawLine, rawBytes, hR.rawOn h, hR.rdF h, hR.vpBits h, hR.rdB h]
  rw [hR.rd64 h, hR.rd64 h]
  exact ite h (hR.count64 (.add (.lit rfl)) (ite (hR.rawStore (hR.rawStore h)) (hR.rawStore h)))

theorem fifoLevel {p : Nat} (h : R s t) : R (fifoLevel p s) (fifoLevel p t) := by
  have hq (c : Nat) : pipeQueue t c = pipeQueue s c := by
    obtain ⟨l, r, rfl⟩ := hR.same h
    rfl
  simp only [Machine.fifoLevel, hR.portCtx h, fifoBytes, hR.vpBits h, hq, hR.rdF h]
  exact hR.wrF (.add (.lit rfl)) (hR.wrF (.add (.lit rfl)) h)

theorem deliver {p : Nat} {x : Line} (h : R s t) : R (deliver p x s) (deliver p x t) := by
  simp only [Machine.deliver, hR.port h]
  exact hR.fifoLevel (hR.rawLine (hR.pushTo (hR.setPort h)))

theorem trig {k : Nat} (h : R s t) : trig t k = trig s k := by
  obtain ⟨l, r, rfl⟩ := hR.same h
  rfl

theorem segTriggers {p : Nat} (h : R s t) : segTriggers t p = segTriggers s p := by
  simp only [Machine.segTriggers, hR.port h, hR.trig h]

theorem releaseExtra {p : Nat} (h : R s t) : R (releaseExtra p s) (releaseExtra p t) := by
  simp only [Machine.releaseExtra, hR.segTriggers h, hR.port h]
  exact forAll hR.deliver (hR.setPort h)

theorem dropExtra {p : Nat} (h : R s t) : R (dropExtra p s) (dropExtra p t) := by
  have h1 := hR.releaseExtra (p := p) h
  simp only [Machine.dropExtra, hR.port h1]
  exact onlyIf (fun h => hR.portFlag (hR.bump (.add (.add (.lit rfl))) h)) h1

/-! ### Frames that close and open (R106 to R110) -/

theorem frameExpected {p : Nat} (h : R s t) : frameExpected t p = frameExpected s p := by
  simp only [Machine.frameExpected, hR.vpLine h, hR.segTriggers h, hR.vpHeight h]

theorem closeFrame {p next : Nat} (h : R s t) : R (closeFrame p next s) (closeFrame p next t) := by
  unfold Machine.closeFrame
  extract_lets s1 exp s2 x q s3 f g s4 s5 s6 t1 exp' t2 x' q' t3 f' g' t4 t5 t6
  have h1 : R s1 t1 := hR.dropExtra h
  have hexp : exp' = exp := hR.frameExpected h1
  have h2 : R s2 t2 := by
    dsimp only [s2, t2]
    rw [hexp, hR.port h1]
    exact onlyIf hR.portFlag h1
  have hx : x' = x := hR.port h2
  have hq : q' = q := hR.rdn h2
  obtain ⟨hw3, h3⟩ : t3.1 = s3.1 ∧ R s3.2 t3.2 := hR.takeFree h2
  obtain ⟨hwf, hf⟩ : f'.1 = f.1 ∧ R f.2 f'.2 := hR.takeFree h3
  have hg : R g g' := by
    dsimp only [g, g']
    rw [hR.portCtx h2, hx, hq, hexp, hw3, hwf]
    split
    exacts [hR.wrWords (.add (.add (.lit rfl))) h2, hR.wrWords (.add (.add (.lit rfl))) hf]
  have h4 : R s4 t4 := by
    dsimp only [s4, t4]
    rw [hq]
    exact hR.bump (.add (.add (.lit rfl))) (hR.wrn (.add (.lit rfl)) hg)
  have h5 : R s5 t5 := by
    dsimp only [s5, t5]
    rw [hx]
    exact hR.pushTo h4
  have h6 : t6 = s6 := hR.port h5
  rw [h6]
  exact hR.setPortState (hR.setPort h5)

theorem closeSegment {p next : Nat} (h : R s t) : R (closeSegment p next s) (closeSegment p next t) := by
  have h1 := hR.releaseExtra (p := p) h
  simp only [Machine.closeSegment, hR.segTriggers h1, hR.port h1]
  exact hR.closeFrame (onlyIf (fun h => hR.raiseE (hR.bump (.add (.add (.lit rfl))) (hR.portFlag h))) h1)

theorem closeArea {p next : Nat} (h : R s t) : R (closeArea p next s) (closeArea p next t) := by
  simp only [Machine.closeArea, hR.port h, hR.vpHeight h]
  exact hR.closeFrame (onlyIf hR.portFlag h)

theorem closeOpen {p next : Nat} (h : R s t) : R (closeOpen p next s) (closeOpen p next t) := by
  simp only [Machine.closeOpen, hR.port h, hR.vpLine h]
  exact ite h (ite (hR.closeSegment h) (hR.closeArea h))

theorem portMode {p : Nat} (h : R s t) : R (portMode p s) (portMode p t) := by
  have hbad : vpInvalid t p = vpInvalid s p := by
    simp only [vpInvalid, hR.vpCfg h, hR.vpTaps h, hR.vpWidth h, hR.vpLine h, hR.vpHeight h]
  have h1 : R (Machine.wrB (rVP_STATUS p) 2 (vpInvalid s p) s) (Machine.wrB (rVP_STATUS p) 2 (vpInvalid s p) t) :=
    hR.wrB (.add (.lit rfl)) h
  simp only [Machine.portMode, hbad, hR.rdB h1, hR.portState h1]
  exact ite (hR.setPortState h1) (ite (hR.setPortState h1) h1)

theorem openSegOf {p : Nat} (h : R s t) : openSegOf t p = openSegOf s p := by
  simp only [Machine.openSegOf, hR.portCtx h, hR.trig h]

theorem ctxRegs {c : Nat} (h : R s t) : ctxRegs t c = ctxRegs s c := by
  have hcut {lo hi : Nat} (hlo : High lo) :
      t.regs.filter (fun e => decide (lo + 0x8000 ≤ e.1 ∧ e.1 < hi + 0x8000)) =
        s.regs.filter (fun e => decide (lo + 0x8000 ≤ e.1 ∧ e.1 < hi + 0x8000)) :=
    hR.above (fun e he => Nat.le_trans hlo.add (of_decide_eq_true he).1) h
  simp only [Machine.ctxRegs, hcut (lo := rCTX_CFG c) (.add (.lit rfl)), hcut (lo := rSTAT_CFG c) (.add (.lit rfl))]

theorem frames (h : R s t) : t.frames = s.frames := by
  obtain ⟨l, r, rfl⟩ := hR.same h
  rfl

theorem openFrame {p : Nat} {sg : Option (Nat × Nat × Nat × Bool)} {at_ : Nat} (h : R s t) :
    R (openFrame p sg at_ s) (openFrame p sg at_ t) := by
  unfold Machine.openFrame
  extract_lets s1 ctx s2 s3 s4 front size frame dest s5 s6 t1 ctx' t2 t3 t4 front' size' frame' dest' t5 t6
  have h1 : R s1 t1 := hR.shadowBoundary h
  have hctx : ctx' = ctx := hR.portCtx h1
  clear_value ctx ctx'
  subst hctx
  have h2 : R s2 t2 := by
    dsimp only [s2, t2]
    split
    exacts [hR.ctxBoundary h1, h1]
  have h3 : R s3 t3 := hR.portMode h2
  have h4 : R s4 t4 := by
    dsimp only [s4, t4]
    rw [hR.frames h3]
    split
    · exact hR.setFrames h3
    · exact h3
  have hfront : front' = front := by
    dsimp only [front, front']
    rw [hR.openSegOf h4]
  have hframe : frame' = frame := by
    dsimp only [frame, frame']
    rw [hR.frames h4]
  have hdest : dest' = dest := by
    dsimp only [dest, dest']
    simp only [hR.rdB h4, hR.ctxOn h4]
  have hsize : size' = size := by
    dsimp only [size, size']
    rw [hR.rdF h4]
  have h5 : R s5 t5 := by
    dsimp only [s5, t5]
    rw [hfront, hframe, hdest, hsize, hR.rawOn h4, hR.rd64 h4, hR.port h4]
    exact hR.setPort h4
  have h6 : R s6 t6 := hR.setPortState (hR.wrB (.add (.lit rfl)) h5)
  clear_value dest dest'
  subst hdest
  rw [hR.portState h3]
  refine ite h3 ?_
  split
  · exact h6
  · have henc : encSnapshot t6 = encSnapshot s6 := List.map_congr_left fun n _ => hR.rdn h6
    rw [hframe, hfront, hR.ctxRegs h6, hR.vpWidth h6, hR.vpLine h6, hR.vpHeight h6, hR.vpBits h6, hR.openSegOf h6,
      hR.pxServed h6, henc]
    exact hR.pushPipe h6

/-! ### Admission (R105, R109) -/

theorem settle {p : Nat} (h : R s t) : R (settle p s) (settle p t) := by
  simp only [Machine.settle, hR.port h]
  refine ite ?_ h
  unfold startNext
  split
  exacts [hR.closeOpen h, hR.openFrame (hR.closeOpen h)]

theorem cutFrame {p reason next : Nat} (h : R s t) : R (cutFrame p reason next s) (cutFrame p reason next t) := by
  have h1 := hR.settle (p := p) h
  simp only [Machine.cutFrame, hR.port h1]
  exact ite (hR.closeFrame (hR.portFlag (hR.portFlag h1))) h1

theorem portSet {p : Nat} (h : R s t) : R (portSet p s) (portSet p t) := by
  simp only [Machine.portSet, hR.rdB h]
  exact hR.portMode (ite h (hR.cutFrame h))

theorem portRefresh {p : Nat} (h : R s t) : R (portRefresh p s) (portRefresh p t) := by
  have h1 := hR.portSet (p := p) h
  simp only [Machine.portRefresh, hR.portState h1]
  exact ite (hR.portSet (hR.shadowBoundary h1)) h1

theorem admitApply {p : Nat} {v : Word} (h : R s t) : R (admitApply p v s) (admitApply p v t) := by
  unfold Machine.admitApply
  extract_lets old s1 s2 x s3 old' t1 t2 x' t3
  have hold : old' = old := hR.rd h
  have h2 : R s2 t2 := by
    dsimp only [s2, t2]
    rw [hold]
    exact onlyIf (hR.wr64 (.add (.lit rfl))) (hR.wr (.add (.lit rfl)) h)
  have hx : x' = x := hR.port h2
  refine hR.portRefresh ?_
  dsimp only [s3, t3]
  rw [hx, hR.port h2]
  split
  · exact ite (hR.pushPipe (hR.setPort h2)) h2
  · exact h2

end

end Lockstep

/-! ### The contexts and routes that an image brings (R38, R208) -/

namespace Lockstep

section
variable {R : State → State → Prop} {s t : State} (hR : Lockstep R)
include hR

theorem loadCtxWord {c k v : Nat} (h : R s t) : R (loadCtxWord c k v s) (loadCtxWord c k v t) := by
  unfold Machine.loadCtxWord
  dsimp only
  refine ite h ?_
  have h1 : R (Machine.wr (rCTX_CFG c + 4 * k) ((Machine.rd s (rCTX_CFG c + 4 * k) &&& ~~~ctxMask (rCTX_CFG c + 4 * k)) |||
        (w32 v &&& ctxMask (rCTX_CFG c + 4 * k))) s)
      (Machine.wr (rCTX_CFG c + 4 * k) ((Machine.rd t (rCTX_CFG c + 4 * k) &&& ~~~ctxMask (rCTX_CFG c + 4 * k)) |||
        (w32 v &&& ctxMask (rCTX_CFG c + 4 * k))) t) := by
    rw [hR.rd h]
    exact hR.wr (.add (.add (.lit rfl))) h
  rw [hR.rd h1]
  exact hR.wr (.add (.add (.add (.lit rfl)))) h1

theorem clearCtxTables {c : Nat} (h : R s t) : R (clearCtxTables c s) (clearCtxTables c t) :=
  hR.tclear (.add (.add (.lit rfl))) (hR.tclear (.add (.add (.lit rfl))) h)

theorem loadContexts (h : R s t) : R (loadContexts s) (loadContexts t) := by
  unfold Machine.loadContexts
  refine hR.measRefresh (forAll hR.ctxRefresh (forAll (fun {n s t} h => ?_) (forAll (fun {c s t} h => ?_) h)))
  · have hv : portDefault t n = portDefault s n := by simp only [portDefault, hR.sec h]
    rw [hv]
    exact hR.admitApply h
  · refine hR.ctxRestart h (hR.clearCtxTables (forAll (fun {k s t} h => ?_) h))
    have hv : ctxDefault t c k = ctxDefault s c k := by simp only [ctxDefault, hR.sec h]
    rw [hv]
    exact hR.loadCtxWord h

theorem loadRoutesD2 (h : R s t) : R (loadRoutesD2 s) (loadRoutesD2 t) := by
  refine forAll (fun {c s t} h => ?_) h
  simp only [hR.route h]
  exact hR.wrn (.add (.lit rfl)) h

theorem loadRoutesD3 (h : R s t) : R (loadRoutesD3 s) (loadRoutesD3 t) := by
  unfold Machine.loadRoutesD3
  refine forAll (fun {p s t} h => ?_) (forAll (fun {c s t} h => ?_) h)
  · simp only [hR.ctxKind h, hR.ctxPipe h, hR.sec h]
    exact hR.wrn (.add (.lit rfl)) (hR.wrn (.add (.lit rfl)) h)
  · have h1 : R (Machine.wrF (rCTX_CFG c + 0x8000) 5 4 (Machine.ctxKind s c) s)
        (Machine.wrF (rCTX_CFG c + 0x8000) 5 4 (Machine.ctxKind t c) t) := by
      rw [hR.ctxKind h]
      exact hR.wrF (.add (.add (.lit rfl))) h
    rw [hR.ctxKind h] at h1 ⊢
    exact hR.wrF (.add (.lit rfl)) h1

end

end Lockstep

end Sys2Proof.Machine

namespace Sys2Proof.Machine

open Sys2Proof

/-! ### Register tables that read alike

A table that is not in canonical form may hold, behind the entry of a register, entries that no read reaches. A write of that
register with the value it has drops them, and nothing else. -/

/-- The second table is the first without entries that the one at `c` hides. -/
inductive Junk (c : Nat) : Tab Word → Tab Word → Prop
  | refl (l : Tab Word) : Junk c l l
  | there {e : Nat × Word} {l m : Tab Word} : e.1 < c → Junk c l m → Junk c (e :: l) (e :: m)
  | here {v : Word} {junk l : Tab Word} : (∀ e ∈ junk, e.1 ≤ c) → Junk c ((c, v) :: (junk ++ l)) ((c, v) :: l)

section
variable {α : Type} {d : α} {junk l : Tab α} {c o : Nat}

theorem tget_append_lt (hj : ∀ e ∈ junk, e.1 ≤ c) (ho : c < o) : tget d (junk ++ l) o = tget d l o := by
  induction junk with
  | nil => rfl
  | cons e junk ih =>
    obtain ⟨he, hj⟩ := List.forall_mem_cons.mp hj
    rw [List.cons_append, tget, if_neg (by omega), if_neg (by omega), ih hj]

theorem tput_append_lt [DecidableEq α] {v : α} (hj : ∀ e ∈ junk, e.1 ≤ c) (ho : c < o) :
    tput d (junk ++ l) o v = junk ++ tput d l o v := by
  induction junk with
  | nil => rfl
  | cons e junk ih =>
    obtain ⟨he, hj⟩ := List.forall_mem_cons.mp hj
    rw [List.cons_append, tput, if_pos (by omega), ih hj]
    rfl

theorem exists_tdrop (k : Nat) (l : Tab α) : ∃ junk, (∀ e ∈ junk, e.1 ≤ k) ∧ l = junk ++ tdrop k l := by
  induction l with
  | nil => exact ⟨[], by simp, rfl⟩
  | cons e l ih =>
    obtain ⟨junk, hj, hl⟩ := ih
    by_cases h : k < e.1
    · exact ⟨[], by simp, by simp [tdrop, h]⟩
    · refine ⟨e :: junk, List.forall_mem_cons.mpr ⟨by omega, hj⟩, ?_⟩
      rw [tdrop, if_neg h, List.cons_append, ← hl]

end

namespace Junk

section
variable {c : Nat} {l m : Tab Word}

/-- A write with the value that the register has drops the entries that it hides. -/
theorem of_tput {d v : Word} (hv : v ≠ d) (h : tget d l c = v) : Junk c l (tput d l c v) := by
  induction l with
  | nil => exact absurd h.symm hv
  | cons e l ih =>
    rw [tget] at h
    rw [tput]
    by_cases hlt : e.1 < c
    · rw [if_neg (by omega), if_neg (by omega)] at h
      rw [if_pos hlt]
      exact .there hlt (ih h)
    · by_cases heq : c = e.1
      · rw [if_pos heq] at h
        obtain ⟨junk, hj, hl⟩ := exists_tdrop c l
        rw [if_neg hlt, if_neg hv, tdrop, if_neg (by omega)]
        obtain rfl : e = (c, v) := Prod.ext heq.symm h
        conv => lhs; rw [hl]
        exact .here hj
      · rw [if_neg heq, if_pos (by omega)] at h
        exact absurd h.symm hv

theorem tget {d : Word} {o : Nat} (h : Junk c l m) : tget d m o = tget d l o := by
  induction h with
  | refl => rfl
  | there _ _ ih => simp only [Machine.tget, ih]
  | here hj =>
    simp only [Machine.tget]
    split
    · rfl
    · split
      · rfl
      · exact (tget_append_lt hj (by omega)).symm

theorem tput {d v : Word} {o : Nat} (ho : c < o) (h : Junk c l m) : Junk c (tput d l o v) (tput d m o v) := by
  induction h with
  | refl => exact .refl _
  | there he _ ih =>
    rw [Machine.tput, Machine.tput, if_pos (by omega), if_pos (by omega)]
    exact .there he ih
  | here hj =>
    rw [Machine.tput, Machine.tput, if_pos ho, if_pos ho, tput_append_lt hj ho]
    exact .here hj

theorem filter {p : Nat × Word → Bool} (hp : ∀ e, p e = false → c < e.1) (h : Junk c l m) :
    Junk c (l.filter p) (m.filter p) := by
  have hkeep {e : Nat × Word} (he : e.1 ≤ c) : p e = true := by
    by_contra hne
    have := hp e (by simpa using hne)
    omega
  induction h with
  | refl => exact .refl _
  | there he _ ih =>
    rw [List.filter_cons_of_pos (hkeep (by omega)), List.filter_cons_of_pos (hkeep (by omega))]
    exact .there he ih
  | here hj =>
    rw [List.filter_cons_of_pos (hkeep (by simp)), List.filter_cons_of_pos (hkeep (by simp)), List.filter_append]
    exact .here fun e he => hj e (List.mem_of_mem_filter he)

theorem filter_above {p : Nat × Word → Bool} (hp : ∀ e, p e = true → c < e.1) (h : Junk c l m) : m.filter p = l.filter p := by
  induction h with
  | refl => rfl
  | there _ _ ih => simp only [List.filter_cons, ih]
  | here hj =>
    have hnone : ∀ e ∈ _, ¬ p e = true := fun e he hpe => absurd (hp e hpe) (by have := hj e he; omega)
    simp only [List.filter_cons, List.filter_append, List.filter_eq_nil_iff.mpr hnone, List.nil_append]

end

end Junk

/-- The states differ in the answer of the last access and in register entries that QUIESCE_CTRL hides. -/
def Alike (s t : State) : Prop := ∃ l r, t = { s with regs := l, resp := r } ∧ Junk rQUIESCE_CTRL s.regs l

theorem Alike.lockstep : Lockstep Alike where
  same := fun ⟨l, r, h, _⟩ => ⟨l, r, h⟩
  rd := fun ⟨l, r, h, hl⟩ => by
    subst h
    exact hl.tget
  above := fun hp ⟨l, r, h, hl⟩ => by
    subst h
    exact hl.filter_above fun e he => Nat.lt_of_lt_of_le (by decide) (hp e he)
  wr := fun ho ⟨l, r, h, hl⟩ => by
    subst h
    exact ⟨_, r, rfl, hl.tput (Nat.lt_of_lt_of_le (by decide) ho)⟩
  filter := fun hp ⟨l, r, h, hl⟩ => by
    subst h
    exact ⟨_, r, rfl, hl.filter fun e he => Nat.lt_of_lt_of_le (by decide) (hp e he)⟩
  others := fun ⟨l, r, h, hl⟩ => by
    subst h
    exact ⟨l, r, rfl, hl⟩

/-- The blocks of the video domain lie above those of the device and of the boot. -/
theorem le_of_blockDom_three {b : Nat} (h : blockDom b = some 3) : 0x10 ≤ b := by
  by_contra hb
  have hlt : b < 0x10 := Nat.lt_of_not_le hb
  interval_cases b <;> exact absurd h (by decide)

/-! ### What an image is judged by (R37, R45, R193) -/

section
variable {s t : State} (h : Alike s t)
include h

theorem Alike.setSecs {x : Tab (List Byte)} :
    Alike { s with boot := { s.boot with secs := x } } { t with boot := { t.boot with secs := x } } := by
  obtain ⟨l, r, rfl, hl⟩ := h
  exact ⟨l, r, rfl, hl⟩

theorem Alike.resetRegs : Alike (resetRegs 3 s) (resetRegs 3 t) := by
  have hp : ∀ e : Nat × Word, (decide (blockDom (e.1 / 0x100000) ≠ some 3) || keptInAon e.1) = false → High e.1 := by
    intro e he
    simp only [ne_eq, Bool.or_eq_false_iff, decide_eq_false_iff_not, not_not] at he
    have := le_of_blockDom_three he.1
    simp only [High]
    omega
  have h1 := Alike.lockstep.filter hp h
  obtain ⟨l, r, rfl, -⟩ := h
  exact Alike.lockstep.others h1

theorem Alike.trialState (a : Avail) (secs : Tab (List Byte)) : Alike (trialState a secs s) (trialState a secs t) := by
  have hR := Alike.lockstep
  unfold Machine.trialState
  simp only [hR.sec h]
  refine Lockstep.forAll (fun h => hR.wr (.add (.lit rfl)) h)
    (hR.loadRoutesD2 (hR.loadRoutesD3 (Lockstep.onlyIf hR.loadContexts (Alike.setSecs ?_))))
  exact Lockstep.ite h.resetRegs h

theorem mapClusters_alike (x : Nat) : mapClusters t x = mapClusters s x := Alike.lockstep.rdF h

theorem mapChain_alike (x : Nat) : mapChain t x = mapChain s x := Alike.lockstep.rdF h

theorem serves_alike (c x : Nat) : serves t c x = serves s c x := by
  rw [serves, Alike.lockstep.rdB h, mapClusters_alike h, ← serves]

theorem secWidth_alike (x : Nat) : secWidth t x = secWidth s x := by
  have hq : t.spliceq = s.spliceq := by
    obtain ⟨l, r, rfl, -⟩ := h
    rfl
  rw [secWidth, secWidth, hq, Alike.lockstep.ctxSize h]

theorem secHeld_alike (p : SProg) (c x : Nat) : secHeld t p c x = secHeld s p c x := by
  have hshare (w : Nat) : secShare t c x w = secShare s c x w := by
    unfold secShare
    rw [mapClusters_alike h, secWidth_alike h]
  unfold secHeld
  rw [serves_alike h, mapChain_alike h, hshare]

theorem secFitsAll_alike (c : Nat) (p : SProg) : secFitsAll t c p = secFitsAll s c p := by
  have hfit (x : Nat) : (!serves t c x || (decide (mapChain t x < p.chains.length) && !(p.chain (mapChain t x)).memory &&
        (!bit (rd t (rCTX_SPLICE x + 0x8000)) 0 || secFits p (mapChain t x) (rd t (rCTX_SPLICE x + 0x8000))))) =
      (!serves s c x || (decide (mapChain s x < p.chains.length) && !(p.chain (mapChain s x)).memory &&
        (!bit (rd s (rCTX_SPLICE x + 0x8000)) 0 || secFits p (mapChain s x) (rd s (rCTX_SPLICE x + 0x8000))))) := by
    rw [serves_alike h, mapChain_alike h, Alike.lockstep.rd h]
  unfold secFitsAll
  rw [funext hfit, funext₂ fun a x => congrArg (fun n => a + List.length n) (secHeld_alike h p c x)]

theorem secLineState_alike (c : Nat) (p : SProg) : secLineState t c p none = secLineState s c p none := by
  have hctx (x : Nat) : (secHeld t p c x).length * p.lineState (mapChain t x) =
      (secHeld s p c x).length * p.lineState (mapChain s x) := by
    rw [secHeld_alike h, mapChain_alike h]
  unfold secLineState
  dsimp only
  rw [funext₂ fun a x => congrArg (a + ·) (hctx x)]

theorem secImageBad_alike (p : List Byte) : secImageBad p t = secImageBad p s := by
  unfold secImageBad
  split
  · rfl
  · refine congrArg (List.any _) (funext fun r => ?_)
    rw [Alike.lockstep.rdB h, secFitsAll_alike h, secLineState_alike h]

theorem semanticFails_alike (a : Avail) (secs : Tab (List Byte)) (k : Nat) : semanticFails a t secs k = semanticFails a s secs k := by
  have hf : t.fuses = s.fuses := by
    obtain ⟨l, r, rfl, -⟩ := h
    rfl
  have hplan (p : List Byte) : planBad t p = planBad s p := by
    have hlimit : tjLimit t = tjLimit s := by rw [tjLimit, hf, ← tjLimit]
    unfold planBad
    rw [hlimit]
  unfold semanticFails
  dsimp only
  rw [hf, hplan, secImageBad_alike (h.trialState a secs)]

theorem verifyImage_alike {f g : List Byte → Avail} (hfg : f = g) (b : List Byte) (cap : Nat) (staged : Option Nat) :
    verifyImage f t b cap staged = verifyImage g s b cap staged := by
  subst hfg
  simp only [verifyImage, semanticFails_alike h]

theorem memBytes_alike (a n : Nat) : memBytes t a n = memBytes s a n := by
  obtain ⟨l, r, rfl, -⟩ := h
  induction n generalizing a with
  | zero => rfl
  | succ n ih => exact congrArg (_ :: ·) (ih (a + 1))

/-- The bytes of a staged image are found alike. -/
theorem stagedBytes_alike (a n : Nat) : stagedBytes t a n = stagedBytes s a n := by
  have hpoison : poisonedIn t a n = poisonedIn s a n := by
    rw [poisonedIn, Alike.lockstep.unitsOf h]
    obtain ⟨l, r, rfl, -⟩ := h
    rfl
  unfold stagedBytes
  rw [Alike.lockstep.decodesAll h, hpoison, memBytes_alike h]

end

end Sys2Proof.Machine

namespace Sys2Proof.Machine

open Sys2Proof

/-! ### What the start of a boot leaves (R46, R49, R51) -/

/-- A register other than those at the foot of the device block, up to DEV_STATE. -/
def Past (o : Nat) : Prop := 0x10 < o

theorem Past.lit {o : Nat} (h : Nat.ble 0x11 o = true) : Past o := Nat.le_of_ble_eq_true h

theorem Past.add {o k : Nat} (h : Past o) : Past (o + k) := Nat.lt_of_lt_of_le h (Nat.le_add_right o k)

theorem High.past {o : Nat} (h : High o) : Past o := Nat.lt_of_lt_of_le (by decide) h

/-- `Q` survives events that reach no job, writes of registers that leave READY clear, and a change of the Persistent Record. -/
structure BootStable (Q : State → Prop) : Prop extends EventStable Q where
  wr : ∀ {s o v}, Past o → Q s → Q (wr o v s)
  dev : ∀ {s v}, (rdB s rDEV_STATE 0 = false → bit v 0 = false) → Q s → Q (Machine.wr rDEV_STATE v s)
  prec : ∀ {s} {p : Prec}, Q s → Q { s with prec := p }
  reach : ∀ {s r}, Q s → Q (reachRef r s)

namespace BootStable

section
variable {Q : State → Prop} {s : State} (hQ : BootStable Q)
include hQ

section
variable {o : Nat} (ho : Past o)
include ho

theorem wrn {v : Nat} (h : Q s) : Q (wrn o v s) := hQ.wr ho h

theorem wrF {hi lo v : Nat} (h : Q s) : Q (wrF o hi lo v s) := hQ.wr ho h

theorem wrB {i : Nat} {b : Bool} (h : Q s) : Q (wrB o i b s) := hQ.wr ho h

theorem wr64 {v : Nat} (h : Q s) : Q (wr64 o v s) := hQ.wr ho.add (hQ.wr ho h)

end

theorem bumpW {o n : Nat} (ho : Past o) (h : Q s) : Q (bumpW o n s) := hQ.wr ho h

theorem wrWords {o : Nat} {vs : List Nat} (ho : Past o) (h : Q s) : Q (wrWords o vs s) :=
  wrWords_stable (P := Past) hQ.wr (fun _ _ => ho.add) h

/-- Any event, held or new. -/
theorem raiseAny {e : Event} {dt : Nat} {unsure : Bool} (h : Q s) : Q (raiseNow e dt unsure s) := by
  unfold Machine.raiseNow
  extract_lets cfg s1 s2 s3 s4 s5 s6 s7
  have h1 : Q s1 := by
    dsimp only [s1, reachJob]
    split
    · split
      exacts [hQ.reach h, h]
    · exact h
  have h2 : Q s2 := hQ.wr (.add (.lit rfl)) (hQ.wr (.add (.lit rfl)) h1)
  have h4 : Q s4 := onlyIf_stable (fun h => hQ.wr (.lit rfl) (hQ.wrWords (.add (.lit rfl)) h))
    (onlyIf_stable (fun h => hQ.wr (.lit rfl) (hQ.wrWords (.add (.lit rfl)) h)) h2)
  have h7 : Q s7 := onlyIf_stable hQ.irq (onlyIf_stable hQ.assertSrc (onlyIf_stable hQ.msixAssert_zero h4))
  split
  exacts [hQ.fault h7, h7]

theorem replayHeld (h : Q s) : Q (replayHeld s) :=
  hQ.bumpW (.add (.lit rfl)) (forAll_stable (fun _ h => hQ.raiseAny h) (hQ.fault h))

theorem holdKeepers (h : Q s) : Q (holdKeepers s) := hQ.irq h

/-- The marks of a device out of service. -/
theorem showOos (h : Q s) : Q (showOos s) := by
  unfold Machine.showOos
  split
  · refine hQ.dev (fun _ => (bit_setBit (by decide)).trans (if_pos rfl)) (hQ.dev (fun h => ?_) h)
    exact (bit_setBit (by decide)).trans ((if_neg (by decide)).trans h)
  · exact h

theorem showRepair {d : Nat} {a : Avail} (h : Q s) : Q (showRepair d a s) := by
  unfold Machine.showRepair
  split
  · exact hQ.wr64 (.lit rfl) (hQ.wrn (.lit rfl) (hQ.wrn (.lit rfl) h))
  · exact hQ.wrB (.lit rfl) (hQ.wrB (.lit rfl) h)
  · exact forAll_stable (fun _ h => hQ.wrB (.add (.lit rfl)) h) (hQ.wrF (.lit rfl) (hQ.wrF (.lit rfl) h))
  · exact hQ.wrn (.lit rfl) (hQ.wrn (.lit rfl) h)
  · exact h

theorem fuseFields (h : Q s) : Q (fuseFields s) := forAll_stable (fun _ h => hQ.showRepair h) h

theorem slotResult {k code : Nat} (h : Q s) : Q (slotResult k code s) := hQ.wrF (.lit rfl) h

theorem slotFail {k : Nat} {v : Ver} (h : Q s) : Q (slotFail k v s) := by
  have h1 : Q (Machine.wrF rBOOT_STATUS 23 16 v.idx (Machine.slotResult k v.code s)) := hQ.wrF (.lit rfl) (hQ.slotResult h)
  unfold Machine.slotFail raiseImageFail
  cases v.semantic
  exacts [hQ.raiseE (by decide) (by decide) h1, hQ.raiseE (by decide) (by decide) h1]

theorem precLoad (h : Q s) : Q (precLoad s) := by
  unfold Machine.precLoad
  extract_lets b0 b1 v0 v1 use1 s1 s2 s3 s4 s5
  have h5 : Q s5 := hQ.wrB (.lit rfl) (hQ.wrB (.lit rfl) (hQ.wrF (.lit rfl) (onlyIf_stable (hQ.raiseE (by decide) (by decide))
    (hQ.wrB (.lit rfl) (hQ.wrB (.lit rfl) (hQ.prec h))))))
  split
  exacts [hQ.wrn (.lit rfl) (hQ.wrn (.lit rfl) h5), h5]

end

end BootStable

/-! ### READY is clear -/

section
variable {α : Type} {d v : α} {l : Tab α} {k : Nat} {e : Nat × α}

theorem mem_of_mem_tdrop (h : e ∈ tdrop k l) : e ∈ l := by
  induction l with
  | nil => exact h
  | cons x l ih =>
    unfold tdrop at h
    split at h
    exacts [h, List.mem_cons_of_mem x (ih h)]

theorem mem_tput [DecidableEq α] (h : e ∈ tput d l k v) : e ∈ l ∨ e = (k, v) := by
  induction l with
  | nil =>
    unfold tput at h
    split at h
    · exact .inl h
    · exact .inr (List.mem_singleton.mp h)
  | cons x l ih =>
    unfold tput at h
    split at h
    · obtain rfl | h := List.mem_cons.mp h
      · exact .inl List.mem_cons_self
      · exact (ih h).imp_left (List.mem_cons_of_mem x)
    · split at h
      · exact .inl (mem_of_mem_tdrop h)
      · obtain rfl | h := List.mem_cons.mp h
        exacts [.inr rfl, .inl (mem_of_mem_tdrop h)]

theorem tget_mem_or (l : Tab α) (k : Nat) : (k, tget d l k) ∈ l ∨ tget d l k = d := by
  induction l with
  | nil => exact .inr rfl
  | cons x l ih =>
    unfold tget
    split
    next h => exact .inl (by rw [h]; exact List.mem_cons_self)
    next =>
      split
      · exact .inr rfl
      · exact ih.imp_left (List.mem_cons_of_mem x)

end

/-- Every entry that the register table has for DEV_STATE has READY clear. -/
def DevClear (s : State) : Prop := ∀ e ∈ s.regs, e.1 = rDEV_STATE → bit e.2 0 = false

section
variable {s : State}

theorem DevClear.isReady (h : DevClear s) : isReady s = false := by
  obtain hm | hd := tget_mem_or (d := resetVal rDEV_STATE) s.regs rDEV_STATE
  · exact h _ hm rfl
  · exact (congrArg (bit · 0) hd).trans (by decide)

theorem DevClear.wr {o : Nat} {v : Word} (hv : o = rDEV_STATE → bit v 0 = false) (h : DevClear s) : DevClear (wr o v s) := by
  intro e he heq
  obtain hm | rfl := mem_tput he
  exacts [h e hm heq, hv heq]

end

/-! ### POWER_ON_RESET (R46, R49) -/

/-- What a power-on reset has made, up to its boot state: nothing but the flash, the fuses, the queue and the boot pins of `s`. -/
structure Unbooted (s : State) (src : Nat) (t : State) : Prop where
  mem : t.mem = []
  jobs : t.jobs = []
  clock : t.clock = {}
  flash : t.flash = s.flash
  fuses : t.fuses = s.fuses
  pending : t.pending = s.pending
  src : t.boot.src = src
  clear : DevClear t

theorem Unbooted.bootStable (s : State) (src : Nat) : BootStable (Unbooted s src) where
  wrEvent := fun ho h => { h with clear := h.clear.wr (by simp only [EventReg, rDEV_STATE] at ho ⊢; omega) }
  pcie := fun h => { h with }
  fault := fun h => { h with }
  irq := fun h => { h with }
  wr := fun ho h => { h with clear := h.clear.wr (by rintro rfl; exact absurd ho (Nat.lt_irrefl 0x10)) }
  dev := fun hv h => { h with clear := h.clear.wr fun _ => hv h.clear.isReady }
  prec := fun h => { h with }
  reach := fun {t r} h => by
    have hfree : reachRef r t = t := by simp [reachRef, h.jobs, tget]
    rwa [hfree]

end Sys2Proof.Machine

namespace Sys2Proof.Machine

open Sys2Proof

section
variable {s t : State} {src : Nat} {env : BootEnv}

/-- The boot up to the choice of its source leaves the device unbooted. -/
def beforeBoot (s : State) : State :=
  let s := wrF rBOOT_STATUS 13 12 s.boot.src { s with boot := { s.boot with phase := .waitPcie } }
  let s := { s with pcie := { s.pcie with enabled := decide (s.boot.src ≠ 2) } }
  showOos (fuseFields (holdKeepers (replayHeld s)))

theorem bootDevice_eq (env : BootEnv) (s : State) :
    bootDevice env s = if (beforeBoot s).boot.src = 1 then noImage (beforeBoot s) else bootFlash env (beforeBoot s) := rfl

theorem Unbooted.boot {b : Boot} (hb : b.src = src) (h : Unbooted s src t) : Unbooted s src { t with boot := b } :=
  { h with src := hb, clear := h.clear }

theorem Unbooted.beforeBoot (h : Unbooted s src t) : Unbooted s src (beforeBoot t) := by
  have hQ := Unbooted.bootStable s src
  exact hQ.showOos (hQ.fuseFields (hQ.holdKeepers (hQ.replayHeld (hQ.pcie (hQ.wrF (.lit rfl) (h.boot h.src))))))

theorem slotHeader_congr (h : t.flash = s.flash) (bad : Fin 4) (k : Nat) : slotHeader t bad k = slotHeader s bad k := by
  rw [slotHeader, flashBytes_congr h, ← slotHeader]

/-- With neither slot's header good, no image is found in the flash. -/
theorem bootFlash_noHeader (h0 : slotHeader s env.flashBad 0 ≠ none) (h1 : slotHeader s env.flashBad 1 ≠ none) :
    ∃ v w, bootFlash env s = noImage (raiseE 34 7 (slotFail 1 w (slotFail 0 v s))) := by
  obtain ⟨v, hv⟩ := Option.ne_none_iff_exists'.mp h0
  obtain ⟨w, hw⟩ := Option.ne_none_iff_exists'.mp h1
  refine ⟨v, w, ?_⟩
  simp only [bootFlash, hv, hw, forAll, List.foldl]

theorem Unbooted.noImage_spec (h : Unbooted s src t) :
    (noImage t).boot.phase = (if src = 2 then .halted else .waitPcie) ∧ Unbooted s src (noImage t) :=
  ⟨by rw [noImage, h.src], h.boot h.src⟩

/-- With the boot pins at PCIe the boot looks at no slot. -/
theorem Unbooted.bootDevice_pcie (hsrc : src = 1) (h : Unbooted s src t) :
    (bootDevice env t).boot.phase = .waitPcie ∧ Unbooted s src (bootDevice env t) := by
  rw [bootDevice_eq, if_pos (h.beforeBoot.src.trans hsrc)]
  obtain ⟨hphase, hu⟩ := h.beforeBoot.noImage_spec
  exact ⟨hphase.trans (if_neg (by omega)), hu⟩

/-- With neither slot's header good, the boot waits for an image, or halts. -/
theorem Unbooted.bootDevice_noHeader (hsrc : src ≠ 1) (h0 : slotHeader s env.flashBad 0 ≠ none)
    (h1 : slotHeader s env.flashBad 1 ≠ none) (h : Unbooted s src t) :
    (bootDevice env t).boot.phase = (if src = 2 then .halted else .waitPcie) ∧ Unbooted s src (bootDevice env t) := by
  have hu := h.beforeBoot
  rw [← slotHeader_congr hu.flash] at h0 h1
  obtain ⟨v, w, hboot⟩ := bootFlash_noHeader h0 h1
  rw [bootDevice_eq, if_neg (by rwa [hu.src]), hboot]
  have hQ := Unbooted.bootStable s src
  exact (hQ.raiseE (by decide) (by decide) (hQ.slotFail (hQ.slotFail hu))).noImage_spec

/-- The device as its power comes up: the flash, the fuses, the queue and the pins are what it has. -/
def powerOnState (src : Nat) (s : State) : State :=
  { State.reset with
    pending := s.pending, flash := s.flash, fuses := s.fuses, free := s.free, boot := { src := src }
    keeper := { gpioPins := s.keeper.gpioPins, curts := s.keeper.curts } }

theorem exec_powerOnReset (src : Fin 4) (env : BootEnv) (s : State) :
    exec (.powerOnReset src env) s = .next (bootDevice env (precLoad (powerOnState src s))) := rfl

theorem unbooted_powerOn (src : Nat) (s : State) : Unbooted s src (precLoad (powerOnState src s)) :=
  (Unbooted.bootStable s src).precLoad
    ⟨rfl, rfl, rfl, rfl, rfl, rfl, rfl, fun _ he => absurd he List.not_mem_nil⟩

end

/-! ### READY_SET and a GO that nothing waits for (R51, R52) -/

section
variable {ifc : Iface} {s t : State}

/-- READY, the memory and the flash are as in `s`. -/
def HoldsReady (s t : State) : Prop := rdB t rDEV_STATE 0 = rdB s rDEV_STATE 0 ∧ t.mem = s.mem ∧ t.flash = s.flash

theorem HoldsReady.wr {o : Nat} {v : Word} (ho : o = rDEV_STATE → bit v 0 = rdB s rDEV_STATE 0) (h : HoldsReady s t) :
    HoldsReady s (wr o v t) := by
  obtain ⟨hr, hm⟩ := h
  refine ⟨?_, hm⟩
  by_cases heq : o = rDEV_STATE
  · subst heq
    exact (congrArg (bit · 0) (rd_wr_same _ _ _)).trans (ho rfl)
  · exact (congrArg (bit · 0) (rd_wr_other _ _ _ _ (Ne.symm heq))).trans hr

theorem HoldsReady.eventStable (s : State) : EventStable (HoldsReady s) where
  wrEvent := fun ho h => h.wr (by simp only [EventReg, rDEV_STATE] at ho ⊢; omega)
  pcie := id
  fault := id
  irq := id

theorem HoldsReady.setGrpState {g : Nat} (h : HoldsReady s t) : HoldsReady s (setGrpState g t) := by
  unfold Machine.setGrpState
  split
  · exact h
  · have h1 : HoldsReady s (wrF rGRP_STATUS 2 0 g t) := h.wr fun e => absurd e (by decide)
    refine (HoldsReady.eventStable s).assertRouted (h1.wr fun _ => ?_)
    exact (bit_setFld_other (by decide) (by decide)).trans h1.1

theorem HoldsReady.groupEnter (h : HoldsReady s t) : HoldsReady s (groupEnter t) := by
  have h1 : HoldsReady s { t with net := { t.net with joinSent := false } } := h
  unfold Machine.groupEnter
  dsimp only
  split
  · exact h1.setGrpState
  · split
    exacts [h1.setGrpState, h1.setGrpState]

theorem logOnly_readySet (hg : gate ifc true rDEV_STATE s = .open) :
    LogOnly (readyEffect (w32 1) (answer [] s)).1 (gatedWrite ifc rDEV_STATE (w32 1) (readyEffect (w32 1)) s) :=
  logOnly_gatedWrite hg (by decide) (by decide)

theorem readySet_inService (hg : gate ifc true rDEV_STATE s = .open) (hcan : canReady s = true) :
    Completes (.readySet ifc) s fun t => isReady t = true ∧ t.mem = s.mem ∧ t.flash = s.flash := by
  have hcan' : canReady (answer [] s) = true := hcan
  have hready : isReady (readyEffect (w32 1) (answer [] s)).1 = true ∧
      (readyEffect (w32 1) (answer [] s)).1.mem = s.mem ∧ (readyEffect (w32 1) (answer [] s)).1.flash = s.flash := by
    unfold readyEffect
    by_cases h : isReady (answer [] s) = true
    · rw [if_neg (by simp [h])]
      exact ⟨h, rfl, rfl⟩
    · rw [if_pos ⟨by decide, by simpa using h, hcan'⟩]
      obtain ⟨hr, hm, hf⟩ : HoldsReady (wrB rDEV_STATE 0 true (answer [] s)) _ :=
        onlyIf_stable (b := domOk (wrB rDEV_STATE 0 true (answer [] s)) 5) HoldsReady.groupEnter ⟨rfl, rfl, rfl⟩
      exact ⟨hr.trans ((rdB_wrB (by decide)).trans (if_pos rfl)), hm, hf⟩
  obtain ⟨hr, hm, hf⟩ := hready
  have hl := logOnly_readySet hg
  refine ⟨_, rfl, ?_, (hl.1 .mem (by simp)).trans hm, (hl.1 .flash (by simp)).trans hf⟩
  rw [isReady, rdB, hl.2.2 _ (by decide)]
  exact hr

/-- An effect that leaves the state leaves it but for the record of the write. -/
theorem keptAccess_of_logOnly_answer (hl : LogOnly (answer [] s) t) : KeptAccess [] [] s t := .of_effect (.refl _) hl

theorem readySet_refused (hg : gate ifc true rDEV_STATE s = .open) (h : canReady s = false ∨ isReady s = true) :
    Completes (.readySet ifc) s fun t => KeptAccess [] [] s t := by
  have hnone : readyEffect (w32 1) (answer [] s) = (answer [] s, true) := by
    refine if_neg ?_
    rintro ⟨-, hready, hcan⟩
    have hready' : isReady s = false := (by simpa using hready : isReady (answer [] s) = false)
    rcases h with h | h
    · exact absurd (h.symm.trans hcan) (by decide)
    · exact absurd (hready'.symm.trans h) (by decide)
  have hl := logOnly_readySet hg
  rw [hnone] at hl
  exact ⟨_, rfl, keptAccess_of_logOnly_answer hl⟩

theorem pcieBootGo_ignored {env : BootEnv} (hg : gate ifc true rPCIE_BOOT s = .open) (h : s.boot.phase ≠ .waitPcie) :
    Completes (.pcieBootGo ifc env) s fun t => KeptAccess [] [] s t := by
  have hl := logOnly_gatedWrite (v := w32 1) (eff := pcieBootEffect (w32 1) env) hg (by decide) (by decide)
  have hnone : pcieBootEffect (w32 1) env (answer [] s) = (answer [] s, true) := if_neg fun hc => h hc.2
  rw [hnone] at hl
  exact ⟨_, rfl, keptAccess_of_logOnly_answer hl⟩

end

end Sys2Proof.Machine

namespace Sys2Proof.Machine

open Sys2Proof

/-! ### What survives the loading of an image and the reset of domains

`Steady Q s` says that `Q` holds of `s` and survives what these operations are made of. Each operation gets one rule, named
after it: from `h : Steady Q s`, the rule `h.op` gives `Steady Q (op … s)`. -/

/-- `Q` depends on the registers, on the jobs, and on the fields that the update below leaves; it survives writes that leave
READY clear, any loss of register entries, and that a fault reaches a job. -/
structure Calm (Q : State → Prop) : Prop extends BootStable Q where
  filter : ∀ {s} {p : Nat × Word → Bool}, Q s → Q { s with regs := s.regs.filter p }
  others : ∀ {s} {latches : Tab Word} {mem : Tab Byte} {poison : Tab Bool} {clock : Clock} {keeper : Keeper}
    {flashOp : Option FlashOp} {prec : Prec} {power : Power} {fault : FaultSt} {pcie : Pcie} {frames : Tab Nat}
    {ports : Tab Port} {pipeq : Tab (List PipeItem)} {pctx : Tab PCtx} {pipeTurn : Tab Nat} {stage : Tab Nat}
    {spliceq : Tab (List (Nat × PipeItem))} {secBank : Tab Byte} {secCl : Tab SecCl} {secCtx : Tab SecCtx} {spliceTurn : Nat}
    {secPois : Tab Bool} {lens : Lens} {sems : Tab Sem} {fc : Fc} {lan : Tab Lan} {resv : List (Nat × Nat)} {dma : Tab Dma}
    {regul : Regul} {ddrValid : Tab Bool} {ddr : Ddr} {net : Net} {resp : Resp} {free : Nat} {limits : Tab Nat}, Q s →
    Q { s with
      latches := latches, mem := mem, poison := poison, clock := clock, keeper := keeper, flashOp := flashOp, prec := prec,
      power := power, fault := fault, pcie := pcie, frames := frames, ports := ports, pipeq := pipeq, pctx := pctx,
      pipeTurn := pipeTurn, stage := stage, spliceq := spliceq, secBank := secBank, secCl := secCl, secCtx := secCtx,
      spliceTurn := spliceTurn, secPois := secPois, lens := lens, sems := sems, fc := fc, lan := lan, resv := resv,
      dma := dma, regul := regul, ddrValid := ddrValid, ddr := ddr, net := net, resp := resp, free := free, limits := limits }

/-- What survives is kept in lockstep with itself. -/
theorem Calm.lockstep {Q : State → Prop} (hQ : Calm Q) : Lockstep (fun s t => t = s ∧ Q s) where
  same := fun {s t} h => ⟨s.regs, s.resp, h.1⟩
  rd := fun ⟨h, _⟩ => by rw [h]
  above := fun _ ⟨h, _⟩ => by rw [h]
  wr := fun ho ⟨h, hs⟩ => ⟨by rw [h], hQ.wr ho.past hs⟩
  filter := fun _ ⟨h, hs⟩ => ⟨by rw [h], hQ.filter hs⟩
  others := fun ⟨h, hs⟩ => ⟨by rw [h], hQ.others hs⟩

def Steady (Q : State → Prop) (s : State) : Prop := Calm Q ∧ Q s

namespace Steady

section
variable {Q : State → Prop} {s : State}

/-! ### Composition -/

protected theorem lift {f : State → State} (hf : ∀ {R : State → State → Prop}, Lockstep R → R s s → R (f s) (f s))
    (h : Steady Q s) : Steady Q (f s) := ⟨h.1, (hf h.1.lockstep ⟨rfl, h.2⟩).2⟩

protected theorem basic {f : State → State} (hf : BootStable Q → Q s → Q (f s)) (h : Steady Q s) : Steady Q (f s) :=
  ⟨h.1, hf h.1.toBootStable h.2⟩

protected theorem ite {c : Prop} [Decidable c] {a b : State} (ha : Steady Q a) (hb : Steady Q b) :
    Steady Q (if c then a else b) := by
  split
  exacts [ha, hb]

protected theorem iteSnd {α : Type} {c : Prop} [Decidable c] {a b : α × State} (ha : Steady Q a.2) (hb : Steady Q b.2) :
    Steady Q (if c then a else b).2 := by
  split
  exacts [ha, hb]

protected theorem onlyIf {b : Bool} {f : State → State} (h : Steady Q s) (hf : ∀ {s}, Steady Q s → Steady Q (f s)) :
    Steady Q (onlyIf b f s) := onlyIf_stable hf h

protected theorem forAll {α : Type} {l : List α} {f : α → State → State} (h : Steady Q s)
    (hf : ∀ {x s}, Steady Q s → Steady Q (f x s)) : Steady Q (forAll l f s) := forAll_stable (fun _ h => hf h) h

/-! ### Registers and other fields -/

protected theorem others {latches : Tab Word} {mem : Tab Byte} {poison : Tab Bool} {clock : Clock} {keeper : Keeper}
    {flashOp : Option FlashOp} {prec : Prec} {power : Power} {fault : FaultSt} {pcie : Pcie} {frames : Tab Nat}
    {ports : Tab Port} {pipeq : Tab (List PipeItem)} {pctx : Tab PCtx} {pipeTurn : Tab Nat} {stage : Tab Nat}
    {spliceq : Tab (List (Nat × PipeItem))} {secBank : Tab Byte} {secCl : Tab SecCl} {secCtx : Tab SecCtx} {spliceTurn : Nat}
    {secPois : Tab Bool} {lens : Lens} {sems : Tab Sem} {fc : Fc} {lan : Tab Lan} {resv : List (Nat × Nat)} {dma : Tab Dma}
    {regul : Regul} {ddrValid : Tab Bool} {ddr : Ddr} {net : Net} {resp : Resp} {free : Nat} {limits : Tab Nat} (h : Steady Q s) :
    Steady Q { s with
      latches := latches, mem := mem, poison := poison, clock := clock, keeper := keeper, flashOp := flashOp, prec := prec,
      power := power, fault := fault, pcie := pcie, frames := frames, ports := ports, pipeq := pipeq, pctx := pctx,
      pipeTurn := pipeTurn, stage := stage, spliceq := spliceq, secBank := secBank, secCl := secCl, secCtx := secCtx,
      spliceTurn := spliceTurn, secPois := secPois, lens := lens, sems := sems, fc := fc, lan := lan, resv := resv,
      dma := dma, regul := regul, ddrValid := ddrValid, ddr := ddr, net := net, resp := resp, free := free, limits := limits } :=
  ⟨h.1, h.1.others h.2⟩

section
variable {o : Nat} (h : Steady Q s) (ho : Past o)
include h ho

protected theorem wr {v : Word} : Steady Q (wr o v s) := ⟨h.1, h.1.wr ho h.2⟩

protected theorem wrn {v : Nat} : Steady Q (wrn o v s) := h.wr ho

protected theorem wrF {hi lo v : Nat} : Steady Q (wrF o hi lo v s) := h.wr ho

protected theorem wrB {i : Nat} {b : Bool} : Steady Q (wrB o i b s) := h.wr ho

protected theorem wr64 {v : Nat} : Steady Q (wr64 o v s) := (h.wrn ho).wrn ho.add

protected theorem bump {n : Nat} : Steady Q (bump o n s) := h.wrn ho

protected theorem wrWords {vs : List Nat} : Steady Q (wrWords o vs s) := h.basic fun hQ => hQ.wrWords ho

end

/-! ### What acts in lockstep -/

protected theorem raiseEvt {e : Event} (he : e.job = none) (h : Steady Q s) : Steady Q (raiseEvt e s) :=
  h.lift fun hR => hR.raiseEvt he

protected theorem raiseE {num dom : Nat} (h : Steady Q s) : Steady Q (raiseE num dom s) := h.raiseEvt rfl

protected theorem raiseA {num dom addr : Nat} (h : Steady Q s) : Steady Q (raiseA num dom addr s) := h.raiseEvt rfl

protected theorem raiseFatal {d cause : Nat} (h : Steady Q s) : Steady Q (raiseFatal d cause s) := h.raiseEvt rfl

protected theorem limited {key period : Nat} {f : State → State} (h : Steady Q s) (hf : ∀ {s}, Steady Q s → Steady Q (f s)) :
    Steady Q (limited key period f s) := by
  unfold Machine.limited
  exact .ite (hf h.others) h

protected theorem assertSrc {n src : Nat} (h : Steady Q s) : Steady Q (assertSrc n src s) := h.lift fun hR => hR.assertSrc

protected theorem agentDecodeErr {g : Agent} {a : Nat} (h : Steady Q s) : Steady Q (agentDecodeErr g a s) :=
  h.lift fun hR => hR.agentDecodeErr

protected theorem setBytes {a : Nat} {bs : List Byte} (h : Steady Q s) : Steady Q (setBytes a bs s) := h.lift fun hR => hR.setBytes

protected theorem storeBytes {a : Nat} {bs : List Byte} {dirty : Bool} (h : Steady Q s) : Steady Q (storeBytes a bs dirty s) :=
  h.lift fun hR => hR.storeBytes

protected theorem unreserve {a len : Nat} (h : Steady Q s) : Steady Q (unreserve a len s) := .ite h h.others

protected theorem dramWrite {k a : Nat} {bs : List Byte} (h : Steady Q s) : Steady Q (dramWrite k a bs s).2 :=
  h.lift (f := fun s => (dramWrite k a bs s).2) fun hR => hR.dramWrite

protected theorem measRefresh (h : Steady Q s) : Steady Q (measRefresh s) := h.lift fun hR => hR.measRefresh

protected theorem loadContexts (h : Steady Q s) : Steady Q (loadContexts s) := h.lift fun hR => hR.loadContexts

protected theorem loadRoutesD2 (h : Steady Q s) : Steady Q (loadRoutesD2 s) := h.lift fun hR => hR.loadRoutesD2

protected theorem loadRoutesD3 (h : Steady Q s) : Steady Q (loadRoutesD3 s) := h.lift fun hR => hR.loadRoutesD3

protected theorem setPctx {c : Nat} {x : PCtx} (h : Steady Q s) : Steady Q (setPctx c x s) := h.others

protected theorem setCtxState {c v : Nat} (h : Steady Q s) : Steady Q (setCtxState c v s) := h.wrF (.add (.lit rfl))

/-! ### The sections of an image (R38) -/

protected theorem applyRepair {d : Nat} {es : List (List Byte)} (h : Steady Q s) : Steady Q (applyRepair d es s) := by
  have h1 : Steady Q (showRepair d (availOf es) s) := h.basic fun hQ => hQ.showRepair
  exact .ite ((h1.others.wrF (.add (.lit rfl))).wrB (.add (.lit rfl))).raiseFatal h1

protected theorem zeroScratchpads {keep : Nat} (h : Steady Q s) : Steady Q (zeroScratchpads keep s) := h.others

protected theorem ddrLoad {p : List Byte} (h : Steady Q s) : Steady Q (ddrLoad p s) := (h.wrn (.lit rfl)).wrn (.lit rfl)

protected theorem ddrUnload (h : Steady Q s) : Steady Q (ddrUnload s) := (h.wrn (.lit rfl)).wrn (.lit rfl)

protected theorem ddrTrain {r : TrainResult} (h : Steady Q s) : Steady Q (ddrTrain r s) := by
  have h1 : Steady Q (dramLost { s with ddr := { blank := true } }) := h.others
  unfold Machine.ddrTrain
  dsimp only
  split
  · exact ((h1.wrF (.lit rfl)).wrF (.lit rfl)).wrF (.lit rfl)
  · exact (((h1.wrF (.lit rfl)).wrF (.lit rfl)).wrF (.lit rfl)).raiseE

protected theorem loadPlan {p : List Byte} (h : Steady Q s) : Steady Q (loadPlan p s) := (h.wrn (.lit rfl)).wrF (.lit rfl)

protected theorem loadDramCap (h : Steady Q s) : Steady Q (loadDramCap s) := (h.wrB (.lit rfl)).wrF (.lit rfl)

protected theorem loadProfiles (h : Steady Q s) : Steady Q (loadProfiles s) := h.wrn (.lit rfl)

protected theorem loadOwners (h : Steady Q s) : Steady Q (loadOwners s) := h.forAll fun h => h.wrn (.add (.lit rfl))

protected theorem secRefresh {c : Nat} (h : Steady Q s) : Steady Q (secRefresh c s) :=
  ((h.wr (.add (.lit rfl))).wrn (.add (.lit rfl))).wrB (.lit rfl)

protected theorem secLoad {payload : List Byte} (h : Steady Q s) : Steady Q (secLoad payload s) := by
  refine .forAll (.forAll h.others fun h => h.others) fun h => ?_
  exact ((h.wrB (.add (.lit rfl))).secRefresh).wr (.add (.lit rfl))

protected theorem calLoad (h : Steady Q s) : Steady Q (calLoad s) := by
  refine .measRefresh (h.forAll fun h => .setPctx (.wrB (.forAll (h.forAll fun h => ?_) fun h => ?_) ?_))
  exacts [h.wrn (.add (.add (.lit rfl))), h.wrF (.add (.add (.lit rfl))), .add (.lit rfl)]

protected theorem regulLoad {p : List Byte} (h : Steady Q s) : Steady Q (regulLoad p s) :=
  h.forAll fun h => (h.others.wrn (.add (.lit rfl))).wrn (.add (.lit rfl))

protected theorem loadKeeper (h : Steady Q s) : Steady Q (loadKeeper s) := h.others

protected theorem lensStaging (h : Steady Q s) : Steady Q (lensStaging s) :=
  (h.wrB (.lit rfl)).forAll fun h => h.wrn (.add (.lit rfl))

protected theorem restoreDomain1 (h : Steady Q s) : Steady Q (restoreDomain1 s) := .ite h h.lensStaging

protected theorem setLan {n : Nat} {x : Lan} (h : Steady Q s) : Steady Q (setLan n x s) := h.others

protected theorem loadLantern {rs : List LanRec} {n : Nat} (h : Steady Q s) : Steady Q (loadLantern rs n s) := by
  unfold Machine.loadLantern
  split
  · exact h
  · exact h.others.setBytes.setBytes.setLan

protected theorem loadLanterns (h : Steady Q s) : Steady Q (loadLanterns s) :=
  h.others.forAll fun h => .ite h.setLan.loadLantern h.setLan

protected theorem setSource {n : Nat} (h : Steady Q s) : Steady Q (setSource n s) := h.wrF (.lit rfl)

protected theorem showOos (h : Steady Q s) : Steady Q (showOos s) := h.basic fun hQ => hQ.showOos

protected theorem fuseFields (h : Steady Q s) : Steady Q (fuseFields s) := h.basic fun hQ => hQ.fuseFields

protected theorem holdKeepers (h : Steady Q s) : Steady Q (holdKeepers s) := h.basic fun hQ => hQ.holdKeepers

protected theorem replayHeld (h : Steady Q s) : Steady Q (replayHeld s) := h.basic fun hQ => hQ.replayHeld

protected theorem slotResult {k code : Nat} (h : Steady Q s) : Steady Q (slotResult k code s) :=
  h.basic fun hQ => hQ.slotResult

protected theorem slotFail {k : Nat} {v : Ver} (h : Steady Q s) : Steady Q (slotFail k v s) := h.basic fun hQ => hQ.slotFail

protected theorem bootOos (h : Steady Q s) : Steady Q (bootOos s) :=
  .ite (h.showOos.wrF (.add (.lit rfl))) h

protected theorem restartIdle (h : Steady Q s) : Steady Q (restartIdle s) := by
  have hpower : PowerStable Q := {
    wrPoll := fun ho => h.1.wr (by rcases ho with rfl | rfl <;> exact .lit rfl)
    power := fun _ _ => h.1.others }
  exact h.basic fun _ => hpower.restartIdle

end

end Steady

end Sys2Proof.Machine

namespace Sys2Proof.Machine

open Sys2Proof

/-! ### What a verification says (R37, R38) -/

section
variable {b : List Byte} {cap : Nat} {staged : Option Nat} {f : List Byte → Avail} {s t : State}

theorem headerFail_not_ok {v : Ver} (h : headerFail b = some v) : v.ok = false := by
  unfold headerFail at h
  split at h
  · exact Option.some.inj h ▸ rfl
  · split at h
    · exact Option.some.inj h ▸ rfl
    · split at h
      · exact Option.some.inj h ▸ rfl
      · exact absurd h (by simp)

/-- An image whose form is good has the sequence of its header. -/
theorem verifyForm_seq (h : (verifyForm b cap staged).1.ok = true) : (verifyForm b cap staged).1.seq = leAt 0xC 4 b := by
  revert h
  unfold verifyForm
  split
  next v hv => exact fun h => absurd (h.symm.trans (headerFail_not_ok hv)) (by decide)
  next =>
    dsimp only
    split
    · exact fun h => (Bool.false_ne_true h).elim
    · split
      · exact fun h => (Bool.false_ne_true h).elim
      · split
        · exact fun h => (Bool.false_ne_true h).elim
        · split
          · exact fun h => (Bool.false_ne_true h).elim
          · split
            · exact fun h => (Bool.false_ne_true h).elim
            · split
              · exact fun h => (Bool.false_ne_true h).elim
              · exact fun _ => rfl

/-- A good image is what its form says. -/
theorem verifyImage_eq_verifyForm (h : (verifyImage f s b cap staged).ok = true) :
    verifyImage f s b cap staged = (verifyForm b cap staged).1 := by
  revert h
  unfold verifyImage
  dsimp only
  split
  · exact fun _ => rfl
  · split
    · exact fun h => (Bool.false_ne_true h).elim
    · exact fun _ => rfl

theorem verifyImage_seq (h : (verifyImage f s b cap staged).ok = true) : (verifyImage f s b cap staged).seq = leAt 0xC 4 b := by
  have heq := verifyImage_eq_verifyForm h
  rw [heq] at h ⊢
  exact verifyForm_seq h

theorem leAt_four_lt (o : Nat) (l : List Byte) : leAt o 4 l < 2 ^ 32 := by
  have hlen : (slice o 4 l).length ≤ 4 := by rw [slice, List.length_take]; exact Nat.min_le_left ..
  exact Nat.lt_of_lt_of_le (ofLe_lt _) (Nat.le_trans (Nat.pow_le_pow_right (by decide) hlen) (by decide))

end

/-! ### The loading of an image whose DRAM trains (R46, R38) -/

theorem fld_setFld_other {w : Word} {hi lo v hi' lo' : Nat} (hhi : hi < 32) (hne : hi' < lo) :
    fld (setFld w hi lo v) hi' lo' = fld w hi' lo' := by
  refine Nat.eq_of_testBit_eq fun i => ?_
  simp only [fld, nfld, Nat.testBit_mod_two_pow, Nat.testBit_div_two_pow]
  by_cases h : i < hi' + 1 - lo'
  · rw [testBit_setFld hhi, if_neg (by omega)]
  · simp [h]

/-- The boot state and the flash are as given. -/
def HoldsBoot (b : Boot) (f : Tab Byte) (t : State) : Prop := t.boot = b ∧ t.flash = f

section
variable {b : Boot} {f : Tab Byte} {s t : State}

theorem HoldsBoot.reachRef {r : JobRef} (h : HoldsBoot b f t) : HoldsBoot b f (reachRef r t) := by
  unfold Machine.reachRef
  dsimp only
  split
  · exact h
  · split
    exacts [h, h]

theorem HoldsBoot.calm (b : Boot) (f : Tab Byte) : Calm (HoldsBoot b f) where
  wrEvent := fun _ => id
  pcie := id
  fault := id
  irq := id
  wr := fun _ => id
  dev := fun _ => id
  prec := id
  reach := HoldsBoot.reachRef
  filter := id
  others := id

theorem HoldsBoot.steady (s : State) : Steady (HoldsBoot s.boot s.flash) s := ⟨HoldsBoot.calm _ _, rfl, rfl⟩

/-- The sections are in force and DRAM is trained; what follows reads them. -/
def imageTrained (v : Ver) (keep : Nat) (train : TrainResult) (s : State) : State :=
  let s := { s with boot := { s.boot with secs := v.secs, present := v.present, staged := false } }
  let s := wrn rPWR_PLL 63 s
  let es := repairEntries s (sec s 1)
  let s := zeroScratchpads keep (forAll [0, 1, 2, 4] (fun d s => applyRepair d es s) s)
  ddrTrain train (ddrLoad (sec s 12) s)

/-- Each section has been loaded. -/
def imageLoaded (s : State) : State :=
  let s := loadOwners (loadProfiles (loadDramCap (loadPlan (sec s 2) s)))
  let s := secLoad (sec s 11) (loadRoutesD2 s)
  let s := calLoad (loadContexts (loadRoutesD3 s))
  restoreDomain1 (loadKeeper (regulLoad (sec s 9) s))

/-- The device runs the image. -/
def imageRuns (source : Nat) (s : State) : State :=
  let s := bootOos (setSource source s)
  let s := if domOk s 4 then loadLanterns s else s
  restartIdle { s with power := { s.power with state := .run, step := .none } }

theorem loadImage_eq (v : Ver) (source keep : Nat) (train : TrainResult) (s : State) :
    loadImage v source keep train s =
      if ddrState (imageTrained v keep train s) ≠ 2 then
        ddrUnload { imageTrained v keep train s with
          boot := { (imageTrained v keep train s).boot with phase := .halted, secs := [], present := [] } }
      else
        imageRuns source (setImageId v { imageLoaded (imageTrained v keep train s) with
          boot := { (imageLoaded (imageTrained v keep train s)).boot with phase := .running } }) := rfl

theorem ddrState_ddrTrain_ok (s : State) : ddrState (ddrTrain .ok s) = 2 := by
  have hother {s : State} {hi lo v : Nat} (hlo : 2 < lo) (hhi : hi < 32) : ddrState (wrF rDDR_STATUS hi lo v s) = ddrState s := by
    rw [ddrState, rdF, wrF, rd_wr_same, fld_setFld_other hhi hlo]
    rfl
  rw [ddrTrain]
  rw [hother (by decide) (by decide), hother (by decide) (by decide)]
  exact rdF_wrF_same (by decide) (by decide)

theorem steady_imageTrained {Q : State → Prop} {v : Ver} {keep : Nat} {train : TrainResult}
    (h : Steady Q { s with boot := { s.boot with secs := v.secs, present := v.present, staged := false } }) :
    Steady Q (imageTrained v keep train s) :=
  (((h.wrn (.lit rfl)).forAll fun h => h.applyRepair).zeroScratchpads.ddrLoad).ddrTrain

theorem steady_imageLoaded {Q : State → Prop} (h : Steady Q s) : Steady Q (imageLoaded s) :=
  h.loadPlan.loadDramCap.loadProfiles.loadOwners.loadRoutesD2.secLoad.loadRoutesD3.loadContexts.calLoad.regulLoad.loadKeeper.restoreDomain1

theorem steady_imageRuns {Q : State → Prop} {source : Nat} (h : Steady Q s) : Steady Q (imageRuns source s) := by
  have h1 : Steady Q (bootOos (setSource source s)) := h.setSource.bootOos
  exact (Steady.ite h1.loadLanterns h1).others.restartIdle

theorem steady_setImageId {Q : State → Prop} {v : Ver} (h : Steady Q s) : Steady Q (setImageId v s) :=
  (h.wrn (.lit rfl)).wrWords (.add (.lit rfl))

/-! ### The sequence of the image in force -/

theorem rdn_setImageId {v : Ver} (hv : v.seq < 2 ^ 32) (s : State) : rdn (setImageId v s) rIMG_SEQ = v.seq := by
  rw [setImageId, rdn, rd_wrWords_below (by decide), rd_wrn, if_pos rfl, w32, BitVec.toNat_ofNat]
  exact Nat.mod_eq_of_lt hv

theorem regs_setBytes (bs : List Byte) (a : Nat) (s : State) : (setBytes a bs s).regs = s.regs := by
  induction bs generalizing a s with
  | nil => rfl
  | cons b bs ih => exact ih _ _

theorem regs_loadLanterns (s : State) : (loadLanterns s).regs = s.regs := by
  refine forAll_stable (Q := fun t => t.regs = s.regs) (fun {n t} _ h => ?_) rfl
  dsimp only
  split
  · unfold loadLantern
    split
    · exact h
    · exact (regs_setBytes _ _ _).trans ((regs_setBytes _ _ _).trans h)
  · exact h

/-- What the device does once an image is in force leaves a register that tells of the image. -/
theorem rd_imageRuns {o : Nat} (hboot : o ≠ rBOOT_STATUS) (hdev : o ≠ rDEV_STATE) (hdom : o ≠ rFLT_DOM 4) (hddr : o ≠ rDDR_STATUS)
    (hpll : o ≠ rPWR_PLL) (source : Nat) (s : State) : rd (imageRuns source s) o = rd s o := by
  have hpower : PowerStable (fun t => rd t o = rd s o) := {
    wrPoll := fun ho h => (rd_wr_other _ _ _ _ (by rintro rfl; exact ho.elim hddr hpll)).trans h
    power := fun _ _ => id }
  have hsource : rd (setSource source s) o = rd s o := rd_wr_other _ _ _ _ hboot
  have hoos : rd (bootOos (setSource source s)) o = rd s o := by
    unfold bootOos showOos
    by_cases hl : (setSource source s).prec.latched = true
    · rw [if_pos hl, if_pos hl, wrF, rd_wr_other _ _ _ _ hdom, wrB, rd_wr_other _ _ _ _ hdev, wrB, rd_wr_other _ _ _ _ hdev,
        hsource]
    · rw [if_neg hl, hsource]
  refine hpower.restartIdle ?_
  change rd (if domOk (bootOos (setSource source s)) 4 then loadLanterns (bootOos (setSource source s))
    else bootOos (setSource source s)) o = rd s o
  split
  · rw [rd, regs_loadLanterns, ← rd, hoos]
  · exact hoos

end

end Sys2Proof.Machine

namespace Sys2Proof.Machine

open Sys2Proof

section
variable {ifc : Iface} {s t : State} {b : List Byte}

/-- A good image whose DRAM trains is in force once it is loaded, and the device runs. -/
theorem loadImage_runs {v : Ver} {source keep : Nat} (hv : v.seq < 2 ^ 32) (s : State) :
    (loadImage v source keep .ok s).boot.phase = .running ∧ (loadImage v source keep .ok s).boot.secs = v.secs ∧
    (loadImage v source keep .ok s).flash = s.flash ∧ rdn (loadImage v source keep .ok s) rIMG_SEQ = v.seq := by
  have htrained : ¬ ddrState (imageTrained v keep .ok s) ≠ 2 := not_not.mpr (ddrState_ddrTrain_ok _)
  rw [loadImage_eq, if_neg htrained]
  have hstart := HoldsBoot.steady { s with boot := { s.boot with secs := v.secs, present := v.present, staged := false } }
  obtain ⟨-, hboot, hflash⟩ := steady_imageLoaded (steady_imageTrained (keep := keep) (train := .ok) hstart)
  generalize imageLoaded (imageTrained v keep .ok s) = u at hboot hflash
  have hrun := HoldsBoot.steady { u with boot := { u.boot with phase := .running } }
  obtain ⟨-, hboot', hflash'⟩ := steady_imageRuns (source := source) (steady_setImageId (v := v) hrun)
  refine ⟨by rw [hboot'], ?_, hflash'.trans hflash, ?_⟩
  · rw [hboot']
    exact congrArg Boot.secs hboot
  · rw [rdn, rd_imageRuns (by decide) (by decide) (by decide) (by decide) (by decide), ← rdn]
    exact rdn_setImageId hv _

/-- The answer of the last access tells a verification nothing. -/
theorem alike_answer (ws : List Word) (s : State) : Alike s (answer ws s) := ⟨s.regs, _, rfl, .refl _⟩

/-- A GO with a good image staged boots it. -/
theorem pcieBootGo_boots (hg : gate ifc true rPCIE_BOOT s = .open) (hphase : s.boot.phase = .waitPcie)
    (hb : stagedBytes s wmBase (rdF s rSTAGE_LEN 24 0) = some b)
    (hok : (verifyImage (bootAvail s) s b 0x2000000 (some (rdF s rSTAGE_LEN 24 0))).ok = true) :
    Completes (.pcieBootGo ifc { train := .ok }) s fun t =>
      t.boot.phase = .running ∧
      t.boot.secs = (verifyImage (bootAvail s) s b 0x2000000 (some (rdF s rSTAGE_LEN 24 0))).secs ∧
      rdn t rIMG_SEQ = leAt 0xC 4 b ∧ t.flash = s.flash := by
  have hl := logOnly_gatedWrite (v := w32 1) (eff := pcieBootEffect (w32 1) { train := .ok }) hg (by decide) (by decide)
  have hver : verifyImage (bootAvail (answer [] s)) (answer [] s) b 0x2000000 (some (rdF (answer [] s) rSTAGE_LEN 24 0)) =
      verifyImage (bootAvail s) s b 0x2000000 (some (rdF s rSTAGE_LEN 24 0)) :=
    verifyImage_alike (alike_answer [] s) rfl b 0x2000000 _
  have hb' : stagedBytes (answer [] s) wmBase (rdF (answer [] s) rSTAGE_LEN 24 0) = some b :=
    (stagedBytes_alike (alike_answer [] s) _ _).trans hb
  have hp' : (answer [] s).boot.phase = .waitPcie := hphase
  have hseq := verifyImage_seq hok
  have hlt := leAt_four_lt 0xC b
  generalize verifyImage (bootAvail s) s b 0x2000000 (some (rdF s rSTAGE_LEN 24 0)) = v at hver hok hseq ⊢
  have heff : (pcieBootEffect (w32 1) { train := .ok } (answer [] s)).1 =
      loadImage v 2 (rdF (answer [] s) rSTAGE_LEN 24 0) .ok (slotResult 1 v.code (slotResult 0 v.code (answer [] s))) := by
    unfold pcieBootEffect
    rw [if_pos ⟨by decide, hp'⟩]
    simp only [hb', hver, hok, if_true]
  rw [heff] at hl
  obtain ⟨hrun, hsecs, hflash, himg⟩ := loadImage_runs (source := 2) (keep := rdF (answer [] s) rSTAGE_LEN 24 0) (hseq ▸ hlt)
    (slotResult 1 v.code (slotResult 0 v.code (answer [] s)))
  refine ⟨_, rfl, ?_, ?_, ?_, ?_⟩
  · exact (congrArg Boot.phase hl.2.1).trans hrun
  · exact (congrArg Boot.secs hl.2.1).trans hsecs
  · rw [rdn, hl.2.2 _ (by decide), ← rdn, himg, hseq]
  · exact (hl.1 .flash (by simp)).trans hflash

end

theorem canReady_iff (s : State) :
    canReady s = true ↔ deviceOos s = false ∧ s.boot.phase ≠ .halted ∧ s.fuses.keeperBad % 4 = 0 := by
  simp [canReady, and_assoc]

/-- Settles O10: a power-on reset leaves the device unbooted up to the choice of its source; READY is set where it may be; and a
good staged image is verified as before the access, and loaded. -/
theorem bootCommands : Obligations.BootCommands := by
  refine ⟨fun env s => ?_, fun src env s hsrc h0 h1 => ?_, fun ifc s hg hoos hphase hkeeper => ?_, fun ifc s hg h => ?_,
    fun _ _ _ => pcieBootGo_boots, fun _ _ _ => pcieBootGo_ignored⟩
  · obtain ⟨hphase, hu⟩ := (unbooted_powerOn (1 : Fin 4) s).bootDevice_pcie (env := env) rfl
    refine ⟨_, exec_powerOnReset 1 env s, hphase, hu.mem, hu.jobs, ?_, ?_, hu.clear.isReady, hu.flash, hu.fuses, hu.pending⟩
    · exact congrArg Clock.aon hu.clock
    · exact congrArg Clock.dtime hu.clock
  · have hne : src.val ≠ 1 := fun h => hsrc (Fin.ext h)
    obtain ⟨hphase, hu⟩ := (unbooted_powerOn src s).bootDevice_noHeader (env := env) hne h0 h1
    refine ⟨_, exec_powerOnReset src env s, hphase.trans ?_, hu.mem, hu.flash, hu.fuses⟩
    exact if_congr (Fin.ext_iff (b := 2)).symm rfl rfl
  · exact readySet_inService hg ((canReady_iff s).mpr ⟨hoos, hphase, hkeeper⟩)
  · refine readySet_refused hg ?_
    rw [← Bool.not_eq_true, canReady_iff]
    rcases h with h | h | h | h
    · exact .inl fun hc => absurd (h.symm.trans hc.1) (by decide)
    · exact .inl fun hc => hc.2.1 h
    · exact .inl fun hc => h hc.2.2
    · exact .inr h

end Sys2Proof.Machine

namespace Sys2Proof.Machine

open Sys2Proof

namespace Steady

section
variable {Q : State → Prop} {s : State}

/-! ### What the pipes have open as the Sector engine is fenced -/

protected theorem setPframe {c : Nat} {f : PipeFrame} (h : Steady Q s) : Steady Q (setPframe c f s) := h.setPctx

protected theorem pipeFlag {c b : Nat} (h : Steady Q s) : Steady Q (pipeFlag c b s) := h.setPframe

protected theorem setSem {n : Nat} {x : Sem} (h : Steady Q s) : Steady Q (setSem n x s) := h.others

protected theorem semLoad {n c : Nat} (h : Steady Q s) : Steady Q (semLoad n c s) :=
  h.unreserve.setSem.onlyIf fun h => h.assertSrc

protected theorem semRelease {n k : Nat} (h : Steady Q s) : Steady Q (semRelease n k s) :=
  .ite ((h.semLoad.bump (.add (.lit rfl))).limited fun h => h.raiseE) h.semLoad

protected theorem semWordWrite {a v : Nat} (h : Steady Q s) : Steady Q (semWordWrite a v s).2 := by
  have h1 : Steady Q (unreserve a 4 s) := h.unreserve
  unfold Machine.semWordWrite
  dsimp only
  split
  exacts [h1.semLoad, h1.semRelease, h1, h1.setSem, h1]

protected theorem semPuts {a k : Nat} {bs : List Byte} (h : Steady Q s) : Steady Q (semPuts a k bs s).2 := by
  induction k generalizing a bs s with
  | zero => exact h
  | succ k ih => exact ih h.semWordWrite

protected theorem spLatch {a kind port : Nat} (h : Steady Q s) : Steady Q (spLatch a kind port s) :=
  (h.wr64 (.lit rfl)).wrn (.lit rfl)

protected theorem wmUncorrectable {p a : Nat} (h : Steady Q s) : Steady Q (wmUncorrectable p a s) :=
  (h.spLatch.bump (.add (.lit rfl))).onlyIf fun h => h.raiseA

protected theorem setPoison {b : Nat} {v : Bool} (h : Steady Q s) : Steady Q (setPoison b v s) := h.others

protected theorem memErrEffect {p a : Nat} {e : MemErr} (h : Steady Q s) : Steady Q (memErrEffect p a e s) := by
  unfold Machine.memErrEffect
  split
  · exact h
  · exact h.bump (.add (.lit rfl))
  · exact h.setPoison
  · exact (h.setPoison.spLatch.bump (.add (.lit rfl))).limited fun h => h.raiseA
  · exact h.bump (.add (.lit rfl))
  · exact (h.setPoison.spLatch.bump (.add (.lit rfl))).raiseA
  · exact h

protected theorem ownerViolation {p a : Nat} (h : Steady Q s) : Steady Q (ownerViolation p a s) :=
  (h.spLatch.bump (.add (.lit rfl))).limited fun h => h.raiseA

protected theorem portWrite {p a : Nat} {bs : List Byte} {dirty : Bool} {e : MemErr} (h : Steady Q s) :
    Steady Q (portWrite p a bs dirty e s).2 := by
  refine .iteSnd h (.iteSnd h.ownerViolation ?_)
  extract_lets +onlyGivenNames rmw s1
  have h1 : Steady Q s1 := .ite h.memErrEffect h
  refine .iteSnd ?_ (.iteSnd h1 h1.storeBytes)
  extract_lets +onlyGivenNames hb tb s2 s3
  have h3 : Steady Q s3 := (h1.onlyIf fun h => h.wmUncorrectable).onlyIf fun h => h.wmUncorrectable
  exact .iteSnd h3 h3.storeBytes

protected theorem devPut {g : Agent} {a : Nat} {bs : List Byte} {dirty : Bool} (h : Steady Q s) :
    Steady Q (devPut g a bs dirty s) := by
  unfold Machine.devPut devWrite
  refine .iteSnd h.agentDecodeErr (.iteSnd h ?_)
  split
  · exact h.portWrite
  · exact h.portWrite
  · exact h.portWrite
  · exact h.dramWrite
  · exact h.storeBytes
  · exact h.storeBytes
  · exact .iteSnd h.semPuts h
  · exact h
  · exact h
  · exact h

protected theorem ringStore {g : Agent} {base size pos : Nat} {bs : List Byte} {dirty : Bool} (h : Steady Q s) :
    Steady Q (ringStore g base size pos bs dirty s) :=
  .ite h.devPut.devPut h.devPut

protected theorem stageTake {c n : Nat} (h : Steady Q s) : Steady Q (stageTake c n s) := .ite h (h.others.wrn (.add (.lit rfl)))

protected theorem stageDrop {c : Nat} (h : Steady Q s) : Steady Q (stageDrop c s) :=
  .ite h (h.setPframe.pipeFlag.pipeFlag.bump (.add (.add (.lit rfl)))).raiseE

protected theorem outFull {c o : Nat} (h : Steady Q s) : Steady Q (outFull c o s) :=
  (h.setPframe.pipeFlag.pipeFlag.bump (.add (.add (.lit rfl)))).raiseE

protected theorem outLine {c o : Nat} {planes : List (List Byte)} (h : Steady Q s) : Steady Q (outLine c o planes s) :=
  .ite h (.ite h.outFull (.ite h.stageDrop
    ((h.stageTake.forAll fun h => h.ringStore).setPframe.wr64 (.add (.add (.lit rfl))))))

protected theorem codingLine {c : Nat} {ycc : List (List Nat)} (h : Steady Q s) : Steady Q (codingLine c ycc s) :=
  .ite h (.ite h.setPframe.outLine (.ite h.setPframe.outLine
    (.ite h.setPframe.outLine.stageDrop h.setPframe.outLine.stageTake.ringStore)))

protected theorem bandClose {c : Nat} {last : Bool} (h : Steady Q s) : Steady Q (bandClose c last s) :=
  .ite h (.ite h.setPframe h.setPframe.devPut.setPctx.semRelease)

protected theorem closeCtx {c : Nat} (h : Steady Q s) : Steady Q (closeCtx c s) := by
  unfold Machine.closeCtx
  extract_lets +onlyGivenNames pf f s1 s2 pf' off n q s3 s4 cut x mf s5 s6
  have h2 : Steady Q s2 := .bandClose (.ite h h.codingLine)
  have h4 : Steady Q s4 := ((h2.wrWords (.add (.add (.lit rfl)))).wrn (.add (.lit rfl))).bump (.add (.add (.lit rfl)))
  have h6 : Steady Q s6 := h4.setPctx.setCtxState.wrB (.add (.lit rfl))
  exact .ite (h6.wrB (.add (.lit rfl))) h6

protected theorem loseSplice {c : Nat} (h : Steady Q s) : Steady Q (loseSplice c s) := by
  unfold Machine.loseSplice
  dsimp only
  split
  · exact h.others
  · have h1 {pf : PipeFrame} {b b' : Nat} {y : PCtx} {s' : State} (h : Steady Q s') :
        Steady Q (setPctx c y (raiseE 53 3 (bump (rCTX_CNT c 6) 1 (bandClose c true
          (pipeFlag c b (pipeFlag c b' (setPframe c pf s'))))))) :=
      (h.setPframe.pipeFlag.pipeFlag.bandClose.bump (.add (.add (.lit rfl)))).raiseE.setPctx
    exact .ite h.others (.ite (h1 h.others).closeCtx (h1 h.others).setCtxState)

protected theorem secFenced (h : Steady Q s) : Steady Q (secFenced s) := .others (h.forAll fun h => .ite h.loseSplice h)

end

end Steady

end Sys2Proof.Machine

namespace Sys2Proof.Machine

open Sys2Proof

namespace Steady

section
variable {Q : State → Prop} {s : State}

/-! ### Domains that are reset and restored (R47, R54) -/

protected theorem dropReadsOf {p : PcieReq → Bool} (h : Steady Q s) : Steady Q (dropReadsOf p s) := h.others

protected theorem resetUnits {d : Nat} (h : Steady Q s) : Steady Q (resetUnits d s) := by
  unfold Machine.resetUnits
  split
  · exact h.others
  · exact h.secFenced.others
  · exact h.others
  · exact h.others.dropReadsOf.forAll fun h => h.setLan
  · exact h.others
  · exact h.others
  · exact h.others.dropReadsOf

protected theorem resetRegs {d : Nat} (h : Steady Q s) : Steady Q (resetRegs d s) := by
  have h1 : Steady Q { s with regs := s.regs.filter (fun e => decide (blockDom (e.1 / 0x100000) ≠ some d) || keptInAon e.1) } :=
    ⟨h.1, h.1.filter h.2⟩
  exact h1.others

protected theorem resetDomain {d : Nat} (h : Steady Q s) : Steady Q (resetDomain d s) := h.resetUnits.resetRegs

protected theorem reachRef {r : JobRef} (h : Steady Q s) : Steady Q (reachRef r s) := ⟨h.1, h.1.reach h.2⟩

protected theorem reachDomain {d : Nat} (h : Steady Q s) : Steady Q (reachDomain d s) :=
  .onlyIf (h.forAll fun h => h.reachRef) fun h => h.forAll fun h =>
    .ite (.onlyIf h.others fun h => h.reachRef) h

protected theorem recordReset {d : Nat} (h : Steady Q s) : Steady Q (recordReset d s).1 := h.others

protected theorem setGrpState {g : Nat} (h : Steady Q s) : Steady Q (setGrpState g s) := by
  have h1 : Steady Q (wrF rGRP_STATUS 2 0 g s) := h.wrF (.lit rfl)
  have h2 : Steady Q (wrF rDEV_STATE 6 5 (grpRole g) (wrF rGRP_STATUS 2 0 g s)) :=
    ⟨h1.1, h1.1.dev (fun hr => (bit_setFld_other (by decide) (by decide)).trans hr) h1.2⟩
  exact .ite h (.ite h2.assertSrc h2)

protected theorem groupEnter (h : Steady Q s) : Steady Q (groupEnter s) :=
  .ite h.others.setGrpState (.ite h.others.setGrpState h.others.setGrpState)

protected theorem restoreDomain {d : Nat} (h : Steady Q s) : Steady Q (restoreDomain d s) := by
  unfold Machine.restoreDomain
  dsimp only
  split
  · exact h.applyRepair.restoreDomain1
  · exact h.applyRepair.loadRoutesD2.secLoad
  · exact h.applyRepair.loadRoutesD3.loadContexts.calLoad
  · exact h.applyRepair.loadProfiles.loadLanterns
  · exact h.applyRepair.onlyIf fun h => h.groupEnter
  · exact h.applyRepair

protected theorem chAbort {c : Nat} (h : Steady Q s) : Steady Q (chAbort c s) :=
  .ite h (.others (.others (h.wrF (.add (.lit rfl)))))

/-! ### An apply that resets and loads what has changed (R57) -/

section
variable (hprec : ∀ {s}, Steady Q s → Steady Q (precNow s))
include hprec

protected theorem applyReset {d : Nat} (h : Steady Q s) : Steady Q (applyReset d s) := by
  have h1 : Steady Q (precNow (recordReset d (resetDomain d (reachDomain d s))).1) := hprec h.reachDomain.resetDomain.recordReset
  refine .ite h (.ite ?_ h1.restoreDomain)
  exact ((h1.wrF (.add (.lit rfl))).wrB (.add (.lit rfl))).raiseE

protected theorem applySections {changed repair : List Nat} (h : Steady Q s) : Steady Q (applySections changed repair s) := by
  unfold Machine.applySections
  extract_lets +onlyGivenNames has s1 s2 s3 rs s4 s5 s6 s7
  have h1 : Steady Q s1 := h.onlyIf fun h => h.loadOwners.forAll fun h => h.chAbort
  have h3 : Steady Q s3 := (h1.onlyIf fun h => h.loadKeeper).onlyIf fun h => h.regulLoad
  have h4 : Steady Q s4 := h3.forAll fun h => h.applyReset hprec
  have h7 : Steady Q s7 := ((h4.onlyIf fun h => h.loadRoutesD2).onlyIf fun h => h.secLoad).onlyIf fun h => h.loadContexts
  exact h7.onlyIf fun h => h.forAll fun h => h.secRefresh

end

end

end Steady

/-! ### A reset of D0 boots the device anew (R47) -/

/-- READY is clear, every job slot is free, and no image is applied. -/
structure Fresh (t : State) : Prop where
  clear : DevClear t
  free : ∀ k, (job t k).state = .free
  applying : t.boot.applying = none

namespace Fresh

section
variable {s t : State}

protected theorem calm : Calm Fresh where
  wrEvent := fun ho h => { h with clear := h.clear.wr (by simp only [EventReg, rDEV_STATE] at ho ⊢; omega) }
  pcie := fun h => { h with }
  fault := fun h => { h with }
  irq := fun h => { h with }
  wr := fun ho h => { h with clear := h.clear.wr (by rintro rfl; exact absurd ho (Nat.lt_irrefl 0x10)) }
  dev := fun hv h => { h with clear := h.clear.wr fun _ => hv h.clear.isReady }
  prec := fun h => { h with }
  reach := fun {t r} h => by
    have hfree : reachRef r t = t := by
      have hj : (tget ({} : Job) t.jobs r.slot).state = .free := h.free r.slot
      simp [reachRef, hj]
    rwa [hfree]
  filter := fun h => { h with clear := fun e he => h.clear e (List.mem_of_mem_filter he) }
  others := fun h => { h with }

theorem boot {b : Boot} (hb : b.applying = t.boot.applying) (h : Steady Fresh t) : Steady Fresh { t with boot := b } :=
  ⟨h.1, { h.2 with applying := hb.trans h.2.applying }⟩

theorem loadImage {v : Ver} {source keep : Nat} {train : TrainResult} (h : Steady Fresh t) :
    Steady Fresh (loadImage v source keep train t) := by
  have h1 : Steady Fresh (imageTrained v keep train t) := steady_imageTrained (boot (by rfl) h)
  rw [loadImage_eq]
  generalize imageTrained v keep train t = u at h1
  refine .ite (boot (by rfl) h1).ddrUnload ?_
  exact steady_imageRuns (steady_setImageId (boot (by rfl) (steady_imageLoaded h1)))

theorem noImage (h : Steady Fresh t) : Steady Fresh (noImage t) := boot (by rfl) h

theorem bootFlash {env : BootEnv} (h : Steady Fresh t) : Steady Fresh (bootFlash env t) := by
  unfold Machine.bootFlash
  extract_lets +onlyGivenNames header s1
  have h1 : Steady Fresh s1 := h.forAll fun h => by
    split
    exacts [h.slotFail, h]
  dsimp only
  split
  · exact noImage h1.raiseE
  · refine .ite (loadImage (h1.forAll fun h => h.slotResult).slotResult) ?_
    split
    · exact noImage h1.slotFail.raiseE
    · exact .ite (loadImage (h1.slotFail.slotResult.raiseE.wrB (.lit rfl))) (noImage h1.slotFail.slotFail.raiseE)

theorem bootDevice {env : BootEnv} (h : Steady Fresh t) : Steady Fresh (bootDevice env t) := by
  have h1 : Steady Fresh (wrF rBOOT_STATUS 13 12 t.boot.src { t with boot := { t.boot with phase := .waitPcie } }) :=
    (boot (by rfl) h).wrF (.lit rfl)
  have h2 : Steady Fresh (beforeBoot t) := h1.others.replayHeld.holdKeepers.fuseFields.showOos
  rw [bootDevice_eq]
  exact .ite (noImage h2) (bootFlash h2)

end

end Fresh

/-- Every job slot is free. -/
def JobsFree (t : State) : Prop := ∀ k, (job t k).state = .free

theorem JobsFree.calm : Calm JobsFree where
  wrEvent := fun _ => id
  pcie := id
  fault := id
  irq := id
  wr := fun _ => id
  dev := fun _ => id
  prec := id
  reach := fun {t r} h => by
    have hj : (tget ({} : Job) t.jobs r.slot).state = .free := h r.slot
    have hfree : reachRef r t = t := by simp [reachRef, hj]
    rwa [hfree]
  filter := id
  others := id

/-- The slots as a reset of D0 leaves them: free, each with its generation. -/
theorem jobsFree_gens (f : Nat → Nat) (l : List Nat) (k : Nat) :
    (tget ({} : Job) (l.foldl (fun t k => tput {} t k ({ gen := f k } : Job)) []) k).state = .free := by
  have hstep {l : List Nat} {t : Tab Job} (h : ∀ k, (tget ({} : Job) t k).state = .free) (k : Nat) :
      (tget ({} : Job) (l.foldl (fun t k => tput {} t k ({ gen := f k } : Job)) t) k).state = .free := by
    induction l generalizing t with
    | nil => exact h k
    | cons x l ih =>
      refine ih fun j => ?_
      rw [tget_tput]
      split
      exacts [rfl, h j]
  exact hstep (fun _ => rfl) k

/-- The reset of D0's registers leaves no entry of DEV_STATE. -/
theorem devClear_resetRegs (s : State) : DevClear (resetRegs 0 s) := by
  intro e he heq
  have hp := (List.mem_filter.mp he).2
  rw [heq] at hp
  exact absurd hp (by decide)

theorem fresh_resetAll (s : State) : Steady Fresh (resetAll s) := by
  unfold resetAll
  extract_lets gens keeper s1 s2 s3
  have hgens : ∀ k, (tget ({} : Job) gens k).state = .free := jobsFree_gens (fun k => (job s k).gen) (upto 16)
  clear_value gens
  have h1 : Steady JobsFree s1 := ⟨JobsFree.calm, hgens⟩
  have hfree : Steady JobsFree (forAll [4, 6, 5, 1, 2, 3] resetDomain s1) := h1.forAll fun h => h.resetDomain
  have hclear : DevClear s2 := devClear_resetRegs (resetUnits 0 (forAll [4, 6, 5, 1, 2, 3] resetDomain s1))
  have h2 : JobsFree s2 := (hfree.resetDomain (d := 0)).2
  have h3 : DevClear s3 ∧ JobsFree s3 := forAll_stable (Q := fun t => DevClear t ∧ JobsFree t)
    (fun {d t} _ h => ⟨h.1.wr (by simp only [rRWIN_D, rDEV_STATE]; omega), h.2⟩) ⟨hclear, h2⟩
  exact ⟨Fresh.calm, h3.1, h3.2, rfl⟩

/-- A reset of D0 records the reset, resets everything, and boots, or holds the device while it is too hot. -/
theorem resetD0_eq (counted : Bool) (env : BootEnv) (s : State) :
    ∃ u, resetD0 counted env s =
      if (resetAll u).fault.hot ∧ tth4 (resetAll u) ≤ tj4 (resetAll u) then
        { resetAll u with boot := { (resetAll u).boot with phase := .heldHot } }
      else bootDevice env (resetAll u) := ⟨_, rfl⟩

theorem fresh_resetD0 (counted : Bool) (env : BootEnv) (s : State) : Fresh (resetD0 counted env s) := by
  obtain ⟨u, hu⟩ := resetD0_eq counted env s
  rw [hu]
  have h := fresh_resetAll u
  generalize resetAll u = t at h
  exact (Steady.ite (Fresh.boot (by rfl) h) (Fresh.bootDevice h)).2

end Sys2Proof.Machine

namespace Sys2Proof.Machine

open Sys2Proof

section
variable {ifc : Iface} {s t : State} {b : List Byte}

/-! ### APPLY_COMPLETE (R57) -/

theorem boot_precNow (s : State) : (precNow s).boot = s.boot := by
  unfold precNow
  split
  exacts [rfl, rfl]

/-- The sections in force are as given. -/
def HoldsSecs (x : Tab (List Byte)) (t : State) : Prop := t.boot.secs = x

theorem HoldsSecs.calm (x : Tab (List Byte)) : Calm (HoldsSecs x) where
  wrEvent := fun _ => id
  pcie := id
  fault := id
  irq := id
  wr := fun _ => id
  dev := fun _ => id
  prec := id
  reach := fun {t r} h => by
    unfold reachRef
    dsimp only
    split
    · exact h
    · split
      exacts [h, h]
  filter := id
  others := id

/-- What an apply resets and loads leaves the sections that it has put in force. -/
theorem secs_applySections (changed repair : List Nat) (s : State) : (applySections changed repair s).boot.secs = s.boot.secs :=
  (Steady.applySections (fun {u} h => ⟨h.1, (congrArg Boot.secs (boot_precNow u)).trans h.2⟩)
    ⟨HoldsSecs.calm s.boot.secs, rfl⟩).2

theorem applyComplete_idle (h : s.boot.applying = none) : Completes .applyComplete s fun t => t = s :=
  ⟨s, by simp only [exec, execApplyComplete, h], rfl⟩

theorem execApplyComplete_repair (h : s.boot.applying = some b)
    (hr : (repairDomains (tget [] s.boot.secs 1) (tget [] (verifyForm b 0x2000000 none).1.secs 1)).contains 0 = true) :
    ∃ u, exec .applyComplete s = .next (resetD0 true calmEnv u) := by
  simp only [exec, execApplyComplete, h, hr, if_true]
  exact ⟨_, rfl⟩

/-- An image that changes a repair entry of D0 resets it. -/
theorem applyComplete_resets (h : s.boot.applying = some b)
    (hr : (repairDomains (tget [] s.boot.secs 1) (tget [] (verifyForm b 0x2000000 none).1.secs 1)).contains 0 = true) :
    Completes .applyComplete s fun t => t.boot.applying = none ∧ isReady t = false ∧ ∀ k, k < 16 → (job t k).state = .free := by
  obtain ⟨u, hu⟩ := execApplyComplete_repair h hr
  obtain ⟨hclear, hfree, happlying⟩ := fresh_resetD0 true calmEnv u
  exact ⟨_, hu, happlying, hclear.isReady, fun k _ => hfree k⟩

/-- The end of an apply: the state to come back to is shown, and nothing is applied any more. -/
def applied (back : Nat) (s : State) : State :=
  let s := wrB rQUIESCE_STATUS 3 true (wrB rQUIESCE_CTRL 1 false (setQuiesce back s))
  { s with boot := { s.boot with applying := none, wasForced := false, releaseAfter := false } }

theorem quiesceState_applied {back : Nat} (hback : back < 8) (s : State) : quiesceState (applied back s) = back := by
  have h1 : quiesceState (wrB rQUIESCE_CTRL 1 false (setQuiesce back s)) = back :=
    (quiesceState_wrB_ctrl 1 false _).trans (quiesceState_setQuiesce hback s)
  refine Eq.trans ?_ h1
  exact (congrArg (fld · 2 0) (rd_wr_same _ _ _)).trans (fld_setFld_other (by decide) (by decide))

theorem rdB_ctrl_applied (back : Nat) (s : State) : rdB (applied back s) rQUIESCE_CTRL 1 = false := by
  have h1 : rdB (wrB rQUIESCE_CTRL 1 false (setQuiesce back s)) rQUIESCE_CTRL 1 = false := (rdB_wrB (by decide)).trans (if_pos rfl)
  exact (congrArg (bit · 1) (rd_wr_other _ _ _ _ (by decide))).trans h1

/-- An image that changes no repair entry of D0 is in force once its sections are loaded. -/
theorem applyComplete_applied (h : s.boot.applying = some b)
    (hr : (repairDomains (tget [] s.boot.secs 1) (tget [] (verifyForm b 0x2000000 none).1.secs 1)).contains 0 = false) :
    Completes .applyComplete s fun t =>
      t.boot.applying = none ∧ t.boot.secs = (verifyForm b 0x2000000 none).1.secs ∧ rdB t rQUIESCE_CTRL 1 = false ∧
      quiesceState t = (if s.boot.releaseAfter then 0 else if s.boot.wasForced then 3 else 2) := by
  have hback : (if s.boot.releaseAfter then 0 else if s.boot.wasForced then 3 else 2) < 8 := by
    split
    · decide
    · split <;> decide
  have hexec : ∃ changed repair u, u.boot.secs = (verifyForm b 0x2000000 none).1.secs ∧ exec .applyComplete s =
      .next (applied (if s.boot.releaseAfter then 0 else if s.boot.wasForced then 3 else 2) (applySections changed repair u)) := by
    simp only [exec, execApplyComplete, h, hr]
    exact ⟨_, _, _, rfl, rfl⟩
  obtain ⟨changed, repair, u, hsecs, hu⟩ := hexec
  exact ⟨_, hu, rfl, (secs_applySections changed repair u).trans hsecs, rdB_ctrl_applied _ _, quiesceState_applied hback _⟩

/-! ### APPLY (R56) -/

theorem setBit_of_bit {w : Word} {i : Nat} {v : Bool} (hi : i < 32) (h : bit w i = v) : setBit w i v = w := by
  refine BitVec.eq_of_toNat_eq (Nat.eq_of_testBit_eq fun j => ?_)
  have hj : bit (setBit w i v) j = bit w j := by
    rw [bit_setBit hi]
    split
    next hji => rw [hji, h]
    next => rfl
  exact hj

/-- A write of a REQ that is set is seen by no check of an image. -/
theorem alike_requested (hreq : rdB s rQUIESCE_CTRL 0 = true) : Alike s (wrB rQUIESCE_CTRL 0 true (answer [] s)) := by
  refine ⟨_, _, rfl, ?_⟩
  have hv : setBit (rd s rQUIESCE_CTRL) 0 true = rd s rQUIESCE_CTRL := setBit_of_bit (by decide) hreq
  change Junk rQUIESCE_CTRL s.regs (tput (resetVal rQUIESCE_CTRL) s.regs rQUIESCE_CTRL (setBit (rd s rQUIESCE_CTRL) 0 true))
  rw [hv]
  refine .of_tput (fun h => ?_) rfl
  have hbit : bit (rd s rQUIESCE_CTRL) 0 = true := hreq
  rw [h] at hbit
  exact absurd hbit (by decide)

theorem applyAvail_alike (h : Alike s t) : applyAvail t = applyAvail s := by
  have hR := Alike.lockstep
  have hnow : availNowOf t = availNowOf s := by simp only [availNowOf, hR.rdF h, hR.rdB h, hR.rdn h, hR.rd64 h]
  have hfuses : t.fuses = s.fuses := by
    obtain ⟨l, r, rfl, -⟩ := h
    rfl
  funext section1
  rw [applyAvail, hnow, hfuses, ← applyAvail]

/-- The image that is applied from now on. -/
def applying (b : List Byte) (s : State) : State :=
  { wrB rQUIESCE_CTRL 1 true (setQuiesce 4 s) with
    boot := { s.boot with applying := some b, wasForced := decide (quiesceState s = 3), releaseAfter := false } }

theorem applyEffect_good {len : Nat} (hlo : 2 ≤ quiesceState s) (hhi : quiesceState s ≤ 3) (hlen : rdF s rSTAGE_LEN 24 0 = len)
    (hb : stagedBytes s (rd64 s rSTAGE_ADDR_LO) len = some b)
    (hok : (verifyImage (applyAvail s) s b 0x2000000 (some len)).ok = true)
    (hreset : resetOnlyDiffers s (verifyForm b 0x2000000 (some len)).2 = none) : applyEffect s = applying b s := by
  unfold applyEffect
  dsimp only
  rw [if_neg (by omega), if_neg (by omega), hlen]
  simp only [hb, hok, hreset]
  rfl

/-- What an APPLY of an image does once REQ is as it was. -/
theorem logOnly_apply {r : Bool} (hg : gate ifc true rQUIESCE_CTRL s = .open) (hreq : rdB s rQUIESCE_CTRL 0 = r) :
    ∃ t, exec (.apply ifc) s = .next t ∧ LogOnly (applyEffect (reqEffect r (answer [] s))) t := by
  have hv1 : bit (setBit (rd s rQUIESCE_CTRL) 1 true) 1 = true := (bit_setBit (by decide)).trans (if_pos rfl)
  have hv0 : bit (setBit (rd s rQUIESCE_CTRL) 1 true) 0 = r := (bit_setBit (by decide)).trans ((if_neg (by decide)).trans hreq)
  have hl := logOnly_gatedWrite (v := setBit (rd s rQUIESCE_CTRL) 1 true)
    (eff := quiesceCtrlEffect (setBit (rd s rQUIESCE_CTRL) 1 true)) hg (by decide) (by decide)
  refine ⟨_, rfl, ?_⟩
  simpa only [quiesceCtrlEffect, hv0, hv1, onlyIf, if_true] using hl

theorem reqEffect_quiesced (hlo : 2 ≤ quiesceState s) (hhi : quiesceState s ≤ 3) :
    reqEffect true s = wrB rQUIESCE_CTRL 0 true s := by
  unfold reqEffect
  simp only [quiesceState_wrB_ctrl]
  split
  · omega
  · omega
  · rfl

/-- An APPLY on a quiesced device of a good image that asks for no reset begins. -/
theorem apply_begins (hg : gate ifc true rQUIESCE_CTRL s = .open) (hlo : 2 ≤ quiesceState s) (hhi : quiesceState s ≤ 3)
    (hreq : rdB s rQUIESCE_CTRL 0 = true) (hb : stagedBytes s (rd64 s rSTAGE_ADDR_LO) (rdF s rSTAGE_LEN 24 0) = some b)
    (hok : (verifyImage (applyAvail s) s b 0x2000000 (some (rdF s rSTAGE_LEN 24 0))).ok = true)
    (hreset : resetOnlyDiffers s (verifyForm b 0x2000000 (some (rdF s rSTAGE_LEN 24 0))).2 = none) :
    Completes (.apply ifc) s fun t =>
      quiesceState t = 4 ∧ t.boot.applying = some b ∧ rdB t rQUIESCE_CTRL 1 = true ∧ t.boot.secs = s.boot.secs ∧
      KeptAccess [.boot] [rQUIESCE_CTRL, rQUIESCE_STATUS] s t := by
  obtain ⟨t, ht, hl⟩ := logOnly_apply hg hreq
  have ha := alike_requested hreq
  have hR := Alike.lockstep
  rw [reqEffect_quiesced (s := answer [] s) hlo hhi] at hl
  have hkept : Kept [.boot] [rQUIESCE_CTRL, rQUIESCE_STATUS] (answer [] s) (wrB rQUIESCE_CTRL 0 true (answer [] s)) :=
    .wr (by simp) (.refl _)
  have hboot : (wrB rQUIESCE_CTRL 0 true (answer [] s)).boot = s.boot := rfl
  generalize wrB rQUIESCE_CTRL 0 true (answer [] s) = u at ha hl hkept hboot
  have hq : quiesceState u = quiesceState s := hR.rdF ha
  have hlen : rdF u rSTAGE_LEN 24 0 = rdF s rSTAGE_LEN 24 0 := hR.rdF ha
  have hstaged : stagedBytes u (rd64 u rSTAGE_ADDR_LO) (rdF s rSTAGE_LEN 24 0) = some b := by
    rw [hR.rd64 ha, stagedBytes_alike ha, hb]
  have hver : (verifyImage (applyAvail u) u b 0x2000000 (some (rdF s rSTAGE_LEN 24 0))).ok = true := by
    rw [verifyImage_alike ha (applyAvail_alike ha), hok]
  have hkeep : resetOnlyDiffers u (verifyForm b 0x2000000 (some (rdF s rSTAGE_LEN 24 0))).2 = none := by
    simp only [resetOnlyDiffers, sec, hboot] at hreset ⊢
    exact hreset
  rw [applyEffect_good (by omega) (by omega) hlen hstaged hver hkeep] at hl
  refine ⟨t, ht, ?_, congrArg Boot.applying hl.2.1, ?_, ?_, .of_effect (.boot (by simp) (.wr (by simp) (.wr (by simp) hkept))) hl⟩
  · rw [quiesceState_logOnly hl]
    exact (quiesceState_wrB_ctrl 1 true _).trans (quiesceState_setQuiesce (by decide) u)
  · rw [rdB_quiesceCtrl_logOnly 1 hl]
    exact (rdB_wrB (by decide)).trans (if_pos rfl)
  · have hsecs : u.boot.secs = s.boot.secs := congrArg Boot.secs hboot
    exact (congrArg Boot.secs hl.2.1).trans hsecs

/-! ### An APPLY that is refused (R56, R59) -/

theorem applyRefuse_notQuiesced (s : State) :
    rdF (applyRefuse 1 0xFF s) rQUIESCE_STATUS 11 8 = 1 ∧ rdF (applyRefuse 1 0xFF s) rQUIESCE_STATUS 19 12 = 0xFF ∧
    rdB (applyRefuse 1 0xFF s) rQUIESCE_STATUS 4 = true ∧ (applyRefuse 1 0xFF s).boot = s.boot := by
  obtain ⟨-, hb, hr⟩ := (HoldsAt.eventStable HoldsAt.apart_quiesceStatus).raiseE (num := 36) (dom := 7) (by omega) (by decide)
    (.refl (wrF rQUIESCE_STATUS 19 12 0xFF (wrF rQUIESCE_STATUS 11 8 1 (wrB rQUIESCE_STATUS 4 true s))) _)
  refine ⟨?_, ?_, ?_, hb⟩
  · refine (congrArg (fld · 11 8) hr).trans ((congrArg (fld · 11 8) (rd_wr_same _ _ _)).trans ?_)
    exact (fld_setFld_other (by decide) (by decide)).trans (rdF_wrF_same (by decide) (by decide))
  · exact (congrArg (fld · 19 12) hr).trans (rdF_wrF_same (by decide) (by decide))
  · refine (congrArg (bit · 4) hr).trans ((congrArg (bit · 4) (rd_wr_same _ _ _)).trans ?_)
    refine (bit_setFld_other (by decide) (by decide)).trans ((congrArg (bit · 4) (rd_wr_same _ _ _)).trans ?_)
    exact (bit_setFld_other (by decide) (by decide)).trans ((rdB_wrB (by decide)).trans (if_pos rfl))

/-- A change of REQ on a device that is not quiesced leaves it so, and the images as they are. -/
theorem reqEffect_notQuiesced (on : Bool) (hq : quiesceState s < 2) :
    quiesceState (reqEffect on s) < 2 ∧ (reqEffect on s).boot.applying = s.boot.applying ∧
    (reqEffect on s).boot.secs = s.boot.secs := by
  have hold : quiesceState (wrB rQUIESCE_CTRL 0 on s) = quiesceState s := quiesceState_wrB_ctrl 0 on s
  unfold reqEffect
  dsimp only
  rw [hold]
  split
  · split
    · exact ⟨(quiesceState_setQuiesce (by decide) _).trans_lt (by decide), rfl, rfl⟩
    · exact ⟨hold.trans_lt hq, rfl, rfl⟩
  · omega
  · split
    · exact ⟨hold.trans_lt hq, rfl, rfl⟩
    · exact ⟨(quiesceState_setQuiesce (by decide) _).trans_lt (by decide), rfl, rfl⟩

theorem apply_notQuiesced (hg : gate ifc true rQUIESCE_CTRL s = .open) (hq : quiesceState s < 2) :
    Completes (.apply ifc) s fun t =>
      rdF t rQUIESCE_STATUS 11 8 = 1 ∧ rdF t rQUIESCE_STATUS 19 12 = 0xFF ∧ rdB t rQUIESCE_STATUS 4 = true ∧
      t.boot.applying = s.boot.applying ∧ t.boot.secs = s.boot.secs := by
  obtain ⟨t, ht, hl⟩ := logOnly_apply (r := rdB s rQUIESCE_CTRL 0) hg rfl
  obtain ⟨hq', happlying, hsecs⟩ := reqEffect_notQuiesced (s := answer [] s) (rdB s rQUIESCE_CTRL 0) hq
  generalize reqEffect (rdB s rQUIESCE_CTRL 0) (answer [] s) = u at hl hq' happlying hsecs
  have heff : applyEffect u = applyRefuse 1 0xFF u := by
    unfold applyEffect
    dsimp only
    rw [if_neg (by omega), if_pos hq']
  rw [heff] at hl
  obtain ⟨hreason, hidx, herr, hboot⟩ := applyRefuse_notQuiesced u
  refine ⟨t, ht, ?_, ?_, ?_, ?_, ?_⟩
  · rw [rdF, hl.2.2 _ (by decide)]
    exact hreason
  · rw [rdF, hl.2.2 _ (by decide)]
    exact hidx
  · rw [rdB, hl.2.2 _ (by decide)]
    exact herr
  · exact (congrArg Boot.applying hl.2.1).trans ((congrArg Boot.applying hboot).trans happlying)
  · exact (congrArg Boot.secs hl.2.1).trans ((congrArg Boot.secs hboot).trans hsecs)

end

/-- Settles O12: a good image is judged as before the access that asks for it, and its sections stay in force through what the end
of the apply resets and loads. -/
theorem applyLifecycle : Obligations.ApplyLifecycle :=
  ⟨fun _ _ _ => apply_begins, fun _ _ => apply_notQuiesced, fun _ _ => applyComplete_resets, fun _ => applyComplete_idle,
    fun _ _ => applyComplete_applied⟩

end Sys2Proof.Machine

namespace Sys2Proof.Machine

open Sys2Proof

/-! ### What motion and edges leave: the memories and the registers of the encoders and curtains (R82, R83) -/

/-- The registers of the encoders and curtains. -/
def BeltReg (o : Nat) : Prop := 0x800100 ≤ o ∧ o < 0x800300

/-- The memory, the flash, and the registers of the encoders and curtains are as in `s`. -/
def HoldsBelt (s t : State) : Prop := t.mem = s.mem ∧ t.flash = s.flash ∧ ∀ o, BeltReg o → rd t o = rd s o

/-- The outcome is a next state, of which `Q` holds. -/
def NextHolds (Q : State → Prop) (o : Host.Outcome State Fault Refusal) : Prop := ∃ t, o = .next t ∧ Q t

theorem NextHolds.next {Q : State → Prop} {t : State} (h : Q t) : NextHolds Q (.next t) := ⟨t, rfl, h⟩

namespace HoldsBelt

section
variable {s t : State} {n w : Nat}

protected theorem refl (s : State) : HoldsBelt s s := ⟨rfl, rfl, fun _ _ => rfl⟩

protected theorem wr {p : Nat} {v : Word} (hp : ¬ BeltReg p) (h : HoldsBelt s t) : HoldsBelt s (wr p v t) := by
  obtain ⟨hm, hf, hr⟩ := h
  exact ⟨hm, hf, fun o ho => (rd_wr_other _ _ _ _ (by rintro rfl; exact hp ho)).trans (hr o ho)⟩

protected theorem segmentStable (s : State) : SegmentStable (HoldsBelt s) where
  wrEvent := fun hp h => h.wr (by simp only [EventReg, BeltReg] at hp ⊢; omega)
  pcie := id
  fault := id
  irq := id
  wrPoll := fun hp h => h.wr (by simp only [rDDR_STATUS, rPWR_PLL, BeltReg] at hp ⊢; omega)
  power := fun _ _ => id
  wrRing := fun hp h => h.wr (by simp only [KeeperRingReg, rKPR_EVT_NEXT, BeltReg] at hp ⊢; omega)
  jobs := id
  win := id
  trigQuiet := fun _ _ _ => id
  trig := id
  frames := id

protected theorem wakeStable (s : State) : WakeStable (HoldsBelt s) :=
  { (HoldsBelt.segmentStable s).toPowerStable with
    wrWake := fun hp h => h.wr (by simp only [rPWR_CTRL, rPWR_CNT, BeltReg] at hp ⊢; omega) }

theorem setWinState {v : Nat} (h : HoldsBelt s t) : HoldsBelt s (setWinState w v t) :=
  h.wr (by simp only [BeltReg, rWIN_STATE]; omega)

theorem closeWin {type : Nat} (h : HoldsBelt s t) : HoldsBelt s (closeWin w type t) :=
  (HoldsBelt.segmentStable s).closeWin (fun h => h.wr (by simp only [BeltReg, rWIN_STATE]; omega)) h

theorem endLockout (h : HoldsBelt s t) : HoldsBelt s (endLockout w t) := by
  unfold Machine.endLockout
  dsimp only
  split
  · split
    exacts [h.setWinState, h]
  · exact h

theorem checkWin (h : HoldsBelt s t) : HoldsBelt s (checkWin n w t) := by
  unfold Machine.checkWin
  dsimp only
  split
  · exact h
  · split
    · split
      · exact h.closeWin.endLockout
      · split
        exacts [h.closeWin, h]
    · exact h.endLockout

theorem afterPos (h : HoldsBelt s t) : HoldsBelt s (afterPos n t) :=
  forAll_stable (fun _ => (HoldsBelt.segmentStable s).checkTrig) (forAll_stable (fun _ => checkWin) h)

theorem accumulate {k : Nat} (h : HoldsBelt s t) : HoldsBelt s (accumulate n k t) := by
  unfold Machine.accumulate
  split
  · exact h
  · split
    exacts [h, h]

theorem countMotion (h : HoldsBelt s t) : HoldsBelt s (countMotion n t) := forAll_stable (fun _ => accumulate) h

/-- An operation whose rate is limited leaves what it leaves when it is carried out. -/
theorem limited {key period : Nat} {f : State → State} (hf : ∀ {t}, HoldsBelt s t → HoldsBelt s (f t)) (h : HoldsBelt s t) :
    HoldsBelt s (limited key period f t) := by
  unfold Machine.limited
  dsimp only
  split
  exacts [hf h, h]

theorem openWin (h : HoldsBelt s t) : HoldsBelt s (openWin w n t) := by
  have hQ := HoldsBelt.segmentStable s
  unfold Machine.openWin
  extract_lets cfg e pos id _ s1 slot s2 s3 s4 s5 s6 s7
  clear_value slot
  have h2 : HoldsBelt s s2 := by
    dsimp only [s2]
    split
    exacts [h, h]
  have h5 : HoldsBelt s s5 := onlyIf_stable (fun h => hQ.kprRecord (hQ.raiseE (by omega) (by decide) h))
    (hQ.kprRecord (setWinState h2))
  have h6 : HoldsBelt s s6 := by
    refine forAll_stable (fun {k t} _ h => ?_) h5
    dsimp only
    split
    exacts [h, h]
  exact forAll_stable (fun _ => hQ.checkTrig) ((HoldsBelt.wakeStable s).wakeRequest h6)

theorem missedEdge (h : HoldsBelt s t) : HoldsBelt s (missedEdge w n t) :=
  (HoldsBelt.segmentStable s).kprRecord
    (onlyIf_stable (fun h => h.wr (by simp only [BeltReg, rQUIESCE_MISSED]; omega)) h)

theorem winBlock (h : HoldsBelt s t) : HoldsBelt s (winBlock n w t) := by
  unfold Machine.winBlock
  dsimp only
  split
  · split
    · split
      · exact h.missedEdge
      · split
        exacts [h, h.openWin]
    · exact h
  · split
    · refine (HoldsBelt.segmentStable s).kprRecord (setWinState ?_)
      split
      · split
        exacts [h, h]
      · exact h
    · exact h
  · split
    exacts [h, h]
  · exact h

theorem winClear (h : HoldsBelt s t) : HoldsBelt s (winClear n w t) := by
  unfold Machine.winClear
  dsimp only
  split
  · exact h
  · split
    · exact checkWin (setWinState h)
    · exact endLockout h
    · exact h

end

end HoldsBelt

/-! ### ENCODER_STATE_CHANGE (R82) -/

section
variable {n : Fin 4} {s t : State}

theorem beltReg_encPos (n : Fin 4) : BeltReg (rENC_POS n) := by
  simp only [BeltReg, rENC_POS]
  omega

theorem beltReg_encErrcnt (n : Fin 4) : BeltReg (rENC_ERRCNT n) := by
  simp only [BeltReg, rENC_ERRCNT]
  omega

/-- An accepted step writes the position, and what follows from it. -/
theorem execEncoderStateChange_step {ch : QuadChange} (hen : rdB s (rENC_CFG n) 0 = true) (hch : ch ≠ .both) :
    execEncoderStateChange n ch s = .next (countMotion n (afterPos n (wrn (rENC_POS n)
      (if decide (ch = .aLeadsB) != rdB s (rENC_CFG n) 1 then rdn s (rENC_POS n) + 1 else rdn s (rENC_POS n) + 2 ^ 32 - 1) s))) := by
  unfold execEncoderStateChange
  rw [hen]
  cases ch with
  | both => exact absurd rfl hch
  | aLeadsB => rfl
  | bLeadsA => rfl

/-- What follows from a step leaves the position that it wrote, the other positions, and the memories. -/
theorem stepped_spec {p : Nat} (h : HoldsBelt (wrn (rENC_POS n) p s) t) :
    rdn t (rENC_POS n) = p % 2 ^ 32 ∧ (∀ m : Fin 4, m ≠ n → rd t (rENC_POS m) = rd s (rENC_POS m)) ∧ t.mem = s.mem ∧
    t.flash = s.flash := by
  obtain ⟨hm, hf, hr⟩ := h
  refine ⟨?_, fun m hmn => ?_, hm, hf⟩
  · rw [rdn, hr _ (beltReg_encPos n), rd_wrn, if_pos rfl, w32, BitVec.toNat_ofNat]
  · have hne : rENC_POS m ≠ rENC_POS n := by simp only [rENC_POS]; omega
    rw [hr _ (beltReg_encPos m), rd_wrn, if_neg hne]

/-- A double change is counted, and the marks that it leaves at windows and segments touch neither the count nor a position. -/
theorem execEncoderStateChange_both (hen : rdB s (rENC_CFG n) 0 = true) :
    NextHolds (HoldsBelt (bump (rENC_ERRCNT n) 1 s)) (execEncoderStateChange n .both s) := by
  have hQ := HoldsBelt.segmentStable (bump (rENC_ERRCNT n) 1 s)
  unfold execEncoderStateChange
  rw [hen]
  refine .next (.limited (hQ.raiseE (by omega) (by decide)) (forAll_stable (fun {k t} _ h => ?_)
    (forAll_stable (fun {w t} _ h => ?_) (.refl _))))
  · dsimp only
    split
    · split
      exacts [h, h]
    · exact h
  · split
    exacts [h, h]

theorem encoder_doubleChange (hen : rdB s (rENC_CFG n) 0 = true) :
    Completes (.encoderStateChange n .both) s fun t =>
      rd t (rENC_POS n) = rd s (rENC_POS n) ∧ rdn t (rENC_ERRCNT n) = satN 32 (rdn s (rENC_ERRCNT n) + 1) ∧ t.mem = s.mem := by
  obtain ⟨t, ht, hm, -, hr⟩ := execEncoderStateChange_both hen
  have hne : rENC_POS n ≠ rENC_ERRCNT n := by simp only [rENC_POS, rENC_ERRCNT]; omega
  refine ⟨t, ht, ?_, ?_, hm⟩
  · rw [hr _ (beltReg_encPos n), rd_bump, if_neg hne]
  · rw [rdn, hr _ (beltReg_encErrcnt n)]
    exact rdn_bump_same

theorem execEncoderStateChange_disabled {ch : QuadChange} (hen : rdB s (rENC_CFG n) 0 = false) :
    execEncoderStateChange n ch s = .next s := by
  unfold execEncoderStateChange
  rw [hen]
  rfl

end

/-! ### Plain effects of a write at the encoders and curtains (R68) -/

/-- The plain effect of a write to a register that is in no shadow group, and that no unit hides, is the value of its access
types. -/
theorem plainEffect_row {i : Iface} {off : Nat} {v : Word} {co : Coincident} {s : State} {r : RegRow} {ix : List Nat}
    (hrow : regAt off = some (r, ix)) (hsh : shadowCtrlOf off = none) (hz : deadZ s off = false) (hif : deadIf s off = false) :
    (plainEffect i off v co s).1 = wr off (writeValue r (cntWraps r ix) (ownerActive i r ix s) (rd s off) v co).1 s := by
  simp [plainEffect, hrow, hsh, hz, hif]

/-- No register of the encoders and curtains is hidden. -/
theorem deadZ_belt {o : Nat} (ho : BeltReg o) (s : State) : deadZ s o = false := by
  have : ¬ (rMEAS_Z 0 0 ≤ o ∧ o < rSTAT_CFG 16) := by
    simp only [BeltReg, rMEAS_Z] at ho ⊢
    omega
  simp [deadZ, this]

section
variable {i : Iface} {v : Word} {s : State}

theorem regAt_encPos : ∀ n : Fin 4,
    regAt (rENC_POS n) = some ({ base := 0x800100, dims := [(4, 0x20)], rst := 0x0, cnt := 0xffffffff }, [n.val]) := by decide

theorem regAt_curtCfg : ∀ n : Fin 8,
    regAt (rCURT_CFG n) = some ({ base := 0x800200, dims := [(8, 0x4)], rst := 0x60, rw := 0x7ff }, [n.val]) := by decide

/-- A position is loaded as written. -/
theorem plainEffect_encPos (n : Fin 4) : (plainEffect i (rENC_POS n) v .none s).1 = wr (rENC_POS n) v s := by
  have hsh : ∀ n : Fin 4, shadowCtrlOf (rENC_POS n) = none := by decide
  have hpage : ∀ n : Fin 4, ifOfPage (rENC_POS n) = none := by decide
  rw [plainEffect_row (regAt_encPos n) (hsh n) (deadZ_belt (beltReg_encPos n) s) (by rw [deadIf, hpage])]
  congr 1
  have hall : v &&& 0xffffffff#32 = v := BitVec.and_allOnes
  simp [writeValue, cntWraps, coCounts, coSets, coValue, w32, rENC_POS, hall]

/-- A configuration takes EN and BLOCKED_HIGH as written. -/
theorem plainEffect_curtCfg (n : Fin 8) :
    ∃ c, (plainEffect i (rCURT_CFG n) v .none s).1 = wr (rCURT_CFG n) c s ∧ bit c 0 = bit v 0 ∧ bit c 1 = bit v 1 := by
  have hsh : ∀ n : Fin 8, shadowCtrlOf (rCURT_CFG n) = none := by decide
  have hpage : ∀ n : Fin 8, ifOfPage (rCURT_CFG n) = none := by decide
  have hbelt : BeltReg (rCURT_CFG n) := by simp only [BeltReg, rCURT_CFG]; omega
  refine ⟨_, plainEffect_row (regAt_curtCfg n) (hsh n) (deadZ_belt hbelt s) (by rw [deadIf, hpage]), ?_, ?_⟩
  all_goals simp [writeValue, coSets, coValue, w32, bit, BitVec.testBit_toNat, show Nat.testBit 0xfffff800 1 = false by decide,
    show Nat.testBit 0x7ff 1 = true by decide]

end

/-! ### ENC_POS_WRITE (R89) -/

/-- A load of a position, and what follows from it, leaves the position as written. -/
theorem encPosEffect_holds (i : Iface) (n : Fin 4) (v : Word) (s : State) :
    HoldsBelt (wr (rENC_POS n) v s) (encPosEffect i n v .none s).1 := by
  unfold encPosEffect
  dsimp only
  rw [plainEffect_encPos]
  refine forAll_stable (fun _ => .countMotion) (.afterPos (forAll_stable (fun {k t} _ h => ?_) (.refl _)))
  split
  · split
    exacts [h, h]
  · exact h

theorem encPosWrite_loads {ifc : Iface} {n : Fin 4} {v : Word} {s : State} (hg : gate ifc true (rENC_POS n) s = .open) :
    Completes (.encPosWrite ifc n v .none) s fun t => rd t (rENC_POS n) = v ∧ t.mem = s.mem := by
  have hhalf : ∀ n : Fin 4, halfAt (rENC_POS n) = 0 := by decide
  have hlog : ∀ n : Fin 4, isLogReg (rENC_POS n) = false := by decide
  obtain ⟨hp, -, hr⟩ := logOnly_gatedWrite (v := v) (eff := encPosEffect ifc n v .none) hg (by rw [regAt_encPos]; rfl) (hhalf n)
  obtain ⟨hm, -, hb⟩ := encPosEffect_holds ifc n v (answer [] s)
  refine ⟨_, rfl, ?_, (hp .mem (by decide)).trans hm⟩
  exact (hr _ (hlog n)).trans ((hb _ (beltReg_encPos n)).trans (rd_wr_same _ _ _))

/-! ### CURTAIN_EDGE_ACCEPTED (R83, R84, R92) -/

section
variable {ps : List Part} {rs : List Nat} {s t : State}

/-- A change of the Keeper's units is none of the other parts. -/
theorem Kept.keeper {x : Keeper} (hps : .keeper ∈ ps) (h : Kept ps rs s t) : Kept ps rs s { t with keeper := x } := by
  refine h.update rfl fun p hp => ?_
  cases p
  case keeper => exact absurd hps hp
  all_goals rfl

end

section
variable {n : Fin 8} {level : Bool} {s t : State}

theorem beltReg_curtState : BeltReg rCURT_STATE := by
  simp only [BeltReg, rCURT_STATE]
  omega

/-- The state of a curtain after a write of one curtain's. -/
theorem blocked_wrB {b : Bool} (m : Fin 8) : blocked (wrB rCURT_STATE n b s) m = if m = n then b else blocked s m := by
  rw [blocked, rdB_wrB (by omega), blocked]
  simp only [Fin.ext_iff]

theorem HoldsBelt.blocked (h : HoldsBelt s t) (m : Nat) : blocked t m = Machine.blocked s m := by
  rw [Machine.blocked, rdB, h.2.2 _ beltReg_curtState, ← rdB, ← Machine.blocked]

/-- What leaves the registers after a curtain's state took `b` shows that state, and the others as before. -/
theorem HoldsBelt.edge_shown {b : Bool} (h : HoldsBelt (wrB rCURT_STATE n b s) t) :
    Machine.blocked t n = b ∧ (∀ m : Fin 8, m ≠ n → Machine.blocked t m = Machine.blocked s m) ∧ t.mem = s.mem := by
  refine ⟨?_, fun m hm => ?_, h.1⟩
  · rw [h.blocked, blocked_wrB, if_pos rfl]
  · rw [h.blocked, blocked_wrB, if_neg hm]

/-- The accepted edge of an enabled curtain shows in its state, whatever follows from it. -/
theorem execCurtainEdgeAccepted_enabled (hen : rdB s (rCURT_CFG n) 0 = true) :
    NextHolds (fun t => blocked t n = decide (level = rdB s (rCURT_CFG n) 1) ∧
      (∀ m : Fin 8, m ≠ n → blocked t m = blocked s m) ∧ t.mem = s.mem) (execCurtainEdgeAccepted n level s) := by
  unfold execCurtainEdgeAccepted
  extract_lets _ s1 cfg b s2
  have hcfg : bit cfg 0 = true := hen
  by_cases hsame : b = blocked s1 n
  · rw [if_pos (.inr hsame)]
    exact .next ⟨hsame.symm, fun _ _ => rfl, rfl⟩
  · rw [if_neg (by simp [hcfg, hsame])]
    refine .next (HoldsBelt.edge_shown (s := s1) ?_)
    split
    · refine forAll_stable (fun _ h => ?_) (.refl _)
      split
      exacts [h.winBlock, h.winClear]
    · exact onlyIf_stable (HoldsBelt.wakeStable _).wakeRequest (.refl _)
    · exact (HoldsBelt.segmentStable _).kprRecord (.refl _)

theorem execCurtainEdgeAccepted_disabled (hen : rdB s (rCURT_CFG n) 0 = false) :
    NextHolds (Kept [.keeper] [] s) (execCurtainEdgeAccepted n level s) := by
  unfold execCurtainEdgeAccepted
  extract_lets _ s1 cfg b s2
  have hcfg : bit cfg 0 = false := hen
  rw [if_pos (.inl (by simp [hcfg]))]
  exact .next ((Kept.refl s).keeper (by simp))

end

/-! ### CURTAIN_CFG_WRITE (R83) -/

section
variable {n : Fin 8} {v : Word} {s : State}

/-- The state of a curtain after its configuration took `v`: clear without EN, the pin's level where EN sets. -/
def TakesLevel (n : Fin 8) (v : Word) (s t : State) : Prop :=
  (bit v 0 = false → blocked t n = false) ∧
  (bit v 0 = true → rdB s (rCURT_CFG n) 0 = false →
    blocked t n = decide ((tget ({} : Curt) s.keeper.curts n).level = bit v 1))

theorem curtCfgEffect_spec (i : Iface) :
    TakesLevel n v s (curtCfgEffect i n v s).1 ∧ Kept [.keeper] [rCURT_CFG n, rCURT_STATE] s (curtCfgEffect i n v s).1 := by
  obtain ⟨c, hc, hc0, hc1⟩ := plainEffect_curtCfg (i := i) (v := v) (s := s) n
  unfold curtCfgEffect
  extract_lets old r s1 new s2 s3
  have hs1 : s1 = wr (rCURT_CFG n) c s := hc
  have hnew : new = c := (congrArg (rd · (rCURT_CFG n)) hs1).trans (rd_wr_same _ _ _)
  have h1 : Kept [.keeper] [rCURT_CFG n, rCURT_STATE] s s1 := hs1 ▸ .wr (by simp) (.refl s)
  have h2 : Kept [.keeper] [rCURT_CFG n, rCURT_STATE] s s2 := by
    dsimp only [s2]
    split
    · exact .wr (by simp) h1
    · split
      exacts [.wr (by simp) h1, h1]
  obtain ⟨hb, h3⟩ : blocked s3 n = blocked s2 n ∧ Kept [.keeper] [rCURT_CFG n, rCURT_STATE] s s3 := by
    refine forAll_stable (Q := fun t => blocked t n = blocked s2 n ∧ Kept [.keeper] [rCURT_CFG n, rCURT_STATE] s t)
      (fun {w t} _ h => ?_) ⟨rfl, h2⟩
    dsimp only
    split
    exacts [⟨h.1, .keeper (by simp) h.2⟩, h]
  refine ⟨⟨fun hv => hb.trans ?_, fun hv hold => hb.trans ?_⟩, h3⟩
  · dsimp only [s2]
    rw [if_pos (by simp [hnew, hc0, hv])]
    exact (blocked_wrB n).trans (if_pos rfl)
  · have hclear : bit old 0 = false := hold
    dsimp only [s2]
    rw [if_neg (by simp [hnew, hc0, hv]), if_pos (by simp [hclear]), hnew, hc1, hs1]
    exact (blocked_wrB n).trans (if_pos rfl)

theorem curtainCfgWrite_takes {ifc : Iface} (hg : gate ifc true (rCURT_CFG n) s = .open) :
    Completes (.curtainCfgWrite ifc n v) s fun t =>
      (bit v 0 = false → blocked t n = false) ∧
      (bit v 0 = true → rdB s (rCURT_CFG n) 0 = false →
        blocked t n = decide ((tget ({} : Curt) s.keeper.curts n).level = bit v 1)) ∧
      KeptAccess [.keeper] [rCURT_CFG n, rCURT_STATE] s t := by
  have hhalf : ∀ n : Fin 8, halfAt (rCURT_CFG n) = 0 := by decide
  have hl := logOnly_gatedWrite (v := v) (eff := curtCfgEffect ifc n v) hg (by rw [regAt_curtCfg]; rfl) (hhalf n)
  obtain ⟨⟨hclear, hlevel⟩, hk⟩ := curtCfgEffect_spec (n := n) (v := v) (s := answer [] s) ifc
  have hb := congrArg (bit · n) (hl.2.2 rCURT_STATE (by decide))
  exact ⟨_, rfl, fun hv => hb.trans (hclear hv), fun hv hold => hb.trans (hlevel hv hold), .of_effect hk hl⟩

end

/-- Settles O13: what motion and edges lead to leaves the registers of the encoders and curtains, so these show what the command
itself wrote. -/
theorem encodersAndCurtains : Obligations.EncodersAndCurtains :=
  ⟨fun _ _ _ hen hch => ⟨_, execEncoderStateChange_step hen hch, stepped_spec (.countMotion (.afterPos (.refl _)))⟩,
    fun _ _ => encoder_doubleChange, fun _ _ s hen => ⟨s, execEncoderStateChange_disabled hen, rfl⟩,
    fun _ _ _ _ => encPosWrite_loads, fun _ _ _ => execCurtainEdgeAccepted_enabled,
    fun _ _ _ => execCurtainEdgeAccepted_disabled, fun _ _ _ _ => curtainCfgWrite_takes⟩

end Sys2Proof.Machine

namespace Sys2Proof.Machine

open Sys2Proof

/-! ### Ports whose register table is not in canonical form -/

/-- Port 0 waits for a frame with a COMMIT pending; its shadow VP_CFG, of 10 bits a pixel, is listed after VP_STATUS, so that a read
does not reach it and the copy of the shadow set does. -/
def unorderedShadowState : State :=
  { State.reset with regs := [(rVP_SHADOW_CTRL 0, 1), (rVP_ADMIT 0, 1), (rVP_STATUS 0, 1), (rVP_CFG 0, 2)] }

/-- A frame start first shows the clock in VP_STATUS, and with that write the entry of VP_CFG behind it is lost: the set that is put
in force is the one of reset. -/
theorem frameStart_unorderedShadow :
    ∃ t, exec (.frameStart ⟨0, false⟩) unorderedShadowState = .next t ∧ vpCfg t 0 = 0 :=
  ⟨_, rfl, by decide +kernel⟩

/-- At the shadow boundary itself that VP_CFG is put in force. -/
theorem shadowBoundary_unorderedShadow : vpCfg (shadowBoundary (.vport 0) unorderedShadowState) 0 = 2 := by decide +kernel

/-- Refutes O20: the clause of an area frame's start takes every `State`, also one whose register table is not in canonical form
(`State.canonical` holds of no such state, and no step leaves the canonical form). It asks for the set that the shadow boundary
gives at the state before the command; there the command itself changes what that boundary copies. -/
theorem not_portFrames : ¬ Obligations.PortFrames := by
  rintro ⟨hstart, -⟩
  obtain ⟨t, ht, -, -, -, -, -, -, -, hcfg, -⟩ := hstart 0 false unorderedShadowState (by decide +kernel) (by decide +kernel)
    (by decide +kernel) (by decide +kernel) rfl (by decide +kernel) (by decide +kernel)
  obtain ⟨u, hu, hreset⟩ := frameStart_unorderedShadow
  obtain rfl := Host.Outcome.next.inj (hu.symm.trans ht)
  exact absurd (hreset.symm.trans (hcfg.trans shadowBoundary_unorderedShadow)) (by decide)

/-- Port 0 is IDLE with a COMMIT pending; an entry of VP_ADMIT with EN is listed after the VP_SIZE in force, so that a read does not
reach it. -/
def unorderedAdmitState : State :=
  { State.reset with regs := [(rVP_SHADOW_CTRL 0, 1), (rVP_SIZE 0 + 0x8000, 0x10010), (rVP_ADMIT 0, 1)] }

/-- A write of 0 leaves no entry of its own; the COMMIT of the IDLE port then clears the set in force, and so uncovers EN. -/
theorem vpAdmitWrite_unorderedAdmit :
    ∃ t, exec (.vpAdmitWrite .pcie 0 0) unorderedAdmitState = .next t ∧ rd t (rVP_ADMIT 0) = 1 :=
  ⟨_, rfl, by decide +kernel⟩

/-- Refutes O21: the clause of an admitted write takes every `State`, also one whose register table is not in canonical form
(`State.canonical` holds of no such state, and no step leaves the canonical form). There VP_ADMIT reads 1 after 0 was written. -/
theorem not_portLinesAndAdmission : ¬ Obligations.PortLinesAndAdmission := by
  rintro ⟨-, -, -, -, -, hadmit, -⟩
  obtain ⟨t, ht, hstored, -⟩ := hadmit .pcie 0 0 unorderedAdmitState (by decide +kernel) (by decide +kernel)
  obtain ⟨u, hu, hone⟩ := vpAdmitWrite_unorderedAdmit
  obtain rfl := Host.Outcome.next.inj (hu.symm.trans ht)
  exact absurd (hone.symm.trans hstored) (by decide)

end Sys2Proof.Machine

namespace Sys2Proof.Machine

open Sys2Proof

/-! ### What the engines' memory accesses leave (R281 to R300, R393, R413 to R417)

An access to memory writes no register of D3, and no part of the state that the image pipes hold. -/

/-- The registers outside the blocks of D3, which are those of the video ports, the image pipes and the measurement units (R60). -/
def OutsideD3 (o : Nat) : Prop := o < 0x1000000 ∨ 0x2000000 ≤ o

/-- `Q` survives what a read of memory by an engine may change: registers outside D3, events, semaphores, marks and the state of the
DRAM controller. -/
structure FetchStable (Q : State → Prop) : Prop where
  wrUnit : ∀ {s o v}, OutsideD3 o → Q s → Q (wr o v s)
  pcie : ∀ {s} {p : Pcie}, Q s → Q { s with pcie := p }
  fault : ∀ {s} {f : FaultSt}, Q s → Q { s with fault := f }
  irq : ∀ {s a b}, Q s → Q { s with keeper := { s.keeper with core0 := a, core1 := b } }
  units : ∀ {s} {power : Power} {sems : Tab Sem} {resv : List (Nat × Nat)} {poison : Tab Bool} {ddr : Ddr} {valid : Tab Bool}
    {free : Nat} {limits : Tab Nat}, Q s →
    Q { s with power := power, sems := sems, resv := resv, poison := poison, ddr := ddr, ddrValid := valid, free := free,
               limits := limits }

namespace FetchStable

section
variable {Q : State → Prop} {s : State} (hQ : FetchStable Q)
include hQ

theorem events : EventStable Q where
  wrEvent := fun ho => hQ.wrUnit (by simp only [EventReg, OutsideD3] at ho ⊢; omega)
  pcie := hQ.pcie
  fault := hQ.fault
  irq := hQ.irq

theorem raiseE {num dom : Nat} (h : Q s) (hn : num < 256 := by decide) (hc : evtClass num ≠ 3 := by decide) :
    Q (raiseE num dom s) :=
  hQ.events.raiseE hn hc h

theorem raiseA {num dom addr : Nat} (h : Q s) (hn : num < 256 := by decide) (hc : evtClass num ≠ 3 := by decide) :
    Q (raiseA num dom addr s) :=
  hQ.events.raiseEvt hn hc h

theorem limited {key period : Nat} {f : State → State} (hf : ∀ {s}, Q s → Q (f s)) (h : Q s) : Q (limited key period f s) := by
  unfold Machine.limited
  dsimp only
  split
  exacts [hf (hQ.units h), h]

theorem wr64 {lo v : Nat} (hlo : 0x2000000 ≤ lo) (h : Q s) : Q (wr64 lo v s) :=
  hQ.wrUnit (.inr (Nat.le_add_right_of_le hlo)) (hQ.wrUnit (.inr hlo) h)

theorem agentDecodeErr {g : Agent} {a : Nat} (h : Q s) : Q (agentDecodeErr g a s) := by
  have hcount {t : State} (h : Q t) : Q (bump (rFLT_CNT 0) 1 t) := hQ.wrUnit (.inl (by decide)) h
  unfold Machine.agentDecodeErr
  split
  · exact hQ.limited (hQ.events.raiseEvt (by dsimp only; omega) (by dsimp only; decide)) (hcount h)
  · exact hQ.limited (hQ.events.raiseEvt (by dsimp only; omega) (by dsimp only; decide)) (hcount (hQ.units h))

/-! ### Semaphores -/

theorem setSem {n : Nat} {x : Sem} (h : Q s) : Q (setSem n x s) := hQ.units h

theorem unreserve {a len : Nat} (h : Q s) : Q (unreserve a len s) := by
  unfold Machine.unreserve
  split
  exacts [h, hQ.units h]

theorem semLoad {n c : Nat} (h : Q s) : Q (semLoad n c s) := onlyIf_stable hQ.events.assertSrc (hQ.setSem (hQ.unreserve h))

theorem semRelease {n k : Nat} (h : Q s) : Q (semRelease n k s) := by
  unfold Machine.semRelease
  dsimp only
  split
  exacts [hQ.limited hQ.raiseE (hQ.wrUnit (.inr (by decide)) (hQ.semLoad h)), hQ.semLoad h]

theorem semTake {n : Nat} (h : Q s) : Q (semTake n s) := by
  unfold Machine.semTake
  dsimp only
  split
  exacts [hQ.setSem h, h]

theorem semWordRead {a : Nat} (h : Q s) : Q (semWordRead a s).2 := by
  unfold Machine.semWordRead
  dsimp only
  split
  exacts [h, hQ.semTake h, h, h]

theorem semWords {a k : Nat} (h : Q s) : Q (semWords a k s).2 := by
  induction k generalizing a s with
  | zero => exact h
  | succ k ih => exact ih (hQ.semWordRead h)

theorem semWordWrite {a v : Nat} (h : Q s) : Q (semWordWrite a v s).2 := by
  have h1 : Q (Machine.unreserve a 4 s) := hQ.unreserve h
  unfold Machine.semWordWrite
  dsimp only
  split
  exacts [hQ.semLoad h1, hQ.semRelease h1, h1, hQ.setSem h1, h1]

theorem semPuts {a k : Nat} {bs : List Byte} (h : Q s) : Q (semPuts a k bs s).2 := by
  induction k generalizing a bs s with
  | zero => exact h
  | succ k ih => exact ih (hQ.semWordWrite h)

/-! ### Scratchpad ports -/

theorem setPoison {b : Nat} {v : Bool} (h : Q s) : Q (setPoison b v s) := hQ.units h

theorem spLatch {a kind port : Nat} (h : Q s) : Q (spLatch a kind port s) :=
  hQ.wrUnit (.inr (by decide)) (hQ.wr64 (by decide) h)

theorem ownerViolation {p a : Nat} (h : Q s) : Q (ownerViolation p a s) :=
  hQ.limited hQ.raiseA (hQ.wrUnit (.inr (by decide)) (hQ.spLatch h))

theorem wmUncorrectable {p a : Nat} (h : Q s) : Q (wmUncorrectable p a s) :=
  onlyIf_stable hQ.raiseA (hQ.wrUnit (.inr (by decide)) (hQ.spLatch h))

/-- With no error found, the protection of a bank changes nothing. -/
theorem portRead {p a len : Nat} (h : Q s) : Q (portRead p a len .none s).2 := by
  have hnone : memErrEffect p a .none s = s := by simp [memErrEffect]
  unfold Machine.portRead
  rw [hnone]
  dsimp only
  split
  · exact hQ.ownerViolation h
  · split
    exacts [forAll_stable (fun _ => hQ.wmUncorrectable) h, h]

/-! ### DRAM -/

theorem fullRetrain (h : Q s) : Q (fullRetrain s) :=
  hQ.raiseE (hQ.wrUnit (.inr (by decide)) (hQ.wrUnit (.inr (by decide)) (hQ.units h)))

theorem dramWake (h : Q s) : Q (dramWake s) := by
  unfold Machine.dramWake
  split
  exacts [hQ.fullRetrain (hQ.wrUnit (.inl (by decide)) (hQ.units h)), h]

theorem drawOne {k n : Nat} (h : Q s) : Q (drawOne k n s) := by
  unfold Machine.drawOne
  split
  exacts [hQ.wrUnit (.inr (by simp only [rREGUL_TOK]; omega)) h, h]

theorem dramServed {k a len : Nat} (h : Q s) : Q (dramServed k a len s) := by
  have hreach : Q (dramReach a len s) := hQ.units (hQ.dramWake h)
  unfold Machine.dramServed
  split
  exacts [h, hQ.wr64 (by simp only [rREGUL_BYTES_LO]; omega) (forAll_stable (fun _ => hQ.drawOne) hreach)]

theorem transferHeld {isWrite : Bool} (h : Q s) : Q (transferHeld isWrite s) := hQ.wrUnit (.inr (by decide)) h

theorem dramUncorrectable {k a : Nat} (h : Q s) : Q (dramUncorrectable k a s) :=
  hQ.raiseA (hQ.wr64 (by decide) (hQ.wrUnit (.inr (by simp only [rDDR_CNT]; omega)) h))

theorem dramRead {k a len : Nat} (h : Q s) : Q (dramRead k a len s).2 :=
  forAll_stable (fun _ => hQ.dramUncorrectable) (hQ.dramServed (hQ.transferHeld h))

/-! ### Any memory -/

theorem devRead {g : Agent} {a len : Nat} (h : Q s) : Q (devRead g a len s).2 := by
  unfold Machine.devRead
  split
  · exact hQ.agentDecodeErr h
  · split
    · exact h
    · split
      · exact hQ.portRead h
      · exact hQ.portRead h
      · exact hQ.portRead h
      · exact hQ.dramRead h
      · exact h
      · exact h
      · unfold semRead
        split
        exacts [hQ.semWords h, h]
      · exact h
      · exact h
      · exact h

end

end FetchStable

/-- `Q` survives what a write of memory may change as well. -/
structure StoreStable (Q : State → Prop) : Prop extends FetchStable Q where
  mem : ∀ {s} {m : Tab Byte}, Q s → Q { s with mem := m }

namespace StoreStable

section
variable {Q : State → Prop} {s : State} (hQ : StoreStable Q)
include hQ

theorem setBytes {a : Nat} {bs : List Byte} (h : Q s) : Q (setBytes a bs s) := by
  induction bs generalizing a s with
  | nil => exact h
  | cons b t ih => exact ih (hQ.mem h)

theorem storeBytes {a : Nat} {bs : List Byte} {dirty : Bool} (h : Q s) : Q (storeBytes a bs dirty s) := by
  refine forAll_stable (fun {u t} _ h => ?_) (hQ.setBytes (hQ.unreserve h))
  unfold markUnit
  split
  · exact hQ.setPoison h
  · split
    exacts [hQ.setPoison h, h]

theorem portWrite {p a : Nat} {bs : List Byte} {dirty : Bool} (h : Q s) : Q (portWrite p a bs dirty .none s).2 := by
  have hnone (x : Nat) : memErrEffect p x .none s = s := by simp [memErrEffect]
  unfold Machine.portWrite
  simp only [hnone, ite_self]
  split
  · exact h
  · split
    · exact hQ.ownerViolation h
    · split
      · have h1 : Q (onlyIf (partBad s a bs.length (a + bs.length - 1) && decide (a / 8 ≠ (a + bs.length - 1) / 8))
            (Machine.wmUncorrectable p (a + bs.length - 1))
            (onlyIf (partBad s a bs.length a) (Machine.wmUncorrectable p a) s)) :=
          onlyIf_stable hQ.wmUncorrectable (onlyIf_stable hQ.wmUncorrectable h)
        split
        exacts [h1, hQ.storeBytes h1]
      · split
        exacts [h, hQ.storeBytes h]

theorem dramInit {a len : Nat} (h : Q s) : Q (dramInit a len s) := by
  unfold Machine.dramInit
  split
  exacts [h, hQ.units h]

theorem partRefused {a : Nat} (h : Q s) : Q (partRefused a s) := hQ.wr64 (by decide) (hQ.wrUnit (.inr (by decide)) h)

theorem replaceWords {a n : Nat} (h : Q s) : Q (replaceWords a n s) := by
  unfold Machine.replaceWords
  split
  exacts [h, hQ.units h]

theorem dramWrite {k a : Nat} {bs : List Byte} (h : Q s) : Q (dramWrite k a bs s).2 := by
  unfold Machine.dramWrite
  dsimp only
  split
  · exact h
  · exact hQ.storeBytes (hQ.replaceWords (onlyIf_stable hQ.partRefused (onlyIf_stable hQ.partRefused
      (hQ.dramInit (hQ.dramServed (hQ.transferHeld h))))))

theorem devPut {g : Agent} {a : Nat} {bs : List Byte} {dirty : Bool} (h : Q s) : Q (devPut g a bs dirty s) := by
  unfold Machine.devPut devWrite
  split
  · exact hQ.agentDecodeErr h
  · split
    · exact h
    · split
      · exact hQ.portWrite h
      · exact hQ.portWrite h
      · exact hQ.portWrite h
      · exact hQ.dramWrite h
      · exact hQ.storeBytes h
      · exact hQ.storeBytes h
      · unfold semWrite
        split
        exacts [hQ.semPuts h, h]
      · exact h
      · exact h
      · exact h

theorem ringStore {g : Agent} {base size pos : Nat} {bs : List Byte} {dirty : Bool} (h : Q s) :
    Q (ringStore g base size pos bs dirty s) := by
  unfold Machine.ringStore
  dsimp only
  split
  exacts [hQ.devPut (hQ.devPut h), hQ.devPut h]

end

end StoreStable

end Sys2Proof.Machine

namespace Sys2Proof.Machine

open Sys2Proof

/-! ### What the Sector engine does of itself (R195, R202) -/

/-- `Q` survives what a splice's frames change as they begin and end in the Sector engine: its registers, semaphores, its state. -/
structure SectorStable (Q : State → Prop) : Prop extends FetchStable Q where
  sector : ∀ {s} {cl : Tab SecCl} {cx : Tab SecCtx} {q : Tab (List (Nat × PipeItem))} {n : Nat}, Q s →
    Q { s with secCl := cl, secCtx := cx, spliceq := q, spliceTurn := n }

namespace SectorStable

section
variable {Q : State → Prop} {s : State} (hQ : SectorStable Q)
include hQ

theorem setSecCl {c : Nat} {x : SecCl} (h : Q s) : Q (setSecCl c x s) := hQ.sector h

theorem setSecCtx {c : Nat} {x : SecCtx} (h : Q s) : Q (setSecCtx c x s) := hQ.sector h

theorem splicePush {c : Nat} {x : PipeItem} (h : Q s) : Q (splicePush c x s) := hQ.sector h

theorem secRefresh {c : Nat} (h : Q s) : Q (secRefresh c s) :=
  hQ.wrUnit (.inr (by decide)) (hQ.wrUnit (.inr (by simp only [rSC_LB_ACTIVE]; omega))
    (hQ.wrUnit (.inr (by simp only [rSC_STATUS]; omega)) h))

theorem secSwapEnd {c : Nat} (h : Q s) : Q (secSwapEnd c s) := by
  unfold Machine.secSwapEnd
  split
  · split
    exacts [hQ.secRefresh (hQ.wrUnit (.inr (by simp only [rSC_PROG_CTRL]; omega)) (hQ.setSecCl h)), hQ.secRefresh h]
  · exact h

theorem secMove {c : Nat} {f : Nat × Nat → Bool} (h : Q s) : Q (secMove c f s) := by
  unfold Machine.secMove
  split
  exacts [hQ.secSwapEnd (hQ.setSecCl h), h]

theorem secBegin {x : Nat} (h : Q s) : Q (secBegin x s) := by
  unfold Machine.secBegin
  split
  · exact h
  · split
    · exact h
    · refine forAll_stable (fun _ => hQ.secRefresh) (hQ.setSecCtx (forAll_stable (fun _ h => ?_) h))
      split
      exacts [hQ.secMove h, h]

theorem teeSignal {x : Nat} (h : Q s) : Q (teeSignal x s) := by
  unfold Machine.teeSignal
  split
  · split
    exacts [h, hQ.semRelease h]
  · exact h

theorem secFrameDone {x : Nat} (h : Q s) : Q (secFrameDone x s) := by
  unfold Machine.secFrameDone
  split
  · dsimp only
    split
    · refine hQ.sector (hQ.setSecCtx ?_)
      split
      exacts [hQ.teeSignal h, h]
    · exact h
  · exact h

theorem secPoll {x : Nat} (h : Q s) : Q (secPoll x s) := hQ.secBegin (hQ.secFrameDone (hQ.secBegin h))

end

end SectorStable

/-! ### What the outputs of a frame leave (R144 to R151) -/

/-- The registers that lines of context `c` write as they go through the pipe: the positions of its outputs, its counters 2 to 5, 7
and 8, and the high-water marks of the staging rings. -/
def LineReg (c o : Nat) : Prop :=
  (rCTX_OUT_WRITTEN_LO c 0 ≤ o ∧ o < rCTX_OUT_WRITTEN_LO c 4) ∨ o ∈ [2, 3, 4, 5, 7, 8].map (rCTX_CNT c) ∨
  o ∈ [rPIPE_STAGE_HWM 0, rPIPE_STAGE_HWM 1]

theorem lineReg_written {c o : Nat} (ho : o < 4) :
    LineReg c (rCTX_OUT_WRITTEN_LO c o) ∧ LineReg c (rCTX_OUT_WRITTEN_LO c o + 4) := by
  simp only [LineReg, rCTX_OUT_WRITTEN_LO]
  omega

theorem lineReg_count {c k : Nat} (hk : k ∈ [2, 3, 4, 5, 7, 8]) : LineReg c (rCTX_CNT c k) :=
  .inr (.inl (List.mem_map_of_mem hk))

theorem lineReg_stage {c p : Nat} (hp : p < 2) : LineReg c (rPIPE_STAGE_HWM p) := by
  simp only [LineReg, rPIPE_STAGE_HWM, List.mem_cons, List.not_mem_nil, or_false]
  omega

/-- Two states of a frame agree in whether its splice is lost, and in the lines that have returned. -/
def SameSplice (f g : PipeFrame) : Prop := f.lost = g.lost ∧ f.returned = g.returned

/-- `Q` survives what lines at the outputs of context `c` change: memory, the frame in the pipe, the slot of the next band, and the
staging rings. -/
structure OutputStable (c : Nat) (Q : State → Prop) : Prop extends StoreStable Q where
  wrLine : ∀ {s o v}, LineReg c o → Q s → Q (wr o v s)
  frame : ∀ {s} {f : PipeFrame}, SameSplice f (pframe s c) → Q s → Q (setPframe c f s)
  slot : ∀ {s n}, Q s → Q (setPctx c { pctx s c with bandSlot := n } s)
  stage : ∀ {s} {m : Tab Nat}, Q s → Q { s with stage := m }

theorem ctxPipe_lt (s : State) (c : Nat) : ctxPipe s c < 2 := Nat.mod_lt _ (by decide)

/-- A change of one output leaves the frame's splice. -/
theorem sameSplice_setOutSt {f g : PipeFrame} (o : Nat) (x : OutSt) (h : SameSplice f g) : SameSplice (setOutSt o x f) g := by
  unfold setOutSt
  split
  exacts [h, h, h, h]

/-- The frame as its DRAM outputs end (R143, R151). -/
theorem sameSplice_dead (l : List Nat) (f : PipeFrame) :
    SameSplice (l.foldl (fun pf o => setOutSt o { outSt pf o with dead := true } pf) f) f :=
  List.foldlRecOn (motive := fun g => SameSplice g f) l _ ⟨rfl, rfl⟩ fun _ hg o _ => sameSplice_setOutSt o _ hg

namespace OutputStable

section
variable {c : Nat} {Q : State → Prop} {s : State} (hQ : OutputStable c Q)
include hQ

theorem bump {k n : Nat} (h : Q s) (hk : k ∈ [2, 3, 4, 5, 7, 8] := by decide) : Q (bump (rCTX_CNT c k) n s) :=
  hQ.wrLine (lineReg_count hk) h

theorem pipeFlag {b : Nat} (h : Q s) : Q (pipeFlag c b s) := hQ.frame ⟨rfl, rfl⟩ h

theorem useRowFree {mono : Bool} {b : VBuf} (h : Q s) : Q (useRowFree mono b s) := by
  unfold Machine.useRowFree
  split
  exacts [hQ.units h, h]

theorem ringTake {n : Nat} (h : Q s) : Q (ringTake c n s) :=
  hQ.wrLine (lineReg_stage (ctxPipe_lt s c)) (hQ.stage h)

theorem stageTake {n : Nat} (h : Q s) : Q (stageTake c n s) := by
  unfold Machine.stageTake
  split
  exacts [h, hQ.ringTake h]

theorem stageDrop (h : Q s) : Q (stageDrop c s) := by
  unfold Machine.stageDrop
  dsimp only
  split
  · exact h
  · exact hQ.raiseE (hQ.bump (hQ.pipeFlag (hQ.pipeFlag (hQ.frame (sameSplice_dead _ _) h))))

theorem outFull {o : Nat} (h : Q s) : Q (outFull c o s) :=
  hQ.raiseE (hQ.bump (hQ.pipeFlag (hQ.pipeFlag (hQ.frame (sameSplice_setOutSt _ _ ⟨rfl, rfl⟩) h))))

theorem outLine {o : Nat} {planes : List (List Byte)} (ho : o < 4) (h : Q s) : Q (outLine c o planes s) := by
  unfold Machine.outLine
  dsimp only
  split
  · exact h
  · split
    · exact hQ.outFull h
    · split
      · exact hQ.stageDrop h
      · refine hQ.wrLine (lineReg_written ho).2 (hQ.wrLine (lineReg_written ho).1 ?_)
        exact hQ.frame (sameSplice_setOutSt _ _ ⟨rfl, rfl⟩) (forAll_stable (fun _ => hQ.ringStore) (hQ.stageTake h))

theorem dispEmit (h : Q s) : Q (dispEmit c s) := by
  unfold Machine.dispEmit
  dsimp only
  split
  exacts [hQ.pipeFlag (hQ.frame ⟨rfl, rfl⟩ h), hQ.outLine (by decide) (hQ.frame ⟨rfl, rfl⟩ h)]

theorem dispLine {l : Line} (h : Q s) : Q (dispLine c l s) := by
  unfold Machine.dispLine
  extract_lets pf f vs ow y s1 pf1
  split
  · exact h
  · have h1 : Q s1 := by
      dsimp only [s1]
      split
      exacts [hQ.dispEmit h, h]
    split
    exacts [hQ.dispEmit (hQ.frame ⟨rfl, rfl⟩ h1), hQ.frame ⟨rfl, rfl⟩ h1]

theorem codingLine {ycc : List (List Nat)} (h : Q s) : Q (codingLine c ycc s) := by
  have hline {t : State} {f : PipeFrame} {luma} (hf : SameSplice f (pframe t c)) (h : Q t) :
      Q (Machine.outLine c 1 [luma] (setPframe c f t)) := hQ.outLine (by decide) (hQ.frame hf h)
  unfold Machine.codingLine
  dsimp only
  split
  · exact h
  · split
    · exact hline ⟨rfl, rfl⟩ h
    · split
      · exact hline ⟨rfl, rfl⟩ h
      · split
        exacts [hQ.stageDrop (hline ⟨rfl, rfl⟩ h), hQ.ringStore (hQ.stageTake (hline ⟨rfl, rfl⟩ h))]

theorem bandClose {last : Bool} (h : Q s) : Q (bandClose c last s) := by
  unfold Machine.bandClose
  dsimp only
  split
  · exact h
  · split
    · exact hQ.frame ⟨rfl, rfl⟩ h
    · exact hQ.semRelease (hQ.slot (hQ.devPut (hQ.frame ⟨rfl, rfl⟩ h)))

theorem bandLine {l : Line} {planes : List (List Byte)} (h : Q s) : Q (bandLine c l planes s) := by
  unfold Machine.bandLine
  extract_lets +onlyGivenNames pf f n s1 sem empty s2 b s3 _ s4
  split
  · exact h
  · have h1 : Q s1 := by
      dsimp only [s1]
      split
      exacts [hQ.bandClose h, h]
    have h2 : Q s2 := by
      dsimp only [s2]
      split
      exacts [hQ.bump (hQ.pipeFlag h1), hQ.semTake h1]
    have h3 : Q s3 := by
      dsimp only [s3]
      split
      exacts [hQ.raiseE h2, h2]
    have h4 : Q s4 := by
      dsimp only [s4]
      split
      exacts [h1, hQ.frame ⟨rfl, rfl⟩ h3]
    dsimp only
    split
    · exact hQ.frame ⟨rfl, rfl⟩ h4
    · exact forAll_stable (fun _ => hQ.devPut) (hQ.frame ⟨rfl, rfl⟩ h4)

theorem mvLine {l : Line} {y : List Nat} (h : Q s) : Q (mvLine c l y s) := by
  unfold Machine.mvLine
  extract_lets pf fmt src planes s1
  clear_value planes
  split
  · exact h
  · split
    exacts [hQ.outLine (by decide) h, hQ.bandLine (hQ.outLine (by decide) h)]

theorem rawOut {l : Line} (h : Q s) : Q (rawOut c l s) := hQ.outLine (by decide) h

theorem measLine {t : Nat} {l : Line} (h : Q s) : Q (measLine c t l s) := by
  unfold Machine.measLine
  dsimp only
  split
  exacts [hQ.frame ⟨rfl, rfl⟩ h, h]

theorem emit4 {l : Line} (h : Q s) : Q (emit4 c l s) := hQ.mvLine (hQ.codingLine (hQ.dispLine (hQ.measLine h)))

theorem notePoison {l : Line} (h : Q s) : Q (notePoison c l s) := by
  unfold Machine.notePoison
  split
  exacts [hQ.pipeFlag h, h]

theorem tnrRow {l : Line} (h : Q s) : Q (tnrRow c l s).2 := by
  unfold Machine.tnrRow
  extract_lets +onlyGivenNames pf f a g px rd1 s1 m amax ref out bs s2
  split
  · exact h
  · have h1 : Q s1 := by
      dsimp only [s1, rd1]
      split
      exacts [hQ.devRead h, h]
    clear_value bs
    dsimp only [s2]
    split
    · exact h1
    · split
      exacts [hQ.devPut (hQ.stageTake h1), hQ.stageDrop h1]

end

end OutputStable

/-! ### What a line leaves on its way through the pipe (R126 to R142) -/

/-- `Q` survives what lines of context `c` change in the pipe, from the input to the outputs and to the splice. -/
structure LineStable (c : Nat) (Q : State → Prop) : Prop extends OutputStable c Q where
  push : ∀ {s} {x : PipeItem}, Q s → Q (splicePush c x s)

theorem pframe_useRowFree (mono : Bool) (b : VBuf) (s : State) (c : Nat) : pframe (useRowFree mono b s) c = pframe s c := by
  unfold useRowFree
  split
  exacts [rfl, rfl]

namespace LineStable

section
variable {c : Nat} {Q : State → Prop} {s : State} (hQ : LineStable c Q)
include hQ

/-- The frame takes what a window holds, after the values that a frame of one row may have used. -/
theorem window {f : PipeFrame} {mono flush : Bool} {b : VBuf} (hf : SameSplice f (pframe s c)) (h : Q s) :
    Q (setPframe c f (if flush then useRowFree mono b s else s)) := by
  split
  · exact hQ.frame (by rwa [pframe_useRowFree]) (hQ.useRowFree h)
  · exact hQ.frame hf h

theorem atTap {t : Nat} {l : Line} (h : Q s) : Q (atTap c t l s).1 := by
  unfold Machine.atTap
  extract_lets s1 pf s2
  have h1 : Q s1 := by
    refine hQ.notePoison ?_
    split
    exacts [h, hQ.measLine h]
  have h2 : Q s2 := hQ.push (hQ.frame ⟨rfl, rfl⟩ h1)
  split
  · split
    exacts [h2, h2]
  · exact h1

theorem from3 {l : Line} (h : Q s) : Q (from3 c l s) :=
  forAll_stable (fun _ h => forAll_stable (fun _ => hQ.emit4) (hQ.atTap h)) (hQ.atTap h)

theorem stage3 {x : Option Line} (h : Q s) : Q (stage3 c x s) :=
  forAll_stable (fun _ => hQ.from3) (hQ.window ⟨rfl, rfl⟩ h)

theorem from2 {l : Line} (h : Q s) : Q (from2 c l s) := forAll_stable (fun _ => hQ.stage3) (hQ.atTap h)

theorem from1 {l : Line} (h : Q s) : Q (from1 c l s) :=
  forAll_stable (fun _ h => hQ.from2 (hQ.tnrRow h)) (hQ.atTap h)

theorem stage1 {x : Option Line} (h : Q s) : Q (stage1 c x s) :=
  forAll_stable (fun _ => hQ.from1) (hQ.window ⟨rfl, rfl⟩ h)

theorem from0 {l : Line} (h : Q s) : Q (from0 c l s) := by
  refine forAll_stable (fun _ => hQ.stage1) (hQ.atTap ?_)
  split
  exacts [hQ.rawOut h, h]

theorem stage0 {x : Option Line} (h : Q s) : Q (stage0 c x s) := by
  unfold Machine.stage0
  extract_lets +onlyGivenNames pf f mono line s1 pf1 r s2
  clear_value line
  have h1 : Q s1 := by
    dsimp only [s1]
    split
    · split
      exacts [h, hQ.rawOut h]
    · exact h
  exact forAll_stable (fun _ => hQ.from0) (hQ.bump (hQ.bump (hQ.window ⟨rfl, rfl⟩ h1)))

theorem returnAt {l : Line} (h : Q s) : Q (returnAt c l s) := by
  unfold Machine.returnAt
  extract_lets s1 t s2
  have h2 : Q s2 := by
    dsimp only [s2]
    split
    exacts [hQ.notePoison h, hQ.measLine (hQ.notePoison h)]
  clear_value t
  split
  · exact hQ.from2 (hQ.tnrRow h2)
  · exact hQ.stage3 h2
  · exact hQ.emit4 h2
  · exact hQ.emit4 h2

theorem flushTo {t : Nat} (h : Q s) : Q (flushTo c t s) := by
  unfold Machine.flushTo
  dsimp only
  split <;> split
  exacts [hQ.stage3 (hQ.stage1 (hQ.stage0 h)), hQ.stage3 (hQ.stage0 h), hQ.stage1 (hQ.stage0 h), hQ.stage0 h]

theorem flushAfter {t : Nat} (h : Q s) : Q (flushAfter c t s) := by
  unfold Machine.flushAfter
  split
  exacts [hQ.stage3 h, h]

end

end LineStable

end Sys2Proof.Machine

namespace Sys2Proof.Machine

open Sys2Proof

/-! ### What the beginning of a frame leaves (R129, R143, R153) -/

/-- `Q` survives what the start marker of a frame changes in context `c`. -/
structure BeginStable (c : Nat) (Q : State → Prop) : Prop extends SectorStable Q where
  wrBegin : ∀ {s o v}, (LineReg c o ∨ o = rCTX_STATUS c ∨ o = rCTX_CNT c 6) → Q s → Q (wr o v s)
  context : ∀ {s} {x : PCtx}, Q s → Q (setPctx c x s)

namespace BeginStable

section
variable {c : Nat} {Q : State → Prop} {s : State} (hQ : BeginStable c Q)
include hQ

theorem beginFrame {f : FrameInfo} {fits : Bool} (h : Q s) : Q (beginFrame c f fits s) := by
  have hstatus {t : State} {i b} (h : Q t) : Q (wrB (rCTX_STATUS c) i b t) := hQ.wrBegin (.inr (.inl rfl)) h
  have hwritten {t : State} {o v} (ho : o ∈ upto 4) (h : Q t) : Q (Machine.wr64 (rCTX_OUT_WRITTEN_LO c o) v t) :=
    hQ.wrBegin (.inl (lineReg_written (List.mem_range.mp ho)).2) (hQ.wrBegin (.inl (lineReg_written (List.mem_range.mp ho)).1) h)
  unfold Machine.beginFrame
  extract_lets +onlyGivenNames bad want ready x lostNow s1 fall dead refOk s2 s3 on s4 ost pf pf1 _ s5 s6 n a r e
  have h1 : Q s1 := by
    dsimp only [s1]
    split
    exacts [hQ.raiseE (hQ.wrBegin (.inr (.inr rfl)) h), h]
  have h2 : Q s2 := hstatus (hstatus (hQ.wrBegin (.inr (.inl rfl)) h1))
  have h3 : Q s3 := by
    dsimp only [s3]
    split
    exacts [hQ.raiseE h2, h2]
  have h4 : Q s4 := by
    refine forAll_stable (fun ho h => ?_) h3
    split
    exacts [hwritten ho h, h]
  have h6 : Q s6 := by
    dsimp only [s6]
    split
    exacts [hQ.splicePush (hQ.context h4), hQ.context h4]
  split
  · exact hQ.wrBegin (.inl (lineReg_count (by decide))) (hQ.context (hQ.devRead h6))
  · exact h6

theorem startFrame {f : FrameInfo} (h : Q s) : Q (startFrame c f s) := hQ.secPoll (hQ.beginFrame h)

end

end BeginStable

/-! ### A frame of which no line has come (R142) -/

section
variable {c : Nat} {s : State} {x : PCtx} {f : PipeFrame}

@[simp] theorem pctx_setPctx : pctx (setPctx c x s) c = x := by simp [pctx, setPctx]

@[simp] theorem pframe_setPframe : pframe (setPframe c f s) c = f := by simp [pframe, setPframe]

theorem pframe_of_frame (h : (pctx s c).frame = some f) : pframe s c = f := by rw [pframe, h, Option.getD_some]

/-- The windows of the frame are empty, and no line has been handed to its splice. -/
def Lineless (f : PipeFrame) : Prop := f.dpc = {} ∧ f.snr = {} ∧ f.dms = {} ∧ f.sent = 0

/-- The frame of context `c` is one of which no line has come. -/
def NoLine (c : Nat) (s : State) : Prop := Lineless (pframe s c)

theorem NoLine.setPframe (h : Lineless f) : NoLine c (setPframe c f s) := by
  rwa [NoLine, pframe_setPframe]

theorem NoLine.sectorStable (c : Nat) : SectorStable (NoLine c) where
  wrUnit := fun _ => id
  pcie := id
  fault := id
  irq := id
  units := id
  sector := id

/-- An empty window gives no row at the frame's end, and stays empty. -/
theorem vstage_empty {α : Type} (mono : Bool) (free r : Nat) (f : (Int → Line) → Nat → α) :
    vstage mono free r f none {} = ([], {}) := by
  simp [vstage, vready, vstep]

theorem NoLine.stage0 (h : NoLine c s) : NoLine c (stage0 c none s) := by
  obtain ⟨hdpc, hsnr, hdms, hsent⟩ := h
  simp only [Machine.stage0, Option.map_none, hdpc, vstage_empty]
  exact NoLine.setPframe ⟨rfl, hsnr, hdms, hsent⟩

theorem NoLine.stage1 (h : NoLine c s) : NoLine c (stage1 c none s) := by
  obtain ⟨hdpc, hsnr, hdms, hsent⟩ := h
  simp only [Machine.stage1, hsnr, vstage_empty]
  exact NoLine.setPframe ⟨hdpc, rfl, hdms, hsent⟩

theorem NoLine.stage3 (h : NoLine c s) : NoLine c (stage3 c none s) := by
  obtain ⟨hdpc, hsnr, hdms, hsent⟩ := h
  simp only [Machine.stage3, hdms, vstage_empty]
  exact NoLine.setPframe ⟨hdpc, hsnr, rfl, hsent⟩

theorem NoLine.flushTo {t : Nat} (h : NoLine c s) : NoLine c (flushTo c t s) := by
  unfold Machine.flushTo
  dsimp only
  split <;> split
  exacts [h.stage0.stage1.stage3, h.stage0.stage3, h.stage0.stage1, h.stage0]

theorem noLine_startFrame {f : FrameInfo} : NoLine c (startFrame c f s) := by
  have hQ := NoLine.sectorStable c
  refine hQ.secPoll ?_
  unfold beginFrame
  extract_lets +onlyGivenNames bad want ready x lostNow s1 fall dead refOk s2 s3 on s4 ost pf pf1 _ s5 s6 n a r e
  have h5 : NoLine c s5 := by
    dsimp only [s5]
    rw [NoLine, pframe, pctx_setPctx]
    exact ⟨rfl, rfl, rfl, rfl⟩
  have h6 : NoLine c s6 := by
    dsimp only [s6]
    split
    exacts [hQ.splicePush h5, h5]
  split
  · have hr : NoLine c r.2 := hQ.devRead h6
    exact NoLine.setPframe hr
  · exact h6

end

/-! ### What lines and frames of a context leave of its tallies (R123, R155, R156) -/

/-- The registers that tally the frames and the lines of context `c`, and the cycles of the pipes. -/
def TallyReg (c o : Nat) : Prop :=
  o ∈ [rCTX_CNT c 0, rCTX_CNT c 1, rCTX_FR_NEXT c, rPIPE_BUSY 0, rPIPE_BUSY 1]

/-- The tallies of context `c`, what waits for the pipes, their turns, and the routes are as in `s`. -/
def HoldsPipe (c : Nat) (s t : State) : Prop :=
  t.boot = s.boot ∧ t.pipeq = s.pipeq ∧ t.pipeTurn = s.pipeTurn ∧ ∀ o, TallyReg c o → rd t o = rd s o

theorem not_tallyReg_outside {c o : Nat} (hc : c < 16) (ho : OutsideD3 o) : ¬ TallyReg c o := by
  simp only [OutsideD3, TallyReg, rCTX_CNT, rCTX_FR_NEXT, rPIPE_BUSY, List.mem_cons, List.not_mem_nil, or_false] at ho ⊢
  omega

theorem not_tallyReg_line {c o : Nat} (ho : LineReg c o) : ¬ TallyReg c o := by
  simp only [LineReg, TallyReg, rCTX_CNT, rCTX_FR_NEXT, rPIPE_BUSY, rCTX_OUT_WRITTEN_LO, rPIPE_STAGE_HWM, List.map_cons,
    List.map_nil, List.mem_cons, List.not_mem_nil, or_false] at ho ⊢
  omega

namespace HoldsPipe

section
variable {c : Nat} {s t u : State}

protected theorem refl (c : Nat) (s : State) : HoldsPipe c s s := ⟨rfl, rfl, rfl, fun _ _ => rfl⟩

protected theorem trans (h : HoldsPipe c s t) (h' : HoldsPipe c t u) : HoldsPipe c s u :=
  ⟨h'.1.trans h.1, h'.2.1.trans h.2.1, h'.2.2.1.trans h.2.2.1, fun o ho => (h'.2.2.2 o ho).trans (h.2.2.2 o ho)⟩

protected theorem wr {o : Nat} {v : Word} (ho : ¬ TallyReg c o) (h : HoldsPipe c s t) : HoldsPipe c s (wr o v t) := by
  obtain ⟨hb, hq, ht, hr⟩ := h
  exact ⟨hb, hq, ht, fun p hp => (rd_wr_other _ _ _ _ (by rintro rfl; exact ho hp)).trans (hr p hp)⟩

protected theorem beginStable (hc : c < 16) (s : State) : BeginStable c (HoldsPipe c s) where
  wrUnit := fun ho => .wr (not_tallyReg_outside hc ho)
  pcie := id
  fault := id
  irq := id
  units := id
  sector := id
  wrBegin := by
    rintro t o v (ho | ho)
    · exact .wr (not_tallyReg_line ho)
    · refine .wr ?_
      simp only [TallyReg, rCTX_CNT, rCTX_FR_NEXT, rPIPE_BUSY, rCTX_STATUS, List.mem_cons, List.not_mem_nil, or_false] at ho ⊢
      omega
  context := id

protected theorem lineStable (hc : c < 16) (s : State) : LineStable c (HoldsPipe c s) where
  toFetchStable := (HoldsPipe.beginStable hc s).toFetchStable
  mem := id
  wrLine := fun ho => .wr (not_tallyReg_line ho)
  frame := fun _ => id
  slot := id
  stage := id
  push := id

theorem rdn (h : HoldsPipe c s t) {o : Nat} (ho : TallyReg c o) : rdn t o = Machine.rdn s o := by
  rw [Machine.rdn, h.2.2.2 o ho, ← Machine.rdn]

theorem ctxPipe (h : HoldsPipe c s t) (d : Nat) : ctxPipe t d = Machine.ctxPipe s d := by
  simp only [Machine.ctxPipe, route, sec, h.1]

end

end HoldsPipe

/-! ### The FIFO level of a live context's port (R110) -/

section
variable {c : Nat} {s t : State}

theorem kept_pipeFifo : Kept [] [rVP_STATUS (ctxPort s c), rVP_FIFO_HWM (ctxPort s c)] s (pipeFifo c s) := by
  unfold pipeFifo
  split
  · exact .wr (by simp) (.wr (by simp) (.refl s))
  · exact .refl s

theorem portReg_lt {o : Nat} (ho : o ∈ [rVP_STATUS (ctxPort s c), rVP_FIFO_HWM (ctxPort s c)]) : o < 0x1800000 := by
  have hp : ctxPort s c < 8 := Nat.mod_lt _ (by decide)
  simp only [List.mem_cons, List.not_mem_nil, or_false, rVP_STATUS, rVP_FIFO_HWM] at ho
  omega

theorem rd_pipeFifo {o : Nat} (ho : 0x1800000 ≤ o) : rd (pipeFifo c s) o = rd s o :=
  kept_pipeFifo.2 o fun h => absurd (portReg_lt h) (by omega)

theorem tallyReg_high {o : Nat} (ho : TallyReg c o) : 0x1800000 ≤ o := by
  simp only [TallyReg, rCTX_CNT, rCTX_FR_NEXT, rPIPE_BUSY, List.mem_cons, List.not_mem_nil, or_false] at ho
  omega

theorem HoldsPipe.pipeFifo (h : HoldsPipe c s t) : HoldsPipe c s (pipeFifo c t) := by
  refine h.trans ⟨kept_pipeFifo.1 .boot (by simp), kept_pipeFifo.1 .pipeq (by simp), kept_pipeFifo.1 .pipeTurn (by simp),
    fun o ho => rd_pipeFifo (tallyReg_high ho)⟩

end

end Sys2Proof.Machine

namespace Sys2Proof.Machine

open Sys2Proof

/-! ### The context that has waited longest (R124) -/

/-- The context chosen is one of the sixteen, and lies in the pipe. -/
theorem of_longest {s : State} {p c : Nat} {ok : Nat → Bool} (h : longest s p ok = some c) : c < 16 ∧ ctxPipe s c = p := by
  suffices hall : ∀ c, longest s p ok = some c → c < 16 ∧ ctxPipe s c = p from hall c h
  refine List.foldlRecOn (motive := fun best => ∀ c, best = some c → c < 16 ∧ ctxPipe s c = p) (upto 16) _
    (by simp) fun best hbest x hx c hc => ?_
  split at hc
  next hok =>
    have hchosen : some x = some c → c < 16 ∧ ctxPipe s c = p := by
      rintro ⟨⟩
      exact ⟨List.mem_range.mp hx, hok.2.1⟩
    split at hc
    · exact hchosen hc
    · split at hc
      exacts [hchosen hc, hbest c hc]
  next => exact hbest c hc

/-! ### A line goes through the pipe (R123, R156) -/

section
variable {c w : Nat} {s t u : State} {l : Line}

/-- From `s` to `t` the pipe has taken a line of context `c` with `w` columns: it is counted, its cycles are added to those of the
pipe, and the pipe's turn advances. -/
structure LineTaken (c w : Nat) (s t : State) : Prop where
  counted : rdn t (rCTX_CNT c 1) = satN 32 (rdn s (rCTX_CNT c 1) + 1)
  busy : rdn t (rPIPE_BUSY (ctxPipe s c)) = (rdn s (rPIPE_BUSY (ctxPipe s c)) + (w + 1) / 2) % 2 ^ 32
  turn : tget 0 t.pipeTurn (ctxPipe s c) = tget 0 s.pipeTurn (ctxPipe s c) + 1

theorem lineTaken_startLine : LineTaken c (pframe s c).info.width s (startLine c s) := by
  have hne : rCTX_CNT c 1 ≠ rPIPE_BUSY (ctxPipe s c) := by
    have := ctxPipe_lt s c
    simp only [rPIPE_BUSY, rCTX_CNT]
    omega
  refine ⟨?_, ?_, tget_tput_same _ _ _ _⟩
  · refine rdn_bump_same.trans ?_
    rw [rdn, rd_bumpW, if_neg hne]
    rfl
  · refine (congrArg BitVec.toNat (rd_bump _ _ _ _)).trans ?_
    rw [if_neg hne.symm, rd_bumpW, if_pos rfl, pframe, pctx_setPctx, w32, BitVec.toNat_ofNat]
    rfl

theorem tallyReg_busy {p : Nat} (hp : p < 2) : TallyReg c (rPIPE_BUSY p) := by
  simp only [TallyReg, rPIPE_BUSY, List.mem_cons]
  omega

/-- Once the line has started, what follows from it leaves the tallies. -/
theorem holdsPipe_pipeLine (hc : c < 16) : HoldsPipe c (startLine c s) (secPoll c (pipeLine c l s)) := by
  refine (HoldsPipe.beginStable hc _).secPoll ?_
  unfold pipeLine
  dsimp only
  split
  exacts [.refl c _, (HoldsPipe.lineStable hc _).stage0 (.refl c _)]

theorem pipeq_pipeLine (hc : c < 16) : (secPoll c (pipeLine c l s)).pipeq = s.pipeq := (holdsPipe_pipeLine hc).2.1

theorem lineTaken_pipeLine (hc : c < 16) : LineTaken c (pframe s c).info.width s (secPoll c (pipeLine c l s)) := by
  have h := holdsPipe_pipeLine (s := s) (l := l) hc
  obtain ⟨hcount, hbusy, hturn⟩ := lineTaken_startLine (c := c) (s := s)
  exact ⟨(h.rdn (by simp [TallyReg])).trans hcount, (h.rdn (tallyReg_busy (ctxPipe_lt s c))).trans hbusy, by rwa [h.2.2.1]⟩

/-- What left the tallies before the line came does not show. -/
theorem LineTaken.of_same (hboot : u.boot = s.boot) (hturn : u.pipeTurn = s.pipeTurn) (hr : ∀ o, TallyReg c o → rd u o = rd s o)
    (h : LineTaken c w u t) : LineTaken c w s t := by
  have hpipe : ctxPipe u c = ctxPipe s c := by simp only [ctxPipe, route, sec, hboot]
  have hrdn {o} (ho : TallyReg c o) : rdn u o = rdn s o := by rw [rdn, hr o ho, ← rdn]
  obtain ⟨hcount, hbusy, ht⟩ := h
  rw [hpipe, hrdn (tallyReg_busy (ctxPipe_lt s c))] at hbusy
  rw [hpipe, hturn] at ht
  rw [hrdn (by simp [TallyReg])] at hcount
  exact ⟨hcount, hbusy, ht⟩

end

/-! ### Lines of a live context (R124) -/

section
variable {c : Nat} {s t : State} {l : Line} {q : List PipeItem}

/-- The context's queue is now `q`, and the FIFO level of its port follows. -/
def dequeued (c : Nat) (q : List PipeItem) (s : State) : State := pipeFifo c (setPipeQueue c q s)

theorem kept_dequeued :
    Kept [.pipeq] [rVP_STATUS (ctxPort s c), rVP_FIFO_HWM (ctxPort s c)] s (dequeued c q s) := by
  have h : Kept [.pipeq] [rVP_STATUS (ctxPort s c), rVP_FIFO_HWM (ctxPort s c)] s (setPipeQueue c q s) := by
    refine (Kept.refl s).update rfl fun p hp => ?_
    cases p
    case pipeq => exact absurd (List.mem_singleton.mpr rfl) hp
    all_goals rfl
  obtain ⟨hp, hr⟩ := kept_pipeFifo (c := c) (s := setPipeQueue c q s)
  exact ⟨fun p hps => Part.same_trans (h.1 p hps) (hp p (by simp)), fun o ho => (hr o ho).trans (h.2 o ho)⟩

theorem pipeQueue_dequeued : pipeQueue (dequeued c q s) c = q := by
  have h : (dequeued c q s).pipeq = tput [] s.pipeq c q := kept_pipeFifo.1 .pipeq (by simp)
  rw [pipeQueue, h, tget_tput_same]

theorem rd_dequeued {o : Nat} (ho : 0x1800000 ≤ o) : rd (dequeued c q s) o = rd s o := (rd_pipeFifo ho).trans rfl

theorem pframe_dequeued : pframe (dequeued c q s) c = pframe s c := by
  have h : (dequeued c q s).pctx = s.pctx := kept_dequeued.1 .pctx (by simp)
  rw [pframe, pctx, h, ← pctx, ← pframe]

/-- The line that leaves the queue is taken. -/
theorem lineTaken_dequeued (hc : c < 16) :
    pipeQueue (secPoll c (pipeLine c l (dequeued c q s))) c = q ∧
    LineTaken c (pframe s c).info.width s (secPoll c (pipeLine c l (dequeued c q s))) := by
  have h := lineTaken_pipeLine (s := dequeued c q s) (l := l) hc
  rw [pframe_dequeued] at h
  refine ⟨?_, h.of_same (kept_dequeued.1 .boot (by simp)) (kept_dequeued.1 .pipeTurn (by simp))
    fun o ho => rd_dequeued (tallyReg_high ho)⟩
  rw [pipeQueue, pipeq_pipeLine hc, ← pipeQueue, pipeQueue_dequeued]

theorem takeLine_lost {pf : PipeFrame} (hf : (pctx s c).frame = some pf) (hq : pipeQueue s c = .line l :: q) (hl : pf.lost = true) :
    takeLine c s = dequeued c q s := by
  simp [takeLine, hf, hq, hl, dequeued]

theorem takeLine_line {pf : PipeFrame} (hf : (pctx s c).frame = some pf) (hq : pipeQueue s c = .line l :: q) (hl : pf.lost = false) :
    takeLine c s = secPoll c (pipeLine c l (dequeued c q s)) := by
  simp [takeLine, hf, hq, hl, dequeued]

theorem takeLine_start {f : FrameInfo} (hf : (pctx s c).frame = none) (hq : pipeQueue s c = .start f :: .line l :: q) :
    takeLine c s = secPoll c (pipeLine c l (dequeued c q (startFrame c f (setPipeQueue c (.line l :: q) s)))) := by
  simp [takeLine, hf, hq, dequeued]

end

/-! ### PIPE_LINE_START (R124, R125) -/

section
variable {p : Fin 2} {drained c : Nat} {s : State}

/-- A line of the live context is ready, and its splice takes it. -/
def waitsLive (s : State) (c : Nat) : Bool := decide (ctxKind s c = 1) && readyLine s c && !secHolds s c

/-- The memory-to-memory context has a line to start, and its splice takes it. -/
def waitsM2m (s : State) (c : Nat) : Bool := readyM2m s c && !secHolds s c

/-- Which context has waited longest does not depend on what waits in the staging ring. -/
theorem longest_waitsLive_stageDrain (drained : Nat) :
    longest (stageDrain p drained s) p (waitsLive (stageDrain p drained s)) = longest s p (waitsLive s) := rfl

theorem longest_waitsM2m_stageDrain (drained : Nat) :
    longest (stageDrain p drained s) p (waitsM2m (stageDrain p drained s)) = longest s p (waitsM2m s) := rfl

theorem execPipeLineStart_live (hrun : domRun s 3 = true) (hc : longest s p (waitsLive s) = some c) :
    execPipeLineStart p drained s = .next (takeLine c (stageDrain p drained s)) := by
  rw [← longest_waitsLive_stageDrain drained] at hc
  unfold waitsLive at hc
  simp [execPipeLineStart, hrun, hc]

theorem execPipeLineStart_m2m (hrun : domRun s 3 = true) (hlive : longest s p (waitsLive s) = none)
    (hc : longest s p (waitsM2m s) = some c) : execPipeLineStart p drained s = .next (takeM2m c (stageDrain p drained s)) := by
  rw [← longest_waitsLive_stageDrain drained] at hlive
  rw [← longest_waitsM2m_stageDrain drained] at hc
  unfold waitsLive at hlive
  unfold waitsM2m at hc
  simp [execPipeLineStart, hrun, hlive, hc]

theorem execPipeLineStart_idle (hrun : domRun s 3 = true) (hlive : longest s p (waitsLive s) = none)
    (hc : longest s p (waitsM2m s) = none) : execPipeLineStart p drained s = .next (stageDrain p drained s) := by
  rw [← longest_waitsLive_stageDrain drained] at hlive
  rw [← longest_waitsM2m_stageDrain drained] at hc
  unfold waitsLive at hlive
  unfold waitsM2m at hc
  simp [execPipeLineStart, hrun, hlive, hc]

theorem execPipeLineStart_stopped (hrun : domRun s 3 = false) : execPipeLineStart p drained s = .next s := by
  simp [execPipeLineStart, hrun]

theorem kept_stageDrain {n : Nat} : Kept [.stage] [] s (stageDrain n drained s) := by
  refine (Kept.refl s).update rfl fun p hp => ?_
  cases p
  case stage => exact absurd (List.mem_singleton.mpr rfl) hp
  all_goals rfl

variable {pf : PipeFrame} {f : FrameInfo} {l : Line} {q : List PipeItem}

/-- A line of a frame whose splice was lost is only taken off the queue. -/
theorem pipeLineStart_lost (hrun : domRun s 3 = true) (hc : longest s p (waitsLive s) = some c)
    (hf : (pctx s c).frame = some pf) (hl : pf.lost = true) (hq : pipeQueue s c = .line l :: q) :
    Completes (.pipeLineStart p drained) s fun t =>
      pipeQueue t c = q ∧ Kept [.stage, .pipeq] [rVP_STATUS (ctxPort s c), rVP_FIFO_HWM (ctxPort s c)] s t := by
  refine ⟨_, execPipeLineStart_live hrun hc, ?_⟩
  rw [takeLine_lost (s := stageDrain p drained s) hf hq hl]
  refine ⟨pipeQueue_dequeued, fun part hp => ?_, fun o ho => kept_dequeued.2 o ho⟩
  obtain ⟨hstage, hpipeq⟩ : part ≠ .stage ∧ part ≠ .pipeq := by simpa using hp
  exact Part.same_trans (kept_stageDrain.1 part (by simpa using hstage)) (kept_dequeued.1 part (by simpa using hpipeq))

theorem pipeLineStart_line (hrun : domRun s 3 = true) (hc : longest s p (waitsLive s) = some c)
    (hf : (pctx s c).frame = some pf) (hl : pf.lost = false) (hq : pipeQueue s c = .line l :: q) :
    Completes (.pipeLineStart p drained) s fun t =>
      pipeQueue t c = q ∧ rdn t (rCTX_CNT c 1) = satN 32 (rdn s (rCTX_CNT c 1) + 1) ∧
      rdn t (rPIPE_BUSY p) = (rdn s (rPIPE_BUSY p) + (pf.info.width + 1) / 2) % 2 ^ 32 ∧
      tget 0 t.pipeTurn p = tget 0 s.pipeTurn p + 1 := by
  obtain ⟨hc16, hpipe⟩ := of_longest hc
  refine ⟨_, execPipeLineStart_live hrun hc, ?_⟩
  rw [takeLine_line (s := stageDrain p drained s) hf hq hl]
  obtain ⟨hqueue, hcount, hbusy, hturn⟩ := lineTaken_dequeued (s := stageDrain p drained s) (l := l) (q := q) hc16
  have hframe : pframe (stageDrain p drained s) c = pf := pframe_of_frame (s := stageDrain p drained s) hf
  have hpipe' : ctxPipe (stageDrain p drained s) c = p := hpipe
  rw [hpipe', hframe] at hbusy
  rw [hpipe'] at hturn
  exact ⟨hqueue, hcount, hbusy, hturn⟩

/-- The first line of a frame begins the frame, which leaves the tallies. -/
theorem pipeLineStart_first (hrun : domRun s 3 = true) (hc : longest s p (waitsLive s) = some c)
    (hf : (pctx s c).frame = none) (hq : pipeQueue s c = .start f :: .line l :: q) :
    Completes (.pipeLineStart p drained) s fun t =>
      pipeQueue t c = q ∧ rdn t (rCTX_CNT c 1) = satN 32 (rdn s (rCTX_CNT c 1) + 1) := by
  obtain ⟨hc16, -⟩ := of_longest hc
  refine ⟨_, execPipeLineStart_live hrun hc, ?_⟩
  rw [takeLine_start (s := stageDrain p drained s) hf hq]
  generalize hu : setPipeQueue c (.line l :: q) (stageDrain p drained s) = u
  have hbegin : HoldsPipe c u (startFrame c f u) := (HoldsPipe.beginStable hc16 u).startFrame (.refl c u)
  obtain ⟨hqueue, hcount, -, -⟩ := lineTaken_dequeued (s := startFrame c f u) (l := l) (q := q) hc16
  refine ⟨hqueue, hcount.trans ?_⟩
  rw [hbegin.rdn (by simp [TallyReg]), ← hu]
  rfl

theorem pipeLineStart_m2m {y : Nat} (hrun : domRun s 3 = true) (hlive : longest s p (waitsLive s) = none)
    (hc : longest s p (waitsM2m s) = some c) (hy : (pctx s c).m2m = some y) :
    Completes (.pipeLineStart p drained) s fun t =>
      rdn t (rCTX_CNT c 1) = satN 32 (rdn s (rCTX_CNT c 1) + 1) ∧ tget 0 t.pipeTurn p = tget 0 s.pipeTurn p + 1 := by
  obtain ⟨hc16, hpipe⟩ := of_longest hc
  have hQ := HoldsPipe.beginStable hc16 s
  refine ⟨_, execPipeLineStart_m2m hrun hlive hc, ?_⟩
  have hy' : (pctx (stageDrain p drained s) c).m2m = some y := hy
  simp only [takeM2m, hy']
  have hread : HoldsPipe c s (m2mRead c y (stageDrain p drained s)).2 := hQ.devRead ⟨rfl, rfl, rfl, fun _ _ => rfl⟩
  generalize m2mRead c y (stageDrain p drained s) = r at hread
  generalize hx : ({ pctx r.2 c with
    m2m := if y + 1 < (pframe (stageDrain p drained s) c).info.height then some (y + 1) else none } : PCtx) = x
  have hu : HoldsPipe c s (setPctx c x r.2) := hQ.context hread
  obtain ⟨hcount, -, hturn⟩ := (lineTaken_pipeLine (s := setPctx c x r.2) (l := r.1) hc16).of_same hu.1 hu.2.2.1 hu.2.2.2
  rw [hpipe] at hturn
  exact ⟨hcount, hturn⟩

end

/-- Settles O22: whichever line starts, what follows from it in the pipe, at the outputs and in the Sector engine leaves the queue, the
count of lines, the BUSY count and the turn as the line's start has left them. -/
theorem pipeLines : Obligations.PipeLines :=
  ⟨fun _ _ _ _ _ _ _ => pipeLineStart_lost, fun _ _ _ _ _ _ _ => pipeLineStart_line, fun _ _ _ _ _ _ _ => pipeLineStart_first,
    fun _ _ _ _ _ => pipeLineStart_m2m,
    fun _ _ _ hrun hlive hm2m => ⟨_, execPipeLineStart_idle hrun hlive hm2m, kept_stageDrain⟩,
    fun _ _ s hrun => ⟨s, execPipeLineStart_stopped hrun, rfl⟩⟩

end Sys2Proof.Machine

namespace Sys2Proof.Machine

open Sys2Proof

/-! ### The record of a frame (R155) -/

section
variable {c o : Nat} {ws : List Nat} {s t : State}

/-- The record of a frame of context `c` stands in its ring under the next sequence, with the words `ws` after it, and the frame
counts. -/
def recordFrame (c : Nat) (ws : List Nat) (s : State) : State :=
  let q := rdn s (rCTX_FR_NEXT c)
  bump (rCTX_CNT c 0) 1 (wrn (rCTX_FR_NEXT c) (q + 1) (wrWords (rCTX_REC c ((q % 64) * 16)) (q :: ws) s))

/-- A record is of registers alone. -/
theorem same_recordFrame (p : Part) : p.same s (recordFrame c ws s) :=
  Part.same_wr (Part.same_wr
    (wrWords_stable (Q := p.same s) (P := fun _ => True) (fun _ => Part.same_wr) (fun _ _ => trivial) (p.same_refl s)))

/-- A record changes nothing below the ring but the count of frames and the next sequence. -/
theorem rd_recordFrame (ho : o < rCTX_REC c 0) (hcount : o ≠ rCTX_CNT c 0) (hnext : o ≠ rCTX_FR_NEXT c) :
    rd (recordFrame c ws s) o = rd s o := by
  rw [recordFrame, rd_bump, if_neg hcount, rd_wrn, if_neg hnext, rd_wrWords_below]
  simp only [rCTX_REC] at ho ⊢
  omega

theorem rdn_recordFrame_count : rdn (recordFrame c ws s) (rCTX_CNT c 0) = satN 32 (rdn s (rCTX_CNT c 0) + 1) := by
  rw [recordFrame, rdn_bump_same, rdn, rd_wrn, if_neg (by simp only [rCTX_CNT, rCTX_FR_NEXT]; omega),
    rd_wrWords_below (by simp only [rCTX_CNT, rCTX_REC]; omega), ← rdn]

theorem rdn_recordFrame_next : rdn (recordFrame c ws s) (rCTX_FR_NEXT c) = (rdn s (rCTX_FR_NEXT c) + 1) % 2 ^ 32 := by
  rw [recordFrame, rdn, rd_bump, if_neg (by simp only [rCTX_CNT, rCTX_FR_NEXT]; omega), rd_wrn, if_pos rfl, w32,
    BitVec.toNat_ofNat]

theorem rdn_recordFrame_rec :
    rdn (recordFrame c ws s) (rCTX_REC c (rdn s (rCTX_FR_NEXT c) % 64 * 16)) = rdn s (rCTX_FR_NEXT c) := by
  rw [recordFrame, rdn, rd_bump, if_neg (by simp only [rCTX_CNT, rCTX_REC]; omega), rd_wrn,
    if_neg (by simp only [rCTX_FR_NEXT, rCTX_REC]; omega), wrWords, rd_wrWords_below (by omega), rd_wrn, if_pos rfl, w32,
    BitVec.toNat_ofNat]
  exact Nat.mod_eq_of_lt (BitVec.isLt _)

end

/-! ### A context leaves its frame (R142, R155) -/

section
variable {c : Nat} {Q : State → Prop} {s t : State} {x : PCtx}

/-- Context `c` leaves its frame as `x`, and its status follows. -/
def leaveFrame (c : Nat) (x : PCtx) (s : State) : State :=
  let s := setPctx c x s
  let s := wrB (rCTX_STATUS c) 3 false (setCtxState c (if ctxOn s c then 1 else 0) s)
  if ctxKind s c = 2 then wrB (rCTX_M2M_GO c) 0 false s else s

theorem Kept.setPctx {ps : List Part} {rs : List Nat} (hps : .pctx ∈ ps) (h : Kept ps rs s t) :
    Kept ps rs s (setPctx c x t) := by
  refine h.update rfl fun p hp => ?_
  cases p
  case pctx => exact absurd hps hp
  all_goals rfl

theorem pctx_leaveFrame : pctx (leaveFrame c x s) c = x := by
  unfold leaveFrame
  dsimp only
  generalize (if ctxOn (setPctx c x s) c = true then 1 else 0) = k
  split
  exacts [pctx_setPctx, pctx_setPctx]

theorem kept_leaveFrame : Kept [.pctx] [rCTX_STATUS c, rCTX_M2M_GO c] s (leaveFrame c x s) := by
  have h (k : Nat) : Kept [.pctx] [rCTX_STATUS c, rCTX_M2M_GO c] s
      (wrB (rCTX_STATUS c) 3 false (setCtxState c k (setPctx c x s))) :=
    .wr (by simp) (.wr (by simp) (.setPctx (by simp) (.refl s)))
  unfold leaveFrame
  dsimp only
  generalize (if ctxOn (setPctx c x s) c = true then 1 else 0) = k
  split
  exacts [.wr (by simp) (h k), h k]

/-- The last lines of a frame go to the outputs: that of an odd line count is repeated, and the band ends (R147, R150). -/
def closeOutputs (c : Nat) (s : State) : State :=
  bandClose c true (if (pframe s c).chroma.isEmpty then s else codingLine c (pframe s c).chroma s)

theorem OutputStable.closeOutputs (hQ : OutputStable c Q) (h : Q s) : Q (closeOutputs c s) := by
  refine hQ.bandClose ?_
  split
  exacts [h, hQ.codingLine h]

/-- A frame closes: its last lines go to the outputs, its record is written, and the context leaves it. -/
theorem closeCtx_eq (c : Nat) (s : State) : ∃ ws x, closeCtx c s = leaveFrame c x (recordFrame c ws (closeOutputs c s)) ∧
    x.frame = none ∧ x.spliceLost = (pctx (recordFrame c ws (closeOutputs c s)) c).spliceLost :=
  ⟨_, _, rfl, rfl, rfl⟩

theorem pctx_closeCtx : (pctx (closeCtx c s) c).frame = none ∧
    (pctx (closeCtx c s) c).spliceLost = (pctx (closeOutputs c s) c).spliceLost := by
  obtain ⟨ws, x, heq, hframe, hlost⟩ := closeCtx_eq c s
  have hsame : (recordFrame c ws (closeOutputs c s)).pctx = (closeOutputs c s).pctx := same_recordFrame .pctx
  rw [heq, pctx_leaveFrame, hlost, pctx, hsame, ← pctx]
  exact ⟨hframe, rfl⟩

end

/-! ### A frame closes -/

section
variable {c : Nat} {s t u : State}

/-- From `s` to `t` a frame of context `c` counts, and its record stands in the ring under the next sequence. -/
structure Recorded (c : Nat) (s t : State) : Prop where
  queue : t.pipeq = s.pipeq
  counted : rdn t (rCTX_CNT c 0) = satN 32 (rdn s (rCTX_CNT c 0) + 1)
  numbered : rdn t (rCTX_FR_NEXT c) = (rdn s (rCTX_FR_NEXT c) + 1) % 2 ^ 32
  recorded : rdn t (rCTX_REC c (rdn s (rCTX_FR_NEXT c) % 64 * 16)) = rdn s (rCTX_FR_NEXT c)

theorem recorded_recordFrame {ws : List Nat} : Recorded c s (recordFrame c ws s) where
  queue := same_recordFrame .pipeq
  counted := rdn_recordFrame_count
  numbered := rdn_recordFrame_next
  recorded := rdn_recordFrame_rec

/-- What left the tallies before the record does not show. -/
theorem Recorded.of_holds (h : HoldsPipe c s u) (h' : Recorded c u t) : Recorded c s t := by
  have hnext : rdn u (rCTX_FR_NEXT c) = rdn s (rCTX_FR_NEXT c) := h.rdn (by simp [TallyReg])
  have hcount : rdn u (rCTX_CNT c 0) = rdn s (rCTX_CNT c 0) := h.rdn (by simp [TallyReg])
  obtain ⟨hqueue, hcounted, hnumbered, hrecorded⟩ := h'
  rw [hnext] at hnumbered hrecorded
  rw [hcount] at hcounted
  exact ⟨hqueue.trans h.2.1, hcounted, hnumbered, hrecorded⟩

/-- The registers of a context that tell of its records: the count, the next sequence and the ring. -/
def RecordReg (c o : Nat) : Prop := o = rCTX_CNT c 0 ∨ o = rCTX_FR_NEXT c ∨ rCTX_REC c 0 ≤ o ∧ o < rCTX_REC c 1024

/-- What leaves the queues and these registers does not show after the record. -/
theorem Recorded.and_kept {ps : List Part} {rs : List Nat} (h : Recorded c s t) (hk : Kept ps rs t u) (hps : .pipeq ∉ ps)
    (hrs : ∀ o, RecordReg c o → o ∉ rs) : Recorded c s u := by
  have hrdn {o : Nat} (ho : RecordReg c o) : rdn u o = rdn t o := by rw [rdn, hk.2 o (hrs o ho), ← rdn]
  obtain ⟨hqueue, hcounted, hnumbered, hrecorded⟩ := h
  refine ⟨(hk.1 .pipeq hps).trans hqueue, (hrdn (.inl rfl)).trans hcounted, (hrdn (.inr (.inl rfl))).trans hnumbered,
    (hrdn (.inr (.inr ?_))).trans hrecorded⟩
  simp only [rCTX_REC]
  omega

theorem recorded_closeCtx (hc : c < 16) : Recorded c s (closeCtx c s) := by
  obtain ⟨ws, x, heq, -, -⟩ := closeCtx_eq c s
  have hout : HoldsPipe c s (closeOutputs c s) := (HoldsPipe.lineStable hc s).closeOutputs (.refl c s)
  rw [heq]
  refine (recorded_recordFrame.of_holds hout).and_kept kept_leaveFrame (by simp) fun o ho => ?_
  simp only [RecordReg, rCTX_CNT, rCTX_FR_NEXT, rCTX_REC, rCTX_STATUS, rCTX_M2M_GO, List.mem_cons, List.not_mem_nil, or_false] at ho ⊢
  omega

/-- The frame of context `c` has closed. -/
def Closed (c : Nat) (s t : State) : Prop := (pctx t c).frame = none ∧ Recorded c s t

theorem closed_finishFrame (hc : c < 16) : Closed c s (finishFrame c s) := by
  obtain ⟨u, hu, heq⟩ : ∃ u, HoldsPipe c s u ∧ finishFrame c s = pipeFifo c (closeCtx c u) := by
    refine ⟨_, ?_, rfl⟩
    split
    exacts [(HoldsPipe.lineStable hc s).flushAfter (.refl c s), .refl c s]
  rw [heq]
  refine ⟨?_, ((recorded_closeCtx hc).of_holds hu).and_kept kept_pipeFifo (by simp) fun o ho h => absurd (portReg_lt h) ?_⟩
  · rw [pctx, (kept_pipeFifo.1 .pctx (by simp) : (pipeFifo c (closeCtx c u)).pctx = (closeCtx c u).pctx), ← pctx]
    exact pctx_closeCtx.1
  · simp only [RecordReg, rCTX_CNT, rCTX_FR_NEXT, rCTX_REC] at ho
    omega

/-- The flags of the port's record are those of a frame's end marker (R155). -/
def markEnd (c flags : Nat) (s : State) : State :=
  let s := setPframe c { pframe s c with portFlags := flags } s
  if nbit flags fTRUNCATED then pipeFlag c gTRUNCATED s else s

theorem splice_markEnd {flags : Nat} : (pframe (markEnd c flags s) c).splice = (pframe s c).splice := by
  unfold markEnd
  dsimp only
  split
  · rw [pipeFlag, pframe_setPframe, pframe_setPframe]
  · rw [pframe_setPframe]

theorem NoLine.markEnd {flags : Nat} (h : NoLine c s) : NoLine c (markEnd c flags s) := by
  have h1 : NoLine c (Machine.setPframe c { pframe s c with portFlags := flags } s) := NoLine.setPframe h
  unfold Machine.markEnd
  dsimp only
  split
  exacts [NoLine.setPframe h1, h1]

theorem OutputStable.markEnd {Q : State → Prop} {flags : Nat} (hQ : OutputStable c Q) (h : Q s) : Q (markEnd c flags s) := by
  have h1 : Q (setPframe c { pframe s c with portFlags := flags } s) := hQ.frame ⟨rfl, rfl⟩ h
  unfold Machine.markEnd
  dsimp only
  split
  exacts [hQ.pipeFlag h1, h1]

/-- The end marker closes a frame of which no line has to return. -/
theorem closed_endFrame {flags : Nat} (hc : c < 16) (h : (pframe s c).splice = false ∨ NoLine c s) :
    Closed c s (endFrame c flags s) := by
  have hL := HoldsPipe.lineStable hc s
  have hB := HoldsPipe.beginStable hc s
  have hN := NoLine.sectorStable c
  unfold endFrame
  extract_lets pf0 s1 s2 pf back s3 s4 pf' s5
  have h3 : HoldsPipe c s s3 ∧ (NoLine c s → NoLine c s3) := by
    dsimp only [s3]
    split
    exacts [⟨hL.markEnd (.refl c s), NoLine.markEnd⟩, ⟨hL.flushTo (hL.markEnd (.refl c s)), fun h => h.markEnd.flushTo⟩]
  have h4 : HoldsPipe c s s4 ∧ (NoLine c s → NoLine c s4) := by
    dsimp only [s4]
    split
    exacts [⟨hB.secPoll (hB.splicePush h3.1), fun h => hN.secPoll (hN.splicePush (h3.2 h))⟩, h3]
  have h5 : HoldsPipe c s s5 := hL.frame ⟨rfl, rfl⟩ h4.1
  rw [if_neg]
  · obtain ⟨hgone, hrec⟩ := closed_finishFrame (s := s5) hc
    exact ⟨hgone, hrec.of_holds h5⟩
  rintro ⟨hback, hlt⟩
  rcases h with hsplice | hnone
  · have hpf : pf.splice = false := splice_markEnd.trans hsplice
    simp [back, hpf] at hback
  · obtain ⟨-, -, -, hsent⟩ : Lineless pf' := h4.2 hnone
    omega

end

/-! ### PIPE_FRAME_END (R142, R155) -/

section
variable {c : Fin 16} {drained fl : Nat} {s : State} {pf : PipeFrame} {f : FrameInfo} {q : List PipeItem}

/-- The end marker of a live frame without a splice closes it. -/
theorem pipeFrameEnd_stop (hrun : domRun s 3 = true) (hf : (pctx s c).frame = some pf) (hended : pf.ended = false)
    (hsplice : pf.splice = false) (hkind : ctxKind s c ≠ 2) (hq : pipeQueue s c = .stop fl :: q) :
    Completes (.pipeFrameEnd c drained) s fun t =>
      (pctx t c).frame = none ∧ pipeQueue t c = q ∧ rdn t (rCTX_CNT c 0) = satN 32 (rdn s (rCTX_CNT c 0) + 1) ∧
      rdn t (rCTX_FR_NEXT c) = (rdn s (rCTX_FR_NEXT c) + 1) % 2 ^ 32 ∧
      rdn t (rCTX_REC c (rdn s (rCTX_FR_NEXT c) % 64 * 16)) = rdn s (rCTX_FR_NEXT c) := by
  have hexec : execPipeFrameEnd c drained s =
      .next (endFrame c fl (setPipeQueue c q (stageDrain (ctxPipe s c) drained s))) := by
    have hf' : (pctx (stageDrain (ctxPipe s c) drained s) c).frame = some pf := hf
    have hq' : pipeQueue (stageDrain (ctxPipe s c) drained s) c = .stop fl :: q := hq
    have hkind' : ctxKind (stageDrain (ctxPipe s c) drained s) c ≠ 2 := hkind
    simp [execPipeFrameEnd, hrun, hf', hended, hkind', hq']
  have hframe : pframe (setPipeQueue c q (stageDrain (ctxPipe s c) drained s)) c = pf := pframe_of_frame hf
  obtain ⟨hgone, hqueue, hcounted, hnumbered, hrecorded⟩ :=
    closed_endFrame (flags := fl) c.isLt (.inl ((congrArg PipeFrame.splice hframe).trans hsplice))
  refine ⟨_, hexec, hgone, ?_, hcounted, hnumbered, hrecorded⟩
  rw [pipeQueue, hqueue]
  exact tget_tput_same _ _ _ _

/-- A frame that waited for its last returned line closes. -/
theorem pipeFrameEnd_ended (hrun : domRun s 3 = true) (hf : (pctx s c).frame = some pf) (hended : pf.ended = true)
    (hback : pf.sent ≤ pf.returned) :
    Completes (.pipeFrameEnd c drained) s fun t =>
      (pctx t c).frame = none ∧ rdn t (rCTX_CNT c 0) = satN 32 (rdn s (rCTX_CNT c 0) + 1) ∧
      rdn t (rCTX_FR_NEXT c) = (rdn s (rCTX_FR_NEXT c) + 1) % 2 ^ 32 := by
  have hexec : execPipeFrameEnd c drained s = .next (finishFrame c (stageDrain (ctxPipe s c) drained s)) := by
    have hf' : (pctx (stageDrain (ctxPipe s c) drained s) c).frame = some pf := hf
    simp [execPipeFrameEnd, hrun, hf', hended, Nat.not_lt.mpr hback]
  obtain ⟨hgone, -, hcounted, hnumbered, -⟩ := closed_finishFrame (s := stageDrain (ctxPipe s c) drained s) c.isLt
  exact ⟨_, hexec, hgone, hcounted, hnumbered⟩

/-- A frame without a line begins and closes with its end marker. -/
theorem pipeFrameEnd_lineless (hrun : domRun s 3 = true) (hf : (pctx s c).frame = none)
    (hq : pipeQueue s c = .start f :: .stop fl :: q) :
    Completes (.pipeFrameEnd c drained) s fun t =>
      (pctx t c).frame = none ∧ pipeQueue t c = q ∧ rdn t (rCTX_CNT c 0) = satN 32 (rdn s (rCTX_CNT c 0) + 1) := by
  have hexec : execPipeFrameEnd c drained s =
      .next (endFrame c fl (startFrame c f (setPipeQueue c q (stageDrain (ctxPipe s c) drained s)))) := by
    have hf' : (pctx (stageDrain (ctxPipe s c) drained s) c).frame = none := hf
    have hq' : pipeQueue (stageDrain (ctxPipe s c) drained s) c = .start f :: .stop fl :: q := hq
    simp [execPipeFrameEnd, hrun, hf', hq']
  have hbegin := (HoldsPipe.beginStable c.isLt (setPipeQueue c q (stageDrain (ctxPipe s c) drained s))).startFrame (f := f) (.refl _ _)
  obtain ⟨hgone, hrec⟩ := closed_endFrame (flags := fl) c.isLt (.inr (noLine_startFrame (f := f)))
  obtain ⟨hqueue, hcounted, -, -⟩ := hrec.of_holds hbegin
  refine ⟨_, hexec, hgone, ?_, hcounted⟩
  rw [pipeQueue, hqueue]
  exact tget_tput_same _ _ _ _

theorem pipeFrameEnd_nothing (hrun : domRun s 3 = true) (hf : (pctx s c).frame = none)
    (hq : ∀ f fl q, pipeQueue s c ≠ .start f :: .stop fl :: q) :
    Completes (.pipeFrameEnd c drained) s fun t => Kept [.stage] [] s t := by
  have hexec : execPipeFrameEnd c drained s = .next (stageDrain (ctxPipe s c) drained s) := by
    have hf' : (pctx (stageDrain (ctxPipe s c) drained s) c).frame = none := hf
    have hq' : pipeQueue (stageDrain (ctxPipe s c) drained s) c = pipeQueue s c := rfl
    simp [execPipeFrameEnd, hrun, hf', hq']
  exact ⟨_, hexec, kept_stageDrain⟩

theorem pipeFrameEnd_stopped (hrun : domRun s 3 = false) : Completes (.pipeFrameEnd c drained) s fun t => t = s :=
  ⟨s, by simp [exec, execPipeFrameEnd, hrun], rfl⟩

end

end Sys2Proof.Machine

namespace Sys2Proof.Machine

open Sys2Proof

/-! ### A splice that is lost (R143, R196) -/

section
variable {c : Nat} {s t u : State} {pf : PipeFrame}

/-- What tells of the loss of the splice of context `c` is as in `s`. -/
structure HoldsLoss (c : Nat) (s t : State) : Prop where
  boot : t.boot = s.boot
  spliceq : t.spliceq = s.spliceq
  lost : (pframe t c).lost = (pframe s c).lost
  spliceLost : (pctx t c).spliceLost = (pctx s c).spliceLost
  counted : rd t (rCTX_CNT c 6) = rd s (rCTX_CNT c 6)

namespace HoldsLoss

protected theorem refl (c : Nat) (s : State) : HoldsLoss c s s := ⟨rfl, rfl, rfl, rfl, rfl⟩

protected theorem wr {o : Nat} {v : Word} (ho : o ≠ rCTX_CNT c 6) (h : HoldsLoss c s t) : HoldsLoss c s (wr o v t) :=
  { h with counted := (rd_wr_other _ _ _ _ ho.symm).trans h.counted }

/-- The outputs of a context leave this. -/
protected theorem outputStable (hc : c < 16) (s : State) : OutputStable c (HoldsLoss c s) where
  wrUnit := by
    refine fun ho => .wr ?_
    simp only [OutsideD3, rCTX_CNT] at ho ⊢
    omega
  pcie := fun h => { h with }
  fault := fun h => { h with }
  irq := fun h => { h with }
  units := fun h => { h with }
  mem := fun h => { h with }
  wrLine := by
    refine fun ho => .wr ?_
    simp only [LineReg, rCTX_CNT, rCTX_OUT_WRITTEN_LO, rPIPE_STAGE_HWM, List.map_cons, List.map_nil, List.mem_cons,
      List.not_mem_nil, or_false] at ho ⊢
    omega
  frame := fun hf h => { h with
    lost := (congrArg PipeFrame.lost pframe_setPframe).trans (hf.1.trans h.lost)
    spliceLost := (congrArg PCtx.spliceLost pctx_setPctx).trans h.spliceLost }
  slot := fun {u n} h => { h with
    lost := by
      rw [pframe, pctx_setPctx]
      exact h.lost
    spliceLost := (congrArg PCtx.spliceLost pctx_setPctx).trans h.spliceLost }
  stage := fun h => { h with }

end HoldsLoss

/-- The splice of the frame `pf` of context `c` is lost from `s` to `t` (R143): it counts, nothing is left to hand to it, and a frame
whose end has come, or of memory, has closed; another one drops its further lines. -/
structure SpliceLost (c : Nat) (pf : PipeFrame) (s t : State) : Prop where
  marked : (pctx t c).spliceLost = true
  counted : rdn t (rCTX_CNT c 6) = satN 32 (rdn s (rCTX_CNT c 6) + 1)
  emptied : tget [] t.spliceq c = []
  closed : pf.ended = true ∨ ctxKind s c = 2 → (pctx t c).frame = none
  drops : pf.ended = false → ctxKind s c ≠ 2 → (pframe t c).lost = true ∧ ctxState t c = 3

/-- The frame whose lines go to no output. -/
def deadFrame (pf : PipeFrame) : PipeFrame :=
  (upto 4).foldl (fun pf o => setOutSt o { outSt pf o with dead := true } pf) { pf with chroma := [] }

theorem ended_setOutSt {o : Nat} {x : OutSt} {f : PipeFrame} : (setOutSt o x f).ended = f.ended := by
  unfold setOutSt
  split
  exacts [rfl, rfl, rfl, rfl]

theorem ended_deadFrame : (deadFrame pf).ended = pf.ended :=
  List.foldlRecOn (motive := fun (f : PipeFrame) => f.ended = pf.ended) (upto 4) _ rfl fun _ hf _ _ => ended_setOutSt.trans hf

/-- The frame loses its splice: nothing waits for it, its lines go to no output, and its record will tell (R143, R155). -/
def dropSplice (c : Nat) (pf : PipeFrame) (s : State) : State :=
  let s := { s with spliceq := tput [] s.spliceq c [], secCtx := tput {} s.secCtx c {} }
  pipeFlag c gTRUNCATED (pipeFlag c gSPLICE_LOST
    (setPframe c { deadFrame pf with splice := false, lost := true, whole := true } s))

/-- The loss of a splice counts and is reported, once the band has ended. -/
def reportLoss (c : Nat) (s : State) : State :=
  let s := raiseE 53 3 (bump (rCTX_CNT c 6) 1 (bandClose c true s))
  setPctx c { pctx s c with spliceLost := true, m2m := none } s

theorem loseSplice_eq (hf : (pctx s c).frame = some pf) (hsplice : pf.splice = true) :
    loseSplice c s = if pf.ended || decide (ctxKind (reportLoss c (dropSplice c pf s)) c = 2)
      then closeCtx c (reportLoss c (dropSplice c pf s)) else setCtxState c 3 (reportLoss c (dropSplice c pf s)) := by
  unfold loseSplice
  extract_lets s0
  have hf0 : (pctx s0 c).frame = some pf := hf
  split
  next heq => cases hf0.symm.trans heq
  next pf' heq =>
  obtain rfl : pf = pf' := Option.some.inj (hf0.symm.trans heq)
  rw [if_neg (by simp [hsplice])]
  extract_lets pf1 s1 s2 x s3
  have hpf1 : pf1 = deadFrame pf := rfl
  clear_value pf1
  have h1 : s1 = dropSplice c pf s := by rw [dropSplice, ← hpf1]
  have h3 : s3 = reportLoss c (dropSplice c pf s) := by rw [← h1]; rfl
  rw [h3, hpf1, ended_deadFrame]

theorem lost_dropSplice : (pframe (dropSplice c pf s) c).lost = true := by
  simp only [dropSplice, pipeFlag, pframe_setPframe]

theorem boot_dropSplice : (dropSplice c pf s).boot = s.boot := rfl

theorem spliceq_dropSplice : tget [] (dropSplice c pf s).spliceq c = [] := tget_tput_same _ _ _ _

theorem rdn_dropSplice {o : Nat} : rdn (dropSplice c pf s) o = rdn s o := rfl

theorem spliceLost_reportLoss : (pctx (reportLoss c s) c).spliceLost = true := by
  simp only [reportLoss, pctx_setPctx]

theorem pframe_reportLoss :
    pframe (reportLoss c s) c = pframe (raiseE 53 3 (bump (rCTX_CNT c 6) 1 (bandClose c true s))) c := by
  simp only [reportLoss, pframe, pctx_setPctx]

/-- The report counts the loss once, and leaves the routes, what waits for the splices and the frame's own mark. -/
theorem holds_reportLoss (hc : c < 16) :
    (reportLoss c s).boot = s.boot ∧ (reportLoss c s).spliceq = s.spliceq ∧
    (pframe (reportLoss c s) c).lost = (pframe s c).lost ∧
    rdn (reportLoss c s) (rCTX_CNT c 6) = satN 32 (rdn s (rCTX_CNT c 6) + 1) := by
  have hband := (HoldsLoss.outputStable hc s).bandClose (last := true) (.refl c _)
  have hevent := (HoldsLoss.outputStable hc _).raiseE (num := 53) (dom := 3)
    (.refl c (bump (rCTX_CNT c 6) 1 (bandClose c true s)))
  refine ⟨hevent.boot.trans hband.boot, hevent.spliceq.trans hband.spliceq, ?_, ?_⟩
  · rw [pframe_reportLoss]
    exact hevent.lost.trans hband.lost
  · have hcount : rd (reportLoss c s) (rCTX_CNT c 6) = rd (bump (rCTX_CNT c 6) 1 (bandClose c true s)) (rCTX_CNT c 6) :=
      hevent.counted
    rw [rdn, hcount, ← rdn, rdn_bump_same, rdn, hband.counted, ← rdn]

/-- As a frame closes, what tells of the loss stays, but for the frame. -/
theorem holds_closeCtx (hc : c < 16) : (closeCtx c s).spliceq = s.spliceq ∧
    (pctx (closeCtx c s) c).spliceLost = (pctx s c).spliceLost ∧ rdn (closeCtx c s) (rCTX_CNT c 6) = rdn s (rCTX_CNT c 6) := by
  obtain ⟨-, hq, -, hlost, hcount⟩ := (HoldsLoss.outputStable hc s).closeOutputs (.refl c s)
  obtain ⟨ws, x, heq, -, -⟩ := closeCtx_eq c s
  have hkept : Kept [.pctx] [rCTX_STATUS c, rCTX_M2M_GO c] (recordFrame c ws (closeOutputs c s)) (closeCtx c s) :=
    heq ▸ kept_leaveFrame
  refine ⟨(hkept.1 .spliceq (by simp)).trans ((same_recordFrame .spliceq).trans hq), pctx_closeCtx.2.trans hlost, ?_⟩
  have hleave : rCTX_CNT c 6 ∉ [rCTX_STATUS c, rCTX_M2M_GO c] := by
    simp only [rCTX_CNT, rCTX_STATUS, rCTX_M2M_GO, List.mem_cons, List.not_mem_nil, or_false]
    omega
  rw [rdn, hkept.2 _ hleave, rd_recordFrame (by simp only [rCTX_CNT, rCTX_REC]; omega) (by simp only [rCTX_CNT]; omega)
    (by simp only [rCTX_CNT, rCTX_FR_NEXT]; omega), hcount, ← rdn]

theorem ctxKind_congr (h : t.boot = s.boot) : ctxKind t c = ctxKind s c := by
  simp only [ctxKind, route, sec, h]

theorem spliceLost_loseSplice (hc : c < 16) (hf : (pctx s c).frame = some pf) (hsplice : pf.splice = true) :
    SpliceLost c pf s (loseSplice c s) := by
  rw [loseSplice_eq hf hsplice]
  obtain ⟨hboot, hq, hlost, hcount⟩ := holds_reportLoss (s := dropSplice c pf s) hc
  have hmarked := spliceLost_reportLoss (c := c) (s := dropSplice c pf s)
  rw [lost_dropSplice] at hlost
  rw [rdn_dropSplice] at hcount
  generalize reportLoss c (dropSplice c pf s) = u at *
  have hkind : ctxKind u c = ctxKind s c := ctxKind_congr (hboot.trans boot_dropSplice)
  rw [hkind]
  split
  next hclose =>
    obtain ⟨hq', hmarked', hcount'⟩ := holds_closeCtx (s := u) hc
    refine ⟨hmarked'.trans hmarked, hcount'.trans hcount, ?_, fun _ => pctx_closeCtx.1, fun hended hkind => ?_⟩
    · rw [hq', hq, spliceq_dropSplice]
    · simp [hended, hkind] at hclose
  next hopen =>
    refine ⟨hmarked, ?_, ?_, fun hclose => absurd (by simpa using hclose) hopen, fun _ _ => ⟨hlost, ?_⟩⟩
    · rw [rdn, setCtxState, wrF, rd_wr_other _ _ _ _ (by simp only [rCTX_CNT, rCTX_STATUS]; omega), ← rdn, hcount]
    · exact (congrArg (tget [] · c) hq).trans spliceq_dropSplice
    · exact rdF_wrF_same (by decide) (by decide)

end

end Sys2Proof.Machine

namespace Sys2Proof.Machine

open Sys2Proof

/-! ### RETURNED_LINE (R142, R143) -/

section
variable {c : Nat} {s t : State}

/-- What the Sector engine keeps for its contexts, and the lines that have returned to the frame of context `c`, are as in `s`. -/
structure HoldsReturn (c : Nat) (s t : State) : Prop where
  secCtx : t.secCtx = s.secCtx
  returned : (pframe t c).returned = (pframe s c).returned

/-- What follows in the pipe from a line leaves this. -/
theorem HoldsReturn.lineStable (c : Nat) (s : State) : LineStable c (HoldsReturn c s) where
  wrUnit := fun _ h => { h with }
  pcie := fun h => { h with }
  fault := fun h => { h with }
  irq := fun h => { h with }
  units := fun h => { h with }
  mem := fun h => { h with }
  wrLine := fun _ h => { h with }
  frame := fun hf h => { h with returned := (congrArg PipeFrame.returned pframe_setPframe).trans (hf.2.trans h.returned) }
  slot := fun {u n} h => { h with
    returned := by
      rw [pframe, pctx_setPctx]
      exact h.returned }
  stage := fun h => { h with }
  push := fun h => { h with }

end

section
variable {c : Fin 16} {intact : Bool} {drained : Nat} {s : State} {pf : PipeFrame} {l : Line} {q : List Line}

/-- An intact line in the order and width sent is accepted. -/
theorem returnedLine_accepted (h3 : domRun s 3 = true) (h2 : domRun s 2 = true) (hf : (pctx s c).frame = some pf)
    (hsplice : pf.splice = true) (htee : splTee pf.info c = false) (hback : (secCtx s c).back = l :: q)
    (hidx : l.idx = pf.returned) (hwidth : l.planes.all (fun v => decide (v.length = pf.info.width)) = true) :
    Completes (.returnedLine c true drained) s fun t =>
      (secCtx t c).back = q ∧ (pframe t c).returned = pf.returned + 1 := by
  obtain ⟨u, hu⟩ : ∃ u, u = stageDrain (ctxPipe s c) drained s := ⟨_, rfl⟩
  have hf' : (pctx u c).frame = some pf := hu ▸ hf
  have hback' : (secCtx u c).back = l :: q := hu ▸ hback
  have hany : l.planes.any (fun v => decide (v.length ≠ pf.info.width)) = false := by
    simpa using hwidth
  have hexec : execReturnedLine c true drained s = .next (returnAt c l (setPframe c { pf with returned := pf.returned + 1 }
      (setSecCtx c { secCtx u c with back := q } u))) := by
    rw [execReturnedLine, if_neg (by simp [h3, h2]), ← hu]
    simp only [hf', hback']
    rw [if_neg (by simp [hsplice, htee]), if_neg (by rw [hany]; simp [hidx])]
  obtain ⟨hsec, hreturned⟩ := (HoldsReturn.lineStable c _).returnAt (l := l) ⟨rfl, rfl⟩
  refine ⟨_, hexec, ?_, hreturned.trans (congrArg PipeFrame.returned pframe_setPframe)⟩
  exact (congrArg (fun x => SecCtx.back (tget {} x c)) hsec).trans (congrArg SecCtx.back (tget_tput_same _ _ _ _))

/-- A line that is not intact, or breaks the order, loses the splice. -/
theorem returnedLine_lost (h3 : domRun s 3 = true) (h2 : domRun s 2 = true) (hf : (pctx s c).frame = some pf)
    (hsplice : pf.splice = true) (htee : splTee pf.info c = false) (hback : (secCtx s c).back = l :: q)
    (hbad : intact = false ∨ l.idx ≠ pf.returned) :
    Completes (.returnedLine c intact drained) s fun t =>
      (pctx t c).spliceLost = true ∧ rdn t (rCTX_CNT c 6) = satN 32 (rdn s (rCTX_CNT c 6) + 1) ∧
      ((pf.ended = true ∨ ctxKind s c = 2) → (pctx t c).frame = none) ∧
      (pf.ended = false → ctxKind s c ≠ 2 → (pframe t c).lost = true ∧ ctxState t c = 3) := by
  have hexec : execReturnedLine c intact drained s = .next (loseSplice c (stageDrain (ctxPipe s c) drained s)) := by
    have hf' : (pctx (stageDrain (ctxPipe s c) drained s) c).frame = some pf := hf
    have hback' : (secCtx (stageDrain (ctxPipe s c) drained s) c).back = l :: q := hback
    rw [execReturnedLine, if_neg (by simp [h3, h2])]
    simp only [hf', hback']
    rw [if_neg (by simp [hsplice, htee]), if_pos]
    rcases hbad with rfl | hidx
    exacts [.inl rfl, .inr (.inl hidx)]
  obtain ⟨hmarked, hcounted, -, hclosed, hdrops⟩ :=
    spliceLost_loseSplice (s := stageDrain (ctxPipe s c) drained s) c.isLt hf hsplice
  exact ⟨_, hexec, hmarked, hcounted, hclosed, hdrops⟩

theorem returnedLine_stopped (hstop : domRun s 3 = false ∨ domRun s 2 = false) :
    Completes (.returnedLine c intact drained) s fun t => t = s :=
  ⟨s, if_pos (by simpa using hstop), rfl⟩

/-! ### SPLICE_ACCEPT_TIMEOUT (R143) -/

/-- A splice that accepts no line for 1 ms is lost. -/
theorem spliceAcceptTimeout_lost (hrun : domRun s 3 = true) (hf : (pctx s c).frame = some pf) (hsplice : pf.splice = true)
    (hwaits : readyLine s c = true ∨ readyM2m s c = true) :
    Completes (.spliceAcceptTimeout c) s fun t =>
      (pctx t c).spliceLost = true ∧ rdn t (rCTX_CNT c 6) = satN 32 (rdn s (rCTX_CNT c 6) + 1) ∧ tget [] t.spliceq c.val = [] ∧
      ((pf.ended = true ∨ ctxKind s c = 2) → (pctx t c).frame = none) ∧
      (pf.ended = false → ctxKind s c ≠ 2 → (pframe t c).lost = true ∧ ctxState t c = 3) := by
  have hexec : execSpliceAcceptTimeout c s = .next (loseSplice c s) := by
    simp only [execSpliceAcceptTimeout, hf]
    exact if_pos ⟨hrun, hsplice, hwaits.imp_right .inl⟩
  obtain ⟨hmarked, hcounted, hemptied, hclosed, hdrops⟩ := spliceLost_loseSplice c.isLt hf hsplice
  exact ⟨_, hexec, hmarked, hcounted, hemptied, hclosed, hdrops⟩

/-- A context without a spliced frame is left alone. -/
theorem spliceAcceptTimeout_idle (h : domRun s 3 = false ∨ ∀ pf, (pctx s c).frame = some pf → pf.splice = false) :
    Completes (.spliceAcceptTimeout c) s fun t => t = s := by
  refine ⟨s, ?_, rfl⟩
  change execSpliceAcceptTimeout c s = .next s
  unfold execSpliceAcceptTimeout
  split
  next pf hf =>
    refine if_neg fun ⟨hrun, hsplice, _⟩ => ?_
    rcases h with hstop | hnone
    · simp [hrun] at hstop
    · simp [hnone pf hf] at hsplice
  next => rfl

end

end Sys2Proof.Machine

namespace Sys2Proof.Machine

open Sys2Proof

/-! ### M2M_GO (R125) -/

/-- The numbers of the frames, and memory, are as in `s`. -/
def HoldsFrames (s t : State) : Prop := t.frames = s.frames ∧ t.mem = s.mem

namespace HoldsFrames

section
variable {c : Nat} {s t : State}

protected theorem beginStable (c : Nat) (s : State) : BeginStable c (HoldsFrames s) where
  wrUnit := fun _ => id
  pcie := id
  fault := id
  irq := id
  units := id
  sector := id
  wrBegin := fun _ => id
  context := id

protected theorem wr {o : Nat} {v : Word} (h : HoldsFrames s t) : HoldsFrames s (wr o v t) := h

theorem copyShadow {r : Nat × Nat} (h : HoldsFrames s t) : HoldsFrames s (copyShadow r t) := forAll_stable (fun _ => .wr) h

theorem ctxRestart {old : State} (h : HoldsFrames s t) : HoldsFrames s (ctxRestart c old t) := by
  refine onlyIf_stable (fun h => ?_) (forAll_stable (fun _ h => onlyIf_stable (fun h => ?_) h) h)
  exacts [h, h.wr.wr.wr.wr]

theorem shadowBoundary {g : ShadowGroup} (h : HoldsFrames s t) : HoldsFrames s (shadowBoundary g t) := by
  have hcopy : HoldsFrames s (forAll (groupRanges g) Machine.copyShadow t) := forAll_stable (fun _ => copyShadow) h
  unfold Machine.shadowBoundary
  split
  · cases g
    exacts [ctxRestart hcopy, hcopy, hcopy]
  · exact h

theorem ctxRefresh (h : HoldsFrames s t) : HoldsFrames s (ctxRefresh c t) := by
  unfold Machine.ctxRefresh
  split <;> split
  exacts [h, h, h, h]

theorem zLoad (h : HoldsFrames s t) : HoldsFrames s (zLoad c t) := by
  have h1 : HoldsFrames s (setPctx c { pctx t c with calDue := false } t) := h
  unfold Machine.zLoad
  dsimp only
  split
  · exact h1
  · split
    exacts [.wr (forAll_stable (fun _ => .wr) h1), (HoldsFrames.beginStable c s).raiseE h1]

theorem measRefresh (h : HoldsFrames s t) : HoldsFrames s (measRefresh t) := by
  refine forAll_stable (fun _ h => ?_) h
  dsimp only
  split
  exacts [zLoad h, h]

theorem ctxBoundary (h : HoldsFrames s t) : HoldsFrames s (ctxBoundary c t) :=
  measRefresh (ctxRefresh (shadowBoundary (shadowBoundary h)))

/-- The frame that starts takes its number, and nothing that starts with it changes one. -/
theorem m2mGoEffect (hf : (pctx s c).frame = none) (hkind : ctxKind s c = 2) (hon : ctxOn s c = true) :
    HoldsFrames { s with frames := tput 0 s.frames c ((tget 0 s.frames c + 1) % 2 ^ 32) } (m2mGoEffect c 1 s).1 := by
  have hgo : ¬ ((!bit 1 0) = true ∨ (pctx s c).frame.isSome = true) := by
    rw [hf]
    decide
  unfold Machine.m2mGoEffect
  rw [if_neg hgo, if_neg (by simp [hkind, hon])]
  have hB := HoldsFrames.beginStable c { s with frames := tput 0 s.frames c ((tget 0 s.frames c + 1) % 2 ^ 32) }
  exact hB.context (hB.startFrame (.wr (ctxBoundary ⟨rfl, rfl⟩)))

end

end HoldsFrames

section
variable {ifc : Iface} {c : Fin 16} {s : State}

theorem regAt_m2mGo (c : Fin 16) : (regAt (rCTX_M2M_GO c)).isSome := by
  revert c
  decide

theorem halfAt_m2mGo (c : Fin 16) : halfAt (rCTX_M2M_GO c) = 0 := by
  revert c
  decide

theorem m2mGo_starts (hg : gate ifc true (rCTX_M2M_GO c) s = .open) (hf : (pctx s c).frame = none)
    (hkind : ctxKind s c = 2) (hon : ctxOn s c = true) :
    Completes (.m2mGo ifc c) s fun t =>
      tget 0 t.frames c.val = (tget 0 s.frames c.val + 1) % 2 ^ 32 ∧
      (∀ d : Fin 16, d ≠ c → tget 0 t.frames d.val = tget 0 s.frames d.val) ∧ t.mem = s.mem := by
  obtain ⟨hp, -, -⟩ := logOnly_gatedWrite (v := 1) (eff := m2mGoEffect c 1) hg (regAt_m2mGo c) (halfAt_m2mGo c)
  obtain ⟨hnum, hmem⟩ := HoldsFrames.m2mGoEffect (s := answer [] s) hf hkind hon
  have hframes := (hp .frames (by simp)).trans hnum
  refine ⟨_, rfl, ?_, fun d hd => ?_, (hp .mem (by simp)).trans hmem⟩
  · rw [hframes]
    exact tget_tput_same _ _ _ _
  · rw [hframes]
    exact tget_tput_other _ _ _ _ _ _ fun h => hd (Fin.ext h)

theorem m2mGo_idle (hg : gate ifc true (rCTX_M2M_GO c) s = .open)
    (h : (pctx s c).frame ≠ none ∨ ctxKind s c ≠ 2 ∨ ctxOn s c = false) :
    Completes (.m2mGo ifc c) s fun t => KeptAccess [] [] s t := by
  have hl := logOnly_gatedWrite (v := 1) (eff := m2mGoEffect c 1) hg (regAt_m2mGo c) (halfAt_m2mGo c)
  have heff : m2mGoEffect c 1 (answer [] s) = (answer [] s, true) := by
    unfold m2mGoEffect
    split
    · rfl
    · next hgo =>
      refine if_pos ?_
      rcases h with hframe | hkind | hon
      · exact absurd (.inr (Option.isSome_iff_ne_none.mpr hframe)) hgo
      · exact .inl hkind
      · exact .inr (by rw [Bool.not_eq_true']; exact hon)
  rw [heff] at hl
  exact ⟨_, rfl, keptAccess_of_logOnly_answer hl⟩

end

/-- Settles O23: a frame that ends or loses its splice leaves the tallies as its record, or the loss, has made them; what a returned line
brings forth in the pipe does not change the count of the lines returned; and what starts with a frame of memory changes no frame
number. -/
theorem pipeSplicesAndFrameEnds : Obligations.PipeSplicesAndFrameEnds :=
  ⟨fun _ _ _ _ _ _ => returnedLine_accepted, fun _ _ _ _ _ _ _ => returnedLine_lost, fun _ _ _ _ => returnedLine_stopped,
    fun _ _ _ => spliceAcceptTimeout_lost, fun _ _ => spliceAcceptTimeout_idle, fun _ _ _ => m2mGo_starts,
    fun _ _ _ => m2mGo_idle, fun _ _ _ _ _ _ => pipeFrameEnd_stop, fun _ _ _ _ => pipeFrameEnd_ended,
    fun _ _ _ _ _ _ hrun hf _ => pipeFrameEnd_lineless hrun hf, fun _ _ _ => pipeFrameEnd_nothing,
    fun _ _ _ => pipeFrameEnd_stopped⟩

end Sys2Proof.Machine

namespace Sys2Proof.Machine

open Sys2Proof

/-! ### A byte that a write of memory does not reach (R9, R413) -/

/-- The byte of memory at `x` is as in `s`. -/
def HoldsByte (x : Nat) (s t : State) : Prop := memByte t x = memByte s x

namespace HoldsByte

section
variable {x a : Nat} {bs : List Byte} {dirty : Bool} {g : Agent} {s t : State}

protected theorem fetchStable (x : Nat) (s : State) : FetchStable (HoldsByte x s) where
  wrUnit := fun _ => id
  pcie := id
  fault := id
  irq := id
  units := id

theorem storeBytes (hx : x < a ∨ a + bs.length ≤ x) (h : HoldsByte x s t) : HoldsByte x s (storeBytes a bs dirty t) :=
  (memByte_storeBytes_other a bs dirty t x hx).trans h

theorem portWrite {p : Nat} (hx : x < a ∨ a + bs.length ≤ x) (h : HoldsByte x s t) :
    HoldsByte x s (portWrite p a bs dirty .none t).2 := by
  have hQ := HoldsByte.fetchStable x s
  have hnone (y : Nat) : memErrEffect p y .none t = t := by simp [memErrEffect]
  unfold Machine.portWrite
  simp only [hnone, ite_self]
  split
  · exact h
  · split
    · exact hQ.ownerViolation h
    · have hreport {b b' : Bool} {y y' : Nat} :
          HoldsByte x s (onlyIf b (wmUncorrectable p y) (onlyIf b' (wmUncorrectable p y') t)) :=
        onlyIf_stable hQ.wmUncorrectable (onlyIf_stable hQ.wmUncorrectable h)
      split
      · split
        exacts [hreport, hreport.storeBytes hx]
      · split
        exacts [h, h.storeBytes hx]

/-- The requests at either end that are not performed only narrow what is stored. -/
theorem dramWrite {k : Nat} (hx : x < a ∨ a + bs.length ≤ x) (h : HoldsByte x s t) : HoldsByte x s (dramWrite k a bs t).2 := by
  have hQ := HoldsByte.fetchStable x s
  have hrefused {u : State} {y : Nat} (h : HoldsByte x s u) : HoldsByte x s (partRefused y u) :=
    hQ.wr64 (by decide) (hQ.wrUnit (.inr (by decide)) h)
  unfold Machine.dramWrite
  extract_lets n t1 ecc one hb tb hd tl t2 m
  split
  · exact h
  · have hserved : HoldsByte x s (dramServed k a n (transferHeld true t)) := hQ.dramServed (hQ.transferHeld h)
    have h1 : HoldsByte x s t1 := by
      dsimp only [t1, dramInit]
      split
      exacts [hserved, hQ.units hserved]
    have h2 : HoldsByte x s t2 := onlyIf_stable hrefused (onlyIf_stable hrefused h1)
    have h3 : HoldsByte x s (replaceWords (a + hd) m t2) := by
      unfold replaceWords
      split
      exacts [h2, hQ.units h2]
    have hhd : hd ≤ n := by
      dsimp only [hd]
      split <;> omega
    refine h3.storeBytes ?_
    simp only [List.length_take, List.length_drop]
    omega

/-- A byte outside the range of a write, into whatever memory, stays. -/
theorem devPut (hx : x < a ∨ a + bs.length ≤ x) (h : HoldsByte x s t) : HoldsByte x s (devPut g a bs dirty t) := by
  have hQ := HoldsByte.fetchStable x s
  unfold Machine.devPut devWrite
  split
  · exact hQ.agentDecodeErr h
  · split
    · exact h
    · split
      · exact h.portWrite hx
      · exact h.portWrite hx
      · exact h.portWrite hx
      · exact h.dramWrite hx
      · exact h.storeBytes hx
      · exact h.storeBytes hx
      · unfold semWrite
        split
        exacts [hQ.semPuts h, h]
      · exact h
      · exact h
      · exact h

end

end HoldsByte

end Sys2Proof.Machine

namespace Sys2Proof.Machine

open Sys2Proof

/-! ### The size of the records (R161, R165) -/

section
variable {s : State} {c seq : Nat} {m : MeasFrame} {f : FrameInfo} {rows : List Line}

theorem length_upto (n : Nat) : (upto n).length = n := List.length_range

theorem length_columnsOf : (columnsOf f c rows).length = f.width := by simp [columnsOf, length_upto]

theorem length_columnBytes (cols : List Column) : (cols.flatMap columnBytes).length = 8 * cols.length := by
  induction cols with
  | nil => rfl
  | cons q cols ih =>
    simp only [List.flatMap_cons, List.length_append, List.length_cons, ih, columnBytes, length_leBytes]
    omega

theorem length_words (l : List Nat) : (words l).length = 4 * l.length := by
  induction l with
  | nil => rfl
  | cons v l ih =>
    simp only [words, List.flatMap_cons, List.length_append, length_leBytes, List.length_cons] at ih ⊢
    omega

/-- The sums of the zones are three for each. -/
theorem length_zoneSums (g : Nat → Nat → Nat) (n : Nat) :
    ((upto n).flatMap fun z => (upto 3).map fun q => g z q).length = 3 * n := by
  simp [length_upto, List.length_flatMap, Nat.mul_comm]

theorem length_statRecord : (statRecord s c seq m).length = 0x4840 := by
  unfold statRecord
  extract_lets +onlyGivenNames f k z o g bad rows g2
  have href : (if bit k 3 = true then refProfile f.width ((rows.map lumaRow).take (max 1 (fld k 23 16)))
      else List.replicate 256 0).length = 256 := by
    split
    exacts [by rw [refProfile, List.length_map, length_upto], List.length_replicate]
  simp only [List.length_append, length_leBytes, length_words, length_zoneSums, href, histogram, zeros, length_upto,
    List.length_map, List.length_replicate]

end

/-! ### What the calibration of a context leaves (R167 to R170) -/

/-- The registers that the calibration of context `c` writes; the columns of Z, as many as the frame is wide, lie above all others
of the context. -/
def CalReg (c o : Nat) : Prop :=
  o ∈ [rMEAS_STATUS c, rPX_CAL_CTRL c, rMEAS_CNT c 5, rMEAS_CNT c 6] ∨ rCAL_REC c 0 ≤ o

/-- `Q` survives what a frame does to the calibration of context `c`: its registers, its marks of drift, and events. -/
structure CalStable (c : Nat) (Q : State → Prop) : Prop extends EventStable Q where
  wrCal : ∀ {s o v}, CalReg c o → Q s → Q (wr o v s)
  drift : ∀ {s n b}, Q s → Q (setPctx c { pctx s c with drift := n, e60 := b } s)

namespace CalStable

section
variable {c : Nat} {Q : State → Prop} {s : State} (hQ : CalStable c Q)
include hQ

theorem wrRec {i : Nat} {v : Word} (h : Q s) : Q (wr (rCAL_REC c i) v s) :=
  hQ.wrCal (.inr (by simp only [rCAL_REC]; omega)) h

theorem wrZ {i : Nat} {v : Word} (h : Q s) : Q (wr (rMEAS_Z c i) v s) :=
  hQ.wrCal (.inr (by simp only [rCAL_REC, rMEAS_Z]; omega)) h

theorem writeKnots {width updates : Nat} (h : Q s) : Q (writeKnots c width updates s) := by
  have hdtime {v : Nat} {t : State} (h : Q t) : Q (wr64 (rCAL_REC c 2) v t) :=
    hQ.wrCal (.inr (by simp only [rCAL_REC]; omega)) (hQ.wrRec h)
  exact hQ.wrRec (forAll_stable (fun _ => hQ.wrRec) (forAll_stable (fun _ => hQ.wrRec) (hdtime (hQ.wrRec (hQ.wrRec h)))))

theorem calibrate {f : FrameInfo} {cols : List Column} (h : Q s) : Q (calibrate c f cols s) := by
  have hcount {k n : Nat} {t : State} (hk : k = 5 ∨ k = 6) (h : Q t) : Q (bump (rMEAS_CNT c k) n t) :=
    hQ.wrCal (.inl (by rcases hk with rfl | rfl <;> simp)) h
  unfold Machine.calibrate
  extract_lets +onlyGivenNames step alpha zs known fits rejected nvalid s1 s2 s3 x
  have h3 : Q s3 := hQ.writeKnots (hcount (.inr rfl) (hcount (.inl rfl) (forAll_stable (fun _ => hQ.wrZ) h)))
  split
  · extract_lets n s4
    have h4 : Q s4 := by
      dsimp only [s4]
      split
      exacts [hQ.raiseE (by decide) (by decide) h3, h3]
    exact hQ.drift h4
  · exact hQ.drift h3

theorem seedZ {f : FrameInfo} {cols : List Column} (h : Q s) : Q (seedZ c f cols s) :=
  hQ.writeKnots (hQ.wrCal (.inl (by simp)) (hQ.wrCal (.inl (by simp)) (forAll_stable (fun _ => hQ.wrZ) h)))

end

end CalStable

end Sys2Proof.Machine

namespace Sys2Proof.Machine

open Sys2Proof

/-- What may have changed among few parts and registers may have changed among more. -/
theorem Kept.mono {ps qs : List Part} {rs os : List Nat} {s t : State} (hps : ps ⊆ qs) (hrs : rs ⊆ os) (h : Kept ps rs s t) :
    Kept qs os s t :=
  ⟨fun p hp => h.1 p fun hin => hp (hps hin), fun o ho => h.2 o fun hin => ho (hrs hin)⟩

/-! ### What a record leaves of its context (R161, R165) -/

/-- The registers that number and count the records of context `c`. -/
def SeqReg (c o : Nat) : Prop := o ∈ [rSTAT_NEXT c, rPX_NEXT c, rMEAS_CNT c 0, rMEAS_CNT c 2]

/-- The frames whose records are due for context `c`, and the numbers and counts of its records, are as in `s`. -/
def HoldsMeas (c : Nat) (s t : State) : Prop :=
  (pctx t c).statDue = (pctx s c).statDue ∧ (pctx t c).pxDue = (pctx s c).pxDue ∧ ∀ o, SeqReg c o → rd t o = rd s o

namespace HoldsMeas

section
variable {c : Nat} {s t : State}

protected theorem refl (c : Nat) (s : State) : HoldsMeas c s s := ⟨rfl, rfl, fun _ _ => rfl⟩

protected theorem wr {o : Nat} {v : Word} (ho : ¬ SeqReg c o) (h : HoldsMeas c s t) : HoldsMeas c s (wr o v t) := by
  obtain ⟨hstat, hpx, hr⟩ := h
  exact ⟨hstat, hpx, fun p hp => (rd_wr_other _ _ _ _ (by rintro rfl; exact ho hp)).trans (hr p hp)⟩

theorem statDue (h : HoldsMeas c s t) : (pctx t c).statDue = (pctx s c).statDue := h.1

theorem pxDue (h : HoldsMeas c s t) : (pctx t c).pxDue = (pctx s c).pxDue := h.2.1

theorem rdn (h : HoldsMeas c s t) {o : Nat} (ho : SeqReg c o) : rdn t o = Machine.rdn s o := by
  rw [Machine.rdn, h.2.2 o ho, ← Machine.rdn]

/-- The context may change in all but the frames due. -/
theorem context {x : PCtx} (hstat : x.statDue = (pctx t c).statDue) (hpx : x.pxDue = (pctx t c).pxDue) (h : HoldsMeas c s t) :
    HoldsMeas c s (setPctx c x t) := by
  obtain ⟨hs, hp, hr⟩ := h
  exact ⟨by rw [pctx_setPctx, hstat, hs], by rw [pctx_setPctx, hpx, hp], hr⟩

protected theorem storeStable (hc : c < 16) (s : State) : StoreStable (HoldsMeas c s) where
  wrUnit := fun ho => .wr (by
    simp only [OutsideD3, SeqReg, rSTAT_NEXT, rPX_NEXT, rMEAS_CNT, List.mem_cons, List.not_mem_nil, or_false] at ho ⊢
    omega)
  pcie := id
  fault := id
  irq := id
  units := id
  mem := id

protected theorem calStable (hc : c < 16) (s : State) : CalStable c (HoldsMeas c s) where
  toEventStable := (HoldsMeas.storeStable hc s).events
  wrCal := fun ho => .wr (by
    simp only [CalReg, SeqReg, rSTAT_NEXT, rPX_NEXT, rMEAS_CNT, rMEAS_STATUS, rPX_CAL_CTRL, rCAL_REC, List.mem_cons,
      List.not_mem_nil, or_false] at ho ⊢
    omega)
  drift := fun h => h.context rfl rfl

theorem ringTake {d n : Nat} (h : HoldsMeas c s t) : HoldsMeas c s (ringTake d n t) := by
  have hp := ctxPipe_lt t d
  refine HoldsMeas.wr ?_ (t := { t with stage := _ }) h
  simp only [SeqReg, rSTAT_NEXT, rPX_NEXT, rMEAS_CNT, rPIPE_STAGE_HWM, List.mem_cons, List.not_mem_nil, or_false]
  omega

/-- A record goes to its slot, through the staging ring if it lies in DRAM. -/
theorem store {g : Agent} {a d n : Nat} {bs : List Byte} {dirty : Bool} (hc : c < 16) (h : HoldsMeas c s t) :
    HoldsMeas c s (devPut g a bs dirty (if regionOf a = .dram then Machine.ringTake d n t else t)) := by
  refine (HoldsMeas.storeStable hc s).devPut ?_
  split
  exacts [h.ringTake, h]

end

end HoldsMeas

/-- A record stored leaves the bytes outside its slot. -/
theorem HoldsByte.store {g : Agent} {a d n x : Nat} {bs : List Byte} {dirty : Bool} {s t : State}
    (hx : x < a ∨ a + bs.length ≤ x) (h : HoldsByte x s t) :
    HoldsByte x s (Machine.devPut g a bs dirty (if regionOf a = .dram then Machine.ringTake d n t else t)) := by
  refine .devPut hx ?_
  split
  exacts [h, h]

/-! ### Whether a record may be written (R151, R162) -/

/-- Memory, the semaphores and the staging rings are as in `s`. -/
def HoldsRoom (s t : State) : Prop :=
  t.mem = s.mem ∧ t.sems = s.sems ∧ t.boot = s.boot ∧ t.stage = s.stage ∧ ∀ p, p < 2 → rd t (rPIPE_STAGE p) = rd s (rPIPE_STAGE p)

namespace HoldsRoom

section
variable {c n : Nat} {s t : State}

protected theorem refl (s : State) : HoldsRoom s s := ⟨rfl, rfl, rfl, rfl, fun _ _ => rfl⟩

protected theorem wr {o : Nat} {v : Word} (ho : o < 0x1800000 ∨ 0x1a00000 ≤ o) (h : HoldsRoom s t) : HoldsRoom s (wr o v t) := by
  obtain ⟨hmem, hsems, hboot, hstage, hr⟩ := h
  refine ⟨hmem, hsems, hboot, hstage, fun p hp => (rd_wr_other _ _ _ _ ?_).trans (hr p hp)⟩
  simp only [rPIPE_STAGE]
  omega

protected theorem calStable (c : Nat) (s : State) : CalStable c (HoldsRoom s) where
  wrEvent := fun ho => .wr (by simp only [EventReg] at ho; omega)
  pcie := id
  fault := id
  irq := id
  wrCal := fun ho => .wr (by
    simp only [CalReg, rMEAS_CNT, rMEAS_STATUS, rPX_CAL_CTRL, rCAL_REC, List.mem_cons, List.not_mem_nil, or_false] at ho
    omega)
  drift := id

theorem mem (h : HoldsRoom s t) : t.mem = s.mem := h.1

theorem sem (h : HoldsRoom s t) (k : Nat) : sem t k = Machine.sem s k := by rw [Machine.sem, h.2.1, ← Machine.sem]

theorem ringFits (h : HoldsRoom s t) : ringFits t c n = Machine.ringFits s c n := by
  obtain ⟨-, -, hboot, hstage, hr⟩ := h
  have hpipe : ctxPipe t c = ctxPipe s c := by simp only [ctxPipe, route, sec, hboot]
  rw [Machine.ringFits, hpipe, hstage, rdn, hr _ (ctxPipe_lt s c), ← rdn, ← Machine.ringFits]

end

end HoldsRoom

/-! ### PROFILE_RECORD_WRITE (R161, R162) -/

section
variable {c : Fin 16} {drained : Nat} {s : State} {m : MeasFrame} {rest : List MeasFrame}

/-- The slot of the record of sequence `q`. -/
def profileSlot (f : FrameInfo) (c q : Nat) : Nat :=
  prmAddr f (rPX_BASE_LO c) / 64 * 64 + q % 2 ^ (min 8 (fld (prm f (rPX_RING c)) 3 0)) * ((64 + 8 * f.width + 63) / 64 * 64)

/-- A sequence counts modulo 2^32. -/
theorem rdn_wrn_succ {o q : Nat} : rdn (wrn o (q + 1) s) o = (q + 1) % 2 ^ 32 := by
  rw [rdn, rd_wrn, if_pos rfl, w32, BitVec.toNat_ofNat]

/-- A record goes to its slot, under the next sequence. -/
def storeProfile (c : Nat) (f : FrameInfo) (bs : List Byte) (s : State) : State :=
  let counted := bit (prm f (rPX_RING c)) 4
  let a := profileSlot f c (rdn s (rPX_NEXT c))
  let taken := onlyIf counted (semTake (fld (prm f (rPX_RING c)) 25 16)) s
  let stored := devPut measAgent a bs false (if regionOf a = .dram then ringTake c (64 + 8 * f.width) taken else taken)
  let numbered := bump (rMEAS_CNT c 2) 1 (wrn (rPX_NEXT c) (rdn s (rPX_NEXT c) + 1) stored)
  onlyIf counted (semRelease (prmF f (rPX_SEM c) 9 0) 1) (setPctx c { pctx numbered c with pxDropping := false } numbered)

/-- Context `c` with the frames of `rest` due. -/
def withDue (c : Nat) (rest : List MeasFrame) (s : State) : State := setPctx c { pctx s c with pxDue := rest } s

/-- The record of a frame served, with a count of its semaphore and room in the staging ring, is stored. What the frame does to the
calibration first leaves its number, its slot's semaphore and the room. -/
theorem execProfileRecordWrite_stored (hrun : domRun s 3 = true) (hdue : (pctx s c).pxDue = m :: rest)
    (hserved : m.info.served = true)
    (hsem : bit (prm m.info (rPX_RING c)) 4 = true → (sem s (fld (prm m.info (rPX_RING c)) 25 16)).count ≠ 0)
    (hroom : regionOf (profileSlot m.info c (rdn s (rPX_NEXT c))) = .dram →
      ringFits (stageDrain (ctxPipe s c) drained s) c (64 + 8 * m.info.width) = true) :
    NextHolds (fun t => ∃ u bs, HoldsMeas c (withDue c rest s) u ∧ u.mem = s.mem ∧ bs.length = 64 + 8 * m.info.width ∧
      t = storeProfile c m.info bs u) (execProfileRecordWrite c drained s) := by
  rw [execProfileRecordWrite, if_neg (by simp [hrun])]
  extract_lets +onlyGivenNames s1
  split
  next hnone => exact absurd (hnone.symm.trans hdue) (List.cons_ne_nil m rest).symm
  next m' rest' hdue' =>
    obtain ⟨rfl, rfl⟩ := List.cons.inj (hdue'.symm.trans hdue)
    rw [if_neg (by simp [hserved])]
    extract_lets +onlyGivenNames f cols _ sum _ s2 nvalid nobj unknown cal clean qualifies seed u ring size stride base q a full late
    have hmeas : HoldsMeas c (withDue c rest' s) u := by
      have hcal := HoldsMeas.calStable c.isLt (withDue c rest' s)
      have hbase : HoldsMeas c (withDue c rest' s) (withDue c rest' s1) := ⟨rfl, rfl, fun _ _ => rfl⟩
      exact onlyIf_stable hcal.seedZ (onlyIf_stable hcal.calibrate (hbase.context rfl rfl))
    have hkept : HoldsRoom s1 u := by
      have hcal := HoldsRoom.calStable c s1
      exact onlyIf_stable hcal.seedZ (onlyIf_stable hcal.calibrate (.refl s1))
    have hq : q = rdn s (rPX_NEXT c) := hmeas.rdn (by simp [SeqReg])
    have hfull : full = false := by
      cases hcounted : bit ring 4 with
      | false => simp [full, hcounted]
      | true =>
        have hcount : (sem u (fld ring 25 16)).count ≠ 0 := by
          rw [hkept.sem]
          exact hsem hcounted
        simp [full, hcounted, hcount]
    have hlate : late = false := by
      cases hdram : decide (regionOf a = .dram) with
      | false => simp [late, hdram]
      | true =>
        have hfits := hroom (hq ▸ of_decide_eq_true hdram)
        simp [late, hkept.ringFits, hfits, s1, size, f]
    rw [if_neg (by simp [hfull, hlate])]
    refine .next ⟨u, _, hmeas, hkept.mem, ?_, rfl⟩
    simp only [List.length_append, length_leBytes, zeros, List.length_replicate, length_columnBytes, cols,
      length_columnsOf, f]

/-- What is stored is numbered and counted, and the frames due stay. -/
theorem storeProfile_counts {f : FrameInfo} {bs : List Byte} :
    rdn (storeProfile c f bs s) (rPX_NEXT c) = (rdn s (rPX_NEXT c) + 1) % 2 ^ 32 ∧
    rdn (storeProfile c f bs s) (rMEAS_CNT c 2) = satN 32 (rdn s (rMEAS_CNT c 2) + 1) ∧
    (pctx (storeProfile c f bs s) c).pxDue = (pctx s c).pxDue := by
  have hQ := HoldsMeas.storeStable c.isLt
  unfold storeProfile
  extract_lets counted a taken stored numbered
  have hstored : HoldsMeas c s stored := .store c.isLt (onlyIf_stable (hQ s).semTake (.refl c s))
  have hend : HoldsMeas c numbered (onlyIf counted (semRelease (prmF f (rPX_SEM c) 9 0) 1)
      (setPctx c { pctx numbered c with pxDropping := false } numbered)) :=
    onlyIf_stable (hQ numbered).semRelease (.context rfl rfl (.refl c numbered))
  have hne : rPX_NEXT c ≠ rMEAS_CNT c 2 := by
    simp only [rPX_NEXT, rMEAS_CNT]
    omega
  refine ⟨?_, ?_, hend.pxDue.trans hstored.pxDue⟩
  · rw [hend.rdn (by simp [SeqReg]), rdn, rd_bump, if_neg hne, ← rdn, rdn_wrn_succ]
  · rw [hend.rdn (by simp [SeqReg]), rdn_bump_same, rdn, rd_wrn, if_neg hne.symm, ← rdn, hstored.rdn (by simp [SeqReg])]

theorem memByte_storeProfile {f : FrameInfo} {bs : List Byte} {x : Nat}
    (hx : x < profileSlot f c (rdn s (rPX_NEXT c)) ∨ profileSlot f c (rdn s (rPX_NEXT c)) + bs.length ≤ x) :
    memByte (storeProfile c f bs s) x = memByte s x := by
  have hQ := HoldsByte.fetchStable x s
  refine show HoldsByte x s (storeProfile c f bs s) from ?_
  unfold storeProfile
  extract_lets counted a taken stored numbered
  have hstored : HoldsByte x s stored := .store hx (onlyIf_stable hQ.semTake rfl)
  exact onlyIf_stable hQ.semRelease (s := setPctx c _ numbered) hstored

theorem profileRecordWrite_stored (hrun : domRun s 3 = true) (hdue : (pctx s c).pxDue = m :: rest)
    (hserved : m.info.served = true)
    (hsem : bit (prm m.info (rPX_RING c)) 4 = true → (sem s (fld (prm m.info (rPX_RING c)) 25 16)).count ≠ 0)
    (hroom : regionOf (profileSlot m.info c (rdn s (rPX_NEXT c))) = .dram →
      ringFits (stageDrain (ctxPipe s c) drained s) c (64 + 8 * m.info.width) = true) :
    Completes (.profileRecordWrite c drained) s fun t =>
      rdn t (rPX_NEXT c) = (rdn s (rPX_NEXT c) + 1) % 2 ^ 32 ∧ rdn t (rMEAS_CNT c 2) = satN 32 (rdn s (rMEAS_CNT c 2) + 1) ∧
      (pctx t c).pxDue = rest ∧ ∀ a base, base = profileSlot m.info c (rdn s (rPX_NEXT c)) →
        (a < base ∨ base + (64 + 8 * m.info.width) ≤ a) → memByte t a = memByte s a := by
  obtain ⟨_, hexec, u, bs, hmeas, hmem, hlen, rfl⟩ := execProfileRecordWrite_stored hrun hdue hserved hsem hroom
  obtain ⟨hnext, hcount, hdueAfter⟩ := storeProfile_counts (c := c) (s := u) (f := m.info) (bs := bs)
  have hseq : rdn u (rPX_NEXT c) = rdn s (rPX_NEXT c) := hmeas.rdn (by simp [SeqReg])
  have hcnt : rdn u (rMEAS_CNT c 2) = rdn s (rMEAS_CNT c 2) := hmeas.rdn (by simp [SeqReg])
  refine ⟨_, hexec, hseq ▸ hnext, hcnt ▸ hcount, ?_, ?_⟩
  · rw [hdueAfter, hmeas.pxDue, withDue, pctx_setPctx]
  · rintro a _ rfl ha
    rw [memByte_storeProfile (by rwa [hseq, hlen]), memByte, hmem, ← memByte]

theorem profileRecordWrite_unserved (hrun : domRun s 3 = true) (hdue : (pctx s c).pxDue = m :: rest)
    (hserved : m.info.served = false) :
    Completes (.profileRecordWrite c drained) s fun t =>
      rdn t (rMEAS_CNT c 4) = satN 32 (rdn s (rMEAS_CNT c 4) + 1) ∧ Kept [.stage, .pctx] [rMEAS_CNT c 4] s t := by
  have hdue' : (pctx (stageDrain (ctxPipe s c) drained s) c).pxDue = m :: rest := hdue
  refine ⟨bump (rMEAS_CNT c 4) 1 (withDue c rest (stageDrain (ctxPipe s c) drained s)), ?_, rdn_bump_same, ?_⟩
  · refine show execProfileRecordWrite c drained s = _ from ?_
    simp only [execProfileRecordWrite, hrun, hdue', hserved, withDue, Bool.not_true, Bool.not_false, Bool.false_eq_true, ite_false,
      ite_true]
  · exact .wr (by simp) (.setPctx (by simp) (kept_stageDrain.mono (by simp) (by simp)))

theorem profileRecordWrite_nothing (hrun : domRun s 3 = true) (hdue : (pctx s c).pxDue = []) :
    Completes (.profileRecordWrite c drained) s fun t => Kept [.stage] [] s t := by
  have hdue' : (pctx (stageDrain (ctxPipe s c) drained s) c).pxDue = [] := hdue
  refine ⟨stageDrain (ctxPipe s c) drained s, ?_, kept_stageDrain⟩
  refine show execProfileRecordWrite c drained s = _ from ?_
  simp only [execProfileRecordWrite, hrun, hdue', Bool.not_true, Bool.false_eq_true, ite_false]

/-! ### STAT_RECORD_WRITE (R165) -/

/-- The slot of the statistics record of sequence `q`. -/
def statSlot (f : FrameInfo) (c q : Nat) : Nat :=
  prmAddr f (rSTAT_BASE_LO c) / 64 * 64 + q % 2 ^ (min 8 (prmF f (rSTAT_SLOTS c) 3 0)) * 0x4840

/-- The frame that is due has been taken, and its record numbered. -/
def statTaken (c drained : Nat) (rest : List MeasFrame) (s : State) : State :=
  wrn (rSTAT_NEXT c) (rdn s (rSTAT_NEXT c) + 1)
    (setPctx c { pctx s c with statDue := rest } (stageDrain (ctxPipe s c) drained s))

/-- The record goes to its slot, and is counted. -/
def storeStat (c a : Nat) (bs : List Byte) (s : State) : State :=
  bump (rMEAS_CNT c 0) 1 (devPut measAgent a bs false (if regionOf a = .dram then ringTake c 0x4840 s else s))

/-- The record of the frame that is due is stored, or lost where the staging ring has no room for it. -/
theorem execStatRecordWrite_due (hrun : domRun s 3 = true) (hdue : (pctx s c).statDue = m :: rest) :
    execStatRecordWrite c drained s =
      if regionOf (statSlot m.info c (rdn s (rSTAT_NEXT c))) = .dram ∧ (!ringFits (statTaken c drained rest s) c 0x4840) = true then
        .next (bump (rMEAS_CNT c 1) 1 (statTaken c drained rest s))
      else .next (storeStat c (statSlot m.info c (rdn s (rSTAT_NEXT c)))
        (statRecord (statTaken c drained rest s) c (rdn s (rSTAT_NEXT c)) m) (statTaken c drained rest s)) := by
  rw [execStatRecordWrite, if_neg (by simp [hrun])]
  extract_lets s1
  split
  next hnone => exact absurd (hnone.symm.trans hdue) (List.cons_ne_nil m rest).symm
  next m' rest' hdue' =>
    obtain ⟨rfl, rfl⟩ := List.cons.inj (hdue'.symm.trans hdue)
    rfl

/-- Taking the frame leaves the room in the staging ring. -/
theorem ringFits_statTaken {n : Nat} :
    ringFits (statTaken c drained rest s) c n = ringFits (stageDrain (ctxPipe s c) drained s) c n := by
  refine HoldsRoom.ringFits (.wr ?_ (.refl _))
  simp only [rSTAT_NEXT]
  omega

theorem rdn_statTaken_next : rdn (statTaken c drained rest s) (rSTAT_NEXT c) = (rdn s (rSTAT_NEXT c) + 1) % 2 ^ 32 := rdn_wrn_succ

theorem statDue_statTaken : (pctx (statTaken c drained rest s) c).statDue = rest := by
  rw [statTaken, pctx, wrn_pctx, ← pctx, pctx_setPctx]

theorem kept_statTaken : Kept [.stage, .pctx] [rSTAT_NEXT c] s (statTaken c drained rest s) :=
  .wr (by simp) (.setPctx (by simp) (kept_stageDrain.mono (by simp) (by simp)))

theorem memByte_storeStat {a x : Nat} {bs : List Byte} (hx : x < a ∨ a + bs.length ≤ x) :
    memByte (storeStat c a bs s) x = memByte s x := by
  rw [storeStat, memByte, bump_mem, ← memByte]
  exact HoldsByte.store hx rfl

theorem statDue_storeStat {a : Nat} {bs : List Byte} : (pctx (storeStat c a bs s) c).statDue = (pctx s c).statDue := by
  rw [storeStat, pctx, bump_pctx, ← pctx]
  exact (HoldsMeas.store c.isLt (.refl c s)).statDue

theorem seq_ne_count {k : Nat} : rSTAT_NEXT c ≠ rMEAS_CNT c k := by
  simp only [rSTAT_NEXT, rMEAS_CNT]
  omega

theorem statRecordWrite_stored {a : Nat} (hrun : domRun s 3 = true) (hdue : (pctx s c).statDue = m :: rest)
    (ha : a = statSlot m.info c (rdn s (rSTAT_NEXT c)))
    (hroom : regionOf a = .dram → ringFits (stageDrain (ctxPipe s c) drained s) c 0x4840 = true) :
    Completes (.statRecordWrite c drained) s fun t =>
      rdn t (rSTAT_NEXT c) = (rdn s (rSTAT_NEXT c) + 1) % 2 ^ 32 ∧ rdn t (rMEAS_CNT c 0) = satN 32 (rdn s (rMEAS_CNT c 0) + 1) ∧
      (pctx t c).statDue = rest ∧ ∀ b, (b < a ∨ a + 0x4840 ≤ b) → memByte t b = memByte s b := by
  have hfits : ¬ (regionOf a = .dram ∧ (!ringFits (statTaken c drained rest s) c 0x4840) = true) := by
    rintro ⟨hdram, hfull⟩
    simp [ringFits_statTaken, hroom hdram] at hfull
  have hexec := (execStatRecordWrite_due (drained := drained) hrun hdue).trans (if_neg (ha ▸ hfits))
  rw [← ha] at hexec
  refine ⟨_, hexec, ?_⟩
  generalize hbs : statRecord (statTaken c drained rest s) c (rdn s (rSTAT_NEXT c)) m = bs
  have hlen : bs.length = 0x4840 := hbs ▸ length_statRecord
  generalize hu : statTaken c drained rest s = u
  have hstored : HoldsMeas c u (devPut measAgent a bs false (if regionOf a = .dram then ringTake c 0x4840 u else u)) :=
    .store c.isLt (.refl c u)
  refine ⟨?_, ?_, ?_, fun b hb => ?_⟩
  · rw [storeStat, rdn, rd_bump, if_neg seq_ne_count, ← rdn, hstored.rdn (by simp [SeqReg]), ← hu, rdn_statTaken_next]
  · rw [storeStat, rdn_bump_same, hstored.rdn (by simp [SeqReg]), ← hu, rdn,
      kept_statTaken.2 _ (by simpa using seq_ne_count.symm), ← rdn]
  · rw [statDue_storeStat, ← hu, statDue_statTaken]
  · rw [memByte_storeStat (by rwa [hlen]), ← hu, memByte, kept_statTaken.1 .mem (by simp), ← memByte]

theorem statRecordWrite_lost {a : Nat} (hrun : domRun s 3 = true) (hdue : (pctx s c).statDue = m :: rest)
    (ha : a = statSlot m.info c (rdn s (rSTAT_NEXT c))) (hdram : regionOf a = .dram)
    (hfull : ringFits (stageDrain (ctxPipe s c) drained s) c 0x4840 = false) :
    Completes (.statRecordWrite c drained) s fun t =>
      rdn t (rSTAT_NEXT c) = (rdn s (rSTAT_NEXT c) + 1) % 2 ^ 32 ∧ rdn t (rMEAS_CNT c 1) = satN 32 (rdn s (rMEAS_CNT c 1) + 1) ∧
      Kept [.stage, .pctx] [rSTAT_NEXT c, rMEAS_CNT c 1] s t := by
  have hlost : regionOf a = .dram ∧ (!ringFits (statTaken c drained rest s) c 0x4840) = true :=
    ⟨hdram, by rw [ringFits_statTaken, hfull, Bool.not_false]⟩
  refine ⟨_, (execStatRecordWrite_due hrun hdue).trans (if_pos (ha ▸ hlost)), ?_, ?_, ?_⟩
  · rw [rdn, rd_bump, if_neg seq_ne_count, ← rdn, rdn_statTaken_next]
  · rw [rdn_bump_same, rdn, kept_statTaken.2 _ (by simpa using seq_ne_count.symm), ← rdn]
  · exact .wr (by simp) (kept_statTaken.mono (by simp) (by simp))

theorem statRecordWrite_nothing (hrun : domRun s 3 = true) (hdue : (pctx s c).statDue = []) :
    Completes (.statRecordWrite c drained) s fun t => Kept [.stage] [] s t := by
  have hdue' : (pctx (stageDrain (ctxPipe s c) drained s) c).statDue = [] := hdue
  refine ⟨stageDrain (ctxPipe s c) drained s, ?_, kept_stageDrain⟩
  refine show execStatRecordWrite c drained s = _ from ?_
  simp only [execStatRecordWrite, hrun, hdue', Bool.not_true, Bool.false_eq_true, ite_false]

theorem recordWrites_stopped (hrun : domRun s 3 = false) :
    Completes (.profileRecordWrite c drained) s (fun t => t = s) ∧ Completes (.statRecordWrite c drained) s fun t => t = s :=
  ⟨⟨s, if_pos (by simp [hrun]), rfl⟩, ⟨s, if_pos (by simp [hrun]), rfl⟩⟩

end

end Sys2Proof.Machine

namespace Sys2Proof.Machine

open Sys2Proof

/-! ### The commands of PX_CAL_CTRL (R168, R173) -/

section
variable {ifc : Iface} {c : Fin 16} {s : State}

theorem regAt_calCtrl (c : Fin 16) : (regAt (rPX_CAL_CTRL c)).isSome := by
  revert c
  decide

theorem halfAt_calCtrl (c : Fin 16) : halfAt (rPX_CAL_CTRL c) = 0 := by
  revert c
  decide

theorem isLogReg_meas {o : Nat} (ho : 0x1b00000 ≤ o) : isLogReg o = false := by
  refine Bool.or_eq_false_iff.mpr ⟨decide_eq_false ?_, decide_eq_false ?_⟩
  · simp only [rDEV_WR_IGNORED, rJNL_NEXT_SEQ, rJNL_FIRST_SEQ]
    omega
  · simp only [rJNL_WORD]
    omega

theorem calCtrlEffect_seed : calCtrlEffect c 1 s = (wrB (rPX_CAL_CTRL c) 0 true s, true) := by
  have hseed : bit (1 : Word) 0 = true ∧ bit (1 : Word) 1 = false := by decide
  rw [calCtrlEffect, onlyIf, hseed.1, hseed.2]
  rfl

theorem calCtrlEffect_forget : calCtrlEffect c 2 s = (zClear c s, true) := by
  have hforget : bit (2 : Word) 0 = false ∧ bit (2 : Word) 1 = true := by decide
  rw [calCtrlEffect, onlyIf, hforget.1, hforget.2, if_neg Bool.false_ne_true]
  exact if_pos rfl

theorem calSeed_arms (hg : gate ifc true (rPX_CAL_CTRL c) s = .open) :
    Completes (.calSeed ifc c) s fun t => rdB t (rPX_CAL_CTRL c) 0 = true ∧ KeptAccess [] [rPX_CAL_CTRL c] s t := by
  have hl := logOnly_gatedWrite (v := 1) (eff := calCtrlEffect c 1) hg (regAt_calCtrl c) (halfAt_calCtrl c)
  rw [calCtrlEffect_seed] at hl
  have ⟨_, _, hrd⟩ := hl
  refine ⟨_, rfl, ?_, .of_effect (.wr (by simp) (.refl _)) hl⟩
  rw [rdB, hrd _ (isLogReg_meas (by simp only [rPX_CAL_CTRL]; omega)), ← rdB, rdB_wrB (by decide), if_pos rfl]

/-- Every column of Z among those of `l` is unknown after they were made so. -/
theorem zAt_forAll_unknown {i : Nat} {l : List Nat} {s : State} (h : i ∈ l ∨ zAt s c i = zUnknown) :
    zAt (forAll l (fun i s => wrF (rMEAS_Z c i) 19 0 zUnknown s) s) c i = zUnknown := by
  induction l generalizing s with
  | nil => exact h.resolve_left List.not_mem_nil
  | cons j l ih =>
    refine ih ?_
    by_cases hij : i = j
    · subst hij
      exact .inr (rdF_wrF_same (by decide) (by decide))
    · have hne : rMEAS_Z c i ≠ rMEAS_Z c j := by
        simp only [rMEAS_Z]
        omega
      refine h.imp (fun hi => (List.mem_cons.mp hi).resolve_left hij) fun hz => ?_
      rw [zAt, rdF, rd_wrF, if_neg hne, ← rdF, ← zAt, hz]

theorem zAt_zClear {i : Nat} (hi : i < 2048) : zAt (zClear c s) c i = zUnknown := by
  have hne : rMEAS_Z c i ≠ rMEAS_STATUS c := by
    simp only [rMEAS_Z, rMEAS_STATUS]
    omega
  have hin : i ∈ upto 2048 := List.mem_range.mpr hi
  rw [zClear, zAt, rdF, rd_wrB, if_neg hne, ← rdF, ← zAt, zAt_forAll_unknown (.inl hin)]

theorem zeroValid_zClear : zeroValid (zClear c s) c = false := by
  rw [zeroValid, zClear, rdB_wrB (by decide), if_pos rfl]

theorem kept_zClear : Kept [] (rMEAS_STATUS c :: (upto 2048).map (rMEAS_Z c)) s (zClear c s) :=
  .wr List.mem_cons_self
    (forAll_stable (fun hi h => h.wr (List.mem_cons_of_mem _ (List.mem_map_of_mem hi))) (.refl s))

theorem calForget_clears (hg : gate ifc true (rPX_CAL_CTRL c) s = .open) :
    Completes (.calForget ifc c) s fun t =>
      (∀ i, i < 2048 → zAt t c i = zUnknown) ∧ zeroValid t c = false ∧
      KeptAccess [] (rMEAS_STATUS c :: (upto 2048).map (rMEAS_Z c)) s t := by
  have hl := logOnly_gatedWrite (v := 2) (eff := calCtrlEffect c 2) hg (regAt_calCtrl c) (halfAt_calCtrl c)
  rw [calCtrlEffect_forget] at hl
  have ⟨_, _, hrd⟩ := hl
  refine ⟨_, rfl, fun i hi => ?_, ?_, .of_effect kept_zClear hl⟩
  · rw [zAt, rdF, hrd _ (isLogReg_meas (by simp only [rMEAS_Z]; omega)), ← rdF, ← zAt, zAt_zClear hi]
  · rw [zeroValid, rdB, hrd _ (isLogReg_meas (by simp only [rMEAS_STATUS]; omega)), ← rdB, ← zeroValid, zeroValid_zClear]

end

/-- Settles O24: what a frame does to the calibration, and what storing its record does, leaves the sequence and the count of the
record, and the frames due after it; and a write of memory stores no byte outside its range. -/
theorem measurementRecords : Obligations.MeasurementRecords :=
  ⟨fun _ _ _ _ _ => profileRecordWrite_stored, fun _ _ _ _ _ => profileRecordWrite_unserved,
    fun _ _ _ => profileRecordWrite_nothing, fun _ _ _ _ _ _ => statRecordWrite_stored, fun _ _ _ _ _ _ => statRecordWrite_lost,
    fun _ _ _ => statRecordWrite_nothing, fun _ _ _ => recordWrites_stopped, fun _ _ _ => calSeed_arms,
    fun _ _ _ => calForget_clears⟩

end Sys2Proof.Machine

namespace Sys2Proof.Machine

open Sys2Proof

/-! ### What a raised event writes beside its counter (R486 to R490)

An event counts in the register of its number before anything else of it is recorded. -/

/-- The registers that an event writes once it has counted: those of raised events but the counters by number. -/
def DeliveryReg (o : Nat) : Prop := EventReg o ∧ ¬ (rFLT_EVT_CNT 0 ≤ o ∧ o < rFLT_EVT_CNT 256)

/-- What follows the count of an event: the rings of records, the interrupts, and the latch of a fatal one. -/
def deliverEvt (cfg : Word) (e : Event) (dt : Nat) (unsure : Bool) (s : State) : State :=
  let s := bumpW (rFLT_CNT 1) 1 s
  let s := onlyIf (bit cfg 0) (fun s =>
    wrn rFLT_EVT_NEXT (rdn s rFLT_EVT_NEXT + 1)
      (wrWords (rFLT_EVT_WORD ((rdn s rFLT_EVT_NEXT % 1024) * 8)) (evtWords (rdn s rFLT_EVT_NEXT) e dt unsure) s)) s
  let s := onlyIf (decide (4 ≤ evtClass e.num)) (fun s =>
    wrn rFLT_FATAL_NEXT (rdn s rFLT_FATAL_NEXT + 1)
      (wrWords (rFLT_FATAL_WORD ((rdn s rFLT_FATAL_NEXT % 16) * 8)) (evtWords (rdn s rFLT_FATAL_NEXT) e dt unsure) s)) s
  let s := onlyIf (bit cfg 2) (assertSrc (fld cfg 7 3) 12) (onlyIf (bit cfg 1) (msixAssert 0) s)
  let s := onlyIf (bit cfg 8) (fun s => { s with keeper := { s.keeper with
    core0 := { s.keeper.core0 with faultIrq := true }, core1 := { s.keeper.core1 with faultIrq := true } } }) s
  if evtClass e.num = 5 ∧ isReady s then
    { s with fault := { s.fault with fatal := true, hot := s.fault.hot || decide (e.num = 137) } }
  else s

theorem raiseNow_eq (e : Event) (dt : Nat) (unsure : Bool) (s : State) : raiseNow e dt unsure s =
    deliverEvt (rd s (rFLT_EVT_CFG e.num)) e dt unsure (bump (rFLT_EVT_CNT e.num) 1 (reachJob e s)) := rfl

/-- `Q` survives what an event does once it has counted. -/
structure DeliveryStable (Q : State → Prop) : Prop where
  wrDelivery : ∀ {s o v}, DeliveryReg o → Q s → Q (wr o v s)
  pcie : ∀ {s} {p : Pcie}, Q s → Q { s with pcie := p }
  fault : ∀ {s} {f : FaultSt}, Q s → Q { s with fault := f }
  irq : ∀ {s a b}, Q s → Q { s with keeper := { s.keeper with core0 := a, core1 := b } }

theorem EventStable.delivery {Q : State → Prop} (hQ : EventStable Q) : DeliveryStable Q where
  wrDelivery := fun ho => hQ.wrEvent ho.1
  pcie := hQ.pcie
  fault := hQ.fault
  irq := hQ.irq

namespace DeliveryStable

section
variable {Q : State → Prop} {s : State} (hQ : DeliveryStable Q)
include hQ

theorem assertSrc {n src : Nat} (h : Q s) : Q (assertSrc n src s) := by
  unfold Machine.assertSrc
  split
  next ha =>
    have hn : n < 18 := by
      simp only [lanternActive, Bool.and_eq_true, decide_eq_true_eq] at ha
      exact ha.1.1
    have hlo : DeliveryReg (rLC_PEND_LO n) := by simp only [DeliveryReg, EventReg, rLC_PEND_LO, rFLT_EVT_CNT]; omega
    have hhi : DeliveryReg (rLC_PEND_HI n) := by simp only [DeliveryReg, EventReg, rLC_PEND_HI, rFLT_EVT_CNT]; omega
    split
    exacts [hQ.wrDelivery hlo h, hQ.wrDelivery hhi h]
  next => exact h

theorem assertRouted {off lo src : Nat} (h : Q s) : Q (assertRouted off lo src s) := by
  unfold Machine.assertRouted
  split
  exacts [hQ.assertSrc h, h]

theorem secSignal (h : Q s) : Q (secSignal s) := hQ.assertRouted h

theorem msixAssert_zero (h : Q s) : Q (msixAssert 0 s) := by
  have hPba : DeliveryReg (rMSIX_PBA (0 / 32)) := by simp only [DeliveryReg, EventReg, rMSIX_PBA, rFLT_EVT_CNT]; omega
  have hCnt : DeliveryReg (rPCIE_CNT 5) := by simp only [DeliveryReg, EventReg, rPCIE_CNT, rFLT_EVT_CNT]; omega
  unfold msixAssert
  split
  exacts [hQ.wrDelivery hCnt (hQ.wrDelivery hPba (hQ.pcie h)), hQ.wrDelivery hPba h]

/-- A record goes into a ring of 32-byte records of the FAULT block. -/
theorem ringPut {next ring q : Nat} {e : Event} {dt : Nat} {unsure : Bool} (hnext : DeliveryReg next)
    (hring : ∀ i, i < 8 → DeliveryReg (ring + 4 * i)) (h : Q s) :
    Q (wrn next (q + 1) (wrWords ring (evtWords q e dt unsure) s)) :=
  hQ.wrDelivery hnext (wrWords_stable hQ.wrDelivery hring h)

theorem deliverEvt {cfg : Word} {e : Event} {dt : Nat} {unsure : Bool} (h : Q s) : Q (deliverEvt cfg e dt unsure s) := by
  unfold Machine.deliverEvt
  extract_lets s1 s2 s3 s4 s5
  have h1 : Q s1 := hQ.wrDelivery (by simp only [DeliveryReg, EventReg, rFLT_CNT, rFLT_EVT_CNT]; omega) h
  have h2 : Q s2 := onlyIf_stable (hQ.ringPut (by simp only [DeliveryReg, EventReg, rFLT_EVT_NEXT, rFLT_EVT_CNT]; omega)
    fun i hi => by simp only [DeliveryReg, EventReg, rFLT_EVT_WORD, rFLT_EVT_CNT]; omega) h1
  have h3 : Q s3 := onlyIf_stable (hQ.ringPut (by simp only [DeliveryReg, EventReg, rFLT_FATAL_NEXT, rFLT_EVT_CNT]; omega)
    fun i hi => by simp only [DeliveryReg, EventReg, rFLT_FATAL_WORD, rFLT_EVT_CNT]; omega) h2
  have h5 : Q s5 := onlyIf_stable hQ.irq (onlyIf_stable hQ.assertSrc (onlyIf_stable hQ.msixAssert_zero h3))
  split
  exacts [hQ.fault h5, h5]

end

end DeliveryStable

/-- An event raised while D0 runs counts once under its number. -/
theorem rdn_raiseE_count {num dom : Nat} {s : State} (hn : num < 256) (h0 : d0InReset s = false) :
    rdn (raiseE num dom s) (rFLT_EVT_CNT num) = satN 32 (rdn s (rFLT_EVT_CNT num) + 1) := by
  have hQ : DeliveryStable fun t => rd t (rFLT_EVT_CNT num) = rd (bump (rFLT_EVT_CNT num) 1 s) (rFLT_EVT_CNT num) :=
    { wrDelivery := fun ho h => (rd_wr_other _ _ _ _ (by
        rintro rfl
        simp only [DeliveryReg, rFLT_EVT_CNT] at ho
        omega)).trans h
      pcie := id, fault := id, irq := id }
  have hkept : rd (raiseE num dom s) (rFLT_EVT_CNT num) = rd (bump (rFLT_EVT_CNT num) 1 s) (rFLT_EVT_CNT num) := by
    rw [raiseE, raiseEvt, h0]
    exact hQ.deliverEvt rfl
  rw [rdn, hkept, ← rdn, rdn_bump_same]

/-- An event survives also where it reaches a job, for what does not depend on the jobs. -/
theorem EventStable.raiseJob {Q : State → Prop} {s : State} (hQ : EventStable Q)
    (hjobs : ∀ {s} {j : Tab Job}, Q s → Q { s with jobs := j }) {e : Event} (hn : e.num < 256) (h : Q s) :
    Q (reachJob e s) ∧ Q (Machine.raiseEvt e s) := by
  have hreach : Q (reachJob e s) := by
    unfold reachJob reachRef
    dsimp only
    split
    · split
      · split
        · exact hjobs h
        · split
          exacts [hjobs h, h]
      · exact h
    · exact h
  refine ⟨hreach, ?_⟩
  unfold Machine.raiseEvt
  split
  · split
    exacts [hQ.fault h, hQ.wrEvent (by simp only [EventReg, rFLT_HELD_LOST]; omega) (hQ.fault h)]
  · rw [raiseNow_eq]
    exact hQ.delivery.deliverEvt (hQ.wrEvent (by simp only [EventReg, rFLT_EVT_CNT]; omega) hreach)

end Sys2Proof.Machine

namespace Sys2Proof.Machine

open Sys2Proof

/-! ### The registers that an engine's access to memory writes (R281 to R300, R393, R413 to R417)

The rules of `FetchStable` let an access write any register outside D3. An engine's own registers survive its accesses: these
rules name the registers that an access writes. -/

/-- The registers of the FAULT and power blocks, those of the scratchpad block but the table of owners, and those of the blocks
from the Lantern cores up: among them are all that an access to memory writes. -/
def AccessReg (o : Nat) : Prop :=
  (0x400000 ≤ o ∧ o < 0x600000) ∨ (0x3000000 ≤ o ∧ o < rSP_OWNER 0) ∨ 0x4000000 ≤ o

theorem AccessReg.fault {o : Nat} (h : Nat.ble 0x400000 o && Nat.blt o 0x600000) : AccessReg o := by
  simp only [Nat.ble_eq, Nat.blt_eq, Bool.and_eq_true] at h
  exact .inl h

theorem AccessReg.spad {o : Nat} (h : Nat.ble 0x3000000 o && Nat.blt o 0x3001000) : AccessReg o := by
  simp only [Nat.ble_eq, Nat.blt_eq, Bool.and_eq_true] at h
  exact .inr (.inl h)

theorem AccessReg.high {o k : Nat} (h : Nat.ble 0x4000000 o) : AccessReg (o + k) :=
  .inr (.inr (Nat.le_add_right_of_le (Nat.le_of_ble_eq_true h)))

theorem AccessReg.high_add {o k l : Nat} (h : Nat.ble 0x4000000 o) : AccessReg (o + k + l) :=
  Nat.add_assoc o k l ▸ .high h

/-- `Q` survives what a read of memory by an engine may change: registers, events, semaphores, marks and the state of the DRAM
controller. -/
structure AccessStable (Q : State → Prop) : Prop where
  wrAccess : ∀ {s o v}, AccessReg o → Q s → Q (wr o v s)
  pcie : ∀ {s} {p : Pcie}, Q s → Q { s with pcie := p }
  fault : ∀ {s} {f : FaultSt}, Q s → Q { s with fault := f }
  irq : ∀ {s a b}, Q s → Q { s with keeper := { s.keeper with core0 := a, core1 := b } }
  units : ∀ {s} {power : Power} {sems : Tab Sem} {resv : List (Nat × Nat)} {poison : Tab Bool} {ddr : Ddr} {valid : Tab Bool}
    {free : Nat} {limits : Tab Nat}, Q s →
    Q { s with power := power, sems := sems, resv := resv, poison := poison, ddr := ddr, ddrValid := valid, free := free,
               limits := limits }

namespace AccessStable

section
variable {Q : State → Prop} {s : State} (hQ : AccessStable Q)
include hQ

theorem events : EventStable Q where
  wrEvent := fun ho => hQ.wrAccess (by simp only [EventReg, AccessReg] at ho ⊢; omega)
  pcie := hQ.pcie
  fault := hQ.fault
  irq := hQ.irq

theorem raiseE {num dom : Nat} (h : Q s) (hn : num < 256 := by decide) (hc : evtClass num ≠ 3 := by decide) :
    Q (raiseE num dom s) :=
  hQ.events.raiseE hn hc h

theorem raiseA {num dom addr : Nat} (h : Q s) (hn : num < 256 := by decide) (hc : evtClass num ≠ 3 := by decide) :
    Q (raiseA num dom addr s) :=
  hQ.events.raiseEvt hn hc h

theorem secSignal (h : Q s) : Q (secSignal s) := hQ.events.assertRouted h

theorem limited {key period : Nat} {f : State → State} (hf : ∀ {s}, Q s → Q (f s)) (h : Q s) : Q (limited key period f s) := by
  unfold Machine.limited
  dsimp only
  split
  exacts [hf (hQ.units h), h]

theorem wr64 {lo v : Nat} (h : Q s) (hlo : AccessReg lo := by exact .spad rfl) (hhi : AccessReg (lo + 4) := by exact .spad rfl) :
    Q (wr64 lo v s) :=
  hQ.wrAccess hhi (hQ.wrAccess hlo h)

theorem agentDecodeErr {g : Agent} {a : Nat} (h : Q s) : Q (agentDecodeErr g a s) := by
  have hcount {t : State} (h : Q t) : Q (bump (rFLT_CNT 0) 1 t) := hQ.wrAccess (.fault rfl) h
  have hraise {t : State} {c : Nat} (h : Q t) : Q (raiseEvt { num := 8, dom := 0, addr := a, cause := c } t) :=
    hQ.events.raiseEvt (by dsimp only; decide) (by dsimp only; decide) h
  unfold Machine.agentDecodeErr
  split
  exacts [hQ.limited hraise (hcount h), hQ.limited hraise (hcount (hQ.units h))]

/-! ### Semaphores -/

theorem setSem {n : Nat} {x : Sem} (h : Q s) : Q (setSem n x s) := hQ.units h

theorem unreserve {a len : Nat} (h : Q s) : Q (unreserve a len s) := by
  unfold Machine.unreserve
  split
  exacts [h, hQ.units h]

theorem semLoad {n c : Nat} (h : Q s) : Q (semLoad n c s) := onlyIf_stable hQ.events.assertSrc (hQ.setSem (hQ.unreserve h))

theorem semRelease {n k : Nat} (h : Q s) : Q (semRelease n k s) := by
  unfold Machine.semRelease
  dsimp only
  split
  exacts [hQ.limited hQ.raiseE (hQ.wrAccess (.spad rfl) (hQ.semLoad h)), hQ.semLoad h]

theorem semTake {n : Nat} (h : Q s) : Q (semTake n s) := by
  unfold Machine.semTake
  dsimp only
  split
  exacts [hQ.setSem h, h]

theorem semWords {a k : Nat} (h : Q s) : Q (semWords a k s).2 := by
  induction k generalizing a s with
  | zero => exact h
  | succ k ih =>
    refine ih ?_
    unfold semWordRead
    dsimp only
    split
    exacts [h, hQ.semTake h, h, h]

theorem semPuts {a k : Nat} {bs : List Byte} (h : Q s) : Q (semPuts a k bs s).2 := by
  induction k generalizing a bs s with
  | zero => exact h
  | succ k ih =>
    have h1 : Q (Machine.unreserve a 4 s) := hQ.unreserve h
    refine ih ?_
    unfold semWordWrite
    dsimp only
    split
    exacts [hQ.semLoad h1, hQ.semRelease h1, h1, hQ.setSem h1, h1]

/-! ### Scratchpad ports -/

theorem spLatch {a kind port : Nat} (h : Q s) : Q (spLatch a kind port s) := hQ.wrAccess (.spad rfl) (hQ.wr64 h)

theorem ownerViolation {p a : Nat} (h : Q s) : Q (ownerViolation p a s) :=
  hQ.limited hQ.raiseA (hQ.wrAccess (.spad rfl) (hQ.spLatch h))

theorem wmUncorrectable {p a : Nat} (h : Q s) : Q (wmUncorrectable p a s) :=
  onlyIf_stable hQ.raiseA (hQ.wrAccess (.spad rfl) (hQ.spLatch h))

/-- With no error found, the protection of a bank changes nothing. -/
theorem portRead {p a len : Nat} (h : Q s) : Q (portRead p a len .none s).2 := by
  have hnone : memErrEffect p a .none s = s := by simp [memErrEffect]
  unfold Machine.portRead
  rw [hnone]
  dsimp only
  split
  · exact hQ.ownerViolation h
  · split
    exacts [forAll_stable (fun _ => hQ.wmUncorrectable) h, h]

/-! ### DRAM -/

theorem dramWake (h : Q s) : Q (dramWake s) := by
  unfold Machine.dramWake
  split
  · exact hQ.raiseE (hQ.wrAccess (.high (k := 0x20) rfl) (hQ.wrAccess (.high (k := 0) rfl)
      (hQ.units (hQ.wrAccess (.fault rfl) (hQ.units h)))))
  · exact h

theorem dramServed {k a len : Nat} (h : Q s) : Q (dramServed k a len s) := by
  have hreach : Q (dramReach a len s) := hQ.units (hQ.dramWake h)
  have hdraw {n : Nat} {t : State} (h : Q t) : Q (drawOne k n t) := by
    unfold drawOne
    split
    exacts [hQ.wrAccess (.high rfl) h, h]
  unfold Machine.dramServed
  split
  exacts [h, hQ.wr64 (forAll_stable (fun _ => hdraw) hreach) (.high rfl) (.high_add rfl)]

theorem transferHeld {isWrite : Bool} (h : Q s) : Q (transferHeld isWrite s) := hQ.wrAccess (.high (k := 0) rfl) h

theorem dramRead {k a len : Nat} (h : Q s) : Q (dramRead k a len s).2 :=
  forAll_stable (fun _ h => hQ.raiseA (hQ.wr64 (hQ.wrAccess (.high rfl) h) (.high (k := 0) rfl) (.high rfl)))
    (hQ.dramServed (hQ.transferHeld h))

/-! ### Any memory -/

theorem devRead {g : Agent} {a len : Nat} (h : Q s) : Q (devRead g a len s).2 := by
  unfold Machine.devRead
  split
  · exact hQ.agentDecodeErr h
  · split
    · exact h
    · split
      · exact hQ.portRead h
      · exact hQ.portRead h
      · exact hQ.portRead h
      · exact hQ.dramRead h
      · exact h
      · exact h
      · unfold semRead
        split
        exacts [hQ.semWords h, h]
      · exact h
      · exact h
      · exact h

end

end AccessStable

/-- `Q` survives what a write of memory by an engine may change as well. -/
structure DepositStable (Q : State → Prop) : Prop extends AccessStable Q where
  mem : ∀ {s} {m : Tab Byte}, Q s → Q { s with mem := m }

namespace DepositStable

section
variable {Q : State → Prop} {s : State} (hQ : DepositStable Q)
include hQ

theorem storeBytes {a : Nat} {bs : List Byte} {dirty : Bool} (h : Q s) : Q (storeBytes a bs dirty s) := by
  have hbytes {a : Nat} {t : State} (h : Q t) : Q (setBytes a bs t) := by
    induction bs generalizing a t with
    | nil => exact h
    | cons b bs ih => exact ih (hQ.mem h)
  refine forAll_stable (fun {u t} _ h => ?_) (hbytes (hQ.unreserve h))
  unfold markUnit
  split
  · exact hQ.units h
  · split
    exacts [hQ.units h, h]

theorem portWrite {p a : Nat} {bs : List Byte} {dirty : Bool} (h : Q s) : Q (portWrite p a bs dirty .none s).2 := by
  have hnone (x : Nat) : memErrEffect p x .none s = s := by simp [memErrEffect]
  unfold Machine.portWrite
  simp only [hnone, ite_self]
  split
  · exact h
  · split
    · exact hQ.ownerViolation h
    · split
      · have h1 : Q (onlyIf (partBad s a bs.length (a + bs.length - 1) && decide (a / 8 ≠ (a + bs.length - 1) / 8))
            (Machine.wmUncorrectable p (a + bs.length - 1))
            (onlyIf (partBad s a bs.length a) (Machine.wmUncorrectable p a) s)) :=
          onlyIf_stable hQ.wmUncorrectable (onlyIf_stable hQ.wmUncorrectable h)
        split
        exacts [h1, hQ.storeBytes h1]
      · split
        exacts [h, hQ.storeBytes h]

theorem dramWrite {k a : Nat} {bs : List Byte} (h : Q s) : Q (dramWrite k a bs s).2 := by
  have hinit {t : State} {n : Nat} (h : Q t) : Q (dramInit a n t) := by
    unfold dramInit
    split
    exacts [h, hQ.units h]
  have hpart {t : State} {x : Nat} (h : Q t) : Q (partRefused x t) :=
    hQ.wr64 (hQ.wrAccess (.high (k := 0x18) rfl) h) (.high (k := 0) rfl) (.high rfl)
  have hwords {t : State} {x n : Nat} (h : Q t) : Q (replaceWords x n t) := by
    unfold replaceWords
    split
    exacts [h, hQ.units h]
  unfold Machine.dramWrite
  dsimp only
  split
  · exact h
  · exact hQ.storeBytes (hwords (onlyIf_stable hpart (onlyIf_stable hpart (hinit (hQ.dramServed (hQ.transferHeld h))))))

theorem devPut {g : Agent} {a : Nat} {bs : List Byte} {dirty : Bool} (h : Q s) : Q (devPut g a bs dirty s) := by
  unfold Machine.devPut devWrite
  split
  · exact hQ.agentDecodeErr h
  · split
    · exact h
    · split
      · exact hQ.portWrite h
      · exact hQ.portWrite h
      · exact hQ.portWrite h
      · exact hQ.dramWrite h
      · exact hQ.storeBytes h
      · exact hQ.storeBytes h
      · unfold semWrite
        split
        exacts [hQ.semPuts h, h]
      · exact h
      · exact h
      · exact h

theorem ringStore {g : Agent} {base size pos : Nat} {bs : List Byte} {dirty : Bool} (h : Q s) :
    Q (ringStore g base size pos bs dirty s) := by
  unfold Machine.ringStore
  dsimp only
  split
  exacts [hQ.devPut (hQ.devPut h), hQ.devPut h]

end

end DepositStable

end Sys2Proof.Machine

namespace Sys2Proof.Machine

open Sys2Proof

/-! ### A splice that is lost leaves the registers of the Sector engine (R143, R206) -/

/-- The registers of D3 (R60). -/
def VideoReg (o : Nat) : Prop := 0x1000000 ≤ o ∧ o < 0x2000000

/-- `Q` survives what the loss of a splice may change: memory, D3, and what is handed over at splices. -/
structure LossStable (Q : State → Prop) : Prop extends DepositStable Q where
  wrVideo : ∀ {s o v}, VideoReg o → Q s → Q (wr o v s)
  pipes : ∀ {s} {px : Tab PCtx} {m : Tab Nat} {q : Tab (List (Nat × PipeItem))} {cx : Tab SecCtx}, Q s →
    Q { s with pctx := px, stage := m, spliceq := q, secCtx := cx }

namespace LossStable

section
variable {Q : State → Prop} {c : Nat} {s : State} (hQ : LossStable Q)
include hQ

theorem setPctx {x : PCtx} (h : Q s) : Q (setPctx c x s) := hQ.pipes h

theorem setPframe {f : PipeFrame} (h : Q s) : Q (setPframe c f s) := hQ.pipes h

theorem pipeFlag {b : Nat} (h : Q s) : Q (pipeFlag c b s) := hQ.pipes h

theorem stageTake {n : Nat} (h : Q s) : Q (stageTake c n s) := by
  have hp := ctxPipe_lt s c
  have hreg : VideoReg (rPIPE_STAGE_HWM (ctxPipe s c)) := by simp only [VideoReg, rPIPE_STAGE_HWM]; omega
  unfold Machine.stageTake
  split
  exacts [h, hQ.wrVideo hreg (hQ.pipes h)]

variable (hc : c < 16)
include hc

/-- An event of the outputs: counted by `k`, and flagged in the frame. -/
theorem countFlagged {k e b b' : Nat} {f : PipeFrame} (h : Q s) (hk : k < 9 := by decide) (he : e < 256 := by decide)
    (hcl : evtClass e ≠ 3 := by decide) :
    Q (Machine.raiseE e 3 (bump (rCTX_CNT c k) 1 (Machine.pipeFlag c b (Machine.pipeFlag c b' (Machine.setPframe c f s))))) :=
  hQ.raiseE (hQ.wrVideo (by simp only [VideoReg, rCTX_CNT]; omega) (hQ.pipeFlag (hQ.pipeFlag (hQ.setPframe h)))) he hcl

theorem stageDrop (h : Q s) : Q (stageDrop c s) := by
  unfold Machine.stageDrop
  dsimp only
  split
  exacts [h, hQ.countFlagged hc h]

theorem outLine {o : Nat} {planes : List (List Byte)} (ho : o < 4) (h : Q s) : Q (outLine c o planes s) := by
  have hreg (k : Nat) (hk : k ≤ 4) : VideoReg (rCTX_OUT_WRITTEN_LO c o + k) := by
    simp only [VideoReg, rCTX_OUT_WRITTEN_LO]
    omega
  unfold Machine.outLine
  dsimp only
  split
  · exact h
  · split
    · exact hQ.countFlagged hc h
    · split
      · exact hQ.stageDrop hc h
      · exact hQ.wrVideo (hreg 4 (by omega)) (hQ.wrVideo (hreg 0 (by omega))
          (hQ.setPframe (forAll_stable (fun _ => hQ.ringStore) (hQ.stageTake h))))

theorem codingLine {ycc : List (List Nat)} (h : Q s) : Q (codingLine c ycc s) := by
  have hline {f : PipeFrame} {luma} : Q (Machine.outLine c 1 luma (Machine.setPframe c f s)) :=
    hQ.outLine hc (by decide) (hQ.setPframe h)
  unfold Machine.codingLine
  dsimp only
  split
  · exact h
  · split
    · exact hline
    · split
      · exact hline
      · split
        exacts [hQ.stageDrop hc hline, hQ.ringStore (hQ.stageTake hline)]

omit hc in
theorem bandClose {last : Bool} (h : Q s) : Q (bandClose c last s) := by
  unfold Machine.bandClose
  dsimp only
  split
  · exact h
  · split
    exacts [hQ.setPframe h, hQ.semRelease (hQ.setPctx (hQ.devPut (hQ.setPframe h)))]

theorem setCtxState {v : Nat} (h : Q s) : Q (setCtxState c v s) :=
  hQ.wrVideo (by simp only [VideoReg, rCTX_STATUS]; omega) h

theorem closeCtx (h : Q s) : Q (closeCtx c s) := by
  have hstatus : VideoReg (rCTX_STATUS c) := by simp only [VideoReg, rCTX_STATUS]; omega
  unfold Machine.closeCtx
  extract_lets pf f s1 s2 pf' off n q s3 s4 cut x mf s5 s6
  have h2 : Q s2 := by
    refine hQ.bandClose ?_
    dsimp only [s1]
    split
    exacts [h, hQ.codingLine hc h]
  have h3 : Q s3 := by
    refine wrWords_stable (P := VideoReg) hQ.wrVideo (fun i hi => ?_) h2
    simp only [List.length_cons, List.length_nil] at hi
    simp only [VideoReg, rCTX_REC]
    omega
  have h4 : Q s4 := hQ.wrVideo (by simp only [VideoReg, rCTX_CNT]; omega)
    (hQ.wrVideo (by simp only [VideoReg, rCTX_FR_NEXT]; omega) h3)
  have h6 : Q s6 := hQ.wrVideo hstatus (hQ.setCtxState hc (hQ.setPctx h4))
  split
  exacts [hQ.wrVideo (by simp only [VideoReg, rCTX_M2M_GO]; omega) h6, h6]

theorem loseSplice (h : Q s) : Q (loseSplice c s) := by
  have h1 {pf : PipeFrame} {b b' : Nat} {y : PCtx} {t : State} (h : Q t) :
      Q (Machine.setPctx c y (Machine.raiseE 53 3 (bump (rCTX_CNT c 6) 1 (Machine.bandClose c true
        (Machine.pipeFlag c b (Machine.pipeFlag c b' (Machine.setPframe c pf t))))))) :=
    hQ.setPctx (hQ.raiseE (hQ.wrVideo (by simp only [VideoReg, rCTX_CNT]; omega)
      (hQ.bandClose (hQ.pipeFlag (hQ.pipeFlag (hQ.setPframe h))))))
  unfold Machine.loseSplice
  dsimp only
  split
  · exact hQ.pipes h
  · split
    · exact hQ.pipes h
    · split
      exacts [hQ.closeCtx hc (h1 (hQ.pipes h)), hQ.setCtxState hc (h1 (hQ.pipes h))]

end

end LossStable

end Sys2Proof.Machine

namespace Sys2Proof.Machine

open Sys2Proof

/-! ### Clusters of the Sector engine, and the swap of their banks (R198, R202) -/

theorem secCl_setSecCl (c k : Nat) (x : SecCl) (s : State) : secCl (setSecCl c x s) k = if k = c then x else secCl s k :=
  tget_tput _ _ _ _ _

@[simp] theorem secCl_setSecCl_same (c : Nat) (x : SecCl) (s : State) : secCl (setSecCl c x s) c = x := tget_tput_same _ _ _ _

theorem Kept.setSecCl {ps : List Part} {rs : List Nat} {s t : State} {c : Nat} {x : SecCl} (hps : .secCl ∈ ps)
    (h : Kept ps rs s t) : Kept ps rs s (setSecCl c x t) := by
  refine h.update rfl fun p hp => ?_
  cases p
  case secCl => exact absurd hps hp
  all_goals rfl

/-- The registers that show the swap of a cluster. -/
def swapRegs (c : Nat) : List Nat := [rSC_STATUS c, rSC_PROG_CTRL c, rSC_LB_ACTIVE c, rSEC_STATUS]

section
variable {c : Nat} {s : State}

theorem kept_secRefresh : Kept [.secCl] (swapRegs c) s (secRefresh c s) :=
  .wr (by simp [swapRegs]) (.wr (by simp [swapRegs]) (.wr (by simp [swapRegs]) (.refl s)))

/-- What the stripes that remain show does not touch the active bank, presence and BANK_ERR. -/
theorem rdB_secRefresh_status {i : Nat} (hi : i ∈ [0, 3, 4]) : rdB (secRefresh c s) (rSC_STATUS c) i = rdB s (rSC_STATUS c) i := by
  have hlb : rSC_STATUS c ≠ rSC_LB_ACTIVE c := by simp only [rSC_STATUS, rSC_LB_ACTIVE]; omega
  have hsec : rSC_STATUS c ≠ rSEC_STATUS := by simp only [rSC_STATUS, rSEC_STATUS]; omega
  simp only [List.mem_cons, List.not_mem_nil, or_false] at hi
  rw [rdB, secRefresh, rd_wrB, if_neg hsec, rd_wrn, if_neg hlb, rd_wr_same, bit_setFld_other (by decide) (by omega),
    bit_setFld_other (by decide) (by omega), bit_setBit (by decide), if_neg (by omega), bit_setBit (by decide),
    if_neg (by omega), bit_setBit (by decide), if_neg (by omega), rdB]

theorem rd_secRefresh_progCtrl : rd (secRefresh c s) (rSC_PROG_CTRL c) = rd s (rSC_PROG_CTRL c) := by
  have hlb : rSC_PROG_CTRL c ≠ rSC_LB_ACTIVE c := by simp only [rSC_PROG_CTRL, rSC_LB_ACTIVE]; omega
  have hsec : rSC_PROG_CTRL c ≠ rSEC_STATUS := by simp only [rSC_PROG_CTRL, rSEC_STATUS]; omega
  have hst : rSC_PROG_CTRL c ≠ rSC_STATUS c := by simp only [rSC_PROG_CTRL, rSC_STATUS]; omega
  unfold secRefresh
  rw [rd_wrB, if_neg hsec, rd_wrn, if_neg hlb, rd_wr_other _ _ _ _ hst]

/-- A bit below a field is none of it. -/
theorem fld_setBit_low {w : Word} {i hi lo : Nat} {b : Bool} (hi32 : i < 32) (hlo : i < lo) :
    fld (setBit w i b) hi lo = fld w hi lo := by
  refine Nat.eq_of_testBit_eq fun k => ?_
  rw [fld, nfld, fld, nfld, Nat.testBit_mod_two_pow, Nat.testBit_div_two_pow, setBit, testBit_setFld hi32, if_neg (by omega),
    Nat.testBit_mod_two_pow, Nat.testBit_div_two_pow]

/-- From `s` to `t` a swap of cluster `c` went on: its registers, the swap itself, and nothing else. -/
structure SwapStep (c : Nat) (s t : State) : Prop where
  kept : Kept [.secCl] (swapRegs c) s t
  queue : (secCl t c).queue = (secCl s c).queue
  run : (secCl t c).run = (secCl s c).run
  status : ∀ i ∈ [0, 3, 4], rdB t (rSC_STATUS c) i = rdB s (rSC_STATUS c) i
  reason : rdF t (rSC_PROG_CTRL c) 11 8 = rdF s (rSC_PROG_CTRL c) 11 8

namespace SwapStep

protected theorem refl (c : Nat) (s : State) : SwapStep c s s := ⟨.refl s, rfl, rfl, fun _ _ => rfl, rfl⟩

/-- The swap takes a value, and the cluster goes on from there. -/
theorem of_setSwap {t : State} {w : Option SecSwap} (h : SwapStep c (setSecCl c { secCl s c with swap := w } s) t) :
    SwapStep c s t where
  kept := ⟨fun p hp => Part.same_trans ((Kept.setSecCl (rs := []) (by simp) (.refl s)).1 p hp) (h.kept.1 p hp), h.kept.2⟩
  queue := h.queue.trans (by simp)
  run := h.run.trans (by simp)
  status := h.status
  reason := h.reason

theorem secRefresh : SwapStep c s (secRefresh c s) where
  kept := kept_secRefresh
  queue := rfl
  run := rfl
  status := fun _ => rdB_secRefresh_status
  reason := by rw [rdF, rd_secRefresh_progCtrl, rdF]

/-- The swap is done: SWAP_DONE is set, and the registers follow. -/
theorem done : SwapStep c s (Machine.secRefresh c (wrB (rSC_PROG_CTRL c) 4 true s)) where
  kept := by
    have h : Kept [.secCl] (swapRegs c) s (wrB (rSC_PROG_CTRL c) 4 true s) := .wr (by simp [swapRegs]) (.refl s)
    exact ⟨fun p hp => Part.same_trans (h.1 p hp) (kept_secRefresh.1 p hp), fun o ho => (kept_secRefresh.2 o ho).trans (h.2 o ho)⟩
  queue := rfl
  run := rfl
  status := fun i hi => by
    have hne : rSC_STATUS c ≠ rSC_PROG_CTRL c := by simp only [rSC_PROG_CTRL, rSC_STATUS]; omega
    rw [rdB_secRefresh_status hi, rdB, rd_wrB, if_neg hne, rdB]
  reason := by rw [rdF, rd_secRefresh_progCtrl, rd_wrB, if_pos rfl, fld_setBit_low (by decide) (by decide), rdF]

theorem secSwapEnd : SwapStep c s (secSwapEnd c s) := by
  unfold Machine.secSwapEnd
  split
  · split
    exacts [of_setSwap done, secRefresh]
  · exact .refl c s

theorem secMove {f : Nat × Nat → Bool} : SwapStep c s (secMove c f s) := by
  unfold Machine.secMove
  split
  exacts [of_setSwap secSwapEnd, .refl c s]

theorem secMemMove : SwapStep c s (secMemMove c s) := by
  unfold Machine.secMemMove
  split
  exacts [of_setSwap secSwapEnd, .refl c s]

theorem secChainMove {h : Nat} : SwapStep c s (secChainMove c h s) := by
  unfold Machine.secChainMove
  split
  exacts [of_setSwap secSwapEnd, .refl c s]

end SwapStep

theorem kept_secMjStatus {waiting : Bool} : Kept [] [rSC_MJ_STATUS c] s (secMjStatus c waiting s) :=
  .wr (by simp) (.refl s)

end

/-! ### An uncorrectable bank in force (R206) -/

/-- Cluster `c` stands with BANK_ERR set, and has no memory job. -/
structure Stopped (c : Nat) (t : State) : Prop where
  err : rdB t (rSC_STATUS c) 4 = true
  queue : (secCl t c).queue = []
  run : (secCl t c).run = none

section
variable {c : Nat} {s : State}

theorem Stopped.wr {o : Nat} {v : Word} (ho : o ≠ rSC_STATUS c) (h : Stopped c s) : Stopped c (wr o v s) :=
  { h with err := (congrArg (bit · 4) (rd_wr_other _ _ _ _ ho.symm)).trans h.err }

theorem Stopped.lossStable (hc : c < 4) : LossStable (Stopped c) where
  wrAccess := fun ho => .wr (by simp only [AccessReg, rSP_OWNER, rSC_STATUS] at ho ⊢; omega)
  wrVideo := fun ho => .wr (by simp only [VideoReg, rSC_STATUS] at ho ⊢; omega)
  pcie := fun h => { h with }
  fault := fun h => { h with }
  irq := fun h => { h with }
  units := fun h => { h with }
  mem := fun h => { h with }
  pipes := fun h => { h with }

theorem stopped_secBankErr (hc : c < 4) : Stopped c (secBankErr c s) := by
  have hQ := Stopped.lossStable hc
  unfold secBankErr
  extract_lets k js ref s1 s2 s3 s4
  have h1 : Stopped c s1 := by
    refine ⟨(rdB_wrB (by decide)).trans (if_pos rfl), ?_, ?_⟩
    · exact congrArg SecCl.queue (secCl_setSecCl_same c _ s)
    · exact congrArg SecCl.run (secCl_setSecCl_same c _ s)
  have hreach {e : Event} {t : State} (hn : e.num < 256) (h : Stopped c t) :
      Stopped c (reachJob e t) ∧ Stopped c (raiseEvt e t) := hQ.events.raiseJob (fun h => { h with }) hn h
  have h2 : Stopped c s2 := hQ.secSignal (hreach (by dsimp only; decide) h1).2
  have h3 : Stopped c s3 := forAll_stable (fun _ h => (hreach (by dsimp only; decide) h).1) h2
  have h4 : Stopped c s4 := by
    have hmj : Stopped c (secMjStatus c false s3) := h3.wr (by simp only [rSC_MJ_STATUS, rSC_STATUS]; omega)
    have hm := SwapStep.secMemMove (c := c) (s := secMjStatus c false s3)
    exact ⟨(hm.status 4 (by decide)).trans hmj.err, hm.queue.trans hmj.queue, hm.run.trans hmj.run⟩
  refine forAll_stable (fun {x t} hx h => hQ.loseSplice ?_ h) h4
  exact List.mem_range.mp (List.mem_filter.mp hx).1

end

/-! ### What a unit leaves of its counters (R205, R207, R209) -/

/-- The counts of units and of stalls of cluster `c` are as in `s`. -/
def HoldsCounts (c : Nat) (s t : State) : Prop := ∀ k ∈ [0, 1, 3, 4], rd t (rSC_CNT c k) = rd s (rSC_CNT c k)

/-- A register of the Sector engine that is none of those counts. -/
def UnitReg (c o : Nat) : Prop := 0x2000000 ≤ o ∧ ∀ k ∈ [0, 1, 3, 4], o ≠ rSC_CNT c k

theorem unitReg_cnt {c k : Nat} (hk : k ∉ [0, 1, 3, 4]) : UnitReg c (rSC_CNT c k) := by
  refine ⟨by simp only [rSC_CNT]; omega, fun m hm heq => hk ?_⟩
  simp only [rSC_CNT] at heq
  rwa [show k = m by omega]

theorem unitReg_swapRegs {c d o : Nat} (ho : o ∈ swapRegs d) : UnitReg c o := by
  simp only [swapRegs, rSC_STATUS, rSC_PROG_CTRL, rSC_LB_ACTIVE, rSEC_STATUS, List.mem_cons, List.not_mem_nil, or_false] at ho
  refine ⟨by omega, fun k hk => ?_⟩
  simp only [List.mem_cons, List.not_mem_nil, or_false] at hk
  simp only [rSC_CNT]
  omega

namespace HoldsCounts

section
variable {c : Nat} {s t u : State}

protected theorem refl (c : Nat) (s : State) : HoldsCounts c s s := fun _ _ => rfl

protected theorem trans (h : HoldsCounts c s t) (h' : HoldsCounts c t u) : HoldsCounts c s u :=
  fun k hk => (h' k hk).trans (h k hk)

protected theorem wr {o : Nat} {v : Word} (ho : UnitReg c o) (h : HoldsCounts c s t) : HoldsCounts c s (wr o v t) :=
  fun k hk => (rd_wr_other _ _ _ _ (ho.2 k hk).symm).trans (h k hk)

protected theorem bump {k n : Nat} (h : HoldsCounts c s t) (hk : k ∉ [0, 1, 3, 4] := by decide) :
    HoldsCounts c s (bump (rSC_CNT c k) n t) := h.wr (unitReg_cnt hk)

theorem swapStep {d : Nat} (hu : SwapStep d t u) (h : HoldsCounts c s t) : HoldsCounts c s u :=
  fun k hk => (hu.kept.2 _ fun hmem => (unitReg_swapRegs hmem).2 k hk rfl).trans (h k hk)

theorem depositStable (hc : c < 4) (s : State) : DepositStable (HoldsCounts c s) where
  wrAccess := fun ho h k hk => (rd_wr_other _ _ _ _ (by
    simp only [AccessReg, rSP_OWNER, rSC_CNT, List.mem_cons, List.not_mem_nil, or_false] at ho hk ⊢
    omega)).trans (h k hk)
  pcie := id
  fault := id
  irq := id
  units := id
  mem := id

/-! ### Frames of a context in the engine (R194, R195, R202) -/

theorem secBegin {x : Nat} (h : HoldsCounts c s t) : HoldsCounts c s (secBegin x t) := by
  unfold Machine.secBegin
  split
  · exact h
  · split
    · exact h
    · refine forAll_stable (fun _ => swapStep .secRefresh) (forAll_stable (Q := HoldsCounts c s) (fun _ h => ?_) h)
      split
      exacts [swapStep .secMove h, h]

theorem setSecStripe {x d i : Nat} {st : Stripe} (h : HoldsCounts c s t) : HoldsCounts c s (setSecStripe x d i st t) := h

theorem secJoin {x n : Nat} (h : HoldsCounts c s t) : HoldsCounts c s (secJoin x n t) := by
  induction n generalizing t with
  | zero => exact h
  | succ n ih =>
    unfold Machine.secJoin
    dsimp only
    split
    exacts [h, ih (forAll_stable (Q := HoldsCounts c s) (fun _ => setSecStripe) h)]

variable (hc : c < 4)
include hc

theorem teeSignal {x : Nat} (h : HoldsCounts c s t) : HoldsCounts c s (teeSignal x t) := by
  unfold Machine.teeSignal
  split
  · split
    exacts [h, (depositStable hc s).semRelease h]
  · exact h

theorem secFrameDone {x : Nat} (h : HoldsCounts c s t) : HoldsCounts c s (secFrameDone x t) := by
  unfold Machine.secFrameDone
  split
  · dsimp only
    split
    · split
      exacts [teeSignal hc h, h]
    · exact h
  · exact h

theorem secPoll {x : Nat} (h : HoldsCounts c s t) : HoldsCounts c s (secPoll x t) := (secFrameDone hc h.secBegin).secBegin

theorem teeAdvance {x : Nat} (h : HoldsCounts c s t) : HoldsCounts c s (teeAdvance x t) := by
  refine forAll_stable (Q := HoldsCounts c s) (fun _ h => ?_) h
  split
  exacts [teeSignal hc h, h]

theorem secTee {x l : Nat} {e : SEnv} {st : Stripe} {y : Int} (h : HoldsCounts c s t) : HoldsCounts c s (secTee x c e st l y t) := by
  have hQ := depositStable hc s
  unfold Machine.secTee
  dsimp only
  split
  · exact h
  · split
    · split
      exacts [h, hQ.secSignal (hQ.raiseE (.bump h))]
    · exact forAll_stable (fun _ => hQ.devPut) h

theorem secParity {st : Stripe} {k : Nat} (h : HoldsCounts c s t) : HoldsCounts c s (secParity c st k t).2 := by
  unfold Machine.secParity
  dsimp only
  split
  exacts [h, (depositStable hc s).raiseE (.bump h)]

/-! ### Rows of a memory job (R198) -/

theorem secMemRow {m : SecMj} {p : SProg} {x0 : Nat} {y : Int} (h : HoldsCounts c s t) :
    HoldsCounts c s (secMemRow c m p x0 y t).2 :=
  List.foldlRecOn (motive := fun a : SRow × State => HoldsCounts c s a.2) _ _ h fun _ ha _ _ => (depositStable hc s).devRead ha

theorem secMemOut {m : SecMj} {e : SEnv} {st : Stripe} {l : Nat} {y : Int} (h : HoldsCounts c s t) :
    HoldsCounts c s (secMemOut c m e st l y t) :=
  forAll_stable (fun _ => (depositStable hc s).devPut) (onlyIf_stable (fun h => .bump h) h)

omit hc in
theorem secMjDiscard (h : HoldsCounts c s t) : HoldsCounts c s (secMjDiscard c t) := by
  have hmj : UnitReg c (rSC_MJ_STATUS c) := by
    refine ⟨by simp only [rSC_MJ_STATUS]; omega, fun k hk => ?_⟩
    simp only [rSC_MJ_STATUS, rSC_CNT]
    omega
  exact swapStep .secMemMove (.wr hmj (.bump (t := setSecCl c _ t) h))

end

end HoldsCounts

section
variable {c x i : Nat} {s : State} {parity : Option (Nat × Nat)} {stallIn stallOut : Nat}

theorem secHead_congr {t : State} (h : t.spliceq = s.spliceq) : secHead t x = secHead s x := by rw [secHead, h, ← secHead]

/-- The unit that a cluster starts belongs to a context with a frame at the head of its hand-over. -/
theorem secHead_of_secPick {p : Nat × Nat} (h : secPick s c = some p) : secHead s p.1 ≠ none := by
  unfold secPick at h
  extract_lets all best at h
  have hbest : ∀ k, best = some k → k ∈ all :=
    List.foldlRecOn (motive := fun b : Option (Nat × Nat × Nat) => ∀ k, b = some k → k ∈ all) all _ (by simp)
      fun b hb k hk m hm => by
        split at hm
        · exact Option.some.inj hm ▸ hk
        · split at hm
          exacts [Option.some.inj hm ▸ hk, hb m hm]
  obtain ⟨k, hk, rfl⟩ := Option.map_eq_some_iff.mp h
  have hmem := hbest k hk
  simp only [all, List.mem_flatMap, List.mem_filterMap, Option.map_eq_some_iff] at hmem
  obtain ⟨y, -, q, -, n, hready, rfl⟩ := hmem
  intro hnone
  unfold secReady at hready
  rw [hnone] at hready
  split at hready <;> cases hready

/-- A live unit leaves the counts up to its own count, and from there on. -/
theorem counted_secLive (hc : c < 4) (hx : secHead s x ≠ none) :
    ∃ a u, HoldsCounts c s u ∧
      HoldsCounts c (secCount c a true stallIn stallOut u) (secLive c x i parity stallIn stallOut s) := by
  unfold secLive
  extract_lets +onlyGivenNames s1
  have hstep : SwapStep c s s1 := by
    dsimp only [s1]
    split
    exacts [.secMove, .refl c s]
  have h1 : HoldsCounts c s s1 := .swapStep hstep (.refl c s)
  have hx1 : secHead s1 x ≠ none := by rwa [secHead_congr (hstep.kept.1 .spliceq (by simp))]
  split
  next heq => exact absurd heq hx1
  next f ls e heq =>
    extract_lets +onlyGivenNames g p h x0 st q st' s2 row rows env a s3
    have h2 : HoldsCounts c s s2 := by
      dsimp only [s2, q]
      split
      exacts [.secParity hc h1, h1]
    refine ⟨a, secFree s2, h2, ?_⟩
    refine .secPoll hc (.teeAdvance hc (.secJoin (forAll_stable (fun {o t} _ ht => ?_) (HoldsCounts.refl c _))))
    have ht1 := onlyIf_stable (b := (secOwn env a.st o.1 o.2).poison) (f := bump (rSC_CNT c 11) 1) (fun h => .bump h) ht
    split
    exacts [ht1.setSecStripe, (ht1.secTee hc).setSecStripe]

/-- So does a unit of a memory job. -/
theorem counted_secMemory {r : SecRun} (hc : c < 4) :
    ∃ a u, HoldsCounts c s u ∧
      HoldsCounts c (secCount c a false stallIn stallOut u) (secMemory c r parity stallIn stallOut s) := by
  unfold secMemory
  extract_lets +onlyGivenNames bank s1 m g p w x0 q st s2 y row inp st' s3 env a s4
  have h1 : HoldsCounts c s s1 := by
    dsimp only [s1]
    split
    exacts [.swapStep .secMemMove (.refl c s), .refl c s]
  have h2 : HoldsCounts c s s2 := by
    dsimp only [s2, q]
    split
    exacts [.secParity hc h1, h1]
  have h3 : HoldsCounts c s s3 := by
    dsimp only [s3, inp]
    split
    exacts [.secMemRow hc h2, h2]
  refine ⟨a, secFree s3, h3, ?_⟩
  split
  · exact (HoldsCounts.refl c s4).secMjDiscard
  · exact forAll_stable (Q := HoldsCounts c s4) (fun _ => .secMemOut hc) (.refl c s4)

end

end Sys2Proof.Machine

namespace Sys2Proof.Machine

open Sys2Proof

/-! ### SECTOR_LIVE_UNIT and SECTOR_MEMORY_UNIT (R188, R189, R206, R209) -/

section
variable {c : Nat} {s t u : State} {live : Bool} {a : SUnit}

theorem rdn_bump {o p n : Nat} : rdn (bump o n s) p = if p = o then satN 32 (rdn s o + n) else rdn s p := by
  split
  next h => rw [h, rdn_bump_same]
  next h => rw [rdn, rd_bump, if_neg h, rdn]

theorem rdn_bumpW {o p n : Nat} : rdn (bumpW o n s) p = if p = o then (rdn s o + n) % 2 ^ 32 else rdn s p := by
  rw [rdn, rd_bumpW]
  split
  exacts [by rw [w32, BitVec.toNat_ofNat], rfl]

theorem rSC_CNT_inj {j k : Nat} : rSC_CNT c j = rSC_CNT c k ↔ j = k := by
  simp only [rSC_CNT]
  omega

/-- From `s` to `t` cluster `c` ran one unit of a kind, live or of a memory job, and spent its cycles waiting. -/
structure RanUnit (c : Nat) (live : Bool) (stallIn stallOut : Nat) (s t : State) : Prop where
  unit : rdn t (rSC_CNT c (if live then 0 else 1)) = satN 32 (rdn s (rSC_CNT c (if live then 0 else 1)) + 1)
  stallIn : rdn t (rSC_CNT c 3) = (rdn s (rSC_CNT c 3) + stallIn) % 2 ^ 32
  stallOut : rdn t (rSC_CNT c 4) = (rdn s (rSC_CNT c 4) + stallOut) % 2 ^ 32
  other : rdn t (rSC_CNT c (if live then 1 else 0)) = rdn s (rSC_CNT c (if live then 1 else 0))

theorem ranUnit_secCount {si so : Nat} : RanUnit c live si so s (secCount c a live si so s) := by
  cases live <;> constructor <;> simp [secCount, rdn_bump, rdn_bumpW, rSC_CNT_inj]

theorem HoldsCounts.rdn {k : Nat} (h : HoldsCounts c s t) (hk : k ∈ [0, 1, 3, 4]) : rdn t (rSC_CNT c k) = rdn s (rSC_CNT c k) := by
  rw [Machine.rdn, h k hk, ← Machine.rdn]

/-- What leaves the counts before and after the unit does not show. -/
theorem RanUnit.of_holds {v : State} {si so : Nat} (hu : HoldsCounts c s u) (h : RanUnit c live si so u v)
    (ht : HoldsCounts c v t) : RanUnit c live si so s t where
  unit := by rw [ht.rdn (by cases live <;> simp), h.unit, hu.rdn (by cases live <;> simp)]
  stallIn := by rw [ht.rdn (by simp), h.stallIn, hu.rdn (by simp)]
  stallOut := by rw [ht.rdn (by simp), h.stallOut, hu.rdn (by simp)]
  other := by rw [ht.rdn (by cases live <;> simp), h.other, hu.rdn (by cases live <;> simp)]

/-- A corrected word of the bank counts, and leaves what the unit works on. -/
theorem holdsCounts_corrected {b : Bool} :
    HoldsCounts c s (onlyIf b (bump (rSC_CNT c 12) 1) s) ∧ (onlyIf b (bump (rSC_CNT c 12) 1) s).spliceq = s.spliceq := by
  cases b
  exacts [⟨.refl c s, rfl⟩, ⟨.bump (.refl c s), rfl⟩]

end

section
variable {c : Fin 4} {err : MemErr} {parity : Option (Fin 32 × BitVec 15)} {si so : BitVec 32} {s : State}

theorem sectorLiveUnit_runs {x : Nat × Nat} (hrun : domRun s 2 = true) (hav : secAvail s c = true) (hpick : secPick s c = some x)
    (herr : err ≠ .uncorrectable) :
    Completes (.sectorLiveUnit c err parity si so) s (RanUnit c true si.toNat so.toNat s) := by
  obtain ⟨hcorr, hq⟩ := holdsCounts_corrected (c := c) (s := s) (b := decide (err = .corrected))
  obtain ⟨a, u, hu, ht⟩ := counted_secLive (i := x.2) (parity := parity.map fun q => (q.1.val, q.2.toNat))
    (stallIn := si.toNat) (stallOut := so.toNat) c.isLt ((secHead_congr hq).trans_ne (secHead_of_secPick hpick))
  refine ⟨_, ?_, .of_holds (hcorr.trans hu) ranUnit_secCount ht⟩
  cases err
  case uncorrectable => exact absurd rfl herr
  all_goals simp only [exec, execSectorLiveUnit, hrun, hav, hpick]; rfl

theorem sectorLiveUnit_stops {x : Nat × Nat} (hrun : domRun s 2 = true) (hav : secAvail s c = true)
    (hpick : secPick s c = some x) : Completes (.sectorLiveUnit c .uncorrectable parity si so) s (Stopped c) := by
  refine ⟨secBankErr c s, ?_, stopped_secBankErr c.isLt⟩
  simp [exec, execSectorLiveUnit, hrun, hav, hpick]

theorem sectorLiveUnit_idle (h : domRun s 2 = false ∨ secAvail s c = false ∨ secPick s c = none) :
    Completes (.sectorLiveUnit c err parity si so) s fun t => t = s := by
  refine ⟨s, ?_, rfl⟩
  obtain h | h | h := h <;> simp [exec, execSectorLiveUnit, h]

theorem sectorMemoryUnit_runs {r : SecRun} (hrun : domRun s 2 = true) (hav : secAvail s c = true) (hpick : secPick s c = none)
    (hr : (secCl s c).run = some r) (hdone : r.done = false) (herr : err ≠ .uncorrectable) :
    Completes (.sectorMemoryUnit c err parity si so) s (RanUnit c false si.toNat so.toNat s) := by
  obtain ⟨hcorr, -⟩ := holdsCounts_corrected (c := c) (s := s) (b := decide (err = .corrected))
  obtain ⟨a, u, hu, ht⟩ := counted_secMemory (r := r) (parity := parity.map fun q => (q.1.val, q.2.toNat))
    (s := onlyIf (decide (err = .corrected)) (bump (rSC_CNT c 12) 1) s) (stallIn := si.toNat) (stallOut := so.toNat) c.isLt
  refine ⟨_, ?_, .of_holds (hcorr.trans hu) ranUnit_secCount ht⟩
  cases err
  case uncorrectable => exact absurd rfl herr
  all_goals simp [exec, execSectorMemoryUnit, hrun, hav, hpick, hr, hdone]

theorem sectorMemoryUnit_stops {r : SecRun} (hrun : domRun s 2 = true) (hav : secAvail s c = true) (hpick : secPick s c = none)
    (hr : (secCl s c).run = some r) (hdone : r.done = false) :
    Completes (.sectorMemoryUnit c .uncorrectable parity si so) s (Stopped c) := by
  refine ⟨secBankErr c s, ?_, stopped_secBankErr c.isLt⟩
  simp [exec, execSectorMemoryUnit, hrun, hav, hpick, hr, hdone]

theorem sectorMemoryUnit_idle (h : (secCl s c).run = none) :
    Completes (.sectorMemoryUnit c err parity si so) s fun t => t = s :=
  ⟨s, by simp [exec, execSectorMemoryUnit, h], rfl⟩

end

/-- Settles O25: a unit counts once, and what it does before and after that, at the tee, at the lines' way back and in memory, leaves
the counts of units and stalls; a cluster that an uncorrectable bank has stopped stays so while its contexts lose their splices. -/
theorem sectorUnits : Obligations.SectorUnits := by
  refine ⟨fun c err parity si so s x hrun hav hpick herr => ?_, fun c parity si so s x hrun hav hpick => ?_,
    fun _ _ _ _ _ _ => sectorLiveUnit_idle, fun c err parity si so s r hrun hav hpick hr hdone herr => ?_,
    fun c parity si so s r hrun hav hpick hr hdone => ?_, fun _ _ _ _ _ _ => sectorMemoryUnit_idle⟩
  · obtain ⟨t, ht, hunit, hin, hout, hother⟩ := sectorLiveUnit_runs hrun hav hpick herr
    exact ⟨t, ht, hunit, hin, hout, hother⟩
  · obtain ⟨t, ht, herr, hqueue, hjob⟩ := sectorLiveUnit_stops hrun hav hpick
    exact ⟨t, ht, herr, hqueue, hjob⟩
  · obtain ⟨t, ht, hunit, hin, hout, hother⟩ := sectorMemoryUnit_runs hrun hav hpick hr hdone herr
    exact ⟨t, ht, hunit, hin, hout, hother⟩
  · obtain ⟨t, ht, herr, hqueue, hjob⟩ := sectorMemoryUnit_stops hrun hav hpick hr hdone
    exact ⟨t, ht, herr, hqueue, hjob⟩

end Sys2Proof.Machine

namespace Sys2Proof.Machine

open Sys2Proof

/-! ### A semaphore's count taken (R299) -/

section
variable {n m : Nat} {w : Bool} {s : State}

/-- Taking a count changes the semaphores alone. -/
theorem semTake_eq (n : Nat) (s : State) : ∃ x, semTake n s = { s with sems := x } := by
  unfold semTake
  dsimp only
  split
  exacts [⟨_, rfl⟩, ⟨_, rfl⟩]

theorem count_onlyIf_semTake : (sem (onlyIf w (semTake n) s) n).count = (sem s n).count - b2n w := by
  cases w with
  | false => rfl
  | true =>
    simp only [onlyIf, semTake, if_true]
    split
    next => simp [b2n]
    next h => simp only [b2n]; omega

theorem sem_onlyIf_semTake_other (h : m ≠ n) : sem (onlyIf w (semTake n) s) m = sem s m := by
  cases w with
  | false => rfl
  | true =>
    simp only [onlyIf, semTake, if_true]
    split
    exacts [by rw [sem_setSem, if_neg h], rfl]

end

/-! ### The chain of a memory job moves (R202) -/

section
variable {c h : Nat} {s : State}

/-- The swap of a cluster ends, or stays as it is. -/
theorem swap_secSwapEnd : (secCl (secSwapEnd c s) c).swap = none ∨ (secCl (secSwapEnd c s) c).swap = (secCl s c).swap := by
  unfold secSwapEnd
  split
  · split
    · exact .inl (congrArg SecCl.swap (secCl_setSecCl_same c _ s))
    · exact .inr rfl
  · exact .inr rfl

theorem swap_secChainMove {w : SecSwap} (hw : (secCl (secChainMove c h s) c).swap = some w) : h ∉ w.memLeft := by
  unfold secChainMove at hw
  split at hw
  next x _ =>
    obtain hnone | hsame := swap_secSwapEnd (c := c)
      (s := setSecCl c { secCl s c with swap := some { x with memLeft := x.memLeft.filter (fun k => decide (k ≠ h)) } } s)
    · rw [hnone] at hw
      cases hw
    · rw [hsame, secCl_setSecCl_same] at hw
      cases hw
      simp
  next hnone => rw [hnone] at hw; cases hw

theorem secChainMove_of_swap_none (hs : (secCl s c).swap = none) : secChainMove c h s = s := by
  unfold secChainMove
  rw [hs]

end

/-! ### MJ_START (R198, R202, R299) -/

section
variable {c : Fin 4} {s : State} {m : SecMj} {q : List SecMj}

/-- What MJ_START leaves of the device before the job runs: its count is taken, and it is off the queue. -/
def mjTaken (c : Nat) (m : SecMj) (q : List SecMj) (s : State) : State :=
  setSecCl c { secCl s c with queue := q } (onlyIf m.waitEn (semTake m.waitSem) s)

theorem mjTaken_eq : ∃ x y, mjTaken c m q s = { s with sems := x, secCl := y } := by
  unfold mjTaken onlyIf
  split
  · obtain ⟨x, hx⟩ := semTake_eq m.waitSem s
    rw [hx]
    exact ⟨x, _, rfl⟩
  · exact ⟨s.sems, _, rfl⟩

theorem secCl_mjTaken : secCl (mjTaken c m q s) c = { secCl s c with queue := q } := secCl_setSecCl_same c _ _

theorem execMjStart_runs (h2 : domRun s 2 = true) (ha : secAvail s c = true) (hrun : (secCl s c).run = none)
    (hq : (secCl s c).queue = m :: q) (hsem : m.waitEn = true → (sem s m.waitSem).count ≠ 0) (hch : secMjChainOk s c m = true)
    (hin : secMjBaseOk s c m.inBase = true) (hout : secMjBaseOk s c m.outBase = true) :
    execMjStart c s = .next (secMjStatus c false (secChainMove c m.chain
      (setSecCl c { secCl (mjTaken c m q s) c with run := some { mj := m, bank := secActive s c } } (mjTaken c m q s)))) := by
  have hw : ¬ (m.waitEn = true ∧ (sem s m.waitSem).count = 0) := fun h => hsem h.1 h.2
  obtain ⟨x, y, hxy⟩ := mjTaken_eq (c := c) (m := m) (q := q) (s := s)
  have hch' : secMjChainOk (mjTaken c m q s) c m = true := by rw [hxy]; exact hch
  have hin' : secMjBaseOk (mjTaken c m q s) c m.inBase = true := by rw [hxy]; exact hin
  have hout' : secMjBaseOk (mjTaken c m q s) c m.outBase = true := by rw [hxy]; exact hout
  have hact : secActive (mjTaken c m q s) c = secActive s c := by rw [hxy]; rfl
  unfold execMjStart
  extract_lets k
  rw [if_neg (by simp [h2, ha])]
  split
  next m' q' _ hq' =>
    obtain ⟨rfl, rfl⟩ := List.cons.inj (hq'.symm.trans hq)
    rw [if_neg hw]
    extract_lets s1 s2 why
    have hs2 : s2 = mjTaken c m' q' s := rfl
    have hwhy : why = 0 := by simp [why, hs2, hch', hin', hout']
    rw [if_neg (not_not_intro hwhy), ← hact]
    rfl
  next hno => exact absurd hq (hno m q hrun)

/-- A job that starts runs from the bank in force, off the queue, with its count taken and its chain moved. -/
theorem mjStart_runs (h2 : domRun s 2 = true) (ha : secAvail s c = true) (hrun : (secCl s c).run = none)
    (hq : (secCl s c).queue = m :: q) (hsem : m.waitEn = true → (sem s m.waitSem).count ≠ 0) (hch : secMjChainOk s c m = true)
    (hin : secMjBaseOk s c m.inBase = true) (hout : secMjBaseOk s c m.outBase = true) :
    Completes (.mjStart c) s fun t =>
      (secCl t c).run = some { mj := m, bank := secActive s c } ∧ (secCl t c).queue = q ∧
      (sem t m.waitSem).count = (sem s m.waitSem).count - b2n m.waitEn ∧ (∀ n, n ≠ m.waitSem → sem t n = sem s n) ∧
      t.mem = s.mem ∧ t.secBank = s.secBank ∧
      (∀ w, (secCl t c).swap = some w → ¬ m.chain ∈ w.memLeft) ∧
      ((secCl s c).swap = none → Kept [.secCl, .sems] [rSC_MJ_STATUS c] s t) := by
  refine ⟨_, execMjStart_runs h2 ha hrun hq hsem hch hin hout, ?_⟩
  obtain ⟨x, y, hxy⟩ := mjTaken_eq (c := c) (m := m) (q := q) (s := s)
  have hcl := secCl_mjTaken (c := c) (m := m) (q := q) (s := s)
  have hkept : Kept [.secCl, .sems] [rSC_MJ_STATUS c] s (mjTaken c m q s) := by
    rw [hxy]
    refine (Kept.refl s).update rfl fun p hp => ?_
    cases p
    case secCl => exact absurd (by simp) hp
    case sems => exact absurd (by simp) hp
    all_goals rfl
  set u := setSecCl c { secCl (mjTaken c m q s) c with run := some { mj := m, bank := secActive s c } } (mjTaken c m q s) with hu
  have hstep : SwapStep c u (secChainMove c m.chain u) := .secChainMove
  have hucl : secCl u c = { secCl s c with queue := q, run := some { mj := m, bank := secActive s c } } := by
    rw [hu, secCl_setSecCl_same, hcl]
  have hsems : (secChainMove c m.chain u).sems = u.sems := hstep.kept.1 .sems (by simp)
  have hcount (n : Nat) : sem (secMjStatus c false (secChainMove c m.chain u)) n = sem (onlyIf m.waitEn (semTake m.waitSem) s) n :=
    congrArg (fun l : Tab Sem => tget ({} : Sem) l n) hsems
  refine ⟨?_, ?_, ?_, ?_, ?_, ?_, ?_, ?_⟩
  · exact hstep.run.trans (congrArg SecCl.run hucl)
  · exact hstep.queue.trans (congrArg SecCl.queue hucl)
  · rw [hcount, count_onlyIf_semTake]
  · exact fun n hn => (hcount n).trans (sem_onlyIf_semTake_other hn)
  · exact (hstep.kept.1 .mem (by simp)).trans (hkept.1 .mem (by simp))
  · exact (hstep.kept.1 .secBank (by simp)).trans (hkept.1 .secBank (by simp))
  · exact fun w => swap_secChainMove
  · intro hnone
    rw [secChainMove_of_swap_none (by rw [hucl]; exact hnone)]
    exact .wr (by simp) (hkept.setSecCl (by simp))

/-- A job that waits for a count shows so, and nothing else changes. -/
theorem mjStart_waits (h2 : domRun s 2 = true) (ha : secAvail s c = true) (hrun : (secCl s c).run = none)
    (hq : (secCl s c).queue = m :: q) (hw : m.waitEn = true) (h0 : (sem s m.waitSem).count = 0) :
    Completes (.mjStart c) s fun t => rdB t (rSC_MJ_STATUS c) 6 = true ∧ Kept [] [rSC_MJ_STATUS c] s t := by
  have hexec : execMjStart c s = .next (secMjStatus c true s) := by
    unfold execMjStart
    simp [h2, ha, hrun, hq, hw, h0]
  refine ⟨_, hexec, ?_, kept_secMjStatus⟩
  simp only [secMjStatus, rdB, rd_wr_same]
  rw [bit_setBit (by decide), if_pos rfl]

theorem mjStart_idle (h : domRun s 2 = false ∨ secAvail s c = false ∨ (secCl s c).run.isSome = true ∨ (secCl s c).queue = []) :
    Completes (.mjStart c) s fun t => t = s := by
  refine ⟨s, ?_, rfl⟩
  change execMjStart c s = _
  unfold execMjStart
  extract_lets k
  split
  · rfl
  next hrun =>
    split
    next m q hr hq =>
      simp only [Bool.not_eq_true', not_or, Bool.not_eq_false] at hrun
      obtain h | h | h | h := h
      · simp [hrun.1] at h
      · simp [hrun.2] at h
      · simp [show (secCl s c).run = none from hr] at h
      · simp [show (secCl s c).queue = m :: q from hq] at h
    · rfl

/-! ### MJ_COMPLETE (R198) -/

theorem mjComplete_ends {r : SecRun} (h2 : domRun s 2 = true) (hrun : (secCl s c).run = some r) (hdone : r.done = true) :
    Completes (.mjComplete c) s fun t =>
      (secCl t c).run = none ∧ t.mem = s.mem ∧ (r.mj.signalEn = false → t.sems = s.sems) ∧
      (r.mj.signalEn = true → (sem t r.mj.signalSem).count = min 65535 ((sem s r.mj.signalSem).count + 1)) := by
  set u := secMjStatus c false (setSecCl c { secCl s c with run := none } s) with hu
  have hexec : execMjComplete c s = .next (onlyIf r.mj.signalEn (semRelease r.mj.signalSem 1) (secMemMove c u)) := by
    unfold execMjComplete
    rw [hrun]
    exact if_neg (by simp [h2, hdone])
  have hstep : SwapStep c u (secMemMove c u) := .secMemMove
  have hidle : (secCl (secMemMove c u) c).run = none := hstep.run.trans (congrArg SecCl.run (secCl_setSecCl_same c _ s))
  have hsems : (secMemMove c u).sems = s.sems := hstep.kept.1 .sems (by simp)
  have hmem : (secMemMove c u).mem = s.mem := hstep.kept.1 .mem (by simp)
  have hQ : AccessStable fun t : State => t.mem = s.mem ∧ (secCl t c).run = none :=
    { wrAccess := fun _ => id, pcie := id, fault := id, irq := id, units := id }
  refine ⟨_, hexec, ?_⟩
  cases hsig : r.mj.signalEn with
  | false => exact ⟨hidle, hmem, fun _ => hsems, by simp⟩
  | true =>
    obtain ⟨hm, hr⟩ := hQ.semRelease (n := r.mj.signalSem) (k := 1) ⟨hmem, hidle⟩
    refine ⟨hr, hm, by simp, fun _ => ?_⟩
    rw [onlyIf, if_pos rfl, sem_semRelease, if_pos rfl, sem, hsems, ← sem]

theorem mjComplete_idle (h : domRun s 2 = false ∨ ∀ r, (secCl s c).run = some r → r.done = false) :
    Completes (.mjComplete c) s fun t => t = s := by
  refine ⟨s, ?_, rfl⟩
  change execMjComplete c s = _
  unfold execMjComplete
  split
  · rfl
  next r hr => exact if_pos (h.imp (by simp +contextual) fun h => by simp [h r hr])

end
end Sys2Proof.Machine

namespace Sys2Proof.Machine

open Sys2Proof

/-! ### What a read of memory returns (R286 to R290, R299, R417)

What a read returns rests on the memory, its marks, the semaphores and registers of blocks other than the Sector engine. -/

theorem memBytes_congr {s t : State} (h : t.mem = s.mem) (a n : Nat) : memBytes t a n = memBytes s a n := by
  induction n generalizing a with
  | zero => rfl
  | succ n ih => rw [memBytes, memBytes, ih, memByte, h, ← memByte]

/-- A weight word reported uncorrectable leaves the bytes and the marks. -/
theorem marks_wmUncorrectable (p a : Nat) (s : State) :
    (wmUncorrectable p a s).mem = s.mem ∧ (wmUncorrectable p a s).poison = s.poison := by
  have hQ : EventStable fun t : State => t.mem = s.mem ∧ t.poison = s.poison :=
    { wrEvent := fun _ => id, pcie := id, fault := id, irq := id }
  exact onlyIf_stable (Q := fun t : State => t.mem = s.mem ∧ t.poison = s.poison)
    (hQ.raiseEvt (show 82 < 256 by decide) (show evtClass 82 ≠ 3 by decide)) ⟨rfl, rfl⟩

/-- A read through a port: unowned banks return zeros marked poisoned, the others their bytes and marks. -/
theorem portRead_fst (p a len : Nat) (s : State) : (portRead p a len .none s).1 =
    if !ownsAll s p a len then { data := zeros len, poison := true }
    else { data := memBytes s a len, poison := poisonedIn s a len } := by
  have hnone : memErrEffect p a .none s = s := by simp [memErrEffect]
  unfold portRead
  rw [hnone]
  split
  · rfl
  · split
    next hwm =>
      have hkept := forAll_stable (Q := fun t : State => t.mem = s.mem ∧ t.poison = s.poison)
        (l := (unitsOf s a len).filter (fun u => tget false s.poison u.1)) (f := fun u s => wmUncorrectable p u.1 s)
        (fun {u t} _ h => ⟨(marks_wmUncorrectable p u.1 t).1.trans h.1, (marks_wmUncorrectable p u.1 t).2.trans h.2⟩) ⟨rfl, rfl⟩
      have hreg : regionOf a = .wm := by
        unfold memNo at hwm
        split at hwm
        next h => exact h
        all_goals simp at hwm
      have hunits (t : State) : unitsOf t a len = unitsOf s a len := by simp only [unitsOf, poisonUnit, hreg]
      dsimp only
      rw [memBytes_congr hkept.1, poisonedIn, hunits, hkept.2, ← poisonedIn]
    next => rfl

theorem dramRead_fst (k a len : Nat) (s : State) :
    (dramRead k a len s).1 = { data := memBytes s a len, poison := !(dramBadUnits s a len).isEmpty } := by
  have hQ : AccessStable fun t : State => t.mem = s.mem :=
    { wrAccess := fun _ => id, pcie := id, fault := id, irq := id, units := id }
  have hmem : (dramRead k a len s).2.mem = s.mem := hQ.dramRead rfl
  exact congrArg (fun d => ({ data := d, poison := !(dramBadUnits s a len).isEmpty } : Rd)) (memBytes_congr hmem a len)

theorem regionDom_lt (a : Nat) : regionDom a < 8 := by
  unfold regionDom
  split <;> decide

/-- Outside the Sector engine, state `t` reads as `s`. -/
structure SameOutside (s t : State) : Prop where
  mem : t.mem = s.mem
  poison : t.poison = s.poison
  sems : t.sems = s.sems
  boot : t.boot = s.boot
  power : t.power = s.power
  regs : ∀ {o}, o < 0x2000000 ∨ 0x3000000 ≤ o → rd t o = rd s o

namespace SameOutside

section
variable {s t : State} (h : SameOutside s t)
include h

theorem bankAvail (i : Nat) : bankAvail t i = bankAvail s i := by
  simp only [Machine.bankAvail, rdB, h.regs (o := rDEV_BANK_WM) (.inl (by decide)), h.regs (o := rDEV_BANK_AM_LO) (.inl (by decide)),
    h.regs (o := rDEV_BANK_AM_HI) (.inl (by decide)), h.regs (o := rDEV_BANK_PS) (.inl (by decide))]

theorem ownsBank (p a : Nat) : ownsBank t p a = ownsBank s p a := by
  have howner (i : Nat) : rd t (rSP_OWNER i) = rd s (rSP_OWNER i) := h.regs (.inr (by simp only [rSP_OWNER]; omega))
  simp only [Machine.ownsBank, h.bankAvail, rdB, howner]

theorem decodes (a : Nat) : decodes t a = decodes s a := by
  have hcap (n : Nat) : lanternActive t n = lanternActive s n := by
    rw [lanternActive, rdB, h.regs (.inl (by decide)), ← rdB, ← lanternActive]
  have husable : rdF t rDDR_USABLE 16 0 = rdF s rDDR_USABLE 16 0 := by rw [rdF, h.regs (.inr (by decide)), ← rdF]
  unfold Machine.decodes
  simp only [h.bankAvail, hcap]
  rw [husable]

theorem decodesAll (a len : Nat) : decodesAll t a len = decodesAll s a len := by
  simp only [Machine.decodesAll, h.decodes]

theorem domOk {d : Nat} (hd : d < 8) : domOk t d = domOk s d := by
  have hstate : domState t d = domState s d := by
    rw [domState, rdF, h.regs (.inl (by simp only [rFLT_DOM]; omega)), ← rdF, ← domState]
  rw [Machine.domOk, d0InReset, h.boot, hstate, h.power, ← d0InReset, ← Machine.domOk]

theorem eccOn : rdB t rDDR_CFG 16 = rdB s rDDR_CFG 16 := by rw [rdB, h.regs (.inr (by decide)), ← rdB]

theorem poisonedIn (a len : Nat) : poisonedIn t a len = poisonedIn s a len := by
  rw [Machine.poisonedIn, unitsOf, poisonUnit, h.eccOn, h.poison, ← poisonUnit, ← unitsOf, ← Machine.poisonedIn]

theorem semWords (a k : Nat) : (semWords a k t).1 = (semWords a k s).1 := by
  suffices ∀ {s t : State}, t.sems = s.sems → (Machine.semWords a k t).1 = (Machine.semWords a k s).1 from this h.sems
  intro s t hsems
  induction k generalizing a s t with
  | zero => rfl
  | succ k ih =>
    have hsem (n : Nat) : sem t n = sem s n := by rw [sem, hsems, ← sem]
    have hword : (semWordRead a t).1 = (semWordRead a s).1 ∧ (semWordRead a t).2.sems = (semWordRead a s).2.sems := by
      unfold semWordRead
      simp only [hsem]
      split
      · exact ⟨rfl, hsems⟩
      · refine ⟨rfl, ?_⟩
        simp only [semTake, hsem]
        split
        exacts [congrArg (tput _ · _ _) hsems, hsems]
      · exact ⟨rfl, hsems⟩
      · exact ⟨rfl, hsems⟩
    rw [Machine.semWords, Machine.semWords, hword.1, ih _ hword.2]

/-- An agent's read returns the same. -/
theorem devRead (g : Agent) (a len : Nat) : (devRead g a len t).1 = (devRead g a len s).1 := by
  have howns : ownsAll t g.port a len = ownsAll s g.port a len := by simp only [ownsAll, h.ownsBank]
  have hport : (portRead g.port a len .none t).1 = (portRead g.port a len .none s).1 := by
    rw [portRead_fst, portRead_fst, howns, memBytes_congr h.mem, h.poisonedIn]
  have hbad : dramBadUnits t a len = dramBadUnits s a len := by
    rw [dramBadUnits, h.eccOn, h.poison, ← dramBadUnits]
  have hdram : (dramRead g.cls a len t).1 = (dramRead g.cls a len s).1 := by
    rw [dramRead_fst, dramRead_fst, hbad, memBytes_congr h.mem]
  unfold Machine.devRead
  rw [h.decodesAll, h.domOk (regionDom_lt a)]
  split
  · rfl
  · split
    · rfl
    · split
      · exact hport
      · exact hport
      · exact hport
      · exact hdram
      · exact congrArg (fun d => ({ data := d } : Rd)) (memBytes_congr h.mem a len)
      · exact congrArg (fun d => ({ data := d } : Rd)) (memBytes_congr h.mem a len)
      · unfold semRead
        split
        exacts [congrArg (fun d => ({ data := d } : Rd)) (h.semWords a _), rfl]
      all_goals rfl

end

end SameOutside

end Sys2Proof.Machine

namespace Sys2Proof.Machine

open Sys2Proof

/-! ### Writes of a pair (R64, R68, R74) -/

section
variable {i : Iface} {off : Nat} {v : Word} {eff : State → State × Bool} {s : State}

/-- A write that the gate lets through to the HI half of a pair does its effect, and both halves are recorded. -/
theorem logOnly_gatedWrite_pair (hg : gate i true off s = .open) (hrow : (regAt off).isSome) (hhalf : halfAt off = 2) :
    LogOnly (eff (answer [] s)).1 (gatedWrite i off v eff s) := by
  have hnone : ¬ ((regAt off).isNone = true ∧ (inForceOf off).isNone = true) := by
    rw [Option.isNone_iff_eq_none]
    rintro ⟨h, -⟩
    simp [h] at hrow
  simp only [gatedWrite, hg, hhalf]
  rw [if_neg hnone, if_neg (by decide), if_pos trivial]
  exact (LogOnly.refl _).logWrite.logWrite

/-- A pair that holds no count takes its halves each for itself. -/
theorem pairEffect_halves {lo : Word} {r : RegRow} {ix : List Nat} (hrow : regAt off = some (r, ix)) (hcnt : r.cnt = 0) :
    (pairEffect i off lo v .none s).1 = (plainEffect i off v .none (plainEffect i (off - 4) lo .none s).1).1 := by
  simp only [pairEffect, hrow, hcnt, ne_eq, not_true_eq_false, decide_false, Bool.false_eq_true, if_false]
  rfl

/-- What a write leaves in a register whose fields are all plainly writable or not writable. -/
theorem writeValue_rw {r : RegRow} {wraps act : Bool} {old v : Word}
    (hr : r.cnt = 0 ∧ r.rwh = 0 ∧ r.w1c = 0 ∧ r.w1s = 0) :
    (writeValue r wraps act old v .none).1 = (old &&& ~~~ w32 r.rw) ||| (v &&& w32 r.rw) := by
  obtain ⟨hcnt, hrwh, hw1c, hw1s⟩ := hr
  simp [writeValue, hcnt, hrwh, hw1c, hw1s, coSets, coClears, coValue, w32]

end

/-! ### Plain effects of a write in the Sector engine (R68) -/

/-- A register of the block of the Sector engine. -/
def SectorReg (o : Nat) : Prop := 0x2000000 ≤ o ∧ o < 0x3000000

/-- No unit hides a register of the Sector engine, and none is in a shadow group: a plain write stores the value of its access
types. -/
theorem plainEffect_sector {i : Iface} {off : Nat} {v : Word} {s : State} {r : RegRow} {ix : List Nat}
    (hrow : regAt off = some (r, ix)) (hr : r.shadowed = false) (ho : SectorReg off) :
    (plainEffect i off v .none s).1 = wr off (writeValue r (cntWraps r ix) (ownerActive i r ix s) (rd s off) v .none).1 s := by
  obtain ⟨hlo, hhi⟩ := ho
  have hsh : shadowCtrlOf off = none := by simp [shadowCtrlOf, hrow, hr]
  have hz : deadZ s off = false := by
    have : ¬ (rMEAS_Z 0 0 ≤ off ∧ off < rSTAT_CFG 16) := by
      simp only [rMEAS_Z, rSTAT_CFG]
      omega
    simp [deadZ, this]
  have hpage : ifOfPage off = none := by
    refine List.find?_eq_none.mpr fun k _ => ?_
    have : ¬ (ifPage k ≤ off ∧ off < ifPage k + 0x60) := by
      unfold ifPage
      split
      · simp only [rMGMT_IF_STATUS]; omega
      · simp only [rETH_IF_STATUS]; omega
    simpa using this
  exact plainEffect_row hrow hsh hz (by rw [deadIf, hpage])

/-- A register of which software writes the low half holds there what was written. -/
theorem toNat_low_half {old v : Word} :
    (old &&& ~~~w32 0xffff ||| v &&& w32 0xffff).toNat % 2 ^ 16 = v.toNat % 2 ^ 16 := by
  have hmask : ∀ k : Fin 16, (w32 0xffff)[k.val] = true := by decide
  have hlow : (old &&& ~~~w32 0xffff ||| v &&& w32 0xffff).setWidth 16 = v.setWidth 16 := by
    refine BitVec.eq_of_getLsbD_eq fun k hk => ?_
    simp [hk, show k < 32 by omega, hmask ⟨k, hk⟩]
  simpa only [BitVec.toNat_setWidth] using congrArg BitVec.toNat hlow

/-! ### The write of SC_MJ_PUSH (R64, R198, R209) -/

section
variable {i : Iface} {c : Fin 4} {lo hi : Word} {s : State}

theorem regAt_mjPushLo : ∀ c : Fin 4, regAt (rSC_MJ_PUSH_LO c) =
    some ({ base := 0x2010010, dims := [(4, 0x1000)], rst := 0x0, rw := 0xffffffff, quiet := true, half := 1 }, [c.val]) := by
  decide

theorem regAt_mjPushHi : ∀ c : Fin 4, regAt (rSC_MJ_PUSH_HI c) =
    some ({ base := 0x2010014, dims := [(4, 0x1000)], rst := 0x0, rw := 0xffff, quiet := true, half := 2 }, [c.val]) := by
  decide

theorem halfAt_mjPushHi : halfAt (rSC_MJ_PUSH_HI c) = 2 := by rw [halfAt, regAt_mjPushHi]

/-- The two halves of SC_MJ_PUSH. -/
def pushRegs (c : Nat) : List Nat := [rSC_MJ_PUSH_LO c, rSC_MJ_PUSH_HI c]

/-- The state in which a memory job is judged: SC_MJ_PUSH holds its address. -/
theorem pairEffect_mjPush : ∃ x,
    (pairEffect i (rSC_MJ_PUSH_HI c) lo hi .none s).1 = wr (rSC_MJ_PUSH_HI c) x (wr (rSC_MJ_PUSH_LO c) lo s) ∧
      x.toNat % 2 ^ 16 = hi.toNat % 2 ^ 16 := by
  have hlo : rSC_MJ_PUSH_HI c - 4 = rSC_MJ_PUSH_LO c := by simp only [rSC_MJ_PUSH_HI, rSC_MJ_PUSH_LO]; omega
  have hreg : SectorReg (rSC_MJ_PUSH_LO c) ∧ SectorReg (rSC_MJ_PUSH_HI c) := by
    simp only [SectorReg, rSC_MJ_PUSH_LO, rSC_MJ_PUSH_HI]
    omega
  have hall (old : Word) : old &&& ~~~w32 0xffffffff ||| lo &&& w32 0xffffffff = lo := by
    have hlo : lo &&& 0xffffffff#32 = lo := BitVec.and_allOnes
    simp [w32, hlo]
  rw [pairEffect_halves (regAt_mjPushHi c) rfl, hlo, plainEffect_sector (regAt_mjPushHi c) rfl hreg.2,
    plainEffect_sector (regAt_mjPushLo c) rfl hreg.1, writeValue_rw ⟨rfl, rfl, rfl, rfl⟩, writeValue_rw ⟨rfl, rfl, rfl, rfl⟩]
  dsimp only
  rw [hall]
  exact ⟨_, rfl, toNat_low_half⟩

/-- The address of a memory job is the one that was written. -/
theorem rd64_mjPush {x : Word} (hx : x.toNat % 2 ^ 16 = hi.toNat % 2 ^ 16) :
    rd64 (wr (rSC_MJ_PUSH_HI c) x (wr (rSC_MJ_PUSH_LO c) lo s)) (rSC_MJ_PUSH_LO c) % 2 ^ 48 =
      (lo.toNat + 2 ^ 32 * hi.toNat) % 2 ^ 48 := by
  have hne : rSC_MJ_PUSH_LO c ≠ rSC_MJ_PUSH_HI c := by simp only [rSC_MJ_PUSH_HI, rSC_MJ_PUSH_LO]; omega
  have hhi : rSC_MJ_PUSH_LO c + 4 = rSC_MJ_PUSH_HI c := by simp only [rSC_MJ_PUSH_HI, rSC_MJ_PUSH_LO]; omega
  rw [rd64, hhi, rdn, rdn, rd_wr_same, rd_wr_other _ _ _ _ hne, rd_wr_same]
  omega

end

/-! ### What a memory job is judged by (R197 to R199) -/

theorem le_of_regionOf_am {a : Nat} (h : regionOf a = .am) : a ≤ 0x143FFFFFF := by
  by_contra hlt
  have h1 : ¬ (a ≤ 0x0FFFFFFF) := by omega
  have h2 : ¬ (0x100000000 ≤ a ∧ a ≤ 0x101FFFFFF) := by omega
  have h3 : ¬ (0x140000000 ≤ a ∧ a ≤ 0x143FFFFFF) := by omega
  rw [regionOf, if_neg h1, if_neg h2, if_neg h3] at h
  dsimp only at h
  split_ifs at h

/-- From `s` to `t` memory, banks and clusters stay; of the registers only SC_MJ_PUSH of cluster `c` and those that a read of
memory or an event writes may have changed. -/
structure Fetched (c : Nat) (s t : State) : Prop where
  mem : t.mem = s.mem
  cl : t.secCl = s.secCl
  bank : t.secBank = s.secBank
  regs : ∀ {o}, ¬ AccessReg o → o ∉ pushRegs c → rd t o = rd s o

namespace Fetched

section
variable {c : Nat} {s t : State}

theorem accessStable (c : Nat) (s : State) : AccessStable (Fetched c s) where
  wrAccess := fun ho h => { h with regs := fun hq hne => (rd_wr_other _ _ _ _ (by rintro rfl; exact hq ho)).trans (h.regs hq hne) }
  pcie := fun h => { h with }
  fault := fun h => { h with }
  irq := fun h => { h with }
  units := fun h => { h with }

variable (h : Fetched c s t)
include h

theorem rd_bank {o : Nat} (ho : o < 0x400000) : rd t o = rd s o := by
  refine h.regs (by simp only [AccessReg]; omega) ?_
  simp only [pushRegs, rSC_MJ_PUSH_LO, rSC_MJ_PUSH_HI, List.mem_cons, List.not_mem_nil, or_false]
  omega

theorem secActive (hc : c < 4) : secActive t c = secActive s c := by
  have hst : rd t (rSC_STATUS c) = rd s (rSC_STATUS c) := by
    refine h.regs (by simp only [AccessReg, rSC_STATUS, rSP_OWNER]; omega) ?_
    simp only [pushRegs, rSC_STATUS, rSC_MJ_PUSH_LO, rSC_MJ_PUSH_HI, List.mem_cons, List.not_mem_nil, or_false]
    omega
  rw [Machine.secActive, rdB, hst, ← rdB, ← Machine.secActive]

theorem secNum (b : Nat) : secNum t c b = secNum s c b := by
  have hbyte (k : Nat) : secByte t c b k = secByte s c b k := by rw [secByte, h.bank, ← secByte]
  unfold Machine.secNum secBytes
  simp only [hbyte]

theorem secMjChainOk (hc : c < 4) (m : SecMj) : secMjChainOk t c m = secMjChainOk s c m := by
  rw [Machine.secMjChainOk, h.secActive hc, h.secNum, secLen, h.secNum, ← secLen, ← Machine.secMjChainOk]

theorem secMjBaseOk (hc : c < 4) (a : Nat) : secMjBaseOk t c a = secMjBaseOk s c a := by
  by_cases ham : regionOf a = .am
  · have hbank (i : Nat) : bankAvail t i = bankAvail s i := by
      simp only [bankAvail, rdB, h.rd_bank (o := rDEV_BANK_WM) (by decide), h.rd_bank (o := rDEV_BANK_AM_LO) (by decide),
        h.rd_bank (o := rDEV_BANK_AM_HI) (by decide), h.rd_bank (o := rDEV_BANK_PS) (by decide)]
    have howner : rd t (rSP_OWNER (32 + (a - amBase) / 0x100000)) = rd s (rSP_OWNER (32 + (a - amBase) / 0x100000)) := by
      have hle := le_of_regionOf_am ham
      refine h.regs (by simp only [AccessReg, rSP_OWNER, amBase]; omega) ?_
      simp only [pushRegs, rSP_OWNER, amBase, rSC_MJ_PUSH_LO, rSC_MJ_PUSH_HI, List.mem_cons, List.not_mem_nil, or_false]
      omega
    simp only [Machine.secMjBaseOk, decodes, ownsBank, bankEntry, ham, hbank, rdB, howner]
  · simp [Machine.secMjBaseOk, ham]

theorem secMjReason (hc : c < 4) (b : List Byte) : secMjReason t c b = secMjReason s c b := by
  unfold Machine.secMjReason
  dsimp only
  rw [h.secMjChainOk hc, h.secMjBaseOk hc, h.secMjBaseOk hc]

end

end Fetched

end Sys2Proof.Machine

namespace Sys2Proof.Machine

open Sys2Proof

/-! ### MJ_PUSH (R198, R199) -/

section
variable {ifc : Iface} {c : Fin 4} {hi : Word} {s : State}

/-- The write of SC_MJ_PUSH, when the descriptor is about to be read. -/
def pushed (ifc : Iface) (c : Fin 4) (hi : Word) (s : State) : State :=
  (pairEffect ifc (rSC_MJ_PUSH_HI c) (latch (answer [] s) ifc (rSC_MJ_PUSH_LO c)) hi .none (answer [] s)).1

theorem pushed_eq : ∃ x, pushed ifc c hi s =
    wr (rSC_MJ_PUSH_HI c) x (wr (rSC_MJ_PUSH_LO c) (latch s ifc (rSC_MJ_PUSH_LO c)) (answer [] s)) ∧
      x.toNat % 2 ^ 16 = hi.toNat % 2 ^ 16 := pairEffect_mjPush

theorem kept_pushed : Kept [.resp] (pushRegs c) s (pushed ifc c hi s) := by
  obtain ⟨x, hx, -⟩ := pushed_eq (ifc := ifc) (c := c) (hi := hi) (s := s)
  rw [hx]
  refine .wr (by simp [pushRegs]) (.wr (by simp [pushRegs]) ((Kept.refl s).update rfl fun p hp => ?_))
  cases p
  case resp => exact absurd (by simp) hp
  all_goals rfl

theorem sameOutside_pushed : SameOutside s (pushed ifc c hi s) := by
  have h := kept_pushed (ifc := ifc) (c := c) (hi := hi) (s := s)
  refine ⟨h.1 .mem (by decide), h.1 .poison (by decide), h.1 .sems (by decide), h.1 .boot (by decide), h.1 .power (by decide),
    fun ho => h.2 _ ?_⟩
  simp only [pushRegs, rSC_MJ_PUSH_LO, rSC_MJ_PUSH_HI, List.mem_cons, List.not_mem_nil, or_false]
  omega

/-- What MJ_PUSH has read the descriptor from. -/
theorem fetched_pushed {a : Nat} : Fetched c s (devRead (secAgent c) a 64 (pushed ifc c hi s)).2 := by
  have h := kept_pushed (ifc := ifc) (c := c) (hi := hi) (s := s)
  exact (Fetched.accessStable c s).devRead
    ⟨h.1 .mem (by decide), h.1 .secCl (by decide), h.1 .secBank (by decide), fun _ ho => h.2 _ ho⟩

/-- MJ_PUSH judges the job at the address written; then the write is recorded. -/
theorem logOnly_mjPush (hg : gate ifc true (rSC_MJ_PUSH_HI c) s = .open) {a : Nat}
    (ha : a = ((latch s ifc (rSC_MJ_PUSH_LO c)).toNat + 2 ^ 32 * hi.toNat) % 2 ^ 48) :
    LogOnly (secMjPush c a (pushed ifc c hi s)) (gatedWrite ifc (rSC_MJ_PUSH_HI c) hi (mjPushEffect ifc c hi) s) := by
  have hl := logOnly_gatedWrite_pair (v := hi) (eff := mjPushEffect ifc c hi) hg (by rw [regAt_mjPushHi]; rfl) halfAt_mjPushHi
  obtain ⟨x, hx, hlow⟩ := pushed_eq (ifc := ifc) (c := c) (hi := hi) (s := s)
  have haddr : rd64 (pushed ifc c hi s) (rSC_MJ_PUSH_LO c) % 2 ^ 48 = a := by rw [hx, rd64_mjPush hlow, ha]
  have heff : (mjPushEffect ifc c hi (answer [] s)).1 = secMjPush c a (pushed ifc c hi s) := by
    rw [mjPushEffect, ← pushed, haddr]
  rwa [heff] at hl

theorem mjPush_queues {a : Nat} (hg : gate ifc true (rSC_MJ_PUSH_HI c) s = .open)
    (ha : a = ((latch s ifc (rSC_MJ_PUSH_LO c)).toNat + 2 ^ 32 * hi.toNat) % 2 ^ 48) (hq : (secCl s c).queue.length < 16)
    (herr : (devRead (secAgent c) a 64 s).1.err = false) (hpois : (devRead (secAgent c) a 64 s).1.poison = false)
    (h64 : a % 64 = 0) (hwhy : secMjReason s c (devRead (secAgent c) a 64 s).1.data = 0) :
    Completes (.mjPush ifc c hi) s fun t =>
      (secCl t c).queue = (secCl s c).queue ++ [secMjParse a (devRead (secAgent c) a 64 s).1.data] ∧
      (secCl t c).run = (secCl s c).run ∧ t.mem = s.mem ∧ t.secBank = s.secBank := by
  obtain ⟨hp, -, -⟩ := logOnly_mjPush hg ha
  have hread : (devRead (secAgent c) a 64 (pushed ifc c hi s)).1 = (devRead (secAgent c) a 64 s).1 := sameOutside_pushed.devRead ..
  have hf : Fetched c s (devRead (secAgent c) a 64 (pushed ifc c hi s)).2 := fetched_pushed
  set u := (devRead (secAgent c) a 64 (pushed ifc c hi s)).2 with hu
  have hcl : secCl u c = secCl s c := by rw [secCl, hf.cl, ← secCl]
  have hpush : secMjPush c a (pushed ifc c hi s) = secMjStatus c (rdB u (rSC_MJ_STATUS c) 6)
      (setSecCl c { secCl s c with queue := (secCl s c).queue ++ [secMjParse a (devRead (secAgent c) a 64 s).1.data] } u) := by
    unfold secMjPush
    dsimp only
    rw [hread, ← hu, hcl, hf.secMjReason c.isLt, if_neg (show ¬ 16 ≤ (secCl s c).queue.length by omega)]
    simp [herr, hpois, h64, hwhy]
  rw [hpush] at hp
  have hnew : (secCl (gatedWrite ifc (rSC_MJ_PUSH_HI c) hi (mjPushEffect ifc c hi) s) c) =
      ({ secCl s c with queue := (secCl s c).queue ++ [secMjParse a (devRead (secAgent c) a 64 s).1.data] } : SecCl) := by
    rw [secCl, hp .secCl (by decide), ← secCl]
    exact secCl_setSecCl_same c _ u
  refine ⟨_, rfl, ?_, ?_, ?_, ?_⟩
  · rw [hnew]
  · rw [hnew]
  · exact (hp .mem (by decide)).trans hf.mem
  · exact (hp .secBank (by decide)).trans hf.bank

/-- The registers in which a cluster reports a refused memory job. -/
theorem refusalRegs_apart {o : Nat} (ho : o = rSC_MJ_STATUS c ∨ o = rSC_CNT c 9) : ¬ AccessReg o ∧ o ∉ pushRegs c := by
  simp only [AccessReg, pushRegs, rSC_MJ_STATUS, rSC_CNT, rSP_OWNER, rSC_MJ_PUSH_LO, rSC_MJ_PUSH_HI, List.mem_cons,
    List.not_mem_nil, or_false] at ho ⊢
  omega

/-- A refused job shows its reason and is counted; the queue and the memory stay. -/
theorem secMjRefuse_spec {a why : Nat} {j : Option JobRef} (hwhy : why < 16) :
    (secMjRefuse c a why j s).mem = s.mem ∧ (secMjRefuse c a why j s).secCl = s.secCl ∧
      rdF (secMjRefuse c a why j s) (rSC_MJ_STATUS c) 11 8 = why ∧ rdB (secMjRefuse c a why j s) (rSC_MJ_STATUS c) 7 = true ∧
      rdn (secMjRefuse c a why j s) (rSC_CNT c 9) = satN 32 (rdn s (rSC_CNT c 9) + 1) := by
  set v := wr64 (rSC_MJ_ERR_ADDR_LO c) a
    (wr (rSC_MJ_STATUS c) (setBit (setFld (rd s (rSC_MJ_STATUS c)) 11 8 why) 7 true) s) with hv
  have hQ := Fetched.accessStable c (bump (rSC_CNT c 9) 1 v)
  have hf : Fetched c (bump (rSC_CNT c 9) 1 v) (secMjRefuse c a why j s) :=
    hQ.secSignal (hQ.events.raiseJob (fun h => { h with }) (show 66 < 256 by decide) ⟨rfl, rfl, rfl, fun _ _ => rfl⟩).2
  have hreg {o : Nat} (ho : o = rSC_MJ_STATUS c ∨ o = rSC_CNT c 9) :
      rd (secMjRefuse c a why j s) o = rd (bump (rSC_CNT c 9) 1 v) o :=
    hf.regs (refusalRegs_apart ho).1 (refusalRegs_apart ho).2
  have hst : rd (secMjRefuse c a why j s) (rSC_MJ_STATUS c) = setBit (setFld (rd s (rSC_MJ_STATUS c)) 11 8 why) 7 true := by
    have h1 : rSC_MJ_STATUS c ≠ rSC_CNT c 9 := by simp only [rSC_MJ_STATUS, rSC_CNT]; omega
    have h2 : rSC_MJ_STATUS c ≠ rSC_MJ_ERR_ADDR_LO c + 4 := by simp only [rSC_MJ_STATUS, rSC_MJ_ERR_ADDR_LO]; omega
    have h3 : rSC_MJ_STATUS c ≠ rSC_MJ_ERR_ADDR_LO c := by simp only [rSC_MJ_STATUS, rSC_MJ_ERR_ADDR_LO]; omega
    rw [hreg (.inl rfl), bump, rd_wrn, if_neg h1, hv, wr64, rd_wrn, if_neg h2, rd_wrn, if_neg h3, rd_wr_same]
  have hcnt : rdn v (rSC_CNT c 9) = rdn s (rSC_CNT c 9) := by
    have h1 : rSC_CNT c 9 ≠ rSC_MJ_STATUS c := by simp only [rSC_MJ_STATUS, rSC_CNT]; omega
    have h2 : rSC_CNT c 9 ≠ rSC_MJ_ERR_ADDR_LO c + 4 := by simp only [rSC_CNT, rSC_MJ_ERR_ADDR_LO]; omega
    have h3 : rSC_CNT c 9 ≠ rSC_MJ_ERR_ADDR_LO c := by simp only [rSC_CNT, rSC_MJ_ERR_ADDR_LO]; omega
    rw [rdn, hv, wr64, rd_wrn, if_neg h2, rd_wrn, if_neg h3, rd_wr_other _ _ _ _ h1, ← rdn]
  refine ⟨hf.mem, hf.cl, ?_, ?_, ?_⟩
  · rw [rdF, hst, fld_setBit_low (by decide) (by decide), fld_setFld (by decide)]
    exact Nat.mod_eq_of_lt hwhy
  · rw [rdB, hst, bit_setBit (by decide), if_pos rfl]
  · rw [rdn, hreg (.inr rfl), ← rdn, rdn_bump_same, hcnt]

/-- With its queue full a cluster refuses the job, whatever the descriptor holds. -/
theorem mjPush_full (hg : gate ifc true (rSC_MJ_PUSH_HI c) s = .open) (hq : 16 ≤ (secCl s c).queue.length) :
    Completes (.mjPush ifc c hi) s fun t =>
      t.secCl = s.secCl ∧ rdF t (rSC_MJ_STATUS c) 11 8 = 1 ∧ rdB t (rSC_MJ_STATUS c) 7 = true ∧
      rdn t (rSC_CNT c 9) = satN 32 (rdn s (rSC_CNT c 9) + 1) ∧ t.mem = s.mem := by
  obtain ⟨hp, -, hr⟩ := logOnly_mjPush (hi := hi) hg rfl
  set a := ((latch s ifc (rSC_MJ_PUSH_LO c)).toNat + 2 ^ 32 * hi.toNat) % 2 ^ 48
  have hf : Fetched c s (devRead (secAgent c) a 64 (pushed ifc c hi s)).2 := fetched_pushed
  have hcl : (secCl (devRead (secAgent c) a 64 (pushed ifc c hi s)).2 c).queue = (secCl s c).queue := by rw [secCl, hf.cl, ← secCl]
  obtain ⟨j, hpush⟩ : ∃ j, secMjPush c a (pushed ifc c hi s) =
      secMjRefuse c a 1 j (devRead (secAgent c) a 64 (pushed ifc c hi s)).2 := by
    unfold secMjPush
    dsimp only
    rw [hcl, if_pos hq, if_pos (by decide)]
    exact ⟨_, rfl⟩
  obtain ⟨hm, hcl, hwhy, href, hcnt⟩ := secMjRefuse_spec (c := c) (s := (devRead (secAgent c) a 64 (pushed ifc c hi s)).2)
    (a := a) (why := 1) (j := j) (by decide)
  rw [hpush] at hp hr
  have hst := hr (rSC_MJ_STATUS c) (isLogReg_meas (by simp only [rSC_MJ_STATUS]; omega))
  have h9 := hr (rSC_CNT c 9) (isLogReg_meas (by simp only [rSC_CNT]; omega))
  refine ⟨_, rfl, ?_, ?_, ?_, ?_, ?_⟩
  · exact (hp .secCl (by decide)).trans (hcl.trans hf.cl)
  · rw [rdF, hst, ← rdF, hwhy]
  · rw [rdB, hst, ← rdB, href]
  · rw [rdn, h9, ← rdn, hcnt, rdn, hf.regs (refusalRegs_apart (.inr rfl)).1 (refusalRegs_apart (.inr rfl)).2, ← rdn]
  · exact (hp .mem (by decide)).trans (hm.trans hf.mem)

end

/-- Settles O26: a push judges the job by the descriptor as it lies in memory, a start takes the count, the queue entry and the
chain, and a completion ends the job before it signals. -/
theorem sectorMemoryJobs : Obligations.SectorMemoryJobs :=
  ⟨fun _ _ _ _ _ => mjPush_queues, fun _ _ _ _ => mjPush_full, fun _ _ _ _ => mjStart_runs, fun _ _ => mjStart_idle,
    fun _ _ _ _ => mjStart_waits, fun _ _ _ => mjComplete_ends, fun _ _ => mjComplete_idle⟩

end Sys2Proof.Machine

namespace Sys2Proof.Machine

open Sys2Proof

/-! ### What a program is judged by (R187, R190, R201)

The check of a bank reads the banks, the status and the swap of its cluster, and the routes and sizes of the contexts. -/

/-- The routes of the engine and the sizes of contexts are the same. -/
structure SameRoutes (s t : State) : Prop where
  boot : t.boot = s.boot
  spliceq : t.spliceq = s.spliceq
  video : ∀ {o}, 0x1000000 ≤ o → o < 0x2000000 → rd t o = rd s o
  map : ∀ {x}, x < 16 → rd t (rSEC_CTX_MAP x) = rd s (rSEC_CTX_MAP x)

namespace SameRoutes

section
variable {s t : State} (h : SameRoutes s t) {x : Nat} (hx : x < 16)
include h hx

theorem ctxSize : ctxSize t x = ctxSize s x := by
  have hroute : route t x = route s x := by rw [route, sec, h.boot, ← sec, ← route]
  have hport : ctxPort s x < 8 := Nat.mod_lt _ (by decide)
  have hsize : vpSize t (ctxPort s x) = vpSize s (ctxPort s x) :=
    h.video (by simp only [rVP_SIZE]; omega) (by simp only [rVP_SIZE]; omega)
  have hm2m : rd t (rCTX_M2M_SIZE x + 0x8000) = rd s (rCTX_M2M_SIZE x + 0x8000) :=
    h.video (by simp only [rCTX_M2M_SIZE]; omega) (by simp only [rCTX_M2M_SIZE]; omega)
  have hp : ctxPort t x = ctxPort s x := by rw [ctxPort, hroute, ← ctxPort]
  have hkind : ctxKind t x = ctxKind s x := by rw [ctxKind, hroute, ← ctxKind]
  rw [Machine.ctxSize, hkind, hp, vpWidth, vpHeight, hsize, hm2m, ← vpWidth, ← vpHeight, ← Machine.ctxSize]

theorem mapChain : mapChain t x = mapChain s x := by rw [Machine.mapChain, rdF, h.map hx, ← rdF, ← Machine.mapChain]

theorem mapClusters : mapClusters t x = mapClusters s x := by
  rw [Machine.mapClusters, rdF, h.map hx, ← rdF, ← Machine.mapClusters]

theorem serves (c : Nat) : serves t c x = serves s c x := by
  rw [Machine.serves, h.mapClusters hx, rdB, h.map hx, ← rdB, ← Machine.serves]

theorem secHeld (p : SProg) (c : Nat) : secHeld t p c x = secHeld s p c x := by
  have hwidth : secWidth t x = secWidth s x := by rw [secWidth, h.spliceq, h.ctxSize hx, ← secWidth]
  have hshare (w : Nat) : secShare t c x w = secShare s c x w := by rw [secShare, h.mapClusters hx, hwidth, ← secShare]
  rw [Machine.secHeld, h.serves hx, h.mapChain hx, hshare, ← Machine.secHeld]

theorem splice : rd t (rCTX_SPLICE x + 0x8000) = rd s (rCTX_SPLICE x + 0x8000) :=
  h.video (by simp only [rCTX_SPLICE]; omega) (by simp only [rCTX_SPLICE]; omega)

end

section
variable {s t : State} (h : SameRoutes s t)
include h

theorem secFitsAll (c : Nat) (p : SProg) : secFitsAll t c p = secFitsAll s c p := by
  have hfold : (upto 16).foldl (fun a x => a + (Machine.secHeld t p c x).length) 0 =
      (upto 16).foldl (fun a x => a + (Machine.secHeld s p c x).length) 0 :=
    List.foldl_ext _ _ 0 fun a x hx => by rw [h.secHeld (List.mem_range.mp hx)]
  unfold Machine.secFitsAll
  rw [hfold]
  congr 1
  rw [Bool.eq_iff_iff, List.all_eq_true, List.all_eq_true]
  refine forall₂_congr fun x hx => ?_
  have hx' : x < 16 := List.mem_range.mp hx
  rw [h.serves hx', h.mapChain hx', h.splice hx']

theorem secLineState (c : Nat) (p : SProg) (old : Option SProg) : secLineState t c p old = secLineState s c p old := by
  unfold Machine.secLineState
  dsimp only
  congr 1
  refine List.foldl_ext _ _ 0 fun a x hx => ?_
  have hx' : x < 16 := List.mem_range.mp hx
  split <;> simp only [h.secHeld hx', h.mapChain hx']

end

end SameRoutes

/-- What the check of a program of cluster `c` reads is the same. -/
structure SameCheck (c : Nat) (s t : State) : Prop where
  routes : SameRoutes s t
  bank : t.secBank = s.secBank
  pois : t.secPois = s.secPois
  swap : (secCl t c).swap = (secCl s c).swap
  status : rd t (rSC_STATUS c) = rd s (rSC_STATUS c)

namespace SameCheck

section
variable {c : Nat} {s t : State} (h : SameCheck c s t)
include h

theorem secActive : secActive t c = secActive s c := by
  rw [Machine.secActive, rdB, h.status, ← rdB, ← Machine.secActive]

theorem secBytes (b off n : Nat) : secBytes t c b off n = secBytes s c b off n := by
  have hbyte (k : Nat) : secByte t c b k = secByte s c b k := by rw [secByte, h.bank, ← secByte]
  simp only [Machine.secBytes, hbyte]

theorem secNum (b : Nat) : secNum t c b = secNum s c b :=
  funext₂ fun off n => congrArg ofLe (h.secBytes b off n)

theorem secLen (b : Nat) : secLen t c b = secLen s c b := by rw [Machine.secLen, h.secNum, ← Machine.secLen]

theorem secMarked (b : Nat) : secMarked t c b = secMarked s c b := by rw [Machine.secMarked, h.pois, ← Machine.secMarked]

theorem secCheck (bad : Bool) : secCheck t c bad = secCheck s c bad := by
  have hcan : rdB t (rSC_STATUS c) 3 = rdB s (rSC_STATUS c) 3 := by rw [rdB, h.status, ← rdB]
  unfold Machine.secCheck
  dsimp only
  rw [h.swap, h.secActive, hcan, h.secLen, h.secNum, h.secBytes, h.routes.secFitsAll]

theorem commitReason : commitWhy t c = commitWhy s c := by
  unfold commitWhy
  dsimp only
  rw [h.secActive, h.secMarked, h.secCheck, h.secNum, h.secNum, h.secLen, h.routes.secLineState]

end

end SameCheck

end Sys2Proof.Machine

namespace Sys2Proof.Machine

open Sys2Proof

/-! ### COMMIT (R201) -/

/-- A free value taken is none of the other parts. -/
theorem Kept.takeFree {ps : List Part} {rs : List Nat} {s t : State} (hps : .free ∈ ps) (h : Kept ps rs s t) :
    Kept ps rs s (takeFree t).2 := by
  refine h.update rfl fun p hp => ?_
  cases p
  case free => exact absurd hps hp
  all_goals rfl

section
variable {c : Fin 4} {s u : State}

/-- The registers that COMMIT may change before the bank is judged. -/
def askRegs (c : Nat) : List Nat := [rSC_PROG_CTRL c, rSC_CNT c 12]

/-- A state that differs from `s` in what a COMMIT changes before the check is judged alike. -/
theorem sameCheck_of_kept (h : Kept [.resp, .secCl] (askRegs c) s u) (hswap : (secCl u c).swap = (secCl s c).swap) :
    SameCheck c s u where
  routes := by
    refine ⟨h.1 .boot (by decide), h.1 .spliceq (by decide), fun hlo hhi => h.2 _ ?_, fun hx => h.2 _ ?_⟩
    all_goals
      simp only [askRegs, rSC_PROG_CTRL, rSC_CNT, rSEC_CTX_MAP, List.mem_cons, List.not_mem_nil, or_false]
      omega
  bank := h.1 .secBank (by decide)
  pois := h.1 .secPois (by decide)
  swap := hswap
  status := h.2 _ (by
    simp only [askRegs, rSC_STATUS, rSC_PROG_CTRL, rSC_CNT, List.mem_cons, List.not_mem_nil, or_false]
    omega)

/-- The state in which the bank is judged: COMMIT reads 0, and the swap may report a write anew. -/
def commitReady (c : Nat) (s : State) : State :=
  wrB (rSC_PROG_CTRL c) 1 false (setSecCl c { secCl s c with e64 := false } s)

theorem kept_commitReady : Kept [.resp, .secCl] (askRegs c) s (commitReady c s) :=
  .wr (by simp [askRegs]) ((Kept.refl s).setSecCl (by simp))

theorem swap_commitReady : (secCl (commitReady c s) c).swap = (secCl s c).swap := by
  rw [show secCl (commitReady c s) c = { secCl s c with e64 := false } from secCl_setSecCl_same c _ s]

theorem sameCheck_commitReady : SameCheck c s (commitReady c s) := sameCheck_of_kept kept_commitReady swap_commitReady

/-- A bank that passes the check becomes the active one of cluster `c`. -/
def programTaken (c a : Nat) (w : SecSwap) (s : State) : State :=
  let s := wrF (rSC_PROG_CTRL c) 11 8 0 (wrB (rSC_STATUS c) 0 (decide (a = 0)) (wrB (rSC_STATUS c) 4 false s))
  secSwapEnd c (setSecCl c { secCl s c with swap := some w } s)

/-- COMMIT shows the line state that it checked, then takes the bank or refuses it. -/
theorem secCommit_eq : ∃ v w, Kept [.free] [rSC_LB_CHECKED c] (commitReady c s) v ∧
    secCommit c false s = if commitWhy s c ≠ 0 then secRefuse c (commitWhy s c) v else programTaken c (secActive s c) w v := by
  rw [← sameCheck_commitReady.commitReason, ← sameCheck_commitReady.secActive]
  unfold secCommit
  extract_lets k u why a g old same p lines f v why' held held' v' mem runs
  have hv : Kept [.free] [rSC_LB_CHECKED c] u v := by
    dsimp only [v]
    split
    · split
      · exact .wr (by simp) (.refl u)
      · exact .wr (by simp) ((Kept.refl u).takeFree (by simp))
    · exact .refl u
  exact ⟨v, _, hv, rfl⟩

/-! ### What COMMIT leaves (R201) -/

theorem not_mem_lbChecked {o : Nat} (ho : o = rSC_STATUS c ∨ o = rSC_PROG_CTRL c) : o ∉ [rSC_LB_CHECKED c] := by
  simp only [rSC_STATUS, rSC_PROG_CTRL, rSC_LB_CHECKED, List.mem_singleton] at ho ⊢
  omega

/-- The reasons fit the field that shows them. -/
theorem commitWhy_lt : commitWhy s c < 16 := by
  have hbad (bytes : List Byte) (g : Nat → Nat → Nat) : secBad bytes g ≤ 3 := by
    unfold secBad
    dsimp only
    split_ifs <;> decide
  have hcheck (bad : Bool) : secCheck s c bad < 16 := by
    unfold secCheck
    dsimp only
    split_ifs
    exacts [by decide, by decide, by decide, Nat.lt_of_le_of_lt (hbad _ _) (by decide), by decide, by decide]
  unfold commitWhy
  extract_lets a new old why lines
  have hwhy : why < 16 := hcheck _
  clear_value why lines
  split
  exacts [by decide, hwhy]

theorem programTaken_spec {v : State} {a : Nat} {w : SecSwap} :
    rdB (programTaken c a w v) (rSC_STATUS c) 0 = decide (a = 0) ∧ rdF (programTaken c a w v) (rSC_PROG_CTRL c) 11 8 = 0 ∧
      (programTaken c a w v).secBank = v.secBank ∧ (programTaken c a w v).mem = v.mem := by
  set u := wrF (rSC_PROG_CTRL c) 11 8 0 (wrB (rSC_STATUS c) 0 (decide (a = 0)) (wrB (rSC_STATUS c) 4 false v)) with hu
  have hstep : SwapStep c u (programTaken c a w v) := .of_setSwap .secSwapEnd
  have hne : rSC_STATUS c ≠ rSC_PROG_CTRL c := by simp only [rSC_STATUS, rSC_PROG_CTRL]; omega
  refine ⟨?_, ?_, ?_, ?_⟩
  · rw [hstep.status 0 (by decide), rdB, hu, wrF, rd_wr_other _ _ _ _ hne, ← rdB, rdB_wrB (by decide), if_pos rfl]
  · rw [hstep.reason, hu, rdF_wrF_same (by decide) (by decide)]
  · exact hstep.kept.1 .secBank (by decide)
  · exact hstep.kept.1 .mem (by decide)

theorem secRefuse_spec {v : State} {why : Nat} (hwhy : why < 16) :
    rdB (secRefuse c why v) (rSC_STATUS c) 0 = rdB v (rSC_STATUS c) 0 ∧ rdB (secRefuse c why v) (rSC_PROG_CTRL c) 3 = true ∧
      rdF (secRefuse c why v) (rSC_PROG_CTRL c) 11 8 = why ∧ (secRefuse c why v).secCl = v.secCl ∧
      (secRefuse c why v).secBank = v.secBank ∧ (secRefuse c why v).mem = v.mem := by
  set u := wrF (rSC_PROG_CTRL c) 11 8 why (wrB (rSC_PROG_CTRL c) 3 true v) with hu
  have hQ := Fetched.accessStable c u
  have hf : Fetched c u (secRefuse c why v) := hQ.secSignal (hQ.raiseE ⟨rfl, rfl, rfl, fun _ _ => rfl⟩)
  have hreg {o : Nat} (ho : o = rSC_STATUS c ∨ o = rSC_PROG_CTRL c) : rd (secRefuse c why v) o = rd u o := by
    refine hf.regs ?_ ?_
    all_goals
      simp only [AccessReg, pushRegs, rSC_STATUS, rSC_PROG_CTRL, rSP_OWNER, rSC_MJ_PUSH_LO, rSC_MJ_PUSH_HI, List.mem_cons,
        List.not_mem_nil, or_false] at ho ⊢
      omega
  have hne : rSC_STATUS c ≠ rSC_PROG_CTRL c := by simp only [rSC_STATUS, rSC_PROG_CTRL]; omega
  refine ⟨?_, ?_, ?_, hf.cl, hf.bank, hf.mem⟩
  · rw [rdB, hreg (.inl rfl), hu, wrF, rd_wr_other _ _ _ _ hne, rd_wrB, if_neg hne, ← rdB]
  · rw [rdB, hreg (.inr rfl), hu, wrF, rd_wr_same, bit_setFld_other (by decide) (by decide), ← rdB, rdB_wrB (by decide),
      if_pos rfl]
  · rw [rdF, hreg (.inr rfl), ← rdF, hu, rdF_wrF_same (by decide) hwhy]

/-- A bank against which nothing stands becomes the active one. -/
theorem secCommit_accepts (hwhy : commitWhy s c = 0) :
    rdB (secCommit c false s) (rSC_STATUS c) 0 = !rdB s (rSC_STATUS c) 0 ∧
      rdF (secCommit c false s) (rSC_PROG_CTRL c) 11 8 = 0 ∧ (secCommit c false s).secBank = s.secBank ∧
      (secCommit c false s).mem = s.mem := by
  obtain ⟨v, w, hv, heq⟩ := secCommit_eq (c := c) (s := s)
  have hready := kept_commitReady (c := c) (s := s)
  obtain ⟨hst, hreason, hbank, hmem⟩ := programTaken_spec (c := c) (v := v) (a := secActive s c) (w := w)
  rw [heq, if_neg (not_not_intro hwhy)]
  refine ⟨hst.trans ?_, hreason, hbank.trans ((hv.1 .secBank (by decide)).trans (hready.1 .secBank (by decide))),
    hmem.trans ((hv.1 .mem (by decide)).trans (hready.1 .mem (by decide)))⟩
  rw [secActive]
  cases rdB s (rSC_STATUS c) 0 <;> rfl

/-- A refused bank leaves the active one and the swap. -/
theorem secCommit_refuses (hwhy : commitWhy s c ≠ 0) :
    rdB (secCommit c false s) (rSC_STATUS c) 0 = rdB s (rSC_STATUS c) 0 ∧ rdB (secCommit c false s) (rSC_PROG_CTRL c) 3 = true ∧
      rdF (secCommit c false s) (rSC_PROG_CTRL c) 11 8 = commitWhy s c ∧
      (secCl (secCommit c false s) c).swap = (secCl s c).swap ∧ (secCommit c false s).secBank = s.secBank ∧
      (secCommit c false s).mem = s.mem := by
  obtain ⟨v, w, hv, heq⟩ := secCommit_eq (c := c) (s := s)
  have hready := kept_commitReady (c := c) (s := s)
  obtain ⟨hst, href, hreason, hcl, hbank, hmem⟩ := secRefuse_spec (c := c) (v := v) (commitWhy_lt (s := s) (c := c))
  rw [heq, if_pos hwhy]
  refine ⟨?_, href, hreason, ?_, hbank.trans ((hv.1 .secBank (by decide)).trans (hready.1 .secBank (by decide))),
    hmem.trans ((hv.1 .mem (by decide)).trans (hready.1 .mem (by decide)))⟩
  · rw [hst, rdB, hv.2 _ (not_mem_lbChecked (.inl rfl)), sameCheck_commitReady.status, ← rdB]
  · rw [secCl, hcl, hv.1 .secCl (by decide), ← secCl, swap_commitReady]

end

/-! ### SECTOR_COMMIT (R200, R201, R209) -/

section
variable {ifc : Iface} {c : Fin 4} {wsel : Bool} {force target : MemErr} {s : State}

theorem regAt_progCtrl : ∀ c : Fin 4, regAt (rSC_PROG_CTRL c) =
    some ({ base := 0x2010004, dims := [(4, 0x1000)], rst := 0x0, rw := 0x1, w1c := 0x1c, w1s := 0x2 }, [c.val]) := by
  decide

theorem halfAt_progCtrl : halfAt (rSC_PROG_CTRL c) = 0 := by rw [halfAt, regAt_progCtrl]

theorem shadowCtrlOf_progCtrl : shadowCtrlOf (rSC_PROG_CTRL c) = none := by simp [shadowCtrlOf, regAt_progCtrl]

/-- The write of SC_PROG_CTRL, with the corrected words of either bank counted, when the bank is about to be checked. -/
def asked (ifc : Iface) (c : Nat) (wsel : Bool) (force target : MemErr) (s : State) : State :=
  onlyIf (target = .corrected) (bump (rSC_CNT c 12) 1) (plainEffect ifc (rSC_PROG_CTRL c) (w32 (2 + b2n wsel)) .none
    (onlyIf (force = .corrected) (bump (rSC_CNT c 12) 1) (answer [] s))).1

theorem kept_asked : Kept [.resp] (askRegs c) s (asked ifc c wsel force target s) := by
  have hcnt {b : Bool} {t : State} (h : Kept [.resp] (askRegs c) s t) :
      Kept [.resp] (askRegs c) s (onlyIf b (bump (rSC_CNT c 12) 1) t) :=
    onlyIf_stable (fun h => .wr (by simp [askRegs]) h) h
  have hans : Kept [.resp] (askRegs c) s (answer [] s) := by
    refine (Kept.refl s).update rfl fun p hp => ?_
    cases p
    case resp => exact absurd (by simp) hp
    all_goals rfl
  obtain h | ⟨w, h⟩ := plainEffect_eq_wr (i := ifc) (v := w32 (2 + b2n wsel)) (co := .none)
    (s := onlyIf (force = .corrected) (bump (rSC_CNT c 12) 1) (answer [] s)) (shadowCtrlOf_progCtrl (c := c))
  all_goals rw [asked, h]
  exacts [hcnt (hcnt hans), hcnt (.wr (by simp [askRegs]) (hcnt hans))]

theorem swap_asked : (secCl (asked ifc c wsel force target s) c).swap = (secCl s c).swap := by
  rw [secCl, kept_asked.1 .secCl (by decide), ← secCl]

theorem sameCheck_asked : SameCheck c s (asked ifc c wsel force target s) :=
  sameCheck_of_kept (kept_asked.mono (by simp) (fun _ => id)) swap_asked

/-- With no uncorrectable word SECTOR_COMMIT is the write of SC_PROG_CTRL with COMMIT set, and the write is recorded. -/
theorem logOnly_sectorCommit (hg : gate ifc true (rSC_PROG_CTRL c) s = .open) (hforce : force ≠ .uncorrectable)
    (htarget : target ≠ .uncorrectable) :
    ∃ t, execSectorCommit ifc c wsel force target s = .next t ∧ LogOnly (secCommit c false (asked ifc c wsel force target s)) t := by
  have hbit : bit (w32 (2 + b2n wsel)) 1 = true := by cases wsel <;> decide
  refine ⟨_, rfl, ?_⟩
  have hl := logOnly_gatedWrite (v := w32 (2 + b2n wsel)) (eff := fun s =>
    if domOk s 2 ∧ force = .uncorrectable ∧ secAvail s c then
      progCtrlEffect ifc c (w32 (2 + b2n wsel)) target (secBankErr c s)
    else progCtrlEffect ifc c (w32 (2 + b2n wsel)) target (onlyIf (force = .corrected) (bump (rSC_CNT c 12) 1) s)) hg
    (by rw [regAt_progCtrl]; rfl) halfAt_progCtrl
  rw [if_neg (fun h => hforce h.2.1), progCtrlEffect, if_pos hbit, decide_eq_false htarget] at hl
  exact hl

theorem sectorCommit_accepts (hg : gate ifc true (rSC_PROG_CTRL c) s = .open) (hforce : force ≠ .uncorrectable)
    (htarget : target ≠ .uncorrectable) (hwhy : commitWhy s c = 0) :
    Completes (.sectorCommit ifc c wsel force target) s fun t =>
      rdB t (rSC_STATUS c) 0 = !rdB s (rSC_STATUS c) 0 ∧ rdF t (rSC_PROG_CTRL c) 11 8 = 0 ∧ t.secBank = s.secBank ∧
      t.mem = s.mem := by
  obtain ⟨t, ht, hp, -, hr⟩ := logOnly_sectorCommit (wsel := wsel) hg hforce htarget
  have hsame := sameCheck_asked (ifc := ifc) (c := c) (wsel := wsel) (force := force) (target := target) (s := s)
  obtain ⟨hst, hreason, hbank, hmem⟩ := secCommit_accepts (hsame.commitReason.trans hwhy)
  refine ⟨t, ht, ?_, ?_, ?_, ?_⟩
  · rw [rdB, hr _ (isLogReg_meas (by simp only [rSC_STATUS]; omega)), ← rdB, hst, rdB, hsame.status, ← rdB]
  · rw [rdF, hr _ (isLogReg_meas (by simp only [rSC_PROG_CTRL]; omega)), ← rdF, hreason]
  · exact (hp .secBank (by decide)).trans (hbank.trans hsame.bank)
  · exact (hp .mem (by decide)).trans (hmem.trans (kept_asked.1 .mem (by decide)))

theorem sectorCommit_refuses (hg : gate ifc true (rSC_PROG_CTRL c) s = .open) (hforce : force ≠ .uncorrectable)
    (htarget : target ≠ .uncorrectable) (hwhy : commitWhy s c ≠ 0) :
    Completes (.sectorCommit ifc c wsel force target) s fun t =>
      rdB t (rSC_STATUS c) 0 = rdB s (rSC_STATUS c) 0 ∧ rdB t (rSC_PROG_CTRL c) 3 = true ∧
      rdF t (rSC_PROG_CTRL c) 11 8 = commitWhy s c ∧ (secCl t c).swap = (secCl s c).swap ∧ t.secBank = s.secBank ∧
      t.mem = s.mem := by
  obtain ⟨t, ht, hp, -, hr⟩ := logOnly_sectorCommit (wsel := wsel) hg hforce htarget
  have hsame := sameCheck_asked (ifc := ifc) (c := c) (wsel := wsel) (force := force) (target := target) (s := s)
  obtain ⟨hst, href, hreason, hswap, hbank, hmem⟩ := secCommit_refuses (hsame.commitReason.trans_ne hwhy)
  have hctrl := hr (rSC_PROG_CTRL c) (isLogReg_meas (by simp only [rSC_PROG_CTRL]; omega))
  refine ⟨t, ht, ?_, ?_, ?_, ?_, ?_, ?_⟩
  · rw [rdB, hr _ (isLogReg_meas (by simp only [rSC_STATUS]; omega)), ← rdB, hst, rdB, hsame.status, ← rdB]
  · rw [rdB, hctrl, ← rdB, href]
  · rw [rdF, hctrl, ← rdF, hreason, hsame.commitReason]
  · rw [secCl, hp .secCl (by decide), ← secCl, hswap, hsame.swap]
  · exact (hp .secBank (by decide)).trans (hbank.trans hsame.bank)
  · exact (hp .mem (by decide)).trans (hmem.trans (kept_asked.1 .mem (by decide)))

end
end Sys2Proof.Machine

namespace Sys2Proof.Machine

open Sys2Proof

/-! ### SWAP_PENDING_TIMEOUT (R202) -/

section
variable {c : Fin 4} {s : State} {w : SecSwap}

/-- A pending swap is reported once, and counted under its event where D0 runs. -/
theorem swapPendingTimeout_reports (hw : (secCl s c).swap = some w) (h67 : w.e67 = false) :
    Completes (.swapPendingTimeout c) s fun t =>
      (secCl t c).swap = some { w with e67 := true } ∧ t.secBank = s.secBank ∧ t.mem = s.mem ∧
      (d0InReset s = false → rdn t (rFLT_EVT_CNT 67) = satN 32 (rdn s (rFLT_EVT_CNT 67) + 1)) := by
  set u := setSecCl c { secCl s c with swap := some { w with e67 := true } } s with hu
  have hexec : execSwapPendingTimeout c s = .next (secSignal (raiseE 67 2 u)) := by
    simp [execSwapPendingTimeout, hw, h67, hu]
  have hQ := Fetched.accessStable c u
  have hf : Fetched c u (secSignal (raiseE 67 2 u)) := hQ.secSignal (hQ.raiseE ⟨rfl, rfl, rfl, fun _ _ => rfl⟩)
  refine ⟨_, hexec, ?_, hf.bank, hf.mem, fun h0 => ?_⟩
  · rw [secCl, hf.cl, ← secCl, hu, secCl_setSecCl_same]
  · have hD : DeliveryStable fun t => rd t (rFLT_EVT_CNT 67) = rd (raiseE 67 2 u) (rFLT_EVT_CNT 67) :=
      { wrDelivery := fun ho h => (rd_wr_other _ _ _ _ (by
          rintro rfl
          simp only [DeliveryReg, rFLT_EVT_CNT] at ho
          omega)).trans h
        pcie := id, fault := id, irq := id }
    have hcnt : rd (secSignal (raiseE 67 2 u)) (rFLT_EVT_CNT 67) = rd (raiseE 67 2 u) (rFLT_EVT_CNT 67) := hD.secSignal rfl
    rw [rdn, hcnt, ← rdn, rdn_raiseE_count (by decide) (show d0InReset u = false from h0)]
    rfl

theorem swapPendingTimeout_idle (h : ∀ w, (secCl s c).swap = some w → w.e67 = true) :
    Completes (.swapPendingTimeout c) s fun t => t = s := by
  refine ⟨s, ?_, rfl⟩
  change execSwapPendingTimeout c s = _
  unfold execSwapPendingTimeout
  split
  · rfl
  next w hw => exact if_pos (h w hw)

end

/-! ### The rows of the register map (R61) -/

/-- All registers of the row lie below offset `k`. -/
def RegRow.endsBy (r : RegRow) (k : Nat) : Bool :=
  match r.dims with
  | [] => decide (r.base < k)
  | (n, step) :: _ => decide (0 < step ∧ r.base + n * step ≤ k)

theorem at_of_endsBy {r : RegRow} {k off : Nat} (h : RegRow.endsBy r k = true) (hoff : k ≤ off) : r.at off = none := by
  unfold RegRow.endsBy at h
  unfold RegRow.at
  split
  next hle =>
    split at h
    next hd =>
      rw [hd, dimIdx, if_neg]
      simp only [decide_eq_true_eq] at h
      omega
    next n step l hd =>
      simp only [decide_eq_true_eq] at h
      rw [hd, dimIdx, if_neg]
      rw [Nat.div_lt_iff_lt_mul h.1]
      omega
  next => rfl

/-- A row is found behind rows that end before it. -/
theorem findRow_append {l l' : List RegRow} {k off : Nat} (h : ∀ r ∈ l, RegRow.endsBy r k = true) (hoff : k ≤ off) :
    findRow (l ++ l') off = findRow l' off := by
  induction l with
  | nil => rfl
  | cons r l ih =>
    rw [List.cons_append, findRow, at_of_endsBy (h r List.mem_cons_self) hoff]
    exact ih fun q hq => h q (List.mem_cons_of_mem r hq)

/-! ### SECTOR_BANK_WRITE (R200) -/

section
variable {ifc : Iface} {c : Fin 4} {word : Fin 49152} {v : Word} {s : State}

/-- The words of the bank windows. -/
def bankRow : RegRow := { base := 0x2040000, dims := [(4, 0x30000), (49152, 0x4)], rst := 0x0, rw := 0xffffffff, quiet := true }

theorem regAt_bank : regAt (rSC_BANK c word) = some (bankRow, [c.val, word.val]) := by
  have hblock : rSC_BANK c word / 0x100000 = 32 := by simp only [rSC_BANK]; omega
  have hsplit : rowsSector = rowsSector.dropLast ++ [bankRow] := rfl
  have hends : ∀ r ∈ rowsSector.dropLast, RegRow.endsBy r 0x2040000 = true := by decide
  have hat : bankRow.at (rSC_BANK c word) = some [c.val, word.val] := by
    have hc : (rSC_BANK c word - 0x2040000) / 0x30000 = c := by simp only [rSC_BANK]; omega
    have hrest : (rSC_BANK c word - 0x2040000) % 0x30000 = word * 4 := by simp only [rSC_BANK]; omega
    simp only [RegRow.at, bankRow, dimIdx]
    rw [if_pos (by simp only [rSC_BANK]; omega), hc, hrest]
    simp
  rw [regAt, hblock]
  change findRow rowsSector _ = _
  rw [hsplit, findRow_append hends (by simp only [rSC_BANK]; omega), findRow, hat]

theorem halfAt_bank : halfAt (rSC_BANK c word) = 0 := by rw [halfAt, regAt_bank]; rfl

/-- The word of a bank at byte `a`, least significant byte first. -/
def putBankWord (a : Nat) (v : Word) (t : Tab Byte) : Tab Byte :=
  (upto 4).foldl (fun t k => tput 0 t (a + k) (BitVec.ofNat 8 (v.toNat / 2 ^ (8 * k)))) t

theorem tget_putBankWord {a : Nat} {t : Tab Byte} (k : Nat) : tget 0 (putBankWord a v t) k =
    if a ≤ k ∧ k < a + 4 then BitVec.ofNat 8 (v.toNat / 2 ^ (8 * (k - a))) else tget 0 t k := by
  change tget 0 (tput 0 (tput 0 (tput 0 (tput 0 t (a + 0) _) (a + 1) _) (a + 2) _) (a + 3) _) k = _
  simp only [tget_tput]
  by_cases h : a ≤ k ∧ k < a + 4
  · rw [if_pos h]
    obtain rfl | rfl | rfl | rfl : k = a + 0 ∨ k = a + 1 ∨ k = a + 2 ∨ k = a + 3 := by omega
    all_goals simp
  · rw [if_neg h, if_neg (by omega), if_neg (by omega), if_neg (by omega), if_neg (by omega)]

theorem ofLe_word (v : Word) : ofLe ((upto 4).map fun k => BitVec.ofNat 8 (v.toNat / 2 ^ (8 * k))) = v.toNat := by
  change (BitVec.ofNat 8 (v.toNat / 2 ^ 0)).toNat + 256 * ((BitVec.ofNat 8 (v.toNat / 2 ^ 8)).toNat +
    256 * ((BitVec.ofNat 8 (v.toNat / 2 ^ 16)).toNat + 256 * ((BitVec.ofNat 8 (v.toNat / 2 ^ 24)).toNat + 256 * 0))) = _
  simp only [BitVec.toNat_ofNat]
  have := v.isLt
  omega

/-- A word that was written into a bank reads back. -/
theorem secNum_putBankWord {b o : Nat} {t : State} (h : t.secBank = putBankWord ((c.val * 2 + b) * 196608 + o) v s.secBank) :
    secNum t c b o 4 = v.toNat := by
  have hbytes : secBytes t c b o 4 = (upto 4).map fun k => BitVec.ofNat 8 (v.toNat / 2 ^ (8 * k)) := by
    refine List.map_congr_left fun k hk => ?_
    have hlt : k < 4 := List.mem_range.mp hk
    rw [secByte, h, tget_putBankWord, if_pos (by omega)]
    congr 4
    omega
  rw [secNum, hbytes, ofLe_word]

theorem sectorBankWrite_writes (hg : gate ifc true (rSC_BANK c word) s = .open)
    (hact : b2n (rdB s (rSC_PROG_CTRL c) 0) ≠ secActive s c) (hswap : (secCl s c).swap = none) :
    Completes (.sectorBankWrite ifc c word v) s fun t =>
      secNum t c (b2n (rdB s (rSC_PROG_CTRL c) 0)) (4 * word) 4 = v.toNat ∧
      (∀ k, (k < (c.val * 2 + b2n (rdB s (rSC_PROG_CTRL c) 0)) * 196608 + 4 * word ∨
          (c.val * 2 + b2n (rdB s (rSC_PROG_CTRL c) 0)) * 196608 + 4 * word + 4 ≤ k) →
        tget 0 t.secBank k = tget 0 s.secBank k) ∧
      KeptAccess [.secBank, .secPois] [] s t := by
  have hl := logOnly_gatedWrite (v := v) (eff := bankWriteEffect c (4 * word) v) hg (by rw [regAt_bank]; rfl) halfAt_bank
  set b := b2n (rdB s (rSC_PROG_CTRL c) 0) with hb
  have heff : (bankWriteEffect c (4 * word) v (answer [] s)).1 =
      { answer [] s with
        secBank := putBankWord ((c.val * 2 + b) * 196608 + 4 * word) v s.secBank
        secPois := tput false s.secPois ((c * 2 + b) * 49152 + 4 * word / 4) false } := by
    unfold bankWriteEffect
    rw [if_neg]
    · rfl
    · rintro (h | h)
      · exact hact h
      · rw [show (secCl (answer [] s) c).swap = none from hswap] at h
        cases h
  rw [heff] at hl
  have hbank : (gatedWrite ifc (rSC_BANK c word) v (bankWriteEffect c (4 * word) v) s).secBank =
      putBankWord ((c.val * 2 + b) * 196608 + 4 * word) v s.secBank := hl.1 .secBank (by decide)
  refine ⟨_, rfl, secNum_putBankWord hbank, fun k hk => ?_, .of_effect ?_ hl⟩
  · rw [hbank, tget_putBankWord, if_neg (by omega)]
  · refine (Kept.refl _).update rfl fun p hp => ?_
    cases p
    case secBank => exact absurd (by simp) hp
    case secPois => exact absurd (by simp) hp
    all_goals rfl

/-- A write into the bank in force, or while a swap is pending, is refused: BANK_WRITE_ERR is set, and the refusal is counted. -/
theorem bankWriteEffect_refuses {o : Nat} (h : b2n (rdB s (rSC_PROG_CTRL c) 0) = secActive s c ∨ (secCl s c).swap ≠ none) :
    (bankWriteEffect c o v s).1.secBank = s.secBank ∧ rdB (bankWriteEffect c o v s).1 (rSC_PROG_CTRL c) 2 = true ∧
      rdn (bankWriteEffect c o v s).1 (rSC_CNT c 8) = satN 32 (rdn s (rSC_CNT c 8) + 1) ∧
      (bankWriteEffect c o v s).1.mem = s.mem := by
  set p := wrB (rSC_PROG_CTRL c) 2 true (setSecCl c { secCl s c with e64 := true } s) with hp
  have heff : (bankWriteEffect c o v s).1 =
      secSignal (if (secCl s c).e64 then bump (rSC_CNT c 8) 1 p else raiseE 64 2 (bump (rSC_CNT c 8) 1 p)) := by
    unfold bankWriteEffect
    rw [if_pos (h.imp_right Option.isSome_iff_ne_none.mpr)]
  have hQ := Fetched.accessStable c (bump (rSC_CNT c 8) 1 p)
  have hf : Fetched c (bump (rSC_CNT c 8) 1 p) (bankWriteEffect c o v s).1 := by
    rw [heff]
    refine hQ.secSignal ?_
    split
    exacts [⟨rfl, rfl, rfl, fun _ _ => rfl⟩, hQ.raiseE ⟨rfl, rfl, rfl, fun _ _ => rfl⟩]
  have hreg {q : Nat} (hq : q = rSC_PROG_CTRL c ∨ q = rSC_CNT c 8) :
      rd (bankWriteEffect c o v s).1 q = rd (bump (rSC_CNT c 8) 1 p) q := by
    refine hf.regs ?_ ?_
    all_goals
      simp only [AccessReg, pushRegs, rSC_CNT, rSC_PROG_CTRL, rSP_OWNER, rSC_MJ_PUSH_LO, rSC_MJ_PUSH_HI, List.mem_cons,
        List.not_mem_nil, or_false] at hq ⊢
      omega
  have hne : rSC_PROG_CTRL c ≠ rSC_CNT c 8 := by simp only [rSC_PROG_CTRL, rSC_CNT]; omega
  refine ⟨hf.bank, ?_, ?_, hf.mem⟩
  · rw [rdB, hreg (.inl rfl), bump, rd_wrn, if_neg hne, ← rdB, hp, rdB_wrB (by decide), if_pos rfl]
  · rw [rdn, hreg (.inr rfl), ← rdn, rdn_bump_same, rdn, hp, rd_wrB, if_neg hne.symm]
    rfl

theorem sectorBankWrite_refuses (hg : gate ifc true (rSC_BANK c word) s = .open)
    (h : b2n (rdB s (rSC_PROG_CTRL c) 0) = secActive s c ∨ (secCl s c).swap ≠ none) :
    Completes (.sectorBankWrite ifc c word v) s fun t =>
      t.secBank = s.secBank ∧ rdB t (rSC_PROG_CTRL c) 2 = true ∧ rdn t (rSC_CNT c 8) = satN 32 (rdn s (rSC_CNT c 8) + 1) ∧
      t.mem = s.mem := by
  obtain ⟨hp, -, hr⟩ :=
    logOnly_gatedWrite (v := v) (eff := bankWriteEffect c (4 * word) v) hg (by rw [regAt_bank]; rfl) halfAt_bank
  obtain ⟨hbank, herr, hcnt, hmem⟩ := bankWriteEffect_refuses (v := v) (o := 4 * word) (s := answer [] s) (c := c) h
  refine ⟨_, rfl, (hp .secBank (by decide)).trans hbank, ?_, ?_, (hp .mem (by decide)).trans hmem⟩
  · rw [rdB, hr _ (isLogReg_meas (by simp only [rSC_PROG_CTRL]; omega)), ← rdB, herr]
  · rw [rdn, hr _ (isLogReg_meas (by simp only [rSC_CNT]; omega)), ← rdn, hcnt]
    rfl

end

/-- Settles O27: the check reads nothing that the write of SC_PROG_CTRL changes, so a COMMIT takes or refuses the bank as it
stood; a swap is reported once; and a write goes into the inactive bank or is refused. -/
theorem sectorBanks : Obligations.SectorBanks :=
  ⟨fun _ _ _ _ _ _ => sectorCommit_accepts, fun _ _ _ _ _ _ => sectorCommit_refuses, fun _ _ _ => swapPendingTimeout_reports,
    fun _ _ => swapPendingTimeout_idle, fun _ _ _ _ _ => sectorBankWrite_writes, fun _ _ _ _ _ => sectorBankWrite_refuses⟩

end Sys2Proof.Machine
